-- ==== Sys2Proof/Word.lean ====
section
/-! DEFINITION. The word types of the UB9840's registers, table entries and memories. -/

namespace Sys2Proof

/-- A 32-bit register word (R11). -/
abbrev Word := BitVec 32

/-- One byte of a frame, a memory or a ring. -/
abbrev Byte := BitVec 8

end Sys2Proof
end

