-- ==== Sys2Proof/Syntax.lean ====
section
/-! DEFINITION. The commands of the UB9840: one constructor for each row of spec/opcode_table.json, with the operands that say what
the outside, a pin, the host or an engine of the block gives it. -/

namespace Sys2Proof

/-- The commands. -/
inductive Instr where
  /-- FRAME_ADMIT (R20): The receiving MAC takes a whole frame, tests FCS and length, computes the Brand, strips the FCS and places the frame in the group receive FIFO or discards it. `rx`: the preamble's bytes, and whether the PCS met an error. -/
  | frameAdmit (p : Nat) (bytes : List Byte) (rx : Nat × Bool) (fec : List Nat) (back : Nat) (early : Bool)
  /-- INGRESS_PASS (R23): A packet-pass slot is granted and a frame runs parser, classifier, Curb, lookups and resolution in its ingress slice. -/
  | ingressPass (sl : Nat) (borrow : Option Nat) (second : Bool) (nm : Nat)
  /-- AWL_RESULT (R248): A scan result returns to the ingress slice and the held frame continues. -/
  | awlResult (sl : Nat)
  /-- AWL_TIMEOUT (R257): No scan result arrives within AW_TIMEOUT and the frame is released unscanned. -/
  | awlTimeout (sl : Nat)
  /-- AWL_SCAN (R248): Awl scans an admitted window against its automaton set and builds the result record. -/
  | awlScan (sl : Nat) (bad : Option Nat)
  /-- FLOW_OP (R298): The flow-context pipeline applies one operation to a context and returns the state action. `op`: the slice, and the near-miss latches. -/
  | flowOp (op : Nat × Nat)
  /-- FLOW_RESULT (R301): A flow result returns to the ingress slice and the held frame continues. -/
  | flowResult (sl : Nat)
  /-- FLOW_TIMEOUT (R300): No flow result arrives within FC_TIMEOUT and the frame takes cause TIMEOUT. -/
  | flowTimeout (sl : Nat)
  /-- FLOW_AGER_VISIT (R302): The flow ager visits a context and deletes it when idle. -/
  | flowAgerVisit (i : Nat)
  /-- SPAN_HOLD_EXPIRY (R338): The span hold expires, the open cell closes and the span is sent with idle cells. -/
  | spanHoldExpiry (kind sl x : Nat)
  /-- TAIL_RECORD (R335): The tail of a cut-through frame arrives and the slice sends its tail record with the last cell. `rx`: whether the PCS met an error, and the codewords' corrected symbols. -/
  | tailRecord (p : Nat) (rest : List Byte) (rx : Bool × List Nat)
  /-- TIME_MARK (R339): An idle strap sends a time mark at least every 16 device ticks. -/
  | timeMark (d g k : Nat)
  /-- CELL_COMMIT (R339): A Girth die commits a received cell in tick order and links it into its queue. `how`: whether no cell is left, and the near-miss latches. -/
  | cellCommit (g : Nat) (how : Bool × Nat)
  /-- DEEP_SPILL (R352): A Girth die spills later columns of a deep queue into DDR5 pages. -/
  | deepSpill (g q : Nat)
  /-- DEEP_FILL (R352): A Girth die reads the next deep page back into cells. -/
  | deepFill (g q bad : Nat) (hdrBad : Bool)
  /-- CALENDAR_ENTRY (R343): A Girth die serves one calendar entry and delivers a column to the egress die. `e`: the egress die, and the near-miss latches. -/
  | calendarEntry (g : Nat) (e : Nat × Nat)
  /-- GIRTH_QUEUE_VISIT (R376): The Girth queue manager visits queues and expedites aged head columns. -/
  | girthQueueVisit (g q bad : Nat)
  /-- QUEUE_REPORT (R364): A Girth die reports queue depths, averages and free counts to every Skirt die. -/
  | queueReport (g q : Nat)
  /-- QUEUE_AVG_UPDATE (R365): Every 1 µs each Girth die updates the average depth of its queues. -/
  | queueAvgUpdate (g : Nat)
  /-- LACING_CELL_ARRIVE (R345): A delivered cell reaches Lacing and is admitted by ORD or waits. -/
  | lacingCellArrive (d g k : Nat) (borrow : Option Nat)
  /-- LACING_TIMEOUT (R347): A span stays incomplete for TIMEOUT_US and is abandoned. -/
  | lacingTimeout (d q : Nat)
  /-- RELEASE_NOTICE (R350): A release notice reaches the ingress Skirt die and reduces its per-priority byte counts. -/
  | releaseNotice (d : Nat)
  /-- ROOM_SIGNAL (R373): The egress die signals a change of room for a port class or multicast class. -/
  | roomSignal (d k c : Nat)
  /-- REIN_SELECT (R398): When the MAC can accept a frame, Rein selects a queue, charges shapers, applies edits and hands the frame to the MAC. -/
  | reinSelect (p nm : Nat)
  /-- FRAME_TX_DONE (R410): The MAC completes sending a frame or copy and out counts are made. -/
  | frameTxDone (p back : Nat)
  /-- EGRESS_AGE_SWEEP (R375): The egress queue manager visits each queue and discards aged head frames. -/
  | egressAgeSweep (p c : Nat)
  /-- GATE_CHANGE (R400): A Gait list entry boundary is reached and gate states change. -/
  | gateChange (p : Nat)
  /-- PACE_WINDOW (R38): A reporting window ends and pace and slack are reported. -/
  | paceWindow (m tokens : Nat)
  /-- LOOP_EVAL (R44): Every 16 µs the voltage loop compares pace with the floor and raises or lowers the rail. -/
  | loopEval (x : Nat) (paces : List Nat)
  /-- SENSOR_READ (R49): Every 10 s Patina reads all sensors and sets each die's wear. -/
  | sensorRead (x : Nat) (values : List (Nat × Int))
  /-- WEAR_TIME_ADD (R50): Each second of RUN adds equivalent hours for each die. -/
  | wearTimeAdd (x : Nat) (temp : Int)
  /-- REPLAN_DUE (R51): A re-plan falls due and Patina requests a probe claim. -/
  | replanDue
  /-- PT_REPLAN_WRITE (R51): A write of PT_REPLAN requests re-plans of named dies. -/
  | ptReplanWrite (mask : Nat)
  /-- REPLAN_CLAIM_TIMEOUT (R52): The probe claim is not granted within 10 s and a sensor-only re-plan is made. -/
  | replanClaimTimeout
  /-- PROBE_STEP (R52): A 64 µs probe hold ends and the rail is lowered by another 1 mV or restored. -/
  | probeStep (p nm : Nat)
  /-- TRIM_STEP (R52): A 100 µs trim test ends and the next trim step is tried. -/
  | trimStep (group : Nat) (clean : Bool)
  /-- PLAN_APPLY (R52): Patina applies the new trims and voltage floor and writes the plan record. -/
  | planApply (tj : Int)
  /-- PLAN_RECORD_SAVE (R56): Every 24 RUN hours Patina writes plan records to retention memory and flash. `d`: the die, and the microseconds the write takes. -/
  | planRecordSave (d : Nat × Nat)
  /-- CLAIM_REQUEST (R60): An activity requests a slack claim on a die. -/
  | claimRequest (a x : Nat)
  /-- CLAIM_GRANT (R60): A waiting claim is granted when every monitor shows pace minus budget at least G. -/
  | claimGrant (x : Nat)
  /-- CLAIM_STALL (R61): Pace falls so that a held claim pauses at its next safe point. -/
  | claimStall (x : Nat)
  /-- CLAIM_RESUME (R61): Pace recovers and a paused activity resumes. -/
  | claimResume (x : Nat)
  /-- CLAIM_HOLD_LIMIT (R62): An activity reaches its hold limit, releases its claim and requests again. -/
  | claimHoldLimit (x : Nat)
  /-- CLAIM_RELEASE (R62): An activity releases its claim. -/
  | claimRelease (x : Nat)
  /-- VIN_QUALIFIED (R69): VIN stays qualified for 100 ms and a pending or AUTO_VIN wake starts soft start. -/
  | vinQualified (vin : Nat)
  /-- SOFT_START_DONE (R69): The input capacitance charges to within 2% and the rails come up into LOAD. -/
  | softStartDone
  /-- SOFT_START_TIMEOUT (R69): A charge not complete within 10 ms opens the switch, or latches after three tries. -/
  | softStartTimeout
  /-- SOFT_START_RETRY (R69): One second after a failed charge the stage tries again. -/
  | softStartRetry
  /-- REVERSE_TRIP (R71): Reverse current above 2 A opens the ideal diode. -/
  | reverseTrip
  /-- OVERCURRENT_TRIP (R71): Input current above 200 A for 1 µs opens the hot-swap switch. -/
  | overcurrentTrip
  /-- OV_CUT (R71): VIN above 64 V opens the hot-swap switch. -/
  | ovCut
  /-- SWITCH_RETRY (R71): A write of PS_CTRL.RETRY in STANDBY re-arms a latched switch. -/
  | switchRetry
  /-- COMPARATOR_TRIP (R73): A comparator's quantity stays outside its window for the qualify time and its action is taken. -/
  | comparatorTrip (n value avg : Nat)
  /-- EMERGENCY_DRAIN (R78): An emergency DRAIN begins: the Tack Room freezes claims and journal order. -/
  | emergencyDrain
  /-- MAC_STOP (R78): At t0 + 1 µs the MACs stop admitting frames. -/
  | macStop
  /-- TALLY_FREEZE (R78): At t0 + 2 µs Skirt dies freeze Tally banks and send octet totals. -/
  | tallyFreeze
  /-- TRANSMITTERS_OFF (R78): At t0 + 5 µs every transmitter is off and up ports are declared down. -/
  | transmittersOff
  /-- DIE_TOTALS_ARRIVE (R79): A Skirt die's totals reach the Tree die before the seal. -/
  | dieTotalsArrive (d : Nat)
  /-- LOSS_MARKER_SEAL (R95): At t0 + 8 µs the Tack Room seals the loss marker. -/
  | lossMarkerSeal
  /-- JOURNAL_TAIL_WRITE (R78): At t0 + 12 µs the journal tail is written into retention memory. -/
  | journalTailWrite
  /-- RAILS_OFF (R78): At t0 + 15 µs the switch opens and rails go off, except those a flash copy needs. -/
  | railsOff
  /-- FLASH_COPY (R81): The Tree die writes the marker, commit block and newest journal entries to the retention copy area. -/
  | flashCopy
  /-- FLASH_COPY_DONE (R81): The flash copy ends or fails and the last rails go off. -/
  | flashCopyDone (n : Nat)
  /-- VAUX_RETURN (R82): VAUX returns to its window within 100 µs and the device enters STANDBY. -/
  | vauxReturn
  /-- VAUX_CYCLE (R119): VAUX stays below its window for more than 100 µs and the Tack Room is reset. -/
  | vauxCycle
  /-- POWER_ON_RESET (R119): VAUX rises from below 1.0 V and everything is reset. -/
  | powerOnReset (straps : Nat)
  /-- TIME_STEP (R85): A write of TK_STEP_NS with APPLY steps TAI or is refused. -/
  | timeStep (value : Nat)
  /-- SLEW_WRITE (R85): A write of TK_SLEW replaces the slew in progress. -/
  | slewWrite (value : Nat)
  /-- SLEW_APPLY (R85): Each ms the timekeeper applies up to 50 ns of the remaining slew. -/
  | slewApply
  /-- ADDEND_WRITE (R85): A write of TK_ADDEND sets the frequency from the next TCXO period. -/
  | addendWrite (value : Nat)
  /-- TIME_READ (R98): A read of TK_SEC_LO latches seconds, nanoseconds and fraction. -/
  | timeRead (smbus : Bool) (frac : Nat)
  /-- PPS_EDGE (R87): An edge on PPS_IN is accepted or ignored, captured and used to discipline the timekeeper. -/
  | ppsEdge (rising : Bool)
  /-- PPS_HOLDOVER (R88): No edge is accepted for 2 s and HOLDOVER is set. -/
  | ppsHoldover
  /-- PPS_OUT_PULSE (R90): PPS_OUT rises at each TAI second plus offset. -/
  | ppsOutPulse
  /-- PPS_OUT_END (R90): PPS_OUT falls after WIDTH_MS. -/
  | ppsOutEnd
  /-- JOURNAL_WRITE (R547): A queued journal entry is written into the retention ring. -/
  | journalWrite
  /-- SMBUS_SET_OFFSET (R96): The management controller writes a BAR0 offset with command 0x01. -/
  | smbusSetOffset (offset : Nat)
  /-- SMBUS_BLOCK_READ (R96): A Block Read with command 0x02 returns 4 bytes at the set offset. -/
  | smbusBlockRead
  /-- RET_DATA_READ (R98): A read of TK_RET_DATA returns a retention word and advances TK_RET_ADDR. -/
  | retDataRead (smbus : Bool)
  /-- WAKE_NOW (R97): A write of TK_WAKE_CTRL.NOW requests a wake. -/
  | wakeNow (smbus : Bool)
  /-- TIMED_WAKE (R575): The timed wake falls due, clears TIMED_EN and wakes from STANDBY or is spent. -/
  | timedWake
  /-- COMMIT_GO (R108): A write of MD_COMMIT_CTRL.GO starts the prepare phase of a timed commit or refuses it. -/
  | commitGo
  /-- DIE_PREPARED (R109): A die reports PREPARED after its checks pass. -/
  | diePrepared (x : Nat) (hid : Bool)
  /-- PREP_DEADLINE (R110): The prepare deadline passes with a die not prepared and the commit is cancelled. -/
  | prepDeadline
  /-- COMMIT_APPLY (R111): TAI reaches the commit instant and every prepared die applies the epoch, Gait takeover and drain. -/
  | commitApply (lagging : Nat)
  /-- APPLY_REPORT (R111): A die's apply report reaches the Tree die and its APPLIED bit is set. -/
  | applyReport (x : Nat)
  /-- COMMIT_LAG (R112): An apply report is missing at the instant plus 1 µs and MIXED is set. -/
  | commitLag
  /-- LAG_RETRY_EXPIRY (R112): The 10 µs retry of a lagging die runs out and the die is isolated. -/
  | lagRetryExpiry
  /-- DRAIN_COMPLETE (R105): Both drain counters are zero and Tally's flush set is done, and the AFTER_DRAIN action is taken. -/
  | drainComplete
  /-- DRAIN_BOUND (R105): The commit instant plus residence limit plus 2 ms passes and remaining frames are discarded. -/
  | drainBound
  /-- EPOCH_DRAINED (R116): A superseded epoch's drain counter reaches zero and retired objects are reclaimed. -/
  | epochDrained
  /-- RESET_N_ASSERT (R119): RESET_N low for 1 µs resets every die except the Tack Room. -/
  | resetNAssert (width : Nat) (takes : Bool)
  /-- RESET_N_RELEASE (R119): The rising edge of RESET_N starts LOAD. -/
  | resetNRelease
  /-- HOST_PLANE_RESET (R119): PCIe reset, PF FLR or MD_RESET.KIND 4 resets the Ring Complex, translation and event delivery. -/
  | hostPlaneReset
  /-- STITCHER_RESET (R119): MD_RESET.KIND 5 resets the engines in MD_STR_MASK and reloads microcode. -/
  | stitcherReset
  /-- STITCHER_RESET_DONE (R119): Microcode reload completes and the reset engines restart. -/
  | stitcherResetDone
  /-- FORWARDING_RESTART (R119): MD_RESET.KIND 6 drains from RUN and reloads the dies. -/
  | forwardingRestart
  /-- VF_FLR (R493): A VF function-level reset resets that function's queues. -/
  | vfFlr (f : Nat)
  /-- LOAD_ATTEMPT (R151): A load attempt begins: the loader chooses a slot and reads and checks the container. -/
  | loadAttempt (bad : Nat)
  /-- LOAD_VERIFIED (R151): The first pass over the container completes with digest, signature and version checked. -/
  | loadVerified
  /-- SECTION_APPLY (R137): The loader applies one section, or skips or rejects it. -/
  | sectionApply
  /-- DDR_TRAIN_DONE (R504): DDR5 training of all channels completes in phase 2. -/
  | ddrTrainDone (fail : Bool) (temps : List Int)
  /-- LOAD_COMPLETE (R102): The image is fully applied and the device enters RUN with epoch 0. -/
  | loadComplete
  /-- LOAD_FAIL (R132): A load attempt fails and the next attempt is chosen or HALT is entered. -/
  | loadFail (flashError : Bool)
  /-- LOAD_TIMEOUT (R152): A load attempt not in RUN within 30 s fails with TIMEOUT. -/
  | loadTimeout
  /-- FLASH_READ_PAGE (R160): PB_FLASH_CMD op 0 reads a flash page into the buffer. -/
  | flashReadPage
  /-- FLASH_PROGRAM_PAGE (R158): PB_FLASH_CMD op 1 programs a flash page or is refused. -/
  | flashProgramPage
  /-- FLASH_ERASE_SECTOR (R158): PB_FLASH_CMD op 2 erases a sector or is refused. -/
  | flashEraseSector
  /-- FLASH_COMMIT (R159): PB_FLASH_CMD op 3 programs and verifies a commit block and its marker. -/
  | flashCommit
  /-- FLASH_OP_DONE (R160): A flash operation completes and FLASH_DONE is raised. -/
  | flashOpDone
  /-- FUSE_KEY_PROGRAM (R160): PB_FUSE_PROG op 1 programs a key slot hash. -/
  | fuseKeyProgram (slot : Nat) (ok : Bool)
  /-- FUSE_KEY_REVOKE (R160): PB_FUSE_PROG op 2 revokes a key slot. -/
  | fuseKeyRevoke (slot : Nat) (ok : Bool)
  /-- FUSE_SECVER_RAISE (R160): PB_FUSE_PROG op 3 raises the minimum security version by one. -/
  | fuseSecverRaise (ok : Bool)
  /-- REPORT_DATA_READ (R160): A read of PB_RPT_DATA returns a report word and advances PB_RPT_ADDR. -/
  | reportDataRead
  /-- GROUP_CONFIG_WRITE (R164): A write of PG_GRP_CFG sets a group's ports or is refused. -/
  | groupConfigWrite (g v : Nat)
  /-- CALENDAR_REBUILD (R342): The Tree die rebuilds an egress die's calendar after a port configuration change. -/
  | calendarRebuild (d : Nat)
  /-- PORT_CTRL_WRITE (R182): A write of PG_PORT_CTRL sets ADMIN_UP, FEC, flow control and loopback or is refused. -/
  | portCtrlWrite (p v : Nat)
  /-- AN_COMPLETE (R166): Clause 73 negotiation completes and the link comes up in the PHY or AN_FAIL is raised. `rs`: whether the partner is able to do RS-FEC, and whether it asks for it. -/
  | anComplete (p : Nat) (techs : List (Nat × Nat)) (pause : Nat) (rs : Bool × Bool)
  /-- AN_RESTART (R166): The break-link timer expires and negotiation restarts. -/
  | anRestart (p : Nat)
  /-- LINK_UP (R180): Up conditions hold for UP_HOLD_MS and the port is declared up. `l`: the port, the locked lanes, local fault, remote fault, trained, and the microseconds held. -/
  | linkUp (l : Nat × Nat × Bool × Bool × Bool × Nat)
  /-- LINK_DOWN (R181): A condition fails for DOWN_DEB_US and the port is declared down and flushed. `line`: the locked lanes, local fault, remote fault, trained. -/
  | linkDown (p : Nat) (rx : Bool) (line : Nat × Bool × Bool × Bool) (us : Nat)
  /-- FLUSH_REQUEST (R377): A Girth die unlinks a port's VOQ columns and sends a flush marker. -/
  | flushRequest (g p : Nat)
  /-- FLUSH_MARKER (R377): A flush marker arrives at the egress die, which clears Lacing once all have arrived. -/
  | flushMarker (g p : Nat)
  /-- PAUSE_RX (R173): A received PAUSE frame pauses every egress queue of the port. -/
  | pauseRx (p q : Nat)
  /-- PFC_RX (R173): A received PFC frame pauses the mapped egress queues. -/
  | pfcRx (p vec : Nat) (qs : List Nat)
  /-- MACCTL_OTHER_RX (R168): A MAC control frame of another opcode is discarded and counted. -/
  | macctlOtherRx (p : Nat)
  /-- PAUSE_EXPIRY (R173): A received pause runs out its quanta and the queue resumes. -/
  | pauseExpiry (p pri : Nat)
  /-- FC_XOFF (R171): A priority byte count reaches XOFF and the port sends PFC or PAUSE. -/
  | fcXoff (p pri : Nat)
  /-- FC_XON (R171): A byte count falls to XON and the port sends quanta 0. -/
  | fcXon (p pri : Nat)
  /-- PFC_REFRESH (R171): Half of QUANTA elapses while above XON and the pause frame is repeated. -/
  | pfcRefresh (p pri : Nat)
  /-- FIFO_XOFF (R172): The receive FIFO fill reaches FIFO_XOFF and ports hold pause. -/
  | fifoXoff (g : Nat)
  /-- FIFO_XON (R172): The receive FIFO fill falls to FIFO_XON and the pause ends. -/
  | fifoXon (g : Nat)
  /-- PFC_WD_TRIP (R174): A priority stays paused for WD_MS and the watchdog trips. -/
  | pfcWdTrip (p pri : Nat)
  /-- PFC_WD_RECOVER (R174): RECOVER_MS passes and the port honours received PFC again. -/
  | pfcWdRecover (p pri : Nat)
  /-- TXTS_POP (R176): A read of PG_TXTS_HEAD returns the tag, latches the time and removes the entry. -/
  | txtsPop (p : Nat)
  /-- BRAND_INJECT_ARM (R206): A write of BR_INJECT.GO arms corruption of the next intake check for a port. -/
  | brandInjectArm (d p : Nat)
  /-- BRAND_INJECT_CANCEL (R206): A write of BR_INJECT.CANCEL cancels a pending injection. -/
  | brandInjectCancel (d : Nat)
  /-- PUNT_ARRIVE (R433): A punted frame arrives at the Tree die, is Brand-checked, buffered and queued to an engine or host ring. -/
  | puntArrive
  /-- PUNT_POLICER_WRITE (R223): A write of RATE or BURST of a punt policer refills its bucket. -/
  | puntPolicerWrite (d r : Nat) (burst : Bool) (v : Nat)
  /-- AWL_THROTTLE_EVAL (R256): Every 1 ms Awl reads the Tree temperature and sets its throttle step. -/
  | awlThrottleEval (temp : Int)
  /-- AWL_BUDGET_WRITE (R255): A write of AW_BUDGET_d sets the budget and fills the bucket. -/
  | awlBudgetWrite (d v : Nat)
  /-- AWL_SET_RELOADED (R262): A set's copy back from its shadow completes and it becomes LOADED. -/
  | awlSetReloaded (a : Nat) (bad : Bool)
  /-- SCRUB_BURST (R294): A scrub burst under an activity 2 claim reads entries and rewrites corrected errors. -/
  | scrubBurst (x tbl i fixed : Nat) (bad : Bool)
  /-- SEQ_WRITE_APPLY (R284): A Skirt die applies one sequenced table write. -/
  | seqWriteApply (d : Nat)
  /-- LEARN_REQUEST (R288): The Tree die handles a learn request and sequences an insert or move or drops it. -/
  | learnRequest
  /-- HIT_NOTICE (R293): A hit notice reaches the Tree die and cancels a delete or becomes a re-learn. -/
  | hitNotice
  /-- AGER_VISIT (R292): The ager visits an ageable entry and sequences a filter clear. -/
  | agerVisit (slot : Nat)
  /-- AGE_DECIDE (R292): Every die has applied the filter clear and the Tree die keeps or deletes the entry. -/
  | ageDecide (slot : Nat)
  /-- ENTRY_RELOAD (R294): An entry with an uncorrectable error is reloaded from another replica or the Tree copy. -/
  | entryReload
  /-- PLAN_WRITE (R265): A write of a lookup plan register is applied or ignored in whole. -/
  | planWrite (d p k v : Nat)
  /-- COMPACTION_START (R322): A compaction starts and the Tree die plans and sends the move list. -/
  | compactionStart
  /-- COMPACTION_MOVE (R320): A die's move engine makes one three-write move. -/
  | compactionMove (d : Nat)
  /-- COMPACTION_DONE (R323): Every participating die finishes its list and COMPACT_DONE is raised. -/
  | compactionDone
  /-- COMPACTION_STOP (R325): A compaction stops at its next safe point and layouts are made to match. -/
  | compactionStop
  /-- OS_WRITE_WAIT_TIMEOUT (R324): An ordered-store operation waits 50 ms and completes NO_HOLE. -/
  | osWriteWaitTimeout
  /-- OS_THROTTLE_EVAL (R326): Every 1 ms each Skirt die sets its ordered-store throttle step. -/
  | osThrottleEval (d : Nat) (temp : Int)
  /-- REPATTERN (R353): A Girth die is isolated and the Tree die re-forms the pattern over the survivors. -/
  | repattern
  /-- REPATTERN_RESUME (R353): By t0 + 50 µs all dies resume on the new pattern and the claim is released. -/
  | repatternResume
  /-- BUFFER_ALLOC (R356): A buffer is allocated from its pool or a fallback pool, or the allocation fails. -/
  | bufferAlloc (n : Nat)
  /-- BUFFER_FREE (R357): A buffer is freed, or a double free or bad handle is counted. -/
  | bufferFree (h : Nat)
  /-- CAPTURE_RECORD (R380): The Tree die builds a capture record and writes it to the DDR5 ring or a host ring. -/
  | captureRecord
  /-- SAMPLE_RECORD (R538): A sample record reaches the Tree die and is written to its ring. -/
  | sampleRecord
  /-- CAPTURE_RING_ENABLE (R381): Setting CP_DDR_CFG.EN zeroes PROD, CONS and SEQ. -/
  | captureRingEnable (v : Nat)
  /-- GAIT_ARM_WRITE (R403): A write of GA_CTRL_k arms the pending list or is ignored. -/
  | gaitArmWrite (p v : Nat)
  /-- TALLY_CUT (R413): TAI reaches a minute boundary or interim instant and Tally cuts a set. -/
  | tallyCut
  /-- TALLY_SET_DONE (R416): The trailer of a set is written and the set is complete. -/
  | tallySetDone
  /-- TALLY_DIVERT (R418): A record not accepted by the host ring within 1 s is written to the log. -/
  | tallyDivert
  /-- TALLY_TIME_WRITE (R422): A write of TL_TIME takes effect at the next minute boundary. -/
  | tallyTimeWrite (v : Nat)
  /-- TALLY_LOG_ENABLE (R419): Setting TL_LOG_CFG.EN zeroes the log indices. -/
  | tallyLogEnable (v : Nat)
  /-- NOP (R437): Macro instruction NOP does nothing. -/
  | nop (e : Nat)
  /-- ADD (R437): D = A + B. -/
  | add (e : Nat)
  /-- SUB (R437): D = A − B. -/
  | sub (e : Nat)
  /-- AND (R437): D = A AND B. -/
  | and (e : Nat)
  /-- OR (R437): D = A OR B. -/
  | or (e : Nat)
  /-- XOR (R437): D = A XOR B. -/
  | xor (e : Nat)
  /-- SHL (R437): D = A shifted left by B[5:0]. -/
  | shl (e : Nat)
  /-- SHR (R437): D = A shifted right logically by B[5:0]. -/
  | shr (e : Nat)
  /-- SAR (R437): D = A shifted right arithmetically by B[5:0]. -/
  | sar (e : Nat)
  /-- MUL (R437): D = low 64 bits of A × B. -/
  | mul (e : Nat)
  /-- MINU (R437): D = unsigned minimum of A and B. -/
  | minu (e : Nat)
  /-- MAXU (R437): D = unsigned maximum of A and B. -/
  | maxu (e : Nat)
  /-- BSWAP (R437): D = A with bytes swapped. -/
  | bswap (e : Nat)
  /-- CLZ (R437): D = count of leading zeros of A. -/
  | clz (e : Nat)
  /-- POPCNT (R437): D = count of set bits of A. -/
  | popcnt (e : Nat)
  /-- ADD_IMM (R437): D = A + sign-extended IMM. -/
  | addImm (e : Nat)
  /-- SUB_IMM (R437): D = A − sign-extended IMM. -/
  | subImm (e : Nat)
  /-- AND_IMM (R437): D = A AND sign-extended IMM. -/
  | andImm (e : Nat)
  /-- OR_IMM (R437): D = A OR sign-extended IMM. -/
  | orImm (e : Nat)
  /-- XOR_IMM (R437): D = A XOR sign-extended IMM. -/
  | xorImm (e : Nat)
  /-- SHL_IMM (R437): D = A shifted left by IMM[5:0]. -/
  | shlImm (e : Nat)
  /-- SHR_IMM (R437): D = A shifted right logically by IMM[5:0]. -/
  | shrImm (e : Nat)
  /-- SAR_IMM (R437): D = A shifted right arithmetically by IMM[5:0]. -/
  | sarImm (e : Nat)
  /-- MUL_IMM (R437): D = low 64 bits of A × IMM. -/
  | mulImm (e : Nat)
  /-- MINU_IMM (R437): D = unsigned minimum of A and IMM. -/
  | minuImm (e : Nat)
  /-- MAXU_IMM (R437): D = unsigned maximum of A and IMM. -/
  | maxuImm (e : Nat)
  /-- BSWAP_IMM (R437): Immediate form of BSWAP, using A alone. -/
  | bswapImm (e : Nat)
  /-- CLZ_IMM (R437): Immediate form of CLZ, using A alone. -/
  | clzImm (e : Nat)
  /-- POPCNT_IMM (R437): Immediate form of POPCNT, using A alone. -/
  | popcntImm (e : Nat)
  /-- LI (R437): D = sign-extended 17-bit immediate. -/
  | li (e : Nat)
  /-- LUI (R437): D = (D << 16) OR IMM[15:0]. -/
  | lui (e : Nat)
  /-- LD (R437): D = zero-extended value loaded from A + offset. -/
  | ld (e : Nat)
  /-- ST (R437): Store the low SIZE bytes of D at A + offset. -/
  | st (e : Nat)
  /-- BEQ (R437): Branch when A equals B. -/
  | beq (e : Nat)
  /-- BNE (R437): Branch when A differs from B. -/
  | bne (e : Nat)
  /-- BLTU (R437): Branch when A is below B, unsigned. -/
  | bltu (e : Nat)
  /-- BGEU (R437): Branch when A is at or above B, unsigned. -/
  | bgeu (e : Nat)
  /-- BF (R437): Branch on a FLAGS bit and sense. -/
  | bf (e : Nat)
  /-- JMP (R437): PC = PC + OFF. -/
  | jmp (e : Nat)
  /-- JAL (R437): Jump and link with A31 = PC + 1. -/
  | jal (e : Nat)
  /-- JR (R437): PC = A[16:0]. -/
  | jr (e : Nat)
  /-- WAIT (R440): The thread waits for masked events or its deadline. -/
  | wait (e : Nat)
  /-- WAIT_DEADLINE (R440): A WAIT or DMAW reaches its deadline with no event and completes with TO. -/
  | waitDeadline (e t : Nat)
  /-- SIGNAL (R437): Sets the signal latch of a thread of the engine. -/
  | signal (e : Nat)
  /-- CHOPEN (R442): Opens an empty channel for filling by this thread. -/
  | chopen (e : Nat)
  /-- CHW (R442): Writes a word of the thread's filling channel. -/
  | chw (e : Nat)
  /-- CHPOST (R442): Posts the thread's filling channel. -/
  | chpost (e : Nat)
  /-- CHR (R442): Reads a word of a posted channel. -/
  | chr (e : Nat)
  /-- CHFREE (R442): Frees a posted channel. -/
  | chfree (e : Nat)
  /-- GETPUNT (R437): Takes the handle at the head of the engine's punt queue. -/
  | getpunt (e : Nat)
  /-- RINJ (R444): Reinjects a frame from a request into a slice's reinjection queue. -/
  | rinj (e : Nat)
  /-- HPUNT (R445): Hands a punt descriptor to a host punt ring. -/
  | hpunt (e : Nat)
  /-- FDROP (R437): Discards a punt and frees its buffers. -/
  | fdrop (e : Nat)
  /-- BALLOC (R437): Allocates a buffer handle from a pool. -/
  | balloc (e : Nat)
  /-- BFREE (R437): Frees a buffer handle. -/
  | bfree (e : Nat)
  /-- HADDR (R431): Converts a buffer handle into its address. -/
  | haddr (e : Nat)
  /-- DMA (R437): Starts a DMA described in memory and returns a tag. -/
  | dma (e : Nat)
  /-- DMA_DONE (R437): A DMA completes, freeing its tag and setting the DMA-done latch. -/
  | dmaDone (e t tag : Nat)
  /-- DMAW (R440): Waits for a DMA tag under a deadline. -/
  | dmaw (e : Nat)
  /-- CRC (R447): Continues a CRC-32C over memory in 64-byte elements. -/
  | crc (e : Nat)
  /-- BCOPY (R447): Copies memory in 64-byte elements. -/
  | bcopy (e : Nat)
  /-- LWALK (R448): Walks a linked list for a key under a step budget. -/
  | lwalk (e : Nat)
  /-- HINS (R449): Inserts into a cuckoo hash table under a budget. -/
  | hins (e : Nat)
  /-- FCTX (R303): Makes one flow-context operation. -/
  | fctx (e : Nat)
  /-- MNEXT (R437): Returns the next match-list entry of a punt. -/
  | mnext (e : Nat)
  /-- TOP (R437): Makes a table operation from a descriptor. -/
  | top (e : Nat)
  /-- TRAP (R437): Raises fault SOFT. -/
  | trap (e : Nat)
  /-- ERET (R437): Clears EXC and DLV and returns to EPC. -/
  | eret (e : Nat)
  /-- CUSTOMER_OPCODE (R450): An opcode 0xC0–0xFF runs customer microcode. -/
  | customerOpcode (e : Nat)
  /-- STALL_END (R439): A long stall ends and the thread becomes ready. -/
  | stallEnd (e t : Nat)
  /-- MACHINE_CHECK (R454): A microword fails parity and the thread restarts its instruction after the word is rewritten. -/
  | machineCheck (e a : Nat) (tree : Bool)
  /-- MICROWORD_REWRITE (R454): The failing microword is rewritten from the Tree copy. -/
  | microwordRewrite (a : Nat)
  /-- THREAD_STOP (R456): An ST_ENG_CTRL stop request stops a thread at its next boundary. -/
  | threadStop (e t : Nat)
  /-- THREAD_RESUME (R456): An ST_ENG_CTRL resume request resumes a stopped thread. -/
  | threadResume (e t : Nat)
  /-- THREAD_STEP (R456): An ST_ENG_CTRL step request runs a thread for one boundary. -/
  | threadStep (e t : Nat)
  /-- ENGINE_FREEZE (R456): FREEZE stops every thread of the engine, or releases them when cleared. -/
  | engineFreeze (e : Nat) (on : Bool)
  /-- CHANNEL_RELEASE (R457): A write of ST_CH_REL makes channels empty and marks owners' loss. -/
  | channelRelease (e v : Nat)
  /-- DEBUG_REG_WRITE (R459): A write of ST_DBG_DATA sets a stopped thread's register. -/
  | debugRegWrite (e : Nat) (hi : Bool) (v : Nat)
  /-- DRIVER_OK (R464): A write of FEAT_CTRL.DRIVER_OK completes negotiation or is refused. -/
  | driverOk (fn : Nat)
  /-- QUEUE_ENABLE (R469): A write setting EN on a queue or ring enables it or is refused. -/
  | queueEnable (kind fn q v : Nat)
  /-- SQ_DISABLE (R489): Clearing EN on an SQ stops new entries and sets IDLE once started entries complete. -/
  | sqDisable (q : Nat)
  /-- CQ_DISABLE (R490): Clearing EN on a CQ is refused while a bound SQ is active. -/
  | cqDisable (c : Nat)
  /-- ER_DISABLE (R490): Clearing EN on an event ring takes effect at once. -/
  | erDisable (r : Nat)
  /-- SQ_DOORBELL (R472): A write of RC_SQ_DB sets the SQ tail or is malformed. -/
  | sqDoorbell (q v : Nat)
  /-- SQ_ENTRY_FETCH (R472): The device fetches SQ entries and uses those with valid O. -/
  | sqEntryFetch (q i : Nat) (ur : Bool)
  /-- CQ_DOORBELL (R473): A write of RC_CQ_DB advances the CQ head and frees slots for held completions. -/
  | cqDoorbell (c v : Nat)
  /-- ER_HEAD_WRITE (R473): A write of RC_ER_HEAD advances the event ring head. -/
  | erHeadWrite (r v : Nat)
  /-- COMPLETION_WRITE (R477): A completion entry is written to its CQ or held. -/
  | completionWrite (c : Nat)
  /-- CQ_COAL_TIMER (R479): COAL.US passes since the first unsignalled entry and an MSI-X message is sent. -/
  | cqCoalTimer (c : Nat)
  /-- TABLE_READ (R480): OP 0x01 copies a table entry to host memory. -/
  | tableRead (q i : Nat) (ur : Bool)
  /-- TABLE_WRITE (R480): OP 0x02 writes an indexed table entry. -/
  | tableWrite (q i : Nat) (ur : Bool)
  /-- TABLE_INSERT (R480): OP 0x03 inserts a keyed entry. -/
  | tableInsert (q i : Nat) (ur : Bool)
  /-- TABLE_DELETE (R480): OP 0x04 deletes a keyed entry, ID or retires an object. -/
  | tableDelete (q i : Nat) (ur : Bool)
  /-- BANK_COPY (R237): OP 0x05 copies the active rule bank into the standby bank. -/
  | bankCopy (q i : Nat) (ur : Bool)
  /-- SET_WRITE (R261): OP 0x06 loads an Awl set. -/
  | setWrite (q i : Nat) (ur : Bool)
  /-- SET_VALIDATE (R261): OP 0x07 validates an Awl set and copies it to its shadow. -/
  | setValidate (q i : Nat) (ur : Bool)
  /-- SCAN (R480): OP 0x08 scans host data against an Awl set. -/
  | scan (q i : Nat) (ur : Bool)
  /-- RING_FLASH_READ (R480): FLASH op SUB 0 reads flash pages to host memory. -/
  | ringFlashRead (q i : Nat) (ur : Bool)
  /-- RING_FLASH_PROGRAM (R480): FLASH op SUB 1 programs flash pages. -/
  | ringFlashProgram (q i : Nat) (ur : Bool)
  /-- RING_FLASH_ERASE (R480): FLASH op SUB 2 erases a sector. -/
  | ringFlashErase (q i : Nat) (ur : Bool)
  /-- RING_FLASH_COMMIT (R480): FLASH op SUB 3 commits a slot's commit block. -/
  | ringFlashCommit (q i : Nat) (ur : Bool)
  /-- RING_NOP (R480): OP 0x0A completes when started. -/
  | ringNop (q i : Nat) (ur : Bool)
  /-- RX_BUF (R484): OP 0x20 posts a receive buffer that the device fills with records. -/
  | rxBuf (q i : Nat) (ur : Bool)
  /-- RX_FLUSH_TIMER (R484): RC_RX_FLUSH.US after its first record a partly filled buffer completes. -/
  | rxFlushTimer (q : Nat)
  /-- INJECT (R487): OP 0x40 injects a frame into a slice's reinjection queue. -/
  | inject (q i : Nat) (ur : Bool)
  /-- INJECT_FULL_TIMEOUT (R487): The reinjection queue stays full for 100 µs and the entry completes INJECT_FULL. -/
  | injectFullTimeout (q i : Nat)
  /-- PAGE_RESPONSE (R514): A PRI page response arrives and parked work resumes or ends XLATE. -/
  | pageResponse (g code : Nat)
  /-- PRI_TIMEOUT (R514): No page response within TR_PRI_TMO and the fault ends XLATE. -/
  | priTimeout (g : Nat)
  /-- TRANSLATION_DONE (R512): An ATS translation completion arrives and fills the device TLB. -/
  | translationDone (k first n : Nat) (r w : Bool)
  /-- ATS_INVALIDATE (R513): An ATS Invalidate Request stops use of matching TLB entries. -/
  | atsInvalidate (fn pas first n : Nat)
  /-- INVALIDATE_COMPLETE (R513): DMAs using invalidated entries finish and the invalidation completion is sent. -/
  | invalidateComplete
  /-- RETRAIN_DUE (R505): A DDR5 channel falls due for retraining and requests an activity 3 claim. -/
  | retrainDue (c : Nat) (temp : Int)
  /-- RETRAIN_DONE (R505): A channel retraining completes or fails and restores settings. -/
  | retrainDone (fail : Bool)
  /-- DDR_PATROL_SCRUB (R506): A patrol scrub burst reads device memory under an activity 2 claim. -/
  | ddrPatrolScrub (o : Nat) (fixed bad : Bool)
  /-- DDR_UNCORRECTABLE (R507): A DDR5 read has an uncorrectable error and the requester's outcome follows. -/
  | ddrUncorrectable (o req a b c : Nat)
  /-- PAGE_RETIRE (R508): A failing page is remapped to a spare and its contents copied. -/
  | pageRetire
  /-- RETIRE_COPY_DONE (R508): A page retirement copy ends and waiting accesses go to the spare. -/
  | retireCopyDone
  /-- EVENT_SOURCE_WRITE (R524): A write of EV_SRC_s routes a source or is refused. -/
  | eventSourceWrite (src v : Nat)
  /-- EVENT_DELIVER (R525): An enabled pending source delivers an MSI-X message or event ring entry. -/
  | eventDeliver (src : Nat)
  /-- MSIX_UNMASK (R527): A masked vector with a pending bit is unmasked and one message is sent. -/
  | msixUnmask (fn : Nat) (vec : Option Nat) (isOpen : Bool)
  /-- COUNTER_READ (R532): A read of PC_CNT_n_LO returns the low word and latches the high word, stamp and snapshot. -/
  | counterRead (fn : Nat) (user : Bool) (b n : Nat)
  /-- LATCHED_READ (R11): A read of the low word of a 64-bit register latches its high word. -/
  | latchedRead (fn off : Nat)
  /-- COUNTER_SELECT (R533): A write of PC_SEL_n clears the counter and selects its event. -/
  | counterSelect (b n v : Nat)
  /-- COUNTER_FREEZE (R529): A write of PC_FREEZE stops or resumes counting on named dies at one common tick. -/
  | counterFreeze (v : Nat)
  /-- BW_WINDOW (R535): A bandwidth window ends and per-port rates and peaks are set. -/
  | bwWindow
  /-- BW_WINDOW_WRITE (R535): A write of PC_BW_WIN.WIN_US clears VALID on every port. -/
  | bwWindowWrite (v : Nat)
  /-- STRAP_CRC_ERROR (R19): A strap transfer fails its link CRC and is replayed. -/
  | strapCrcError (b o : Nat) (replayed : Bool)
  /-- FAULT_REPORT (R541): A fault report reaches the Tree die, which classes it and starts recovery. -/
  | faultReport (ext : Bool) (die unit cause : Nat) (wide : Bool) (d0 d1 : Nat)
  /-- UNIT_HANG (R542): A unit holds work with no token for 20 µs and is restarted. -/
  | unitHang (x unit i us : Nat)
  /-- DIE_ISOLATE (R544): A die is isolated: transmitters off, ports down, sequence and claims dropped. -/
  | dieIsolate
  /-- REGISTER_WRITE (R572): A write to a register with no row of its own sets RW fields, clears W1C bits and sets W1S bits under clamps and ignores. -/
  | registerWrite (smbus : Bool) (fn off v : Nat)
  /-- COMPARATOR_WINDOW_RETURN (R73): A tripped comparator's quantity is read back inside its window, which clears OUTSIDE and re-arms it for a new excursion. -/
  | comparatorWindowReturn (n value avg : Nat)
  /-- VIN_UNQUALIFIED (R69): VIN at the lands leaves the qualified range while the device is in STANDBY, clearing VIN_OK and restarting the 100 ms qualification. -/
  | vinUnqualified (vin : Nat)
  /-- SMBUS_ALERT_RESPONSE (R565): A read of the SMBus Alert Response Address is answered with the module's own address while SMB_ALERT_N is low. -/
  | smbusAlertResponse
  /-- ILLEGAL_OPCODE (R437): A thread executes an opcode from 0x00 to 0xBF that is not listed, or whose dispatch entry has VALID 0, and raises ILLEGAL. -/
  | illegalOpcode (e : Nat)
  /-- SRIOV_ENABLE (R465): The host sets VF Enable in the SR-IOV capability, bringing VFs into existence with their own BAR0 views and negotiation. -/
  | sriovEnable (n : Nat)
  /-- PRI_ENABLE_TOGGLE (R514): The host clears and sets PRI Enable of a function, which lets it send page requests again after a Response Failure. -/
  | priEnableToggle (fn alloc : Nat)
  deriving DecidableEq, Repr

end Sys2Proof
end

