-- ==== Sys2Proof/Decode.lean ====
section
/-! DEFINITION. The words of the opcode table: the UB9840's commands are events and accesses, and no row of
spec/opcode_table.json gives them bits. -/

namespace Sys2Proof

/-- The command that a word spells by the bits of spec/opcode_table.json: none, since no row has any. -/
def decodeTableWord (_nbits _w : Nat) : Option Instr := none

end Sys2Proof
end

