-- ==== Sys2Proof/Config.lean ====
section
/-! DEFINITION. What an implementation fixes and the spec leaves open. Every constant here is opaque: nothing can be
proved of its value. -/

namespace Sys2Proof.Config

/-- The fused factory value of the sensitivity S of die `x`, in tokens/µs per mV (R52). Log 43 (DESIGN CHOICE). -/
opaque factoryS (x : Nat) : Nat

/-- The fused temperature coefficient K_T of die `x`, in µV per °C (R53). Log 43 (DESIGN CHOICE). -/
opaque tempCoeff (x : Nat) : Nat

/-- A reserve that R53 does not state: the plan's sensitivity is zero. Log 42 (DESIGN CHOICE). -/
opaque freeReserve (n : Nat) : Nat

/-- The voltage floor of the fused factory plan of die `x`, in mV (R56). Log 43 (DESIGN CHOICE). -/
opaque factoryFloor (x : Nat) : Nat

/-- A byte whose value the spec leaves open: the `n`-th taken. Log 187 (DESIGN CHOICE). -/
opaque freeByte (n : Nat) : BitVec 8

/-- Word `i` of the load report: R160 says what it holds and not where. Log 37 (DESIGN CHOICE). -/
opaque reportWord (entries : List (List Nat)) (header : List Nat) (i : Nat) : Nat

/-- L_w of a cut-through frame as it is queued, before its length is known (R394 states none): the `n`-th taken.
Log 95 (DESIGN CHOICE). -/
opaque ctWire (n : Nat) : Nat

/-- `w` is in the language of pattern `p`, which an automaton image in a format of Polnauf's own holds (R247, R260).
Log 151 (DESIGN CHOICE). -/
opaque awlMatches (image : List (BitVec 8)) (p : Nat) (w : List (BitVec 8)) : Bool

/-- Pattern `p` of the image is compiled anchored (R247). Log 151 (DESIGN CHOICE). -/
opaque awlAnchored (image : List (BitVec 8)) (p : Nat) : Bool

/-- END_MS of a cut that lies 65,536 ms or more after MINUTE_SEC: the field cannot hold it (R420, R422): the `n`-th taken.
Log 166 (DESIGN CHOICE). -/
opaque tallyMs (n : Nat) : Nat

/-- FLAGS C after a SUB of `a` and `b`: R437 says that SUB sets it and not by which convention. Log 108 (DESIGN CHOICE). -/
opaque subCarry (a b : Nat) : Bool

/-- EADDR after a fault for which R438 names no value: the `n`-th taken. Log 111 (DESIGN CHOICE). -/
opaque faultAddr (n : Nat) : BitVec 64

/-- The address HADDR gives for a number that is no buffer's handle (R437 states none). Log 122 (DESIGN CHOICE). -/
opaque badHandleAddr (h : Nat) : BitVec 64

/-- D of a BALLOC that fails (R437 states none): the `n`-th taken. Log 121 (DEDUCED). -/
opaque noBuffer (n : Nat) : BitVec 64

/-- What an FCTX request asks for (R437 gives its place and not its layout): 1 read, 2 write of USER, 4 delete; the key of the
context; the USER bits it writes. Log 124 (DESIGN CHOICE). -/
opaque fctxOp (req : List (BitVec 8)) : Nat
opaque fctxKey (req : List (BitVec 8)) : Nat
opaque fctxUser (req : List (BitVec 8)) : Nat

/-- The result of an FCTX on a context of 128 bytes, or on none (R437 gives it no coding). Log 124 (DESIGN CHOICE). -/
opaque fctxResult (req : List (BitVec 8)) (ctx : Option Nat) : BitVec 64

/-- Input current in 10 mA units and input power in mW as the power stage measures them (R99): the `n`-th sample taken.
Log 19 (DESIGN CHOICE). -/
opaque inputCurrent (n : Nat) : Nat
opaque inputPower (n : Nat) : Nat

/-- VIN at the lands as the power stage measures it, in 10 mV units: its 1 ms average and its lowest sample since the last look
(R99), and the highest sample of the input current since then. Log 18 (DESIGN CHOICE). -/
opaque vinAverage (n : Nat) : Nat
opaque vinLowest (n : Nat) : Nat
opaque currentPeak (n : Nat) : Nat

/-- The quantity of comparator `c` as measured now, and the 1 ms average of VBUS in 10 mV units (R74, R75, R98): the `n`-th
taken. Log 18 (DESIGN CHOICE). -/
opaque compSample (c n : Nat) : Nat
opaque vbusAverage (n : Nat) : Nat

/-- A frame is being received as software takes its port down (R181, R182): the `n`-th taken. Log 210 (DESIGN CHOICE). -/
opaque receiving (n : Nat) : Bool

/-- The fuses of an operation started by a write of PB_FUSE_PROG.GO verify (R160): the `n`-th taken. Log 38 (DESIGN CHOICE). -/
opaque fuseTakes (n : Nat) : Bool

/-- A cell in which an error has just been found has had errors repeatedly and is retired (R359): the `n`-th taken.
Log 235 (DESIGN CHOICE). -/
opaque cellRetires (n : Nat) : Bool

/-- The host answers an untranslated read of a Stitcher with Unsupported Request or Completer Abort (R511): the `n`-th taken.
Log 244 (DESIGN CHOICE). -/
opaque hostError (n : Nat) : Bool

/-- The Girth dies that a payload of section 0x0040 names, a bit each, and whether the fabric takes it: R136 names the section
and no rule gives its format. Log 60 (DESIGN CHOICE). -/
opaque fabricDies (payload : List (BitVec 8)) : Nat
opaque fabricTakes (payload : List (BitVec 8)) : Bool

end Sys2Proof.Config
end

