-- ==== Sys2Proof/Machine/Bits.lean ====
section
/-! DEFINITION. Bit fields, saturation, rounding and byte order: the helpers every unit of the model uses. -/

namespace Sys2Proof.Machine

/-- Bits `hi` down to `lo` of `v`. -/
def bits (v hi lo : Nat) : Nat := (v >>> lo) % 2 ^ (hi + 1 - lo)

/-- Bit `i` of `v`. -/
def bit (v i : Nat) : Bool := (v >>> i) % 2 == 1

/-- `v` with bits `hi` down to `lo` replaced by `x`. -/
def setBits (v hi lo x : Nat) : Nat :=
  v - bits v hi lo * 2 ^ lo + (x % 2 ^ (hi + 1 - lo)) * 2 ^ lo

/-- A Bool as a bit. -/
def b2n (b : Bool) : Nat := if b then 1 else 0

/-- `v` with bit `i` set to `b`. -/
def setBit (v i : Nat) (b : Bool) : Nat := setBits v i i (b2n b)

/-- `x` held to the range `lo` to `hi`. -/
def clamp (lo hi x : Nat) : Nat := max lo (min hi x)

/-- Addition saturating at `m`. -/
def satAdd (m a b : Nat) : Nat := min m (a + b)

/-- ceil(a ÷ b). -/
def ceilDiv (a b : Nat) : Nat := (a + b - 1) / b

/-- round(a ÷ b), halves away from zero (R573). -/
def roundDiv (a b : Nat) : Nat := (2 * a + b) / (2 * b)

/-- round(a ÷ b) for a signed `a`, halves away from zero (R573). -/
def roundDivInt (a : Int) (b : Nat) : Int :=
  match a with
  | .ofNat n => Int.ofNat (roundDiv n b)
  | .negSucc n => - Int.ofNat (roundDiv (n + 1) b)

/-- The `n` low bytes of `v`, least significant first. -/
def leBytes (v : Nat) : Nat → List Byte
  | 0 => []
  | n + 1 => BitVec.ofNat 8 v :: leBytes (v >>> 8) n

/-- Little-endian bytes as a number. -/
def ofLe : List Byte → Nat
  | [] => 0
  | b :: r => b.toNat + 256 * ofLe r

/-- Big-endian (network order) bytes as a number. -/
def ofBe (bs : List Byte) : Nat := bs.foldl (fun a b => a * 256 + b.toNat) 0

/-- The `n` low bytes of `v` in network order. -/
def beBytes (v n : Nat) : List Byte := (leBytes v n).reverse

/-- The 32-bit words of a number, least significant first. -/
def leWords (v : Nat) : Nat → List Word
  | 0 => []
  | n + 1 => BitVec.ofNat 32 v :: leWords (v >>> 32) n

/-- `n` bytes of a list from offset `o`; bytes beyond the end are zero. -/
def slice (bs : List Byte) (o n : Nat) : List Byte :=
  let t := (bs.drop o).take n
  t ++ List.replicate (n - t.length) 0

/-- `bs` with the bytes from offset `o` replaced by `xs` (within the list). -/
def overwrite (bs : List Byte) (o : Nat) (xs : List Byte) : List Byte :=
  bs.take o ++ xs.take (bs.length - o) ++ bs.drop (o + xs.length)

/-- The number of bits set in `v`, of its low `n`. -/
def popcount (v : Nat) : Nat → Nat
  | 0 => 0
  | n + 1 => v % 2 + popcount (v / 2) n

/-- The positions of the set bits of `v`, rising, of its low `n`. -/
def setPositions (v n : Nat) : List Nat := (List.range n).filter (bit v)

/-- Remove the first occurrence of `x`. -/
def removeOne [DecidableEq α] (x : α) : List α → List α
  | [] => []
  | y :: r => if x = y then r else y :: removeOne x r

/-- Append `x` unless the list holds it. -/
def addOnce [DecidableEq α] (x : α) (l : List α) : List α := if l.contains x then l else l ++ [x]

/-- Replace element `i` by `f` of it. -/
def modifyAt (f : α → α) : Nat → List α → List α
  | _, [] => []
  | 0, x :: r => f x :: r
  | n + 1, x :: r => x :: modifyAt f n r

/-- The first element passing `p`, and the list without it. -/
def takeFirst (p : α → Bool) : List α → Option (α × List α)
  | [] => none
  | x :: r => if p x then some (x, r) else (takeFirst p r).map fun q => (q.1, x :: q.2)

end Sys2Proof.Machine
end

