-- ==== Sys2Proof/Machine/Crc.lean ====
section
/-! DEFINITION. CRC-32C (R193), the IEEE 802.3 CRC-32 (R186) and the Brand's incremental update (R196). -/

namespace Sys2Proof.Machine

/-- One bit step of a reflected CRC register with reflected polynomial `p`. -/
def crcBit (p v : Nat) : Nat := if v % 2 = 1 then (v / 2) ^^^ p else v / 2

/-- Eight bit steps. -/
def crcByte (p v : Nat) : Nat := crcBit p (crcBit p (crcBit p (crcBit p (crcBit p (crcBit p (crcBit p (crcBit p v)))))))

/-- The register after bytes are run through it from `v`. -/
def crcRun (p : Nat) (v : Nat) (bs : List Byte) : Nat := bs.foldl (fun a b => crcByte p (a ^^^ b.toNat)) v

/-- 0x1EDC6F41 reflected (R193). -/
def polyC : Nat := 0x82F63B78

/-- The IEEE 802.3 polynomial reflected. -/
def polyE : Nat := 0xEDB88320

/-- CRC-32C (R193). -/
def crc32c (bs : List Byte) : Nat := (crcRun polyC 0xFFFFFFFF bs) ^^^ 0xFFFFFFFF

/-- The IEEE 802.3 CRC-32 (R186), also the frame check sequence. Log 190 (PRESUMED). -/
def crc32 (bs : List Byte) : Nat := (crcRun polyE 0xFFFFFFFF bs) ^^^ 0xFFFFFFFF

/-- c0(D) of R193: from zero, with no final XOR. -/
def brandC0 (bs : List Byte) : Nat := crcRun polyC 0 bs

/-- shift(v, n) of R193: `n` zero bytes run through the register. -/
def brandShift (v : Nat) : Nat → Nat
  | 0 => v
  | n + 1 => brandShift (crcByte polyC v) n

/-- The update of a SET of bytes `a` to `b` at offset `o` of a frame of `n` bytes (R196). -/
def brandSet (brand n o : Nat) (a b : List Byte) : Nat :=
  brand ^^^ brandShift (brandC0 (List.zipWith (fun x y => x ^^^ y) a b)) (n - o - a.length)

/-- The value t of R196 for `h` inserted or removed behind the bytes `p`. -/
def brandT (p h : List Byte) : Nat := crc32c p ^^^ brandShift (crc32c p) h.length ^^^ crc32c h

/-- The update of a PUSH of `h` behind the bytes `p` of a frame of `n` bytes (R196). -/
def brandPush (brand n : Nat) (p h : List Byte) : Nat := brand ^^^ brandShift (brandT p h) (n - p.length)

/-- The update of a POP of `h` behind the bytes `p` of a frame of `n` bytes (R196). -/
def brandPop (brand n : Nat) (p h : List Byte) : Nat := brand ^^^ brandShift (brandT p h) (n - p.length - h.length)

/-- The product of two polynomials modulo that of CRC-32C, in the reflected form of the register; `n` bits of `a` remain. -/
def crcMul (a : Nat) : Nat → Nat → Nat
  | 0, _ => 0
  | n + 1, b => (if (a >>> n) % 2 = 1 then b else 0) ^^^ crcMul a n (crcBit polyC b)

/-- x^k as the register holds it, from `b` = x^(2^j) for the remaining bits of `k`; `f` bounds the bits. -/
def crcPow : Nat → Nat → Nat → Nat
  | 0, _, _ => 0x80000000
  | f + 1, k, b => let r := crcPow f (k / 2) (crcMul b 32 b); if k % 2 = 1 then crcMul b 32 r else r

/-- shift(v, n) of R193 in a number of steps that grows with the bits of `n` only. -/
def crcSkip (v n : Nat) : Nat := crcMul (crcPow 32 (8 * n) 0x40000000) 32 v

/-- The register after `count` entries of `size` bytes, of which those listed are not zero; `pos` is the next entry. -/
def crcSparse (size count : Nat) : List (Nat × Nat) → Nat → Nat → Nat
  | [], pos, v => crcSkip v ((count - pos) * size)
  | (i, e) :: r, pos, v => crcSparse size count r (i + 1) (crcRun polyC (crcSkip v ((i - pos) * size)) (leBytes e size))

/-- One step of a 32-bit Galois LFSR under R579. -/
def lfsrStep (taps v : Nat) : Nat := if v % 2 = 1 then (v / 2) ^^^ taps else v / 2

end Sys2Proof.Machine
end

