-- ==== Sys2Proof/Machine/Map.lean ====
section
/-! DEFINITION. Sparse maps: the one form in which every table, memory and register file of the state is held. -/

namespace Sys2Proof.Machine

/-- A sparse map: key and value pairs with strictly rising keys, none holding the value an unlisted key reads as. -/
abbrev Map (α : Type) := List (Nat × α)

variable {α : Type}

/-- The value listed under `k`. -/
def Map.find? : Map α → Nat → Option α
  | [], _ => none
  | (j, v) :: r, k => if j = k then some v else Map.find? r k

/-- The value at `k`; `d` is what an unlisted key reads as. Log 11 (DESIGN CHOICE). -/
def Map.at (m : Map α) (d : α) (k : Nat) : α := (Map.find? m k).getD d

/-- `m` with `v` listed under `k`. -/
def Map.insert : Map α → Nat → α → Map α
  | [], k, v => [(k, v)]
  | (j, w) :: r, k, v =>
    if k < j then (k, v) :: (j, w) :: r
    else if k = j then (k, v) :: r
    else (j, w) :: Map.insert r k v

/-- `m` with nothing listed under `k`. -/
def Map.erase (m : Map α) (k : Nat) : Map α := m.filter fun e => e.1 != k

/-- Write `v` at `k`; writing the value `d` that an unlisted key reads as removes the entry. -/
def Map.put [DecidableEq α] (m : Map α) (d : α) (k : Nat) (v : α) : Map α :=
  if v = d then Map.erase m k else Map.insert m k v

/-- The keys rise strictly, all above `lo`. -/
def Map.rising : Option Nat → Map α → Bool
  | _, [] => true
  | lo, (j, _) :: r => (match lo with | none => true | some l => decide (l < j)) && Map.rising (some j) r

/-- No entry holds `d`. -/
def Map.clean [DecidableEq α] (d : α) : Map α → Bool
  | [] => true
  | (_, v) :: r => decide (v ≠ d) && Map.clean d r

/-- The canonical form. -/
def Map.wf [DecidableEq α] (d : α) (m : Map α) : Bool := Map.rising none m && Map.clean d m

/-- Keep the entries whose key passes `p`. -/
def Map.keep (p : Nat → Bool) (m : Map α) : Map α := m.filter fun e => p e.1

/-- Drop every entry with a key in `[lo, hi)`. -/
def Map.dropRange (m : Map α) (lo hi : Nat) : Map α := m.filter fun e => !(decide (lo ≤ e.1) && decide (e.1 < hi))

/-- One key from two indexes; the second is below 2^40. -/
def key2 (a b : Nat) : Nat := a * 2 ^ 40 + b

/-- One key from three indexes; the third is below 2^40, the second below 2^24. -/
def key3 (a b c : Nat) : Nat := key2 (a * 2 ^ 24 + b) c

/-- Write the consecutive values `vs` from key `k` up. -/
def Map.putAll [DecidableEq α] (d : α) : Map α → Nat → List α → Map α
  | m, _, [] => m
  | m, k, v :: vs => Map.putAll d (m.put d k v) (k + 1) vs

/-- Read `n` consecutive values from key `k` up. -/
def Map.run (m : Map α) (d : α) (k : Nat) : Nat → List α
  | 0 => []
  | n + 1 => m.at d k :: Map.run m d (k + 1) n

end Sys2Proof.Machine
end

