-- ==== Sys2Proof/Machine/RegMap.lean ====
section
/-! DEFINITION. The register map of BAR0 (R65, R98, R99, R124, R160, R189 to R192, R207, R208, R239 to R242, R263,
R264, R305 to R311, R330, R331, R359 to R361, R383 to R386, R407 to R409, R427, R428, R458 to R460, R495 to R500,
R520, R521, R534, R539, R540, R551): each register's place, its indexes, its reset value and what a write may change. -/

namespace Sys2Proof.Machine

/-- One index of a register: stride, count, first value. -/
structure Dim where
  stride : Nat
  count : Nat
  first : Nat
  deriving DecidableEq, Repr

/-- A register of the map: base offset in BAR0, indexes, reset value, and the bits that a write sets (RW, RWS), clears
by 1 (W1C), sets by 1 (W1S) or only takes (WO) (R12). `wide` marks a 64-bit counter; `byIndex` marks a register whose
reset value differs by index. -/
structure RegSpec where
  base : Nat
  dims : List Dim
  rst : Nat
  rw : Nat
  w1c : Nat
  w1s : Nat
  wo : Nat
  wide : Bool
  byIndex : Bool
  deriving DecidableEq, Repr

/-- A field of a register. -/
structure Fld where
  reg : RegSpec
  hi : Nat
  lo : Nat
  deriving DecidableEq, Repr

/-- The BAR0 offset of a register's instance. -/
def RegSpec.addr (r : RegSpec) (ix : List Nat) : Nat :=
  r.base + ((r.dims.zip ix).map fun p => p.1.stride * p.2).sum

/-- ID_DEVICE (R495). Log 8 (DESIGN CHOICE). -/
def R.ID_DEVICE : RegSpec := ⟨0x0, [], 0x98400000, 0x0, 0x0, 0x0, 0x0, false, true⟩
/-- FEAT_OFFER_w (R495). -/
def R.FEAT_OFFER : RegSpec := ⟨0x100, [⟨0x4, 8, 0⟩], 0x0, 0x0, 0x0, 0x0, 0x0, false, true⟩
/-- FEAT_ACCEPT_w (R495). -/
def R.FEAT_ACCEPT : RegSpec := ⟨0x120, [⟨0x4, 8, 0⟩], 0x0, 0xffffffff, 0x0, 0x0, 0x0, false, false⟩
/-- FEAT_CTRL (R495). -/
def R.FEAT_CTRL : RegSpec := ⟨0x140, [], 0x0, 0x0, 0x40000000, 0x80000000, 0x0, false, false⟩
/-- TK_STATUS (R98). -/
def R.TK_STATUS : RegSpec := ⟨0x10000, [], 0x0, 0x0, 0x0, 0x0, 0x0, false, false⟩
/-- TK_SEC_LO (R98). -/
def R.TK_SEC_LO : RegSpec := ⟨0x10004, [], 0x0, 0x0, 0x0, 0x0, 0x0, false, false⟩
/-- TK_SEC_HI (R98). -/
def R.TK_SEC_HI : RegSpec := ⟨0x10008, [], 0x0, 0x0, 0x0, 0x0, 0x0, false, false⟩
/-- TK_NS (R98). -/
def R.TK_NS : RegSpec := ⟨0x1000c, [], 0x0, 0x0, 0x0, 0x0, 0x0, false, false⟩
/-- TK_FRAC (R98). -/
def R.TK_FRAC : RegSpec := ⟨0x10010, [], 0x0, 0x0, 0x0, 0x0, 0x0, false, false⟩
/-- TK_TICK_LO (R98). -/
def R.TK_TICK_LO : RegSpec := ⟨0x10014, [], 0x0, 0x0, 0x0, 0x0, 0x0, false, false⟩
/-- TK_TICK_HI (R98). -/
def R.TK_TICK_HI : RegSpec := ⟨0x10018, [], 0x0, 0x0, 0x0, 0x0, 0x0, false, false⟩
/-- TK_STEP_SEC_LO (R98). -/
def R.TK_STEP_SEC_LO : RegSpec := ⟨0x1001c, [], 0x0, 0xffffffff, 0x0, 0x0, 0x0, false, false⟩
/-- TK_STEP_SEC_HI (R98). -/
def R.TK_STEP_SEC_HI : RegSpec := ⟨0x10020, [], 0x0, 0xffff, 0x0, 0x0, 0x0, false, false⟩
/-- TK_STEP_NS (R98). -/
def R.TK_STEP_NS : RegSpec := ⟨0x10024, [], 0x0, 0x3fffffff, 0x0, 0x0, 0x80000000, false, false⟩
/-- TK_ADDEND_LO (R98). -/
def R.TK_ADDEND_LO : RegSpec := ⟨0x10028, [], 0x0, 0xffffffff, 0x0, 0x0, 0x0, false, false⟩
/-- TK_ADDEND_HI (R98). -/
def R.TK_ADDEND_HI : RegSpec := ⟨0x1002c, [], 0x28, 0xff, 0x0, 0x0, 0x0, false, false⟩
/-- TK_SLEW (R98). -/
def R.TK_SLEW : RegSpec := ⟨0x10030, [], 0x0, 0xffffffff, 0x0, 0x0, 0x0, false, false⟩
/-- TK_PPS_CTRL (R98). -/
def R.TK_PPS_CTRL : RegSpec := ⟨0x10034, [], 0x2600, 0x3ff01, 0x0, 0x0, 0x0, false, false⟩
/-- TK_PPS_CAP_SEC (R98). -/
def R.TK_PPS_CAP_SEC : RegSpec := ⟨0x10038, [], 0x0, 0x0, 0x0, 0x0, 0x0, false, false⟩
/-- TK_PPS_CAP_NS (R98). -/
def R.TK_PPS_CAP_NS : RegSpec := ⟨0x1003c, [], 0x0, 0x0, 0x80000000, 0x0, 0x0, false, false⟩
/-- TK_PPS_OUT (R98). -/
def R.TK_PPS_OUT : RegSpec := ⟨0x10040, [], 0x64, 0x8000007f, 0x0, 0x0, 0x0, false, false⟩
/-- TK_PPS_OFS (R98). -/
def R.TK_PPS_OFS : RegSpec := ⟨0x10044, [], 0x0, 0x3fffffff, 0x0, 0x0, 0x0, false, false⟩
/-- TK_EVT (R98). -/
def R.TK_EVT : RegSpec := ⟨0x10048, [], 0x0, 0x0, 0x7f, 0x0, 0x0, false, false⟩
/-- TK_CMPn_CFG (R98). -/
def R.TK_CMP_CFG : RegSpec := ⟨0x10100, [⟨0x10, 8, 0⟩], 0x0, 0x8f00ffff, 0x0, 0x0, 0x0, false, true⟩
/-- TK_CMPn_THR (R98). -/
def R.TK_CMP_THR : RegSpec := ⟨0x10104, [⟨0x10, 8, 0⟩], 0x0, 0xffffffff, 0x0, 0x0, 0x0, false, true⟩
/-- TK_CMPn_STAT (R98). -/
def R.TK_CMP_STAT : RegSpec := ⟨0x10108, [⟨0x10, 8, 0⟩], 0x0, 0x0, 0x80000000, 0x0, 0x0, false, false⟩
/-- TK_CMPn_CNT (R98). -/
def R.TK_CMP_CNT : RegSpec := ⟨0x1010c, [⟨0x10, 8, 0⟩], 0x0, 0xffffffff, 0x0, 0x0, 0x0, false, false⟩
/-- TK_VIN_TRACK (R98). -/
def R.TK_VIN_TRACK : RegSpec := ⟨0x10180, [], 0x55, 0xff, 0x0, 0x0, 0x0, false, false⟩
/-- TK_RET_ADDR (R98). -/
def R.TK_RET_ADDR : RegSpec := ⟨0x10200, [], 0x0, 0x3fffc, 0x0, 0x0, 0x0, false, false⟩
/-- TK_RET_DATA (R98). -/
def R.TK_RET_DATA : RegSpec := ⟨0x10204, [], 0x0, 0x0, 0x0, 0x0, 0x0, false, false⟩
/-- TK_JRNL_HEAD (R98). -/
def R.TK_JRNL_HEAD : RegSpec := ⟨0x10208, [], 0x0, 0x0, 0x0, 0x0, 0x0, false, false⟩
/-- TK_JRNL_COUNT (R98). -/
def R.TK_JRNL_COUNT : RegSpec := ⟨0x1020c, [], 0x0, 0x0, 0x0, 0x0, 0x0, false, false⟩
/-- TK_WAKE_CTRL (R98). -/
def R.TK_WAKE_CTRL : RegSpec := ⟨0x10210, [], 0x4, 0x6, 0x0, 0x1, 0x0, false, false⟩
/-- TK_WAKE_SEC (R98). -/
def R.TK_WAKE_SEC : RegSpec := ⟨0x10214, [], 0x0, 0xffffffff, 0x0, 0x0, 0x0, false, false⟩
/-- TK_LM_HEAD (R98). -/
def R.TK_LM_HEAD : RegSpec := ⟨0x10218, [], 0x0, 0x0, 0x0, 0x0, 0x0, false, false⟩
/-- PS_STATUS (R99). -/
def R.PS_STATUS : RegSpec := ⟨0x20000, [], 0x0, 0xe0, 0x0, 0x0, 0x0, false, false⟩
/-- PS_CTRL (R99). -/
def R.PS_CTRL : RegSpec := ⟨0x20004, [], 0x0, 0x0, 0x0, 0x1, 0x0, false, false⟩
/-- PS_VIN (R99). -/
def R.PS_VIN : RegSpec := ⟨0x20008, [], 0xffff, 0xffff, 0x0, 0x0, 0x0, false, false⟩
/-- PS_IIN (R99). -/
def R.PS_IIN : RegSpec := ⟨0x2000c, [], 0x0, 0xffff0000, 0x0, 0x0, 0x0, false, false⟩
/-- PS_PIN (R99). -/
def R.PS_PIN : RegSpec := ⟨0x20010, [], 0x0, 0x0, 0x0, 0x0, 0x0, false, false⟩
/-- MD_MODE (R124). -/
def R.MD_MODE : RegSpec := ⟨0x30000, [], 0x2, 0x0, 0x0, 0x0, 0x0, false, false⟩
/-- MD_EPOCH (R124). -/
def R.MD_EPOCH : RegSpec := ⟨0x30004, [], 0x0, 0x0, 0x0, 0x0, 0x0, false, false⟩
/-- MD_DRAIN_EPOCH (R124). -/
def R.MD_DRAIN_EPOCH : RegSpec := ⟨0x30008, [], 0x0, 0x0, 0x0, 0x0, 0x0, false, false⟩
/-- MD_DRAIN_CNT_b (R124). -/
def R.MD_DRAIN_CNT : RegSpec := ⟨0x3000c, [⟨0x4, 2, 0⟩], 0x80000000, 0x0, 0x0, 0x0, 0x0, false, false⟩
/-- MD_RESID (R124). -/
def R.MD_RESID : RegSpec := ⟨0x30014, [], 0xfa0, 0xffff, 0x0, 0x0, 0x0, false, false⟩
/-- MD_DRAIN_LEFT (R124). -/
def R.MD_DRAIN_LEFT : RegSpec := ⟨0x30018, [], 0x0, 0xffffffff, 0x0, 0x0, 0x0, false, false⟩
/-- MD_COMMIT_SEC_LO (R124). -/
def R.MD_COMMIT_SEC_LO : RegSpec := ⟨0x30020, [], 0x0, 0xffffffff, 0x0, 0x0, 0x0, false, false⟩
/-- MD_COMMIT_SEC_HI (R124). -/
def R.MD_COMMIT_SEC_HI : RegSpec := ⟨0x30024, [], 0x0, 0xffff, 0x0, 0x0, 0x0, false, false⟩
/-- MD_COMMIT_NS (R124). -/
def R.MD_COMMIT_NS : RegSpec := ⟨0x30028, [], 0x0, 0x3fffffff, 0x0, 0x0, 0x0, false, false⟩
/-- MD_COMMIT_CTRL (R124). -/
def R.MD_COMMIT_CTRL : RegSpec := ⟨0x3002c, [], 0x0, 0x37, 0x0, 0x80000000, 0x0, false, false⟩
/-- MD_COMMIT_STAT (R124). -/
def R.MD_COMMIT_STAT : RegSpec := ⟨0x30030, [], 0x0, 0x0, 0x0, 0x0, 0x0, false, false⟩
/-- MD_PREP_GUARD (R124). -/
def R.MD_PREP_GUARD : RegSpec := ⟨0x30034, [], 0x14, 0xff, 0x0, 0x0, 0x0, false, false⟩
/-- MD_COMMIT_PREP (R124). -/
def R.MD_COMMIT_PREP : RegSpec := ⟨0x30038, [], 0x0, 0x0, 0x0, 0x0, 0x0, false, false⟩
/-- MD_COMMIT_APPLIED (R124). -/
def R.MD_COMMIT_APPLIED : RegSpec := ⟨0x3003c, [], 0x0, 0x0, 0x0, 0x0, 0x0, false, false⟩
/-- MD_RESET (R124). -/
def R.MD_RESET : RegSpec := ⟨0x30040, [], 0x0, 0x0, 0x80000000, 0x0, 0x7, false, false⟩
/-- MD_STR_MASK (R124). -/
def R.MD_STR_MASK : RegSpec := ⟨0x30044, [], 0x0, 0xffffffff, 0x0, 0x0, 0x0, false, false⟩
/-- MD_EVT (R124). -/
def R.MD_EVT : RegSpec := ⟨0x30048, [], 0x0, 0x0, 0x3f, 0x0, 0x0, false, false⟩
/-- MD_LAST_RESET (R124). -/
def R.MD_LAST_RESET : RegSpec := ⟨0x3004c, [], 0x0, 0x0, 0x0, 0x0, 0x0, false, false⟩
/-- MD_UNIT_MODE_x (R124). -/
def R.MD_UNIT_MODE : RegSpec := ⟨0x30100, [⟨0x4, 13, 0⟩], 0x0, 0x0, 0x0, 0x0, 0x0, false, false⟩
/-- PB_STATUS (R160). -/
def R.PB_STATUS : RegSpec := ⟨0x40000, [], 0x80000000, 0x0, 0x0, 0x0, 0x0, false, false⟩
/-- PB_SEQ_A (R160). -/
def R.PB_SEQ_A : RegSpec := ⟨0x40004, [], 0x0, 0x0, 0x0, 0x0, 0x0, false, false⟩
/-- PB_SEQ_B (R160). -/
def R.PB_SEQ_B : RegSpec := ⟨0x40008, [], 0x0, 0x0, 0x0, 0x0, 0x0, false, false⟩
/-- PB_ATTEMPTS (R160). -/
def R.PB_ATTEMPTS : RegSpec := ⟨0x4000c, [], 0x0, 0xffff, 0x0, 0x0, 0x0, false, false⟩
/-- PB_IMAGE_ID_LO (R160). -/
def R.PB_IMAGE_ID_LO : RegSpec := ⟨0x40010, [], 0x0, 0x0, 0x0, 0x0, 0x0, false, false⟩
/-- PB_IMAGE_ID_HI (R160). -/
def R.PB_IMAGE_ID_HI : RegSpec := ⟨0x40014, [], 0x0, 0x0, 0x0, 0x0, 0x0, false, false⟩
/-- PB_LOAD_US (R160). -/
def R.PB_LOAD_US : RegSpec := ⟨0x40018, [], 0x0, 0x0, 0x0, 0x0, 0x0, false, false⟩
/-- PB_RPT_ADDR (R160). -/
def R.PB_RPT_ADDR : RegSpec := ⟨0x40020, [], 0x0, 0xfffc, 0x0, 0x0, 0x0, false, false⟩
/-- PB_RPT_DATA (R160). -/
def R.PB_RPT_DATA : RegSpec := ⟨0x40024, [], 0x0, 0x0, 0x0, 0x0, 0x0, false, false⟩
/-- PB_FLASH_ADDR (R160). -/
def R.PB_FLASH_ADDR : RegSpec := ⟨0x40030, [], 0x0, 0x3fffff00, 0x0, 0x0, 0x0, false, false⟩
/-- PB_FLASH_CMD (R160). -/
def R.PB_FLASH_CMD : RegSpec := ⟨0x40034, [], 0x0, 0x3, 0x60000000, 0x80000000, 0x0, false, false⟩
/-- PB_FUSE_KEYS (R160). -/
def R.PB_FUSE_KEYS : RegSpec := ⟨0x40040, [], 0x0, 0x0, 0x0, 0x0, 0x0, false, true⟩
/-- PB_FUSE_SECVER (R160). -/
def R.PB_FUSE_SECVER : RegSpec := ⟨0x40044, [], 0x0, 0x0, 0x0, 0x0, 0x0, false, true⟩
/-- PB_EVT (R160). -/
def R.PB_EVT : RegSpec := ⟨0x40048, [], 0x0, 0x0, 0x3, 0x0, 0x0, false, false⟩
/-- PB_FUSE_PROG (R160). -/
def R.PB_FUSE_PROG : RegSpec := ⟨0x4004c, [], 0x0, 0x3f, 0x40000000, 0x80000000, 0x0, false, false⟩
/-- PB_FLASH_DATA (R160). -/
def R.PB_FLASH_DATA : RegSpec := ⟨0x40100, [⟨0x4, 128, 0⟩], 0x0, 0xffffffff, 0x0, 0x0, 0x0, false, false⟩
/-- PT_CTRL (R65). -/
def R.PT_CTRL : RegSpec := ⟨0x50000, [], 0x70, 0xf0, 0x0, 0x0, 0x0, false, false⟩
/-- PT_FLOOR_SKIRT (R65). -/
def R.PT_FLOOR_SKIRT : RegSpec := ⟨0x50004, [], 0xc4e, 0xffff, 0x0, 0x0, 0x0, false, false⟩
/-- PT_FLOOR_GIRTH (R65). -/
def R.PT_FLOOR_GIRTH : RegSpec := ⟨0x50008, [], 0x41a0, 0xffff, 0x0, 0x0, 0x0, false, false⟩
/-- PT_FLOOR_TREE (R65). -/
def R.PT_FLOOR_TREE : RegSpec := ⟨0x5000c, [], 0x4ec, 0xffff, 0x0, 0x0, 0x0, false, false⟩
/-- PT_VFIX (R65). -/
def R.PT_VFIX : RegSpec := ⟨0x50010, [], 0x2ee, 0x3ff, 0x0, 0x0, 0x0, false, false⟩
/-- PT_PLAN_CFG (R65). -/
def R.PT_PLAN_CFG : RegSpec := ⟨0x50014, [], 0x190303e8, 0xffffffff, 0x0, 0x0, 0x0, false, false⟩
/-- PT_WINDOW (R65). -/
def R.PT_WINDOW : RegSpec := ⟨0x50018, [], 0xa, 0xf, 0x0, 0x0, 0x0, false, false⟩
/-- PT_NM_LIMIT (R65). -/
def R.PT_NM_LIMIT : RegSpec := ⟨0x5001c, [], 0x4, 0xffff, 0x0, 0x0, 0x0, false, false⟩
/-- PT_REPLAN (R65). -/
def R.PT_REPLAN : RegSpec := ⟨0x50020, [], 0x0, 0x0, 0x0, 0x1fff, 0x0, false, false⟩
/-- PT_EVT (R65). -/
def R.PT_EVT : RegSpec := ⟨0x50024, [], 0x0, 0x0, 0x3f, 0x0, 0x0, false, false⟩
/-- PT_PACE_m (R65). -/
def R.PT_PACE : RegSpec := ⟨0x50100, [⟨0x8, 74, 0⟩], 0x0, 0x0, 0x60000000, 0x0, 0x0, false, false⟩
/-- PT_PACE_MIN_m (R65). -/
def R.PT_PACE_MIN : RegSpec := ⟨0x50104, [⟨0x8, 74, 0⟩], 0xffff, 0xffff, 0x0, 0x0, 0x0, false, false⟩
/-- PT_VCORE_x (R65). -/
def R.PT_VCORE : RegSpec := ⟨0x50400, [⟨0x20, 13, 0⟩], 0x0, 0x0, 0x0, 0x0, 0x0, false, false⟩
/-- PT_LOOP_x (R65). -/
def R.PT_LOOP : RegSpec := ⟨0x50404, [⟨0x20, 13, 0⟩], 0x0, 0x0, 0x0, 0x0, 0x0, false, false⟩
/-- PT_RESERVE_x (R65). -/
def R.PT_RESERVE : RegSpec := ⟨0x50408, [⟨0x20, 13, 0⟩], 0xffff0000, 0x0, 0x0, 0x0, 0x0, false, false⟩
/-- PT_WEAR_x (R65). -/
def R.PT_WEAR : RegSpec := ⟨0x5040c, [⟨0x20, 13, 0⟩], 0x0, 0x0, 0x0, 0x0, 0x0, false, false⟩
/-- PT_EQH_x (R65). -/
def R.PT_EQH : RegSpec := ⟨0x50410, [⟨0x20, 13, 0⟩], 0x0, 0x0, 0x0, 0x0, 0x0, false, false⟩
/-- PT_PLANTIME_x (R65). -/
def R.PT_PLANTIME : RegSpec := ⟨0x50414, [⟨0x20, 13, 0⟩], 0x0, 0x0, 0x0, 0x0, 0x0, false, false⟩
/-- PT_CLAIM_x (R65). -/
def R.PT_CLAIM : RegSpec := ⟨0x50418, [⟨0x20, 13, 0⟩], 0x0, 0x0, 0x0, 0x0, 0x0, false, false⟩
/-- PT_CLAIMCNT_x (R65). -/
def R.PT_CLAIMCNT : RegSpec := ⟨0x5041c, [⟨0x20, 13, 0⟩], 0x0, 0xffffffff, 0x0, 0x0, 0x0, false, false⟩
/-- PT_ACT_a (R65). -/
def R.PT_ACT : RegSpec := ⟨0x50600, [⟨0x4, 5, 1⟩], 0x0, 0xffff03ff, 0x0, 0x0, 0x0, false, true⟩
/-- EV_TOP (R539). -/
def R.EV_TOP : RegSpec := ⟨0x80000, [], 0x0, 0x0, 0x0, 0x0, 0x0, false, false⟩
/-- EV_PEND2_v (R539). -/
def R.EV_PEND2 : RegSpec := ⟨0x80040, [⟨0x4, 4, 0⟩], 0x0, 0x0, 0x0, 0x0, 0x0, false, false⟩
/-- EV_PEND_w (R539). -/
def R.EV_PEND : RegSpec := ⟨0x80100, [⟨0x4, 128, 0⟩], 0x0, 0x0, 0x0, 0x0, 0x0, false, false⟩
/-- EV_STAT (R539). -/
def R.EV_STAT : RegSpec := ⟨0x80300, [], 0x0, 0x0, 0x80000000, 0x0, 0x0, false, false⟩
/-- EV_LOST (R539). -/
def R.EV_LOST : RegSpec := ⟨0x80304, [], 0x0, 0xffffffff, 0x0, 0x0, 0x0, false, false⟩
/-- EV_SRC_s (R539). -/
def R.EV_SRC : RegSpec := ⟨0x81000, [⟨0x4, 4096, 0⟩], 0x0, 0xfc0007ff, 0x0, 0x0, 0x0, false, false⟩
/-- FT_EVT (R551). -/
def R.FT_EVT : RegSpec := ⟨0x90000, [], 0x0, 0x0, 0xf, 0x0, 0x0, false, false⟩
/-- FT_DIE_STAT (R551). -/
def R.FT_DIE_STAT : RegSpec := ⟨0x90004, [], 0x0, 0x0, 0x0, 0x0, 0x0, false, false⟩
/-- FT_LAST (R551). -/
def R.FT_LAST : RegSpec := ⟨0x90008, [], 0x0, 0x0, 0x0, 0x0, 0x0, false, false⟩
/-- FT_HALT (R551). -/
def R.FT_HALT : RegSpec := ⟨0x9000c, [], 0x0, 0x0, 0x0, 0x0, 0x0, false, false⟩
/-- FT_HALT_SEQ (R551). -/
def R.FT_HALT_SEQ : RegSpec := ⟨0x90010, [], 0x0, 0x0, 0x0, 0x0, 0x0, false, false⟩
/-- FT_LONGEST (R551). -/
def R.FT_LONGEST : RegSpec := ⟨0x90014, [], 0x0, 0xffff, 0x0, 0x0, 0x0, false, false⟩
/-- FT_CORRECTED (R551). -/
def R.FT_CORRECTED : RegSpec := ⟨0x90100, [], 0x0, 0x0, 0x0, 0x0, 0x0, true, false⟩
/-- FT_CONTAINED (R551). -/
def R.FT_CONTAINED : RegSpec := ⟨0x90108, [], 0x0, 0x0, 0x0, 0x0, 0x0, true, false⟩
/-- FT_PLANE (R551). -/
def R.FT_PLANE : RegSpec := ⟨0x90110, [], 0x0, 0x0, 0x0, 0x0, 0x0, true, false⟩
/-- FT_DIE (R551). -/
def R.FT_DIE : RegSpec := ⟨0x90118, [], 0x0, 0x0, 0x0, 0x0, 0x0, true, false⟩
/-- PC_DIR_b (R540). -/
def R.PC_DIR : RegSpec := ⟨0xa0000, [⟨0x4, 176, 0⟩], 0x0, 0x0, 0x0, 0x0, 0x0, false, true⟩
/-- PC_FREEZE (R540). -/
def R.PC_FREEZE : RegSpec := ⟨0xa0300, [], 0x0, 0x1fff, 0x0, 0x0, 0x0, false, false⟩
/-- PC_BW_WIN (R540). -/
def R.PC_BW_WIN : RegSpec := ⟨0xa0400, [], 0x3e8, 0xfffff, 0x0, 0x0, 0x0, false, false⟩
/-- SM_CFG (R540). -/
def R.SM_CFG : RegSpec := ⟨0xa0500, [], 0x10000000, 0x9f000001, 0x0, 0x0, 0x0, false, false⟩
/-- SM_RING (R540). -/
def R.SM_RING : RegSpec := ⟨0xa0504, [], 0x0, 0x7ff, 0x0, 0x0, 0x0, false, false⟩
/-- SM_RATE (R540). -/
def R.SM_RATE : RegSpec := ⟨0xa0508, [], 0x2710, 0xffffffff, 0x0, 0x0, 0x0, false, false⟩
/-- SM_BURST (R540). -/
def R.SM_BURST : RegSpec := ⟨0xa050c, [], 0x40, 0xffff, 0x0, 0x0, 0x0, false, false⟩
/-- SM_TAGGED (R540). -/
def R.SM_TAGGED : RegSpec := ⟨0xa0600, [], 0x0, 0x0, 0x0, 0x0, 0x0, true, false⟩
/-- SM_RATE_DROP (R540). -/
def R.SM_RATE_DROP : RegSpec := ⟨0xa0608, [], 0x0, 0x0, 0x0, 0x0, 0x0, true, false⟩
/-- PC_CTRL (R540). -/
def R.PC_CTRL : RegSpec := ⟨0xa1000, [⟨0x100, 176, 0⟩], 0x80000000, 0xc0000000, 0x0, 0x0, 0x0, false, false⟩
/-- PC_OVF (R540). -/
def R.PC_OVF : RegSpec := ⟨0xa1004, [⟨0x100, 176, 0⟩], 0x0, 0x0, 0xff, 0x0, 0x0, false, false⟩
/-- PC_TICK_LO (R540). -/
def R.PC_TICK_LO : RegSpec := ⟨0xa1008, [⟨0x100, 176, 0⟩], 0x0, 0x0, 0x0, 0x0, 0x0, false, false⟩
/-- PC_TICK_HI (R540). -/
def R.PC_TICK_HI : RegSpec := ⟨0xa100c, [⟨0x100, 176, 0⟩], 0x0, 0x0, 0x0, 0x0, 0x0, false, false⟩
/-- PC_SNAP (R540). -/
def R.PC_SNAP : RegSpec := ⟨0xa1010, [⟨0x100, 176, 0⟩], 0x0, 0x0, 0x0, 0x0, 0x0, false, false⟩
/-- PC_TWIN (R540). -/
def R.PC_TWIN : RegSpec := ⟨0xa1014, [⟨0x100, 176, 0⟩], 0x0, 0x7fff3fff, 0x0, 0x0, 0x0, false, false⟩
/-- PC_SEL_n (R540). -/
def R.PC_SEL : RegSpec := ⟨0xa1020, [⟨0x100, 176, 0⟩, ⟨0x10, 8, 0⟩], 0x0, 0x80000fff, 0x0, 0x0, 0x0, false, false⟩
/-- PC_CNT_n_LO (R540). -/
def R.PC_CNT_n_LO : RegSpec := ⟨0xa1024, [⟨0x100, 176, 0⟩, ⟨0x10, 8, 0⟩], 0x0, 0x0, 0x0, 0x0, 0x0, false, false⟩
/-- PC_CNT_n_HI (R540). -/
def R.PC_CNT_n_HI : RegSpec := ⟨0xa1028, [⟨0x100, 176, 0⟩, ⟨0x10, 8, 0⟩], 0x0, 0x0, 0x0, 0x0, 0x0, false, false⟩
/-- PC_BW_RX_p (R540). -/
def R.PC_BW_RX : RegSpec := ⟨0xac000, [⟨0x8, 512, 0⟩], 0x0, 0x0, 0x0, 0x0, 0x0, false, false⟩
/-- PC_BW_TX_p (R540). -/
def R.PC_BW_TX : RegSpec := ⟨0xac004, [⟨0x8, 512, 0⟩], 0x0, 0x0, 0x0, 0x0, 0x0, false, false⟩
/-- PC_BW_PEAK_p (R540). -/
def R.PC_BW_PEAK : RegSpec := ⟨0xad000, [⟨0x8, 512, 0⟩], 0x0, 0xffffffff, 0x0, 0x0, 0x0, false, false⟩
/-- RC_STAT (R496). -/
def R.RC_STAT : RegSpec := ⟨0x100000, [], 0x0, 0x0, 0x0, 0x0, 0x0, false, false⟩
/-- RC_HALT_IDX (R496). -/
def R.RC_HALT_IDX : RegSpec := ⟨0x100004, [], 0x0, 0x0, 0x0, 0x0, 0x0, false, false⟩
/-- RC_CTRL (R496). -/
def R.RC_CTRL : RegSpec := ⟨0x100008, [], 0x80000000, 0x800007ff, 0x0, 0x0, 0x0, false, false⟩
/-- RC_RX_FLUSH (R496). -/
def R.RC_RX_FLUSH : RegSpec := ⟨0x10000c, [], 0x64, 0x3fff, 0x0, 0x0, 0x0, false, false⟩
/-- RC_LEARN (R496). -/
def R.RC_LEARN : RegSpec := ⟨0x100010, [], 0x0, 0x800007ff, 0x0, 0x0, 0x0, false, false⟩
/-- RC_EVT (R496). -/
def R.RC_EVT : RegSpec := ⟨0x100014, [], 0x0, 0x0, 0x7, 0x0, 0x0, false, false⟩
/-- RC_HALT_DESC_i (R496). -/
def R.RC_HALT_DESC : RegSpec := ⟨0x100100, [⟨0x4, 16, 0⟩], 0x0, 0x0, 0x0, 0x0, 0x0, false, false⟩
/-- RC_DONE (R496). -/
def R.RC_DONE : RegSpec := ⟨0x100800, [], 0x0, 0x0, 0x0, 0x0, 0x0, true, false⟩
/-- RC_REFETCH (R496). -/
def R.RC_REFETCH : RegSpec := ⟨0x100808, [], 0x0, 0x0, 0x0, 0x0, 0x0, true, false⟩
/-- RC_CQ_STALL (R496). -/
def R.RC_CQ_STALL : RegSpec := ⟨0x100810, [], 0x0, 0x0, 0x0, 0x0, 0x0, true, false⟩
/-- RC_RX_DROP (R496). -/
def R.RC_RX_DROP : RegSpec := ⟨0x100818, [], 0x0, 0x0, 0x0, 0x0, 0x0, true, false⟩
/-- RC_FENCE_LOST (R496). -/
def R.RC_FENCE_LOST : RegSpec := ⟨0x100820, [], 0x0, 0x0, 0x0, 0x0, 0x0, true, false⟩
/-- RC_SQ_BASE_LO (R497). -/
def R.RC_SQ_BASE_LO : RegSpec := ⟨0x110000, [⟨0x20, 2048, 0⟩], 0x0, 0xfffff000, 0x0, 0x0, 0x0, false, false⟩
/-- RC_SQ_BASE_HI (R497). -/
def R.RC_SQ_BASE_HI : RegSpec := ⟨0x110004, [⟨0x20, 2048, 0⟩], 0x0, 0xffffffff, 0x0, 0x0, 0x0, false, false⟩
/-- RC_SQ_CFG (R497). -/
def R.RC_SQ_CFG : RegSpec := ⟨0x110008, [⟨0x20, 2048, 0⟩], 0x0, 0xfffc07ff, 0x0, 0x0, 0x0, false, false⟩
/-- RC_SQ_PASID (R497). -/
def R.RC_SQ_PASID : RegSpec := ⟨0x11000c, [⟨0x20, 2048, 0⟩], 0x0, 0x800fffff, 0x0, 0x0, 0x0, false, false⟩
/-- RC_SQ_STAT (R497). -/
def R.RC_SQ_STAT : RegSpec := ⟨0x110010, [⟨0x20, 2048, 0⟩], 0x80000000, 0x0, 0x40000000, 0x0, 0x0, false, false⟩
/-- RC_SQ_TAIL (R497). -/
def R.RC_SQ_TAIL : RegSpec := ⟨0x110014, [⟨0x20, 2048, 0⟩], 0x0, 0x0, 0x0, 0x0, 0x0, false, false⟩
/-- RC_CQ_BASE_LO (R498). -/
def R.RC_CQ_BASE_LO : RegSpec := ⟨0x120000, [⟨0x20, 2048, 0⟩], 0x0, 0xfffff000, 0x0, 0x0, 0x0, false, false⟩
/-- RC_CQ_BASE_HI (R498). -/
def R.RC_CQ_BASE_HI : RegSpec := ⟨0x120004, [⟨0x20, 2048, 0⟩], 0x0, 0xffffffff, 0x0, 0x0, 0x0, false, false⟩
/-- RC_CQ_CFG (R498). -/
def R.RC_CQ_CFG : RegSpec := ⟨0x120008, [⟨0x20, 2048, 0⟩], 0x0, 0xffe007ff, 0x0, 0x0, 0x0, false, false⟩
/-- RC_CQ_PASID (R498). -/
def R.RC_CQ_PASID : RegSpec := ⟨0x12000c, [⟨0x20, 2048, 0⟩], 0x0, 0x800fffff, 0x0, 0x0, 0x0, false, false⟩
/-- RC_CQ_COAL (R498). -/
def R.RC_CQ_COAL : RegSpec := ⟨0x120010, [⟨0x20, 2048, 0⟩], 0x1, 0xffffffff, 0x0, 0x0, 0x0, false, false⟩
/-- RC_CQ_STAT (R498). -/
def R.RC_CQ_STAT : RegSpec := ⟨0x120014, [⟨0x20, 2048, 0⟩], 0x0, 0x0, 0x40000000, 0x0, 0x0, false, false⟩
/-- RC_CQ_HEAD (R498). -/
def R.RC_CQ_HEAD : RegSpec := ⟨0x120018, [⟨0x20, 2048, 0⟩], 0x0, 0x0, 0x0, 0x0, 0x0, false, false⟩
/-- RC_ER_BASE_LO (R499). -/
def R.RC_ER_BASE_LO : RegSpec := ⟨0x130000, [⟨0x20, 64, 0⟩], 0x0, 0xfffff000, 0x0, 0x0, 0x0, false, false⟩
/-- RC_ER_BASE_HI (R499). -/
def R.RC_ER_BASE_HI : RegSpec := ⟨0x130004, [⟨0x20, 64, 0⟩], 0x0, 0xffffffff, 0x0, 0x0, 0x0, false, false⟩
/-- RC_ER_CFG (R499). -/
def R.RC_ER_CFG : RegSpec := ⟨0x130008, [⟨0x20, 64, 0⟩], 0x0, 0xffe007ff, 0x0, 0x0, 0x0, false, false⟩
/-- RC_ER_PASID (R499). -/
def R.RC_ER_PASID : RegSpec := ⟨0x13000c, [⟨0x20, 64, 0⟩], 0x0, 0x800fffff, 0x0, 0x0, 0x0, false, false⟩
/-- RC_ER_STAT (R499). -/
def R.RC_ER_STAT : RegSpec := ⟨0x130010, [⟨0x20, 64, 0⟩], 0x0, 0x0, 0x40000000, 0x0, 0x0, false, false⟩
/-- RC_ER_HEAD (R499). -/
def R.RC_ER_HEAD : RegSpec := ⟨0x130014, [⟨0x20, 64, 0⟩], 0x0, 0x1ffff, 0x0, 0x0, 0x0, false, false⟩
/-- RC_ER_LOST_r (R499). -/
def R.RC_ER_LOST : RegSpec := ⟨0x130018, [⟨0x20, 64, 0⟩], 0x0, 0xffffffff, 0x0, 0x0, 0x0, false, false⟩
/-- RC_FN_OPS_f (R500). -/
def R.RC_FN_OPS : RegSpec := ⟨0x131000, [⟨0x20, 15, 1⟩], 0x0, 0xfff, 0x0, 0x0, 0x0, false, false⟩
/-- RC_FN_TEN_f (R500). -/
def R.RC_FN_TEN : RegSpec := ⟨0x131004, [⟨0x20, 15, 1⟩], 0x0, 0x7fff3fff, 0x0, 0x0, 0x0, false, false⟩
/-- RC_FN_FEAT_f (R500). -/
def R.RC_FN_FEAT : RegSpec := ⟨0x131008, [⟨0x20, 15, 1⟩], 0x0, 0xffff0000, 0x0, 0x0, 0x0, false, false⟩
/-- RC_FN_STAT_f (R500). -/
def R.RC_FN_STAT : RegSpec := ⟨0x13100c, [⟨0x20, 15, 1⟩], 0x0, 0x0, 0x0, 0x0, 0x0, false, false⟩
/-- TR_PRI_TMO (R520). -/
def R.TR_PRI_TMO : RegSpec := ⟨0x200000, [], 0x3e8, 0xffff, 0x0, 0x0, 0x0, false, false⟩
/-- TR_STAT (R520). -/
def R.TR_STAT : RegSpec := ⟨0x200004, [], 0x0, 0x0, 0x0, 0x0, 0x0, false, false⟩
/-- TR_EVT (R520). -/
def R.TR_EVT : RegSpec := ⟨0x200008, [], 0x0, 0x0, 0x7, 0x0, 0x0, false, false⟩
/-- TR_PARK_SEL (R520). -/
def R.TR_PARK_SEL : RegSpec := ⟨0x200010, [], 0x0, 0x1fff, 0x0, 0x0, 0x0, false, false⟩
/-- TR_PARK_STAT (R520). -/
def R.TR_PARK_STAT : RegSpec := ⟨0x200014, [], 0x0, 0x0, 0x0, 0x0, 0x0, false, false⟩
/-- TR_PARK_OFF (R520). -/
def R.TR_PARK_OFF : RegSpec := ⟨0x200018, [], 0x0, 0x0, 0x0, 0x0, 0x0, false, false⟩
/-- TR_PARK_VA_LO (R520). -/
def R.TR_PARK_VA_LO : RegSpec := ⟨0x20001c, [], 0x0, 0x0, 0x0, 0x0, 0x0, false, false⟩
/-- TR_PARK_VA_HI (R520). -/
def R.TR_PARK_VA_HI : RegSpec := ⟨0x200020, [], 0x0, 0x0, 0x0, 0x0, 0x0, false, false⟩
/-- TR_ENG_PASID_e (R520). -/
def R.TR_ENG_PASID : RegSpec := ⟨0x200100, [⟨0x4, 32, 0⟩], 0x0, 0x800fffff, 0x0, 0x0, 0x0, false, false⟩
/-- TR_TLB_HIT (R520). -/
def R.TR_TLB_HIT : RegSpec := ⟨0x200800, [], 0x0, 0x0, 0x0, 0x0, 0x0, true, false⟩
/-- TR_TLB_MISS (R520). -/
def R.TR_TLB_MISS : RegSpec := ⟨0x200808, [], 0x0, 0x0, 0x0, 0x0, 0x0, true, false⟩
/-- TR_PRI_REQ (R520). -/
def R.TR_PRI_REQ : RegSpec := ⟨0x200810, [], 0x0, 0x0, 0x0, 0x0, 0x0, true, false⟩
/-- TR_INVAL (R520). -/
def R.TR_INVAL : RegSpec := ⟨0x200818, [], 0x0, 0x0, 0x0, 0x0, 0x0, true, false⟩
/-- TR_XLATE_ERR (R520). -/
def R.TR_XLATE_ERR : RegSpec := ⟨0x200820, [], 0x0, 0x0, 0x0, 0x0, 0x0, true, false⟩
/-- DM_CFG (R521). -/
def R.DM_CFG : RegSpec := ⟨0x300000, [], 0x0, 0x0, 0x0, 0x0, 0x0, false, false⟩
/-- DM_SIZE (R521). -/
def R.DM_SIZE : RegSpec := ⟨0x300004, [], 0x0, 0x0, 0x0, 0x0, 0x0, false, false⟩
/-- DM_SPARE (R521). -/
def R.DM_SPARE : RegSpec := ⟨0x300008, [], 0x0, 0x0, 0x0, 0x0, 0x0, false, false⟩
/-- DM_RETRAIN (R521). -/
def R.DM_RETRAIN : RegSpec := ⟨0x30000c, [], 0xa000258, 0xff00ffff, 0x0, 0x0, 0x0, false, false⟩
/-- DM_RETIRE (R521). -/
def R.DM_RETIRE : RegSpec := ⟨0x300010, [], 0x40, 0xffff, 0x0, 0x0, 0x0, false, false⟩
/-- DM_SCRUB (R521). -/
def R.DM_SCRUB : RegSpec := ⟨0x300014, [], 0x18, 0xff, 0x0, 0x0, 0x0, false, false⟩
/-- DM_UE_CAP_LO (R521). -/
def R.DM_UE_CAP_LO : RegSpec := ⟨0x300018, [], 0x0, 0x0, 0x0, 0x0, 0x0, false, false⟩
/-- DM_UE_CAP_HI (R521). -/
def R.DM_UE_CAP_HI : RegSpec := ⟨0x30001c, [], 0x0, 0x0, 0x80000000, 0x0, 0x0, false, false⟩
/-- DM_EVT (R521). -/
def R.DM_EVT : RegSpec := ⟨0x300020, [], 0x0, 0x0, 0xf, 0x0, 0x0, false, false⟩
/-- DM_CH_STAT_c (R521). -/
def R.DM_CH_STAT : RegSpec := ⟨0x300100, [⟨0x4, 8, 0⟩], 0x0, 0x0, 0x0, 0x0, 0x0, false, false⟩
/-- DM_CE_c (R521). -/
def R.DM_CE : RegSpec := ⟨0x300800, [⟨0x20, 8, 0⟩], 0x0, 0x0, 0x0, 0x0, 0x0, true, false⟩
/-- DM_UE_c (R521). -/
def R.DM_UE : RegSpec := ⟨0x300808, [⟨0x20, 8, 0⟩], 0x0, 0x0, 0x0, 0x0, 0x0, true, false⟩
/-- DM_RETRAIN_FAIL_c (R521). -/
def R.DM_RETRAIN_FAIL : RegSpec := ⟨0x300810, [⟨0x20, 8, 0⟩], 0x0, 0x0, 0x0, 0x0, 0x0, true, false⟩
/-- DM_RETIRED (R521). -/
def R.DM_RETIRED : RegSpec := ⟨0x300a00, [], 0x0, 0x0, 0x0, 0x0, 0x0, true, false⟩
/-- DM_UE_DROP (R521). -/
def R.DM_UE_DROP : RegSpec := ⟨0x300a08, [], 0x0, 0x0, 0x0, 0x0, 0x0, true, false⟩
/-- DM_WITHDRAWN (R521). -/
def R.DM_WITHDRAWN : RegSpec := ⟨0x300a10, [], 0x0, 0x0, 0x0, 0x0, 0x0, true, false⟩
/-- ST_UCODE_VER (R458). -/
def R.ST_UCODE_VER : RegSpec := ⟨0x400000, [], 0x0, 0x0, 0x0, 0x0, 0x0, false, false⟩
/-- ST_UCODE_STAT (R458). -/
def R.ST_UCODE_STAT : RegSpec := ⟨0x400004, [], 0x0, 0x0, 0x0, 0x0, 0x0, false, false⟩
/-- ST_MC_CAP (R458). -/
def R.ST_MC_CAP : RegSpec := ⟨0x400008, [], 0x0, 0x0, 0x80000000, 0x0, 0x0, false, false⟩
/-- ST_EVT (R458). -/
def R.ST_EVT : RegSpec := ⟨0x40000c, [], 0x0, 0x0, 0x3, 0x0, 0x0, false, false⟩
/-- ST_PUNT_MAP_r (R458). -/
def R.ST_PUNT_MAP : RegSpec := ⟨0x400100, [⟨0x8, 63, 1⟩], 0x0, 0xc00007ff, 0x0, 0x0, 0x0, false, false⟩
/-- ST_PUNT_ENG_r (R458). -/
def R.ST_PUNT_ENG : RegSpec := ⟨0x400104, [⟨0x8, 63, 1⟩], 0xffffffff, 0xffffffff, 0x0, 0x0, 0x0, false, false⟩
/-- ST_PUNT_NOBUF (R458). -/
def R.ST_PUNT_NOBUF : RegSpec := ⟨0x400400, [], 0x0, 0x0, 0x0, 0x0, 0x0, true, false⟩
/-- ST_PUNT_DEAD (R458). -/
def R.ST_PUNT_DEAD : RegSpec := ⟨0x400408, [], 0x0, 0x0, 0x0, 0x0, 0x0, true, false⟩
/-- ST_PUNT_NOHOST_r (R458). -/
def R.ST_PUNT_NOHOST : RegSpec := ⟨0x400800, [⟨0x8, 63, 1⟩], 0x0, 0x0, 0x0, 0x0, 0x0, true, false⟩
/-- ST_ENG_CTRL (R459). -/
def R.ST_ENG_CTRL : RegSpec := ⟨0x410000, [⟨0x1000, 32, 0⟩], 0x0, 0x80000000, 0x0, 0xffffff, 0x0, false, false⟩
/-- ST_ENG_STAT (R459). -/
def R.ST_ENG_STAT : RegSpec := ⟨0x410004, [⟨0x1000, 32, 0⟩], 0x0, 0x0, 0x0, 0x0, 0x0, false, false⟩
/-- ST_EXC_VEC (R459). -/
def R.ST_EXC_VEC : RegSpec := ⟨0x410008, [⟨0x1000, 32, 0⟩], 0x0, 0x1ffff, 0x0, 0x0, 0x0, false, false⟩
/-- ST_PQ (R459). -/
def R.ST_PQ : RegSpec := ⟨0x41000c, [⟨0x1000, 32, 0⟩], 0x0, 0x0, 0x0, 0x0, 0x0, false, false⟩
/-- ST_CH_STAT (R459). -/
def R.ST_CH_STAT : RegSpec := ⟨0x410010, [⟨0x1000, 32, 0⟩], 0x0, 0x0, 0x0, 0x0, 0x0, false, false⟩
/-- ST_CH_REL (R459). -/
def R.ST_CH_REL : RegSpec := ⟨0x410014, [⟨0x1000, 32, 0⟩], 0x0, 0x0, 0x0, 0xffff, 0x0, false, false⟩
/-- ST_CH_OWNER (R459). -/
def R.ST_CH_OWNER : RegSpec := ⟨0x410018, [⟨0x1000, 32, 0⟩], 0x0, 0x0, 0x0, 0x0, 0x0, false, false⟩
/-- ST_CH_OWNER_HI (R459). -/
def R.ST_CH_OWNER_HI : RegSpec := ⟨0x41001c, [⟨0x1000, 32, 0⟩], 0x0, 0x0, 0x0, 0x0, 0x0, false, false⟩
/-- ST_BRK_n (R459). -/
def R.ST_BRK : RegSpec := ⟨0x410020, [⟨0x1000, 32, 0⟩, ⟨0x4, 4, 0⟩], 0x0, 0x8001ffff, 0x0, 0x0, 0x0, false, false⟩
/-- ST_DBG_SEL (R459). -/
def R.ST_DBG_SEL : RegSpec := ⟨0x410030, [⟨0x1000, 32, 0⟩], 0x0, 0x7ff, 0x0, 0x0, 0x0, false, false⟩
/-- ST_DBG_DATA_LO (R459). -/
def R.ST_DBG_DATA_LO : RegSpec := ⟨0x410034, [⟨0x1000, 32, 0⟩], 0x0, 0xffffffff, 0x0, 0x0, 0x0, false, false⟩
/-- ST_DBG_DATA_HI (R459). -/
def R.ST_DBG_DATA_HI : RegSpec := ⟨0x410038, [⟨0x1000, 32, 0⟩], 0x0, 0xffffffff, 0x0, 0x0, 0x0, false, false⟩
/-- ST_ENG_EVT (R459). -/
def R.ST_ENG_EVT : RegSpec := ⟨0x41003c, [⟨0x1000, 32, 0⟩], 0x0, 0x0, 0xf, 0x0, 0x0, false, false⟩
/-- ST_PUNTS (R460). -/
def R.ST_PUNTS : RegSpec := ⟨0x410800, [⟨0x1000, 32, 0⟩], 0x0, 0x0, 0x0, 0x0, 0x0, true, false⟩
/-- ST_PQ_FULL (R460). -/
def R.ST_PQ_FULL : RegSpec := ⟨0x410808, [⟨0x1000, 32, 0⟩], 0x0, 0x0, 0x0, 0x0, 0x0, true, false⟩
/-- ST_SWITCHES (R460). -/
def R.ST_SWITCHES : RegSpec := ⟨0x410810, [⟨0x1000, 32, 0⟩], 0x0, 0x0, 0x0, 0x0, 0x0, true, false⟩
/-- ST_ALLWAIT (R460). -/
def R.ST_ALLWAIT : RegSpec := ⟨0x410818, [⟨0x1000, 32, 0⟩], 0x0, 0x0, 0x0, 0x0, 0x0, true, false⟩
/-- ST_TIMEOUTS (R460). -/
def R.ST_TIMEOUTS : RegSpec := ⟨0x410820, [⟨0x1000, 32, 0⟩], 0x0, 0x0, 0x0, 0x0, 0x0, true, false⟩
/-- ST_MCHECK (R460). -/
def R.ST_MCHECK : RegSpec := ⟨0x410828, [⟨0x1000, 32, 0⟩], 0x0, 0x0, 0x0, 0x0, 0x0, true, false⟩
/-- ST_FAULTS (R460). -/
def R.ST_FAULTS : RegSpec := ⟨0x410830, [⟨0x1000, 32, 0⟩], 0x0, 0x0, 0x0, 0x0, 0x0, true, false⟩
/-- ST_RESET_DROP (R460). -/
def R.ST_RESET_DROP : RegSpec := ⟨0x410838, [⟨0x1000, 32, 0⟩], 0x0, 0x0, 0x0, 0x0, 0x0, true, false⟩
/-- PG_GRP_CFG (R189). -/
def R.PG_GRP_CFG : RegSpec := ⟨0x800000, [⟨0x100000, 8, 0⟩, ⟨0x100, 8, 0⟩], 0x0, 0xff00ff, 0x0, 0x0, 0x0, false, false⟩
/-- PG_GRP_STAT (R189). -/
def R.PG_GRP_STAT : RegSpec := ⟨0x800004, [⟨0x100000, 8, 0⟩, ⟨0x100, 8, 0⟩], 0x0, 0x0, 0x80000000, 0x0, 0x0, false, false⟩
/-- PG_GRP_FIFO (R189). -/
def R.PG_GRP_FIFO : RegSpec := ⟨0x800008, [⟨0x100000, 8, 0⟩, ⟨0x100, 8, 0⟩], 0x8000c0, 0xff00ff, 0x0, 0x0, 0x0, false, false⟩
/-- PG_GRP_FIFO_FILL (R189). -/
def R.PG_GRP_FIFO_FILL : RegSpec := ⟨0x80000c, [⟨0x100000, 8, 0⟩, ⟨0x100, 8, 0⟩], 0x0, 0x1ff0000, 0x0, 0x0, 0x0, false, false⟩
/-- PG_TPID (R190). -/
def R.PG_TPID : RegSpec := ⟨0x800800, [⟨0x100000, 8, 0⟩], 0x91000000, 0xffff0001, 0x0, 0x0, 0x0, false, false⟩
/-- PG_SP_SEED0 (R190). -/
def R.PG_SP_SEED0 : RegSpec := ⟨0x800804, [⟨0x100000, 8, 0⟩], 0x0, 0x0, 0x0, 0x0, 0x0, false, false⟩
/-- PG_SP_SEED1 (R190). -/
def R.PG_SP_SEED1 : RegSpec := ⟨0x800808, [⟨0x100000, 8, 0⟩], 0x0, 0x0, 0x0, 0x0, 0x0, false, false⟩
/-- PG_SP_FILL (R190). -/
def R.PG_SP_FILL : RegSpec := ⟨0x80080c, [⟨0x100000, 8, 0⟩], 0x0, 0x0, 0x0, 0x0, 0x0, false, false⟩
/-- PG_SP_EVT (R190). -/
def R.PG_SP_EVT : RegSpec := ⟨0x800810, [⟨0x100000, 8, 0⟩], 0x0, 0x0, 0x1, 0x0, 0x0, false, false⟩
/-- PG_PORT_CTRL (R191). -/
def R.PG_PORT_CTRL : RegSpec := ⟨0x810000, [⟨0x100000, 8, 0⟩, ⟨0x400, 64, 0⟩], 0x0, 0xfff80000, 0x0, 0x0, 0x0, false, false⟩
/-- PG_PORT_LEN (R191). -/
def R.PG_PORT_LEN : RegSpec := ⟨0x810004, [⟨0x100000, 8, 0⟩, ⟨0x400, 64, 0⟩], 0x3e80, 0x3fff, 0x0, 0x0, 0x0, false, false⟩
/-- PG_PORT_AN (R191). -/
def R.PG_PORT_AN : RegSpec := ⟨0x810008, [⟨0x100000, 8, 0⟩, ⟨0x400, 64, 0⟩], 0x0, 0x3, 0x0, 0x0, 0x0, false, false⟩
/-- PG_PORT_TIMERS (R191). -/
def R.PG_PORT_TIMERS : RegSpec := ⟨0x81000c, [⟨0x100000, 8, 0⟩, ⟨0x400, 64, 0⟩], 0x0, 0xffff03ff, 0x0, 0x0, 0x0, false, false⟩
/-- PG_PORT_STAT (R191). -/
def R.PG_PORT_STAT : RegSpec := ⟨0x810010, [⟨0x100000, 8, 0⟩, ⟨0x400, 64, 0⟩], 0x0, 0x0, 0x0, 0x0, 0x0, false, false⟩
/-- PG_PORT_EVT (R191). -/
def R.PG_PORT_EVT : RegSpec := ⟨0x810014, [⟨0x100000, 8, 0⟩, ⟨0x400, 64, 0⟩], 0x0, 0x0, 0x3f, 0x0, 0x0, false, false⟩
/-- PG_PFC_CFG (R191). -/
def R.PG_PFC_CFG : RegSpec := ⟨0x810020, [⟨0x100000, 8, 0⟩, ⟨0x400, 64, 0⟩], 0xffff, 0xffffff, 0x0, 0x0, 0x0, false, false⟩
/-- PG_PFC_MAP (R191). -/
def R.PG_PFC_MAP : RegSpec := ⟨0x810024, [⟨0x100000, 8, 0⟩, ⟨0x400, 64, 0⟩], 0xfac688, 0xffffff, 0x0, 0x0, 0x0, false, false⟩
/-- PG_FC_THR (R191). -/
def R.PG_FC_THR : RegSpec := ⟨0x810028, [⟨0x100000, 8, 0⟩, ⟨0x400, 64, 0⟩], 0x10000c0, 0xffffffff, 0x0, 0x0, 0x0, false, false⟩
/-- PG_FC_HEAD (R191). -/
def R.PG_FC_HEAD : RegSpec := ⟨0x81002c, [⟨0x100000, 8, 0⟩, ⟨0x400, 64, 0⟩], 0x200, 0xffff, 0x0, 0x0, 0x0, false, false⟩
/-- PG_PFC_WD (R191). -/
def R.PG_PFC_WD : RegSpec := ⟨0x810030, [⟨0x100000, 8, 0⟩, ⟨0x400, 64, 0⟩], 0x64, 0xffffffff, 0x0, 0x0, 0x0, false, false⟩
/-- PG_PORT_SA_LO (R191). -/
def R.PG_PORT_SA_LO : RegSpec := ⟨0x810034, [⟨0x100000, 8, 0⟩, ⟨0x400, 64, 0⟩], 0x0, 0xffffffff, 0x0, 0x0, 0x0, false, false⟩
/-- PG_PORT_SA_HI (R191). -/
def R.PG_PORT_SA_HI : RegSpec := ⟨0x810038, [⟨0x100000, 8, 0⟩, ⟨0x400, 64, 0⟩], 0x0, 0xffff, 0x0, 0x0, 0x0, false, false⟩
/-- PG_TS_RX_ADJ (R191). -/
def R.PG_TS_RX_ADJ : RegSpec := ⟨0x810040, [⟨0x100000, 8, 0⟩, ⟨0x400, 64, 0⟩], 0x0, 0xffffffff, 0x0, 0x0, 0x0, false, false⟩
/-- PG_TS_TX_ADJ (R191). -/
def R.PG_TS_TX_ADJ : RegSpec := ⟨0x810044, [⟨0x100000, 8, 0⟩, ⟨0x400, 64, 0⟩], 0x0, 0xffffffff, 0x0, 0x0, 0x0, false, false⟩
/-- PG_TXTS_HEAD (R191). -/
def R.PG_TXTS_HEAD : RegSpec := ⟨0x810050, [⟨0x100000, 8, 0⟩, ⟨0x400, 64, 0⟩], 0x0, 0x0, 0x0, 0x0, 0x0, false, false⟩
/-- PG_TXTS_SEC_LO (R191). -/
def R.PG_TXTS_SEC_LO : RegSpec := ⟨0x810054, [⟨0x100000, 8, 0⟩, ⟨0x400, 64, 0⟩], 0x0, 0x0, 0x0, 0x0, 0x0, false, false⟩
/-- PG_TXTS_SEC_HI (R191). -/
def R.PG_TXTS_SEC_HI : RegSpec := ⟨0x810058, [⟨0x100000, 8, 0⟩, ⟨0x400, 64, 0⟩], 0x0, 0x0, 0x0, 0x0, 0x0, false, false⟩
/-- PG_TXTS_NS (R191). -/
def R.PG_TXTS_NS : RegSpec := ⟨0x81005c, [⟨0x100000, 8, 0⟩, ⟨0x400, 64, 0⟩], 0x0, 0x0, 0x0, 0x0, 0x0, false, false⟩
/-- PG_TXTS_FRAC (R191). -/
def R.PG_TXTS_FRAC : RegSpec := ⟨0x810060, [⟨0x100000, 8, 0⟩, ⟨0x400, 64, 0⟩], 0x0, 0x0, 0x0, 0x0, 0x0, false, false⟩
/-- PG_SP_CFG (R191). -/
def R.PG_SP_CFG : RegSpec := ⟨0x810080, [⟨0x100000, 8, 0⟩, ⟨0x400, 64, 0⟩], 0x0, 0xfc00ffff, 0x0, 0x0, 0x0, false, false⟩
/-- PG_FC_BYTES_p (R191). -/
def R.PG_FC_BYTES : RegSpec := ⟨0x8100c0, [⟨0x100000, 8, 0⟩, ⟨0x400, 64, 0⟩, ⟨0x4, 8, 0⟩], 0x0, 0x0, 0x0, 0x0, 0x0, false, false⟩
/-- RX_OK_FRAMES (R192). -/
def R.RX_OK_FRAMES : RegSpec := ⟨0x810200, [⟨0x100000, 8, 0⟩, ⟨0x400, 64, 0⟩], 0x0, 0x0, 0x0, 0x0, 0x0, true, false⟩
/-- RX_OK_OCTETS (R192). -/
def R.RX_OK_OCTETS : RegSpec := ⟨0x810208, [⟨0x100000, 8, 0⟩, ⟨0x400, 64, 0⟩], 0x0, 0x0, 0x0, 0x0, 0x0, true, false⟩
/-- RX_FCS_ERR (R192). -/
def R.RX_FCS_ERR : RegSpec := ⟨0x810210, [⟨0x100000, 8, 0⟩, ⟨0x400, 64, 0⟩], 0x0, 0x0, 0x0, 0x0, 0x0, true, false⟩
/-- RX_RUNT (R192). -/
def R.RX_RUNT : RegSpec := ⟨0x810218, [⟨0x100000, 8, 0⟩, ⟨0x400, 64, 0⟩], 0x0, 0x0, 0x0, 0x0, 0x0, true, false⟩
/-- RX_OVERSIZE (R192). -/
def R.RX_OVERSIZE : RegSpec := ⟨0x810220, [⟨0x100000, 8, 0⟩, ⟨0x400, 64, 0⟩], 0x0, 0x0, 0x0, 0x0, 0x0, true, false⟩
/-- RX_OVERRUN (R192). -/
def R.RX_OVERRUN : RegSpec := ⟨0x810228, [⟨0x100000, 8, 0⟩, ⟨0x400, 64, 0⟩], 0x0, 0x0, 0x0, 0x0, 0x0, true, false⟩
/-- RX_HEADROOM_DROP (R192). -/
def R.RX_HEADROOM_DROP : RegSpec := ⟨0x810230, [⟨0x100000, 8, 0⟩, ⟨0x400, 64, 0⟩], 0x0, 0x0, 0x0, 0x0, 0x0, true, false⟩
/-- RX_DRAIN_DISCARD (R192). -/
def R.RX_DRAIN_DISCARD : RegSpec := ⟨0x810238, [⟨0x100000, 8, 0⟩, ⟨0x400, 64, 0⟩], 0x0, 0x0, 0x0, 0x0, 0x0, true, false⟩
/-- RX_PAUSE (R192). -/
def R.RX_PAUSE : RegSpec := ⟨0x810240, [⟨0x100000, 8, 0⟩, ⟨0x400, 64, 0⟩], 0x0, 0x0, 0x0, 0x0, 0x0, true, false⟩
/-- RX_MACCTL_OTHER (R192). -/
def R.RX_MACCTL_OTHER : RegSpec := ⟨0x810248, [⟨0x100000, 8, 0⟩, ⟨0x400, 64, 0⟩], 0x0, 0x0, 0x0, 0x0, 0x0, true, false⟩
/-- RX_PFC_p (R192). -/
def R.RX_PFC : RegSpec := ⟨0x810250, [⟨0x100000, 8, 0⟩, ⟨0x400, 64, 0⟩, ⟨0x8, 8, 0⟩], 0x0, 0x0, 0x0, 0x0, 0x0, true, false⟩
/-- TX_OK_FRAMES (R192). -/
def R.TX_OK_FRAMES : RegSpec := ⟨0x810290, [⟨0x100000, 8, 0⟩, ⟨0x400, 64, 0⟩], 0x0, 0x0, 0x0, 0x0, 0x0, true, false⟩
/-- TX_OK_OCTETS (R192). -/
def R.TX_OK_OCTETS : RegSpec := ⟨0x810298, [⟨0x100000, 8, 0⟩, ⟨0x400, 64, 0⟩], 0x0, 0x0, 0x0, 0x0, 0x0, true, false⟩
/-- TX_STOMPED (R192). -/
def R.TX_STOMPED : RegSpec := ⟨0x8102a0, [⟨0x100000, 8, 0⟩, ⟨0x400, 64, 0⟩], 0x0, 0x0, 0x0, 0x0, 0x0, true, false⟩
/-- TX_TRUNCATED (R192). -/
def R.TX_TRUNCATED : RegSpec := ⟨0x8102a8, [⟨0x100000, 8, 0⟩, ⟨0x400, 64, 0⟩], 0x0, 0x0, 0x0, 0x0, 0x0, true, false⟩
/-- TX_PAUSE (R192). -/
def R.TX_PAUSE : RegSpec := ⟨0x8102b0, [⟨0x100000, 8, 0⟩, ⟨0x400, 64, 0⟩], 0x0, 0x0, 0x0, 0x0, 0x0, true, false⟩
/-- TX_PFC_p (R192). -/
def R.TX_PFC : RegSpec := ⟨0x8102b8, [⟨0x100000, 8, 0⟩, ⟨0x400, 64, 0⟩, ⟨0x8, 8, 0⟩], 0x0, 0x0, 0x0, 0x0, 0x0, true, false⟩
/-- FEC_CORR_CW (R192). -/
def R.FEC_CORR_CW : RegSpec := ⟨0x8102f8, [⟨0x100000, 8, 0⟩, ⟨0x400, 64, 0⟩], 0x0, 0x0, 0x0, 0x0, 0x0, true, false⟩
/-- FEC_UNCORR_CW (R192). -/
def R.FEC_UNCORR_CW : RegSpec := ⟨0x810300, [⟨0x100000, 8, 0⟩, ⟨0x400, 64, 0⟩], 0x0, 0x0, 0x0, 0x0, 0x0, true, false⟩
/-- FEC_CORR_SYM (R192). -/
def R.FEC_CORR_SYM : RegSpec := ⟨0x810308, [⟨0x100000, 8, 0⟩, ⟨0x400, 64, 0⟩], 0x0, 0x0, 0x0, 0x0, 0x0, true, false⟩
/-- LINK_DOWN_COUNT (R192). -/
def R.LINK_DOWN_COUNT : RegSpec := ⟨0x810310, [⟨0x100000, 8, 0⟩, ⟨0x400, 64, 0⟩], 0x0, 0x0, 0x0, 0x0, 0x0, true, false⟩
/-- AN_FAIL (R192). -/
def R.AN_FAIL : RegSpec := ⟨0x810318, [⟨0x100000, 8, 0⟩, ⟨0x400, 64, 0⟩], 0x0, 0x0, 0x0, 0x0, 0x0, true, false⟩
/-- PFC_WD_TRIPS (R192). -/
def R.PFC_WD_TRIPS : RegSpec := ⟨0x810320, [⟨0x100000, 8, 0⟩, ⟨0x400, 64, 0⟩], 0x0, 0x0, 0x0, 0x0, 0x0, true, false⟩
/-- SP_MISS (R192). -/
def R.SP_MISS : RegSpec := ⟨0x810328, [⟨0x100000, 8, 0⟩, ⟨0x400, 64, 0⟩], 0x0, 0x0, 0x0, 0x0, 0x0, true, false⟩
/-- TXTS_OVF (R192). -/
def R.TXTS_OVF : RegSpec := ⟨0x810330, [⟨0x100000, 8, 0⟩, ⟨0x400, 64, 0⟩], 0x0, 0x0, 0x0, 0x0, 0x0, true, false⟩
/-- TX_UNDERRUN (R192). -/
def R.TX_UNDERRUN : RegSpec := ⟨0x810338, [⟨0x100000, 8, 0⟩, ⟨0x400, 64, 0⟩], 0x0, 0x0, 0x0, 0x0, 0x0, true, false⟩
/-- TX_OVERSIZE (R192). -/
def R.TX_OVERSIZE : RegSpec := ⟨0x810340, [⟨0x100000, 8, 0⟩, ⟨0x400, 64, 0⟩], 0x0, 0x0, 0x0, 0x0, 0x0, true, false⟩
/-- BR_INJECT (R207). -/
def R.BR_INJECT : RegSpec := ⟨0x820000, [⟨0x100000, 8, 0⟩], 0x0, 0x1ff, 0x0, 0xc0000000, 0x0, false, false⟩
/-- BR_EVT (R207). -/
def R.BR_EVT : RegSpec := ⟨0x820004, [⟨0x100000, 8, 0⟩], 0x0, 0x0, 0x1, 0x0, 0x0, false, false⟩
/-- BR_CAP (R207). -/
def R.BR_CAP : RegSpec := ⟨0x820008, [⟨0x100000, 8, 0⟩], 0x0, 0x0, 0x80000000, 0x0, 0x0, false, false⟩
/-- BR_CAP_EPOCH (R207). -/
def R.BR_CAP_EPOCH : RegSpec := ⟨0x82000c, [⟨0x100000, 8, 0⟩], 0x0, 0x0, 0x0, 0x0, 0x0, false, false⟩
/-- BR_CAP_EXPECT (R207). -/
def R.BR_CAP_EXPECT : RegSpec := ⟨0x820010, [⟨0x100000, 8, 0⟩], 0x0, 0x0, 0x0, 0x0, 0x0, false, false⟩
/-- BR_CAP_SEEN (R207). -/
def R.BR_CAP_SEEN : RegSpec := ⟨0x820014, [⟨0x100000, 8, 0⟩], 0x0, 0x0, 0x0, 0x0, 0x0, false, false⟩
/-- BR_CAP_LEN (R207). -/
def R.BR_CAP_LEN : RegSpec := ⟨0x820018, [⟨0x100000, 8, 0⟩], 0x0, 0x0, 0x0, 0x0, 0x0, false, false⟩
/-- BR_CAUSE_c (R208). -/
def R.BR_CAUSE : RegSpec := ⟨0x8200f8, [⟨0x100000, 8, 0⟩, ⟨0x8, 6, 1⟩], 0x0, 0x0, 0x0, 0x0, 0x0, true, false⟩
/-- BR_CHECKED (R208). -/
def R.BR_CHECKED : RegSpec := ⟨0x820130, [⟨0x100000, 8, 0⟩], 0x0, 0x0, 0x0, 0x0, 0x0, true, false⟩
/-- PA_CFG (R239). -/
def R.PA_CFG : RegSpec := ⟨0x830000, [⟨0x100000, 8, 0⟩], 0x4, 0xf, 0x0, 0x0, 0x0, false, false⟩
/-- PA_GRAPH_CRC (R239). -/
def R.PA_GRAPH_CRC : RegSpec := ⟨0x830004, [⟨0x100000, 8, 0⟩], 0x0, 0x0, 0x0, 0x0, 0x0, false, false⟩
/-- PA_EVT (R239). -/
def R.PA_EVT : RegSpec := ⟨0x830008, [⟨0x100000, 8, 0⟩], 0x0, 0x0, 0x1, 0x0, 0x0, false, false⟩
/-- PA_START_k (R239). -/
def R.PA_START : RegSpec := ⟨0x830100, [⟨0x100000, 8, 0⟩, ⟨0x4, 64, 0⟩], 0x0, 0x0, 0x0, 0x0, 0x0, false, false⟩
/-- PA_PARSED (R240). -/
def R.PA_PARSED : RegSpec := ⟨0x830400, [⟨0x100000, 8, 0⟩], 0x0, 0x0, 0x0, 0x0, 0x0, true, false⟩
/-- PA_EXTRACT_OVF (R240). -/
def R.PA_EXTRACT_OVF : RegSpec := ⟨0x830408, [⟨0x100000, 8, 0⟩], 0x0, 0x0, 0x0, 0x0, 0x0, true, false⟩
/-- CL_BANK_STAT (R241). -/
def R.CL_BANK_STAT : RegSpec := ⟨0x840000, [⟨0x100000, 8, 0⟩], 0x0, 0x0, 0x0, 0x0, 0x0, false, false⟩
/-- CL_BANK_DIGEST_0 (R241). -/
def R.CL_BANK_DIGEST_0 : RegSpec := ⟨0x840004, [⟨0x100000, 8, 0⟩], 0x0, 0x0, 0x0, 0x0, 0x0, false, false⟩
/-- CL_BANK_DIGEST_1 (R241). -/
def R.CL_BANK_DIGEST_1 : RegSpec := ⟨0x840008, [⟨0x100000, 8, 0⟩], 0x0, 0x0, 0x0, 0x0, 0x0, false, false⟩
/-- CL_RULES_USED (R241). -/
def R.CL_RULES_USED : RegSpec := ⟨0x84000c, [⟨0x100000, 8, 0⟩], 0x0, 0x0, 0x0, 0x0, 0x0, false, false⟩
/-- CL_EVT (R241). -/
def R.CL_EVT : RegSpec := ⟨0x840010, [⟨0x100000, 8, 0⟩], 0x0, 0x0, 0x3, 0x0, 0x0, false, false⟩
/-- CL_REASON_CFG_r (R241). -/
def R.CL_REASON_CFG : RegSpec := ⟨0x840100, [⟨0x100000, 8, 0⟩, ⟨0x4, 13, 1⟩], 0x0, 0xf, 0x0, 0x0, 0x0, false, true⟩
/-- CL_PUNT_RATE_r (R241). -/
def R.CL_PUNT_RATE : RegSpec := ⟨0x840200, [⟨0x100000, 8, 0⟩, ⟨0x8, 63, 1⟩], 0x2710, 0xffffffff, 0x0, 0x0, 0x0, false, false⟩
/-- CL_PUNT_BURST_r (R241). -/
def R.CL_PUNT_BURST : RegSpec := ⟨0x840204, [⟨0x100000, 8, 0⟩, ⟨0x8, 63, 1⟩], 0x40, 0xffff, 0x0, 0x0, 0x0, false, false⟩
/-- CL_REASON_CNT_r (R242). -/
def R.CL_REASON_CNT : RegSpec := ⟨0x841000, [⟨0x100000, 8, 0⟩, ⟨0x8, 63, 1⟩], 0x0, 0x0, 0x0, 0x0, 0x0, true, false⟩
/-- CL_PUNT_DROP_r (R242). -/
def R.CL_PUNT_DROP : RegSpec := ⟨0x841200, [⟨0x100000, 8, 0⟩, ⟨0x8, 63, 1⟩], 0x0, 0x0, 0x0, 0x0, 0x0, true, false⟩
/-- CL_CLASSIFIED (R242). -/
def R.CL_CLASSIFIED : RegSpec := ⟨0x841400, [⟨0x100000, 8, 0⟩], 0x0, 0x0, 0x0, 0x0, 0x0, true, false⟩
/-- CL_EDIT_SKIP (R242). -/
def R.CL_EDIT_SKIP : RegSpec := ⟨0x841408, [⟨0x100000, 8, 0⟩], 0x0, 0x0, 0x0, 0x0, 0x0, true, false⟩
/-- CL_TENANT_LOCKED (R242). -/
def R.CL_TENANT_LOCKED : RegSpec := ⟨0x841410, [⟨0x100000, 8, 0⟩], 0x0, 0x0, 0x0, 0x0, 0x0, true, false⟩
/-- XT_SEED0 (R305). -/
def R.XT_SEED0 : RegSpec := ⟨0x850000, [⟨0x100000, 8, 0⟩], 0x0, 0x0, 0x0, 0x0, 0x0, false, false⟩
/-- XT_SEED1 (R305). -/
def R.XT_SEED1 : RegSpec := ⟨0x850004, [⟨0x100000, 8, 0⟩], 0x0, 0x0, 0x0, 0x0, 0x0, false, false⟩
/-- XT_FILL (R305). -/
def R.XT_FILL : RegSpec := ⟨0x850008, [⟨0x100000, 8, 0⟩], 0x0, 0x0, 0x0, 0x0, 0x0, false, false⟩
/-- XT_OVF (R305). -/
def R.XT_OVF : RegSpec := ⟨0x85000c, [⟨0x100000, 8, 0⟩], 0x0, 0x0, 0x0, 0x0, 0x0, false, false⟩
/-- XT_EVT (R305). -/
def R.XT_EVT : RegSpec := ⟨0x850010, [⟨0x100000, 8, 0⟩], 0x0, 0x0, 0x7, 0x0, 0x0, false, false⟩
/-- XT_PLAN_A_p (R305). -/
def R.XT_PLAN_A : RegSpec := ⟨0x850100, [⟨0x100000, 8, 0⟩, ⟨0x10, 16, 0⟩], 0x0, 0xfffffffe, 0x0, 0x0, 0x0, false, false⟩
/-- XT_PLAN_B_p (R305). -/
def R.XT_PLAN_B : RegSpec := ⟨0x850104, [⟨0x100000, 8, 0⟩, ⟨0x10, 16, 0⟩], 0x0, 0xfffff000, 0x0, 0x0, 0x0, false, false⟩
/-- XT_PLAN_C_p (R305). -/
def R.XT_PLAN_C : RegSpec := ⟨0x850108, [⟨0x100000, 8, 0⟩, ⟨0x10, 16, 0⟩], 0x0, 0x1ffff, 0x0, 0x0, 0x0, false, false⟩
/-- XT_EX_HIT (R306). -/
def R.XT_EX_HIT : RegSpec := ⟨0x850400, [⟨0x100000, 8, 0⟩], 0x0, 0x0, 0x0, 0x0, 0x0, true, false⟩
/-- XT_PLAN_MISS (R306). -/
def R.XT_PLAN_MISS : RegSpec := ⟨0x850408, [⟨0x100000, 8, 0⟩], 0x0, 0x0, 0x0, 0x0, 0x0, true, false⟩
/-- XT_LEARN_REQ (R306). -/
def R.XT_LEARN_REQ : RegSpec := ⟨0x850410, [⟨0x100000, 8, 0⟩], 0x0, 0x0, 0x0, 0x0, 0x0, true, false⟩
/-- XT_LEARN_FULL (R306). -/
def R.XT_LEARN_FULL : RegSpec := ⟨0x850418, [⟨0x100000, 8, 0⟩], 0x0, 0x0, 0x0, 0x0, 0x0, true, false⟩
/-- XT_LIMIT_ACT (R306). -/
def R.XT_LIMIT_ACT : RegSpec := ⟨0x850420, [⟨0x100000, 8, 0⟩], 0x0, 0x0, 0x0, 0x0, 0x0, true, false⟩
/-- XT_ECC_MISS (R306). -/
def R.XT_ECC_MISS : RegSpec := ⟨0x850428, [⟨0x100000, 8, 0⟩], 0x0, 0x0, 0x0, 0x0, 0x0, true, false⟩
/-- XT_ECC_DROP (R306). -/
def R.XT_ECC_DROP : RegSpec := ⟨0x850430, [⟨0x100000, 8, 0⟩], 0x0, 0x0, 0x0, 0x0, 0x0, true, false⟩
/-- LP_SEED0 (R307). -/
def R.LP_SEED0 : RegSpec := ⟨0x860000, [⟨0x100000, 8, 0⟩], 0x0, 0x0, 0x0, 0x0, 0x0, false, false⟩
/-- LP_SEED1 (R307). -/
def R.LP_SEED1 : RegSpec := ⟨0x860004, [⟨0x100000, 8, 0⟩], 0x0, 0x0, 0x0, 0x0, 0x0, false, false⟩
/-- LP_ROOT_USED (R307). -/
def R.LP_ROOT_USED : RegSpec := ⟨0x860008, [⟨0x100000, 8, 0⟩], 0x0, 0x0, 0x0, 0x0, 0x0, false, false⟩
/-- LP_V4_NODES (R307). -/
def R.LP_V4_NODES : RegSpec := ⟨0x86000c, [⟨0x100000, 8, 0⟩], 0x0, 0x0, 0x0, 0x0, 0x0, false, false⟩
/-- LP_V6_NODES (R307). -/
def R.LP_V6_NODES : RegSpec := ⟨0x860010, [⟨0x100000, 8, 0⟩], 0x0, 0x0, 0x0, 0x0, 0x0, false, false⟩
/-- LP_V4_PREFIXES (R307). -/
def R.LP_V4_PREFIXES : RegSpec := ⟨0x860014, [⟨0x100000, 8, 0⟩], 0x0, 0x0, 0x0, 0x0, 0x0, false, false⟩
/-- LP_V6_PREFIXES (R307). -/
def R.LP_V6_PREFIXES : RegSpec := ⟨0x860018, [⟨0x100000, 8, 0⟩], 0x0, 0x0, 0x0, 0x0, 0x0, false, false⟩
/-- LP_HIT (R307). -/
def R.LP_HIT : RegSpec := ⟨0x860400, [⟨0x100000, 8, 0⟩], 0x0, 0x0, 0x0, 0x0, 0x0, true, false⟩
/-- OS_CFG (R330). -/
def R.OS_CFG : RegSpec := ⟨0x870000, [⟨0x100000, 8, 0⟩], 0x192010, 0xffff7f, 0x0, 0x0, 0x0, false, false⟩
/-- OS_CTRL (R330). -/
def R.OS_CTRL : RegSpec := ⟨0x870004, [⟨0x100000, 8, 0⟩], 0x0, 0x0, 0x0, 0x1, 0x0, false, false⟩
/-- OS_STAT (R330). -/
def R.OS_STAT : RegSpec := ⟨0x870008, [⟨0x100000, 8, 0⟩], 0x10000, 0x0, 0x0, 0x0, 0x0, false, false⟩
/-- OS_USED (R330). -/
def R.OS_USED : RegSpec := ⟨0x87000c, [⟨0x100000, 8, 0⟩], 0x0, 0x0, 0x0, 0x0, 0x0, false, false⟩
/-- OS_SEGS (R330). -/
def R.OS_SEGS : RegSpec := ⟨0x870010, [⟨0x100000, 8, 0⟩], 0x0, 0x0, 0x0, 0x0, 0x0, false, false⟩
/-- OS_THERM (R330). -/
def R.OS_THERM : RegSpec := ⟨0x870014, [⟨0x100000, 8, 0⟩], 0x0, 0x0, 0x0, 0x0, 0x0, false, false⟩
/-- OS_EVT (R330). -/
def R.OS_EVT : RegSpec := ⟨0x870018, [⟨0x100000, 8, 0⟩], 0x0, 0x0, 0xf, 0x0, 0x0, false, false⟩
/-- OS_PLAN_A_p (R330). -/
def R.OS_PLAN_A : RegSpec := ⟨0x870100, [⟨0x100000, 8, 0⟩, ⟨0x10, 16, 0⟩], 0x0, 0x3fffffff, 0x0, 0x0, 0x0, false, false⟩
/-- OS_PLAN_B_p (R330). -/
def R.OS_PLAN_B : RegSpec := ⟨0x870104, [⟨0x100000, 8, 0⟩, ⟨0x10, 16, 0⟩], 0x0, 0x3fffffff, 0x0, 0x0, 0x0, false, false⟩
/-- OS_PLAN_C_p (R330). -/
def R.OS_PLAN_C : RegSpec := ⟨0x870108, [⟨0x100000, 8, 0⟩, ⟨0x10, 16, 0⟩], 0x0, 0xc00003ff, 0x0, 0x0, 0x0, false, false⟩
/-- OS_SEARCH (R331). -/
def R.OS_SEARCH : RegSpec := ⟨0x870400, [⟨0x100000, 8, 0⟩], 0x0, 0x0, 0x0, 0x0, 0x0, true, false⟩
/-- OS_HIT (R331). -/
def R.OS_HIT : RegSpec := ⟨0x870408, [⟨0x100000, 8, 0⟩], 0x0, 0x0, 0x0, 0x0, 0x0, true, false⟩
/-- OS_MULTI (R331). -/
def R.OS_MULTI : RegSpec := ⟨0x870410, [⟨0x100000, 8, 0⟩], 0x0, 0x0, 0x0, 0x0, 0x0, true, false⟩
/-- OS_THROTTLED (R331). -/
def R.OS_THROTTLED : RegSpec := ⟨0x870418, [⟨0x100000, 8, 0⟩], 0x0, 0x0, 0x0, 0x0, 0x0, true, false⟩
/-- OS_MOVES (R331). -/
def R.OS_MOVES : RegSpec := ⟨0x870420, [⟨0x100000, 8, 0⟩], 0x0, 0x0, 0x0, 0x0, 0x0, true, false⟩
/-- OS_COMPACTIONS (R331). -/
def R.OS_COMPACTIONS : RegSpec := ⟨0x870428, [⟨0x100000, 8, 0⟩], 0x0, 0x0, 0x0, 0x0, 0x0, true, false⟩
/-- OS_ECC_DROP (R331). -/
def R.OS_ECC_DROP : RegSpec := ⟨0x870430, [⟨0x100000, 8, 0⟩], 0x0, 0x0, 0x0, 0x0, 0x0, true, false⟩
/-- CB_CTRL (R407). -/
def R.CB_CTRL : RegSpec := ⟨0x880000, [⟨0x100000, 8, 0⟩], 0x1, 0x1, 0x0, 0x0, 0x0, false, false⟩
/-- CB_EVT (R407). -/
def R.CB_EVT : RegSpec := ⟨0x880004, [⟨0x100000, 8, 0⟩], 0x0, 0x0, 0x1, 0x0, 0x0, false, false⟩
/-- CB_IND_SEL (R407). -/
def R.CB_IND_SEL : RegSpec := ⟨0x880010, [⟨0x100000, 8, 0⟩], 0x0, 0x1ffff, 0x0, 0x0, 0x0, false, false⟩
/-- CB_IND_CFG_i (R407). -/
def R.CB_IND_CFG : RegSpec := ⟨0x880020, [⟨0x100000, 8, 0⟩, ⟨0x4, 4, 0⟩], 0x0, 0x0, 0x0, 0x0, 0x0, false, false⟩
/-- CB_IND_TC (R407). -/
def R.CB_IND_TC : RegSpec := ⟨0x880030, [⟨0x100000, 8, 0⟩], 0x0, 0x0, 0x0, 0x0, 0x0, false, false⟩
/-- CB_IND_TE (R407). -/
def R.CB_IND_TE : RegSpec := ⟨0x880034, [⟨0x100000, 8, 0⟩], 0x0, 0x0, 0x0, 0x0, 0x0, false, false⟩
/-- CB_IND_GREEN (R407). -/
def R.CB_IND_GREEN : RegSpec := ⟨0x880040, [⟨0x100000, 8, 0⟩], 0x0, 0x0, 0x0, 0x0, 0x0, true, false⟩
/-- CB_IND_YELLOW (R407). -/
def R.CB_IND_YELLOW : RegSpec := ⟨0x880048, [⟨0x100000, 8, 0⟩], 0x0, 0x0, 0x0, 0x0, 0x0, true, false⟩
/-- CB_IND_RED (R407). -/
def R.CB_IND_RED : RegSpec := ⟨0x880050, [⟨0x100000, 8, 0⟩], 0x0, 0x0, 0x0, 0x0, 0x0, true, false⟩
/-- CB_GREEN (R407). -/
def R.CB_GREEN : RegSpec := ⟨0x880100, [⟨0x100000, 8, 0⟩], 0x0, 0x0, 0x0, 0x0, 0x0, true, false⟩
/-- CB_YELLOW (R407). -/
def R.CB_YELLOW : RegSpec := ⟨0x880108, [⟨0x100000, 8, 0⟩], 0x0, 0x0, 0x0, 0x0, 0x0, true, false⟩
/-- CB_RED (R407). -/
def R.CB_RED : RegSpec := ⟨0x880110, [⟨0x100000, 8, 0⟩], 0x0, 0x0, 0x0, 0x0, 0x0, true, false⟩
/-- SC_EVT (R408). -/
def R.SC_EVT : RegSpec := ⟨0x890000, [⟨0x100000, 8, 0⟩], 0x0, 0x0, 0x1, 0x0, 0x0, false, false⟩
/-- SC_IND_SEL (R408). -/
def R.SC_IND_SEL : RegSpec := ⟨0x890010, [⟨0x100000, 8, 0⟩], 0x0, 0xffff, 0x0, 0x0, 0x0, false, false⟩
/-- SC_IND_CFG_i (R408). -/
def R.SC_IND_CFG : RegSpec := ⟨0x890020, [⟨0x100000, 8, 0⟩, ⟨0x4, 4, 0⟩], 0x0, 0x0, 0x0, 0x0, 0x0, false, false⟩
/-- SC_IND_BUCKET (R408). -/
def R.SC_IND_BUCKET : RegSpec := ⟨0x890030, [⟨0x100000, 8, 0⟩], 0x0, 0x0, 0x0, 0x0, 0x0, false, false⟩
/-- SC_PORT_A_k (R408). -/
def R.SC_PORT_A : RegSpec := ⟨0x890100, [⟨0x100000, 8, 0⟩, ⟨0x8, 64, 0⟩], 0x0, 0x8000ffff, 0x0, 0x0, 0x0, false, false⟩
/-- SC_PORT_B_k (R408). -/
def R.SC_PORT_B : RegSpec := ⟨0x890104, [⟨0x100000, 8, 0⟩, ⟨0x8, 64, 0⟩], 0x0, 0xffff07ff, 0x0, 0x0, 0x0, false, false⟩
/-- SC_CLS_k_c (R408). -/
def R.SC_CLS : RegSpec := ⟨0x890400, [⟨0x100000, 8, 0⟩, ⟨0x20, 64, 0⟩, ⟨0x4, 8, 0⟩], 0x10000, 0xf0ffffff, 0x0, 0x0, 0x0, false, false⟩
/-- SC_SELECTED (R408). -/
def R.SC_SELECTED : RegSpec := ⟨0x891000, [⟨0x100000, 8, 0⟩], 0x0, 0x0, 0x0, 0x0, 0x0, true, false⟩
/-- SC_DEBT_CLAMP (R408). -/
def R.SC_DEBT_CLAMP : RegSpec := ⟨0x891008, [⟨0x100000, 8, 0⟩], 0x0, 0x0, 0x0, 0x0, 0x0, true, false⟩
/-- SC_GRP_HELD (R408). -/
def R.SC_GRP_HELD : RegSpec := ⟨0x891010, [⟨0x100000, 8, 0⟩], 0x0, 0x0, 0x0, 0x0, 0x0, true, false⟩
/-- GA_EVT (R409). -/
def R.GA_EVT : RegSpec := ⟨0x8a0000, [⟨0x100000, 8, 0⟩], 0x0, 0x0, 0x7, 0x0, 0x0, false, false⟩
/-- GA_CTRL_k (R409). -/
def R.GA_CTRL : RegSpec := ⟨0x8a0100, [⟨0x100000, 8, 0⟩, ⟨0x40, 64, 0⟩], 0x0, 0x600007ff, 0x0, 0x0, 0x0, false, false⟩
/-- GA_PEND_CYCLE_k (R409). -/
def R.GA_PEND_CYCLE : RegSpec := ⟨0x8a0104, [⟨0x100000, 8, 0⟩, ⟨0x40, 64, 0⟩], 0x0, 0x3fffffff, 0x0, 0x0, 0x0, false, false⟩
/-- GA_PEND_BASE_SEC_LO_k (R409). -/
def R.GA_PEND_BASE_SEC_LO : RegSpec := ⟨0x8a0108, [⟨0x100000, 8, 0⟩, ⟨0x40, 64, 0⟩], 0x0, 0xffffffff, 0x0, 0x0, 0x0, false, false⟩
/-- GA_PEND_BASE_SEC_HI_k (R409). -/
def R.GA_PEND_BASE_SEC_HI : RegSpec := ⟨0x8a010c, [⟨0x100000, 8, 0⟩, ⟨0x40, 64, 0⟩], 0x0, 0xffff, 0x0, 0x0, 0x0, false, false⟩
/-- GA_PEND_BASE_NS_k (R409). -/
def R.GA_PEND_BASE_NS : RegSpec := ⟨0x8a0110, [⟨0x100000, 8, 0⟩, ⟨0x40, 64, 0⟩], 0x0, 0x3fffffff, 0x0, 0x0, 0x0, false, false⟩
/-- GA_OPER_LEN_k (R409). -/
def R.GA_OPER_LEN : RegSpec := ⟨0x8a0114, [⟨0x100000, 8, 0⟩, ⟨0x40, 64, 0⟩], 0x0, 0x0, 0x0, 0x0, 0x0, false, false⟩
/-- GA_OPER_CYCLE_k (R409). -/
def R.GA_OPER_CYCLE : RegSpec := ⟨0x8a0118, [⟨0x100000, 8, 0⟩, ⟨0x40, 64, 0⟩], 0x0, 0x0, 0x0, 0x0, 0x0, false, false⟩
/-- GA_OPER_BASE_SEC_LO_k (R409). -/
def R.GA_OPER_BASE_SEC_LO : RegSpec := ⟨0x8a011c, [⟨0x100000, 8, 0⟩, ⟨0x40, 64, 0⟩], 0x0, 0x0, 0x0, 0x0, 0x0, false, false⟩
/-- GA_OPER_BASE_SEC_HI_k (R409). -/
def R.GA_OPER_BASE_SEC_HI : RegSpec := ⟨0x8a0120, [⟨0x100000, 8, 0⟩, ⟨0x40, 64, 0⟩], 0x0, 0x0, 0x0, 0x0, 0x0, false, false⟩
/-- GA_OPER_BASE_NS_k (R409). -/
def R.GA_OPER_BASE_NS : RegSpec := ⟨0x8a0124, [⟨0x100000, 8, 0⟩, ⟨0x40, 64, 0⟩], 0x0, 0x0, 0x0, 0x0, 0x0, false, false⟩
/-- GA_STAT_k (R409). -/
def R.GA_STAT : RegSpec := ⟨0x8a0128, [⟨0x100000, 8, 0⟩, ⟨0x40, 64, 0⟩], 0xff000000, 0x0, 0x0, 0x0, 0x0, false, false⟩
/-- GA_NEVER_FITS_k (R409). -/
def R.GA_NEVER_FITS : RegSpec := ⟨0x8a2000, [⟨0x100000, 8, 0⟩, ⟨0x20, 64, 0⟩], 0x0, 0x0, 0x0, 0x0, 0x0, true, false⟩
/-- GA_WAITED_k (R409). -/
def R.GA_WAITED : RegSpec := ⟨0x8a2008, [⟨0x100000, 8, 0⟩, ⟨0x20, 64, 0⟩], 0x0, 0x0, 0x0, 0x0, 0x0, true, false⟩
/-- GA_OVERRUN_k (R409). -/
def R.GA_OVERRUN : RegSpec := ⟨0x8a2010, [⟨0x100000, 8, 0⟩, ⟨0x20, 64, 0⟩], 0x0, 0x0, 0x0, 0x0, 0x0, true, false⟩
/-- TY_STAT (R427). -/
def R.TY_STAT : RegSpec := ⟨0x8b0000, [⟨0x100000, 8, 0⟩], 0x0, 0x0, 0x0, 0x0, 0x0, false, false⟩
/-- TY_EVT (R427). -/
def R.TY_EVT : RegSpec := ⟨0x8b0004, [⟨0x100000, 8, 0⟩], 0x0, 0x0, 0x1, 0x0, 0x0, false, false⟩
/-- TY_TOT_IN (R427). -/
def R.TY_TOT_IN : RegSpec := ⟨0x8b0100, [⟨0x100000, 8, 0⟩], 0x0, 0x0, 0x0, 0x0, 0x0, true, false⟩
/-- TY_TOT_OUT (R427). -/
def R.TY_TOT_OUT : RegSpec := ⟨0x8b0108, [⟨0x100000, 8, 0⟩], 0x0, 0x0, 0x0, 0x0, 0x0, true, false⟩
/-- TY_ECC_LOST (R427). -/
def R.TY_ECC_LOST : RegSpec := ⟨0x8b0110, [⟨0x100000, 8, 0⟩], 0x0, 0x0, 0x0, 0x0, 0x0, true, false⟩
/-- LC_CFG (R360). -/
def R.LC_CFG : RegSpec := ⟨0x8c0000, [⟨0x100000, 8, 0⟩], 0xc832, 0xffff, 0x0, 0x0, 0x0, false, false⟩
/-- LC_HELD (R360). -/
def R.LC_HELD : RegSpec := ⟨0x8c0004, [⟨0x100000, 8, 0⟩], 0x0, 0x0, 0x0, 0x0, 0x0, false, false⟩
/-- LC_EVT (R360). -/
def R.LC_EVT : RegSpec := ⟨0x8c0008, [⟨0x100000, 8, 0⟩], 0x0, 0x0, 0x3, 0x0, 0x0, false, false⟩
/-- LC_SPANS_OUT (R360). -/
def R.LC_SPANS_OUT : RegSpec := ⟨0x8c0100, [⟨0x100000, 8, 0⟩], 0x0, 0x0, 0x0, 0x0, 0x0, true, false⟩
/-- LC_HOLD_CLOSED (R360). -/
def R.LC_HOLD_CLOSED : RegSpec := ⟨0x8c0108, [⟨0x100000, 8, 0⟩], 0x0, 0x0, 0x0, 0x0, 0x0, true, false⟩
/-- LC_IDLE_OUT (R360). -/
def R.LC_IDLE_OUT : RegSpec := ⟨0x8c0110, [⟨0x100000, 8, 0⟩], 0x0, 0x0, 0x0, 0x0, 0x0, true, false⟩
/-- LC_SPANS_IN (R360). -/
def R.LC_SPANS_IN : RegSpec := ⟨0x8c0118, [⟨0x100000, 8, 0⟩], 0x0, 0x0, 0x0, 0x0, 0x0, true, false⟩
/-- LC_WIN_WAIT (R360). -/
def R.LC_WIN_WAIT : RegSpec := ⟨0x8c0120, [⟨0x100000, 8, 0⟩], 0x0, 0x0, 0x0, 0x0, 0x0, true, false⟩
/-- LC_GAP_DROP (R360). -/
def R.LC_GAP_DROP : RegSpec := ⟨0x8c0128, [⟨0x100000, 8, 0⟩], 0x0, 0x0, 0x0, 0x0, 0x0, true, false⟩
/-- LC_TIMEOUT_DROP (R360). -/
def R.LC_TIMEOUT_DROP : RegSpec := ⟨0x8c0130, [⟨0x100000, 8, 0⟩], 0x0, 0x0, 0x0, 0x0, 0x0, true, false⟩
/-- LC_REPAT_DROP (R360). -/
def R.LC_REPAT_DROP : RegSpec := ⟨0x8c0138, [⟨0x100000, 8, 0⟩], 0x0, 0x0, 0x0, 0x0, 0x0, true, false⟩
/-- LC_MC_NOPORT (R360). -/
def R.LC_MC_NOPORT : RegSpec := ⟨0x8c0140, [⟨0x100000, 8, 0⟩], 0x0, 0x0, 0x0, 0x0, 0x0, true, false⟩
/-- EQ_CFG (R383). -/
def R.EQ_CFG : RegSpec := ⟨0x8d0000, [⟨0x100000, 8, 0⟩], 0x2000, 0xff03, 0x0, 0x0, 0x0, false, false⟩
/-- EQ_BUF (R383). -/
def R.EQ_BUF : RegSpec := ⟨0x8d0004, [⟨0x100000, 8, 0⟩], 0x80002000, 0xffff, 0x0, 0x0, 0x0, false, false⟩
/-- EQ_GLOBAL (R383). -/
def R.EQ_GLOBAL : RegSpec := ⟨0x8d0008, [⟨0x100000, 8, 0⟩], 0x4000, 0x3ffff, 0x0, 0x0, 0x0, false, false⟩
/-- EQ_DEEP (R383). -/
def R.EQ_DEEP : RegSpec := ⟨0x8d000c, [⟨0x100000, 8, 0⟩], 0x1000080, 0xffffffff, 0x0, 0x0, 0x0, false, false⟩
/-- EQ_EVT (R383). -/
def R.EQ_EVT : RegSpec := ⟨0x8d0010, [⟨0x100000, 8, 0⟩], 0x0, 0x0, 0xf, 0x0, 0x0, false, false⟩
/-- EQ_PORTSET_w (R383). -/
def R.EQ_PORTSET : RegSpec := ⟨0x8d0100, [⟨0x100000, 8, 0⟩, ⟨0x4, 32, 0⟩], 0x0, 0xffffffff, 0x0, 0x0, 0x0, false, false⟩
/-- EQ_PSET_s (R383). -/
def R.EQ_PSET : RegSpec := ⟨0x8d0200, [⟨0x100000, 8, 0⟩, ⟨0x10, 4, 0⟩], 0x10000200, 0xffffffff, 0x0, 0x0, 0x0, false, false⟩
/-- EQ_CLS_s_c (R383). -/
def R.EQ_CLS : RegSpec := ⟨0x8d0280, [⟨0x100000, 8, 0⟩, ⟨0x20, 4, 0⟩, ⟨0x4, 8, 0⟩], 0x8000001, 0xffff0001, 0x0, 0x0, 0x0, false, false⟩
/-- EQ_PROF_i (R383). -/
def R.EQ_PROF : RegSpec := ⟨0x8d0400, [⟨0x100000, 8, 0⟩, ⟨0x8, 96, 0⟩], 0x0, 0xffffffff, 0x0, 0x0, 0x0, false, true⟩
/-- EQ_PROF_P_i (R383). -/
def R.EQ_PROF_P : RegSpec := ⟨0x8d0404, [⟨0x100000, 8, 0⟩, ⟨0x8, 96, 0⟩], 0x0, 0xff, 0x0, 0x0, 0x0, false, true⟩
/-- EQ_SESS_s (R383). -/
def R.EQ_SESS : RegSpec := ⟨0x8d0700, [⟨0x100000, 8, 0⟩, ⟨0x10, 15, 1⟩], 0x10000, 0xfffffe00, 0x0, 0x0, 0x0, false, false⟩
/-- EQ_SESS_RATE_s (R383). -/
def R.EQ_SESS_RATE : RegSpec := ⟨0x8d0704, [⟨0x100000, 8, 0⟩, ⟨0x10, 15, 1⟩], 0x2710, 0xffffffff, 0x0, 0x0, 0x0, false, false⟩
/-- EQ_SESS_BURST_s (R383). -/
def R.EQ_SESS_BURST : RegSpec := ⟨0x8d0708, [⟨0x100000, 8, 0⟩, ⟨0x10, 15, 1⟩], 0x40, 0xffff, 0x0, 0x0, 0x0, false, false⟩
/-- EQ_SESS_RING_s (R383). -/
def R.EQ_SESS_RING : RegSpec := ⟨0x8d070c, [⟨0x100000, 8, 0⟩, ⟨0x10, 15, 1⟩], 0x0, 0x7ff, 0x0, 0x0, 0x0, false, false⟩
/-- EQ_ADM_WRED_c (R384). -/
def R.EQ_ADM_WRED : RegSpec := ⟨0x8d1000, [⟨0x100000, 8, 0⟩, ⟨0x8, 8, 0⟩], 0x0, 0x0, 0x0, 0x0, 0x0, true, false⟩
/-- EQ_ADM_TAIL_c (R384). -/
def R.EQ_ADM_TAIL : RegSpec := ⟨0x8d1040, [⟨0x100000, 8, 0⟩, ⟨0x8, 8, 0⟩], 0x0, 0x0, 0x0, 0x0, 0x0, true, false⟩
/-- EQ_ADM_POOL_c (R384). -/
def R.EQ_ADM_POOL : RegSpec := ⟨0x8d1080, [⟨0x100000, 8, 0⟩, ⟨0x8, 8, 0⟩], 0x0, 0x0, 0x0, 0x0, 0x0, true, false⟩
/-- EQ_ECN_MARKED_c (R384). -/
def R.EQ_ECN_MARKED : RegSpec := ⟨0x8d10c0, [⟨0x100000, 8, 0⟩, ⟨0x8, 8, 0⟩], 0x0, 0x0, 0x0, 0x0, 0x0, true, false⟩
/-- EQ_ADM_GLOBAL (R384). -/
def R.EQ_ADM_GLOBAL : RegSpec := ⟨0x8d1100, [⟨0x100000, 8, 0⟩], 0x0, 0x0, 0x0, 0x0, 0x0, true, false⟩
/-- EQ_MC_DIE_REFUSED (R384). -/
def R.EQ_MC_DIE_REFUSED : RegSpec := ⟨0x8d1108, [⟨0x100000, 8, 0⟩], 0x0, 0x0, 0x0, 0x0, 0x0, true, false⟩
/-- EQ_MIRROR_REFUSED (R384). -/
def R.EQ_MIRROR_REFUSED : RegSpec := ⟨0x8d1110, [⟨0x100000, 8, 0⟩], 0x0, 0x0, 0x0, 0x0, 0x0, true, false⟩
/-- EQ_DEEP_REFUSED (R384). -/
def R.EQ_DEEP_REFUSED : RegSpec := ⟨0x8d1118, [⟨0x100000, 8, 0⟩], 0x0, 0x0, 0x0, 0x0, 0x0, true, false⟩
/-- EQ_DOWN_DISCARD (R384). -/
def R.EQ_DOWN_DISCARD : RegSpec := ⟨0x8d1120, [⟨0x100000, 8, 0⟩], 0x0, 0x0, 0x0, 0x0, 0x0, true, false⟩
/-- EQ_CAP_RATE_DROP (R384). -/
def R.EQ_CAP_RATE_DROP : RegSpec := ⟨0x8d1128, [⟨0x100000, 8, 0⟩], 0x0, 0x0, 0x0, 0x0, 0x0, true, false⟩
/-- EQ_RESID_DROP_k (R384). -/
def R.EQ_RESID_DROP : RegSpec := ⟨0x8d1200, [⟨0x100000, 8, 0⟩, ⟨0x8, 64, 0⟩], 0x0, 0x0, 0x0, 0x0, 0x0, true, false⟩
/-- EQ_FLUSH_DROP_k (R384). -/
def R.EQ_FLUSH_DROP : RegSpec := ⟨0x8d1400, [⟨0x100000, 8, 0⟩, ⟨0x8, 64, 0⟩], 0x0, 0x0, 0x0, 0x0, 0x0, true, false⟩
/-- GF_STATUS (R359). -/
def R.GF_STATUS : RegSpec := ⟨0x1000000, [⟨0x100000, 4, 0⟩], 0x0, 0x0, 0x0, 0x0, 0x0, false, false⟩
/-- GF_EVT (R359). -/
def R.GF_EVT : RegSpec := ⟨0x1000004, [⟨0x100000, 4, 0⟩], 0x0, 0x0, 0x1, 0x0, 0x0, false, false⟩
/-- GF_CELLS_IN (R359). -/
def R.GF_CELLS_IN : RegSpec := ⟨0x1000100, [⟨0x100000, 4, 0⟩], 0x0, 0x0, 0x0, 0x0, 0x0, true, false⟩
/-- GF_IDLE_IN (R359). -/
def R.GF_IDLE_IN : RegSpec := ⟨0x1000108, [⟨0x100000, 4, 0⟩], 0x0, 0x0, 0x0, 0x0, 0x0, true, false⟩
/-- GF_CELLS_OUT (R359). -/
def R.GF_CELLS_OUT : RegSpec := ⟨0x1000110, [⟨0x100000, 4, 0⟩], 0x0, 0x0, 0x0, 0x0, 0x0, true, false⟩
/-- GF_COL_LOST (R359). -/
def R.GF_COL_LOST : RegSpec := ⟨0x1000118, [⟨0x100000, 4, 0⟩], 0x0, 0x0, 0x0, 0x0, 0x0, true, false⟩
/-- BM_CELL_FREE (R359). -/
def R.BM_CELL_FREE : RegSpec := ⟨0x1010000, [⟨0x100000, 4, 0⟩], 0x0, 0x0, 0x0, 0x0, 0x0, false, false⟩
/-- BM_CELL_PEAK (R359). -/
def R.BM_CELL_PEAK : RegSpec := ⟨0x1010004, [⟨0x100000, 4, 0⟩], 0x0, 0x7ffff, 0x0, 0x0, 0x0, false, false⟩
/-- BM_LINK_FREE (R359). -/
def R.BM_LINK_FREE : RegSpec := ⟨0x1010008, [⟨0x100000, 4, 0⟩], 0x0, 0x0, 0x0, 0x0, 0x0, false, false⟩
/-- BM_RETIRED (R359). -/
def R.BM_RETIRED : RegSpec := ⟨0x101000c, [⟨0x100000, 4, 0⟩], 0x0, 0x0, 0x0, 0x0, 0x0, false, false⟩
/-- BM_DEEP_HEAD (R359). -/
def R.BM_DEEP_HEAD : RegSpec := ⟨0x1010010, [⟨0x100000, 4, 0⟩], 0x40, 0xffff, 0x0, 0x0, 0x0, false, false⟩
/-- BM_DFREE_CAP (R359). -/
def R.BM_DFREE_CAP : RegSpec := ⟨0x1010014, [⟨0x100000, 4, 0⟩], 0x0, 0x0, 0x0, 0x0, 0x0, false, false⟩
/-- BM_EVT (R359). -/
def R.BM_EVT : RegSpec := ⟨0x1010018, [⟨0x100000, 4, 0⟩], 0x0, 0x0, 0x3, 0x0, 0x0, false, false⟩
/-- BM_DFREE (R359). -/
def R.BM_DFREE : RegSpec := ⟨0x1010100, [⟨0x100000, 4, 0⟩], 0x0, 0x0, 0x0, 0x0, 0x0, true, false⟩
/-- BM_REF_LIMIT (R359). -/
def R.BM_REF_LIMIT : RegSpec := ⟨0x1010108, [⟨0x100000, 4, 0⟩], 0x0, 0x0, 0x0, 0x0, 0x0, true, false⟩
/-- BM_SPILLED (R359). -/
def R.BM_SPILLED : RegSpec := ⟨0x1010110, [⟨0x100000, 4, 0⟩], 0x0, 0x0, 0x0, 0x0, 0x0, true, false⟩
/-- BM_FILLED (R359). -/
def R.BM_FILLED : RegSpec := ⟨0x1010118, [⟨0x100000, 4, 0⟩], 0x0, 0x0, 0x0, 0x0, 0x0, true, false⟩
/-- QM_CFG (R385). -/
def R.QM_CFG : RegSpec := ⟨0x1020000, [⟨0x100000, 4, 0⟩], 0x8, 0xff, 0x0, 0x0, 0x0, false, false⟩
/-- QM_WEIGHT (R385). -/
def R.QM_WEIGHT : RegSpec := ⟨0x1020004, [⟨0x100000, 4, 0⟩], 0x99999999, 0xffffffff, 0x0, 0x0, 0x0, false, false⟩
/-- QM_SEL (R385). -/
def R.QM_SEL : RegSpec := ⟨0x1020008, [⟨0x100000, 4, 0⟩], 0x0, 0x7fff, 0x0, 0x0, 0x0, false, false⟩
/-- QM_DEPTH (R385). -/
def R.QM_DEPTH : RegSpec := ⟨0x102000c, [⟨0x100000, 4, 0⟩], 0x0, 0x0, 0x0, 0x0, 0x0, false, false⟩
/-- QM_AVG (R385). -/
def R.QM_AVG : RegSpec := ⟨0x1020010, [⟨0x100000, 4, 0⟩], 0x0, 0x0, 0x0, 0x0, 0x0, false, false⟩
/-- QM_EVT (R385). -/
def R.QM_EVT : RegSpec := ⟨0x1020014, [⟨0x100000, 4, 0⟩], 0x0, 0x0, 0x1, 0x0, 0x0, false, false⟩
/-- QM_EXPEDITED (R385). -/
def R.QM_EXPEDITED : RegSpec := ⟨0x1020100, [⟨0x100000, 4, 0⟩], 0x0, 0x0, 0x0, 0x0, 0x0, true, false⟩
/-- QM_FLUSHED (R385). -/
def R.QM_FLUSHED : RegSpec := ⟨0x1020108, [⟨0x100000, 4, 0⟩], 0x0, 0x0, 0x0, 0x0, 0x0, true, false⟩
/-- RC_SQ_DB (R497). -/
def R.RC_SQ_DB : RegSpec := ⟨0x2000000, [⟨0x1000, 2048, 0⟩], 0x0, 0x0, 0x0, 0x0, 0x1ffff, false, false⟩
/-- RC_CQ_DB (R498). -/
def R.RC_CQ_DB : RegSpec := ⟨0x2800000, [⟨0x1000, 2048, 0⟩], 0x0, 0x0, 0x0, 0x0, 0x1ffff, false, false⟩
/-- AW_CTRL (R263). -/
def R.AW_CTRL : RegSpec := ⟨0x3000000, [], 0x1, 0x1, 0x0, 0x0, 0x0, false, false⟩
/-- AW_THERM (R263). -/
def R.AW_THERM : RegSpec := ⟨0x3000004, [], 0x0, 0x0, 0x0, 0x0, 0x0, false, false⟩
/-- AW_STORE (R263). -/
def R.AW_STORE : RegSpec := ⟨0x3000008, [], 0x0, 0x0, 0x0, 0x0, 0x0, false, false⟩
/-- AW_BUDGET_d (R263). -/
def R.AW_BUDGET : RegSpec := ⟨0x3000010, [⟨0x4, 8, 0⟩], 0x190, 0x3ff, 0x0, 0x0, 0x0, false, false⟩
/-- AW_TIMEOUT (R263). -/
def R.AW_TIMEOUT : RegSpec := ⟨0x3000030, [], 0x14, 0xffff, 0x0, 0x0, 0x0, false, false⟩
/-- AW_EVT (R263). -/
def R.AW_EVT : RegSpec := ⟨0x3000034, [], 0x0, 0x0, 0xf, 0x0, 0x0, false, false⟩
/-- AW_SET_CFG_s (R263). -/
def R.AW_SET_CFG : RegSpec := ⟨0x3000100, [⟨0x20, 16, 0⟩], 0x20, 0x10ff003f, 0x0, 0x0, 0x0, false, false⟩
/-- AW_SET_BASE_s (R263). -/
def R.AW_SET_BASE : RegSpec := ⟨0x3000104, [⟨0x20, 16, 0⟩], 0x0, 0x0, 0x0, 0x0, 0x0, false, false⟩
/-- AW_SET_LEN_s (R263). -/
def R.AW_SET_LEN : RegSpec := ⟨0x3000108, [⟨0x20, 16, 0⟩], 0x0, 0x0, 0x0, 0x0, 0x0, false, false⟩
/-- AW_SET_INFO_s (R263). -/
def R.AW_SET_INFO : RegSpec := ⟨0x300010c, [⟨0x20, 16, 0⟩], 0x0, 0x0, 0x0, 0x0, 0x0, false, false⟩
/-- AW_SET_REFS_s (R263). -/
def R.AW_SET_REFS : RegSpec := ⟨0x3000110, [⟨0x20, 16, 0⟩], 0x0, 0x0, 0x0, 0x0, 0x0, false, false⟩
/-- AW_SET_CRC_s (R263). -/
def R.AW_SET_CRC : RegSpec := ⟨0x3000114, [⟨0x20, 16, 0⟩], 0x0, 0x0, 0x0, 0x0, 0x0, false, false⟩
/-- AW_SCANNED (R264). -/
def R.AW_SCANNED : RegSpec := ⟨0x3001000, [⟨0x40, 16, 0⟩], 0x0, 0x0, 0x0, 0x0, 0x0, true, false⟩
/-- AW_BYTES (R264). -/
def R.AW_BYTES : RegSpec := ⟨0x3001008, [⟨0x40, 16, 0⟩], 0x0, 0x0, 0x0, 0x0, 0x0, true, false⟩
/-- AW_MATCHED (R264). -/
def R.AW_MATCHED : RegSpec := ⟨0x3001010, [⟨0x40, 16, 0⟩], 0x0, 0x0, 0x0, 0x0, 0x0, true, false⟩
/-- AW_MULTI (R264). -/
def R.AW_MULTI : RegSpec := ⟨0x3001018, [⟨0x40, 16, 0⟩], 0x0, 0x0, 0x0, 0x0, 0x0, true, false⟩
/-- AW_UNSCAN_THROTTLE (R264). -/
def R.AW_UNSCAN_THROTTLE : RegSpec := ⟨0x3001020, [⟨0x40, 16, 0⟩], 0x0, 0x0, 0x0, 0x0, 0x0, true, false⟩
/-- AW_UNSCAN_QUEUE (R264). -/
def R.AW_UNSCAN_QUEUE : RegSpec := ⟨0x3001028, [⟨0x40, 16, 0⟩], 0x0, 0x0, 0x0, 0x0, 0x0, true, false⟩
/-- AW_UNSCAN_TIMEOUT (R264). -/
def R.AW_UNSCAN_TIMEOUT : RegSpec := ⟨0x3001030, [⟨0x40, 16, 0⟩], 0x0, 0x0, 0x0, 0x0, 0x0, true, false⟩
/-- AW_UNSCAN_SET (R264). -/
def R.AW_UNSCAN_SET : RegSpec := ⟨0x3001038, [⟨0x40, 16, 0⟩], 0x0, 0x0, 0x0, 0x0, 0x0, true, false⟩
/-- TS_CTRL (R308). -/
def R.TS_CTRL : RegSpec := ⟨0x3100000, [], 0x3, 0x7, 0x0, 0x0, 0x0, false, false⟩
/-- TS_AGE (R308). -/
def R.TS_AGE : RegSpec := ⟨0x3100004, [], 0x12c, 0xfff, 0x0, 0x0, 0x0, false, false⟩
/-- TS_LEARN_BASE (R308). -/
def R.TS_LEARN_BASE : RegSpec := ⟨0x3100008, [], 0x0, 0x1ffff, 0x0, 0x0, 0x0, false, false⟩
/-- TS_SEQ (R308). -/
def R.TS_SEQ : RegSpec := ⟨0x310000c, [], 0x0, 0x0, 0x0, 0x0, 0x0, false, false⟩
/-- TS_AO_FREE (R308). -/
def R.TS_AO_FREE : RegSpec := ⟨0x3100010, [], 0x0, 0x0, 0x0, 0x0, 0x0, false, false⟩
/-- TS_AO_RETIRED (R308). -/
def R.TS_AO_RETIRED : RegSpec := ⟨0x3100014, [], 0x0, 0x0, 0x0, 0x0, 0x0, false, false⟩
/-- TS_EVT (R308). -/
def R.TS_EVT : RegSpec := ⟨0x3100018, [], 0x0, 0x0, 0x7, 0x0, 0x0, false, false⟩
/-- TS_PLIM_p (R308). -/
def R.TS_PLIM : RegSpec := ⟨0x3101000, [⟨0x8, 512, 0⟩], 0x3ffff, 0x8003ffff, 0x0, 0x0, 0x0, false, false⟩
/-- TS_PCNT_p (R308). -/
def R.TS_PCNT : RegSpec := ⟨0x3101004, [⟨0x8, 512, 0⟩], 0x0, 0x0, 0x0, 0x0, 0x0, false, false⟩
/-- TS_LEARNED (R309). -/
def R.TS_LEARNED : RegSpec := ⟨0x3104000, [], 0x0, 0x0, 0x0, 0x0, 0x0, true, false⟩
/-- TS_MOVED (R309). -/
def R.TS_MOVED : RegSpec := ⟨0x3104008, [], 0x0, 0x0, 0x0, 0x0, 0x0, true, false⟩
/-- TS_AGED (R309). -/
def R.TS_AGED : RegSpec := ⟨0x3104010, [], 0x0, 0x0, 0x0, 0x0, 0x0, true, false⟩
/-- TS_AGE_CANCEL (R309). -/
def R.TS_AGE_CANCEL : RegSpec := ⟨0x3104018, [], 0x0, 0x0, 0x0, 0x0, 0x0, true, false⟩
/-- TS_RELEARN (R309). -/
def R.TS_RELEARN : RegSpec := ⟨0x3104020, [], 0x0, 0x0, 0x0, 0x0, 0x0, true, false⟩
/-- TS_LEARN_DROP (R309). -/
def R.TS_LEARN_DROP : RegSpec := ⟨0x3104028, [], 0x0, 0x0, 0x0, 0x0, 0x0, true, false⟩
/-- TS_FAIL_LATE (R309). -/
def R.TS_FAIL_LATE : RegSpec := ⟨0x3104030, [], 0x0, 0x0, 0x0, 0x0, 0x0, true, false⟩
/-- TS_LIMIT_LATE (R309). -/
def R.TS_LIMIT_LATE : RegSpec := ⟨0x3104038, [], 0x0, 0x0, 0x0, 0x0, 0x0, true, false⟩
/-- FC_CTRL (R310). -/
def R.FC_CTRL : RegSpec := ⟨0x3180000, [], 0x1, 0x1, 0x0, 0x0, 0x0, false, false⟩
/-- FC_CAP (R310). -/
def R.FC_CAP : RegSpec := ⟨0x3180004, [], 0x0, 0x0, 0x0, 0x0, 0x0, false, false⟩
/-- FC_USED (R310). -/
def R.FC_USED : RegSpec := ⟨0x3180008, [], 0x0, 0x0, 0x0, 0x0, 0x0, false, false⟩
/-- FC_TIMEOUT (R310). -/
def R.FC_TIMEOUT : RegSpec := ⟨0x318000c, [], 0x14, 0xffff, 0x0, 0x0, 0x0, false, false⟩
/-- FC_SEED0 (R310). -/
def R.FC_SEED0 : RegSpec := ⟨0x3180010, [], 0x0, 0x0, 0x0, 0x0, 0x0, false, false⟩
/-- FC_SEED1 (R310). -/
def R.FC_SEED1 : RegSpec := ⟨0x3180014, [], 0x0, 0x0, 0x0, 0x0, 0x0, false, false⟩
/-- FC_EVT (R310). -/
def R.FC_EVT : RegSpec := ⟨0x3180018, [], 0x0, 0x0, 0x7, 0x0, 0x0, false, false⟩
/-- FC_PROF_A_p (R310). -/
def R.FC_PROF_A : RegSpec := ⟨0x3180100, [⟨0x8, 16, 0⟩], 0xffc000, 0xffffc000, 0x0, 0x0, 0x0, false, false⟩
/-- FC_PROF_B_p (R310). -/
def R.FC_PROF_B : RegSpec := ⟨0x3180104, [⟨0x8, 16, 0⟩], 0x3c, 0xffff, 0x0, 0x0, 0x0, false, false⟩
/-- FC_OPS (R311). -/
def R.FC_OPS : RegSpec := ⟨0x3181000, [], 0x0, 0x0, 0x0, 0x0, 0x0, true, false⟩
/-- FC_CACHE_MISS (R311). -/
def R.FC_CACHE_MISS : RegSpec := ⟨0x3181008, [], 0x0, 0x0, 0x0, 0x0, 0x0, true, false⟩
/-- FC_CREATED (R311). -/
def R.FC_CREATED : RegSpec := ⟨0x3181010, [], 0x0, 0x0, 0x0, 0x0, 0x0, true, false⟩
/-- FC_AGED (R311). -/
def R.FC_AGED : RegSpec := ⟨0x3181018, [], 0x0, 0x0, 0x0, 0x0, 0x0, true, false⟩
/-- FC_CAUSE_c (R311). -/
def R.FC_CAUSE : RegSpec := ⟨0x3181018, [⟨0x8, 6, 1⟩], 0x0, 0x0, 0x0, 0x0, 0x0, true, false⟩
/-- FP_PATTERN (R361). -/
def R.FP_PATTERN : RegSpec := ⟨0x3200000, [], 0x3210, 0x0, 0x0, 0x0, 0x0, false, false⟩
/-- FP_REPAT (R361). -/
def R.FP_REPAT : RegSpec := ⟨0x3200004, [], 0x0, 0x0, 0x0, 0x0, 0x0, false, false⟩
/-- FP_EVT (R361). -/
def R.FP_EVT : RegSpec := ⟨0x3200008, [], 0x0, 0x0, 0x3, 0x0, 0x0, false, false⟩
/-- SB_TREE_SPLIT (R361). -/
def R.SB_TREE_SPLIT : RegSpec := ⟨0x3280000, [], 0x8000, 0x0, 0x0, 0x0, 0x0, false, false⟩
/-- SB_DEEP_RESV (R361). -/
def R.SB_DEEP_RESV : RegSpec := ⟨0x3280004, [], 0x0, 0x0, 0x0, 0x0, 0x0, false, false⟩
/-- SB_DFREE_CAP (R361). -/
def R.SB_DFREE_CAP : RegSpec := ⟨0x3280008, [], 0x0, 0x0, 0x0, 0x0, 0x0, false, false⟩
/-- SB_EVT (R361). -/
def R.SB_EVT : RegSpec := ⟨0x328000c, [], 0x0, 0x0, 0x7, 0x0, 0x0, false, false⟩
/-- SB_POOL_CFG_n (R361). -/
def R.SB_POOL_CFG : RegSpec := ⟨0x3280100, [⟨0x10, 5, 4⟩], 0x0, 0x0, 0x0, 0x0, 0x0, false, true⟩
/-- SB_POOL_FREE_n (R361). -/
def R.SB_POOL_FREE : RegSpec := ⟨0x3280104, [⟨0x10, 5, 4⟩], 0x0, 0x0, 0x0, 0x0, 0x0, false, false⟩
/-- SB_POOL_BASE_n (R361). -/
def R.SB_POOL_BASE : RegSpec := ⟨0x3280108, [⟨0x10, 5, 4⟩], 0x0, 0x0, 0x0, 0x0, 0x0, false, false⟩
/-- SB_POOL_LOW_n (R361). -/
def R.SB_POOL_LOW : RegSpec := ⟨0x328010c, [⟨0x10, 5, 4⟩], 0x0, 0xffffff, 0x0, 0x0, 0x0, false, false⟩
/-- SB_ALLOC_n (R361). -/
def R.SB_ALLOC : RegSpec := ⟨0x3281000, [⟨0x40, 5, 4⟩], 0x0, 0x0, 0x0, 0x0, 0x0, true, false⟩
/-- SB_FALLBACK_n (R361). -/
def R.SB_FALLBACK : RegSpec := ⟨0x3281008, [⟨0x40, 5, 4⟩], 0x0, 0x0, 0x0, 0x0, 0x0, true, false⟩
/-- SB_FAIL_n (R361). -/
def R.SB_FAIL : RegSpec := ⟨0x3281010, [⟨0x40, 5, 4⟩], 0x0, 0x0, 0x0, 0x0, 0x0, true, false⟩
/-- SB_DFREE_n (R361). -/
def R.SB_DFREE : RegSpec := ⟨0x3281018, [⟨0x40, 5, 4⟩], 0x0, 0x0, 0x0, 0x0, 0x0, true, false⟩
/-- CP_DDR_BASE (R386). -/
def R.CP_DDR_BASE : RegSpec := ⟨0x3300000, [], 0x0, 0xffffffff, 0x0, 0x0, 0x0, false, false⟩
/-- CP_DDR_CFG (R386). -/
def R.CP_DDR_CFG : RegSpec := ⟨0x3300004, [], 0x10, 0x8000001f, 0x0, 0x0, 0x0, false, false⟩
/-- CP_DDR_PROD (R386). -/
def R.CP_DDR_PROD : RegSpec := ⟨0x3300008, [], 0x0, 0x0, 0x0, 0x0, 0x0, false, false⟩
/-- CP_DDR_CONS (R386). -/
def R.CP_DDR_CONS : RegSpec := ⟨0x330000c, [], 0x0, 0x1fffff, 0x0, 0x0, 0x0, false, false⟩
/-- CP_EVT (R386). -/
def R.CP_EVT : RegSpec := ⟨0x3300010, [], 0x0, 0x0, 0x3, 0x0, 0x0, false, false⟩
/-- CP_RECORDS (R386). -/
def R.CP_RECORDS : RegSpec := ⟨0x3300100, [], 0x0, 0x0, 0x0, 0x0, 0x0, true, false⟩
/-- CP_DROP_FULL (R386). -/
def R.CP_DROP_FULL : RegSpec := ⟨0x3300108, [], 0x0, 0x0, 0x0, 0x0, 0x0, true, false⟩
/-- CP_DROP_NOHOST (R386). -/
def R.CP_DROP_NOHOST : RegSpec := ⟨0x3300110, [], 0x0, 0x0, 0x0, 0x0, 0x0, true, false⟩
/-- CP_DROP_QUEUE (R386). -/
def R.CP_DROP_QUEUE : RegSpec := ⟨0x3300118, [], 0x0, 0x0, 0x0, 0x0, 0x0, true, false⟩
/-- TL_CTRL (R428). -/
def R.TL_CTRL : RegSpec := ⟨0x3380000, [], 0x1, 0x3, 0x0, 0x0, 0x0, false, false⟩
/-- TL_TIME (R428). -/
def R.TL_TIME : RegSpec := ⟨0x3380004, [], 0xa0000, 0x3f003f, 0x0, 0x0, 0x0, false, false⟩
/-- TL_RING (R428). -/
def R.TL_RING : RegSpec := ⟨0x3380008, [], 0x0, 0x7ff, 0x0, 0x0, 0x0, false, false⟩
/-- TL_SEQ (R428). -/
def R.TL_SEQ : RegSpec := ⟨0x338000c, [], 0x0, 0x0, 0x0, 0x0, 0x0, false, false⟩
/-- TL_COMMIT_SEC_LO (R428). -/
def R.TL_COMMIT_SEC_LO : RegSpec := ⟨0x3380010, [], 0x0, 0x0, 0x0, 0x0, 0x0, false, false⟩
/-- TL_COMMIT_SEC_HI (R428). -/
def R.TL_COMMIT_SEC_HI : RegSpec := ⟨0x3380014, [], 0x0, 0x0, 0x0, 0x0, 0x0, false, false⟩
/-- TL_STAT (R428). -/
def R.TL_STAT : RegSpec := ⟨0x3380018, [], 0x0, 0x0, 0x0, 0x0, 0x0, false, false⟩
/-- TL_LOG_BASE (R428). -/
def R.TL_LOG_BASE : RegSpec := ⟨0x3380020, [], 0x0, 0xffffffff, 0x0, 0x0, 0x0, false, false⟩
/-- TL_LOG_CFG (R428). -/
def R.TL_LOG_CFG : RegSpec := ⟨0x3380024, [], 0x14, 0x8000001f, 0x0, 0x0, 0x0, false, false⟩
/-- TL_LOG_PROD (R428). -/
def R.TL_LOG_PROD : RegSpec := ⟨0x3380028, [], 0x0, 0x0, 0x0, 0x0, 0x0, false, false⟩
/-- TL_LOG_CONS (R428). -/
def R.TL_LOG_CONS : RegSpec := ⟨0x338002c, [], 0x0, 0x1ffffff, 0x0, 0x0, 0x0, false, false⟩
/-- TL_EVT (R428). -/
def R.TL_EVT : RegSpec := ⟨0x3380030, [], 0x0, 0x0, 0x1f, 0x0, 0x0, false, false⟩
/-- TL_SETS (R428). -/
def R.TL_SETS : RegSpec := ⟨0x3380100, [], 0x0, 0x0, 0x0, 0x0, 0x0, true, false⟩
/-- TL_RECORDS (R428). -/
def R.TL_RECORDS : RegSpec := ⟨0x3380108, [], 0x0, 0x0, 0x0, 0x0, 0x0, true, false⟩
/-- TL_DIVERTED (R428). -/
def R.TL_DIVERTED : RegSpec := ⟨0x3380110, [], 0x0, 0x0, 0x0, 0x0, 0x0, true, false⟩
/-- TL_DISCARDED (R428). -/
def R.TL_DISCARDED : RegSpec := ⟨0x3380118, [], 0x0, 0x0, 0x0, 0x0, 0x0, true, false⟩
/-- TL_DEFERRED (R428). -/
def R.TL_DEFERRED : RegSpec := ⟨0x3380120, [], 0x0, 0x0, 0x0, 0x0, 0x0, true, false⟩

/-! The fields, by register and name. -/

def F.ID_DEVICE_DEVICE : Fld := ⟨R.ID_DEVICE, 31, 16⟩
def F.ID_DEVICE_REV : Fld := ⟨R.ID_DEVICE, 7, 0⟩
def F.FEAT_OFFER_ALL : Fld := ⟨R.FEAT_OFFER, 31, 0⟩
def F.FEAT_ACCEPT_ALL : Fld := ⟨R.FEAT_ACCEPT, 31, 0⟩
def F.FEAT_CTRL_DRIVER_OK : Fld := ⟨R.FEAT_CTRL, 31, 31⟩
def F.FEAT_CTRL_REFUSED : Fld := ⟨R.FEAT_CTRL, 30, 30⟩
def F.FEAT_CTRL_BAD_WORD : Fld := ⟨R.FEAT_CTRL, 2, 0⟩
def F.TK_STATUS_LAST_WAKE : Fld := ⟨R.TK_STATUS, 10, 8⟩
def F.TK_STATUS_RET_VALID : Fld := ⟨R.TK_STATUS, 4, 4⟩
def F.TK_STATUS_RET_RESTORED : Fld := ⟨R.TK_STATUS, 3, 3⟩
def F.TK_STATUS_TIME_VALID : Fld := ⟨R.TK_STATUS, 2, 2⟩
def F.TK_STATUS_HOLDOVER : Fld := ⟨R.TK_STATUS, 1, 1⟩
def F.TK_STATUS_PPS_LOCKED : Fld := ⟨R.TK_STATUS, 0, 0⟩
def F.TK_SEC_LO_ALL : Fld := ⟨R.TK_SEC_LO, 31, 0⟩
def F.TK_SEC_HI_SEC : Fld := ⟨R.TK_SEC_HI, 15, 0⟩
def F.TK_NS_NS : Fld := ⟨R.TK_NS, 29, 0⟩
def F.TK_FRAC_FRAC : Fld := ⟨R.TK_FRAC, 15, 0⟩
def F.TK_TICK_LO_ALL : Fld := ⟨R.TK_TICK_LO, 31, 0⟩
def F.TK_TICK_HI_ALL : Fld := ⟨R.TK_TICK_HI, 31, 0⟩
def F.TK_STEP_SEC_LO_ALL : Fld := ⟨R.TK_STEP_SEC_LO, 31, 0⟩
def F.TK_STEP_SEC_HI_SEC : Fld := ⟨R.TK_STEP_SEC_HI, 15, 0⟩
def F.TK_STEP_NS_APPLY : Fld := ⟨R.TK_STEP_NS, 31, 31⟩
def F.TK_STEP_NS_NS : Fld := ⟨R.TK_STEP_NS, 29, 0⟩
def F.TK_ADDEND_LO_ALL : Fld := ⟨R.TK_ADDEND_LO, 31, 0⟩
def F.TK_ADDEND_HI_ADDEND : Fld := ⟨R.TK_ADDEND_HI, 7, 0⟩
def F.TK_SLEW_ALL : Fld := ⟨R.TK_SLEW, 31, 0⟩
def F.TK_PPS_CTRL_MODE : Fld := ⟨R.TK_PPS_CTRL, 17, 16⟩
def F.TK_PPS_CTRL_KP_SHIFT : Fld := ⟨R.TK_PPS_CTRL, 15, 12⟩
def F.TK_PPS_CTRL_KI_SHIFT : Fld := ⟨R.TK_PPS_CTRL, 11, 8⟩
def F.TK_PPS_CTRL_POL : Fld := ⟨R.TK_PPS_CTRL, 0, 0⟩
def F.TK_PPS_CAP_SEC_ALL : Fld := ⟨R.TK_PPS_CAP_SEC, 31, 0⟩
def F.TK_PPS_CAP_NS_NEW : Fld := ⟨R.TK_PPS_CAP_NS, 31, 31⟩
def F.TK_PPS_CAP_NS_NS : Fld := ⟨R.TK_PPS_CAP_NS, 29, 0⟩
def F.TK_PPS_OUT_EN : Fld := ⟨R.TK_PPS_OUT, 31, 31⟩
def F.TK_PPS_OUT_WIDTH_MS : Fld := ⟨R.TK_PPS_OUT, 6, 0⟩
def F.TK_PPS_OFS_OFFSET_NS : Fld := ⟨R.TK_PPS_OFS, 29, 0⟩
def F.TK_EVT_TIME_INVALID : Fld := ⟨R.TK_EVT, 6, 6⟩
def F.TK_EVT_JOURNAL_WRAP : Fld := ⟨R.TK_EVT, 5, 5⟩
def F.TK_EVT_ADJ_REFUSED : Fld := ⟨R.TK_EVT, 4, 4⟩
def F.TK_EVT_HOLDOVER : Fld := ⟨R.TK_EVT, 3, 3⟩
def F.TK_EVT_LOCK_LOST : Fld := ⟨R.TK_EVT, 2, 2⟩
def F.TK_EVT_PPS_CAPTURE : Fld := ⟨R.TK_EVT, 1, 1⟩
def F.TK_EVT_CMP : Fld := ⟨R.TK_EVT, 0, 0⟩
def F.TK_CMP_CFG_EN : Fld := ⟨R.TK_CMP_CFG, 31, 31⟩
def F.TK_CMP_CFG_ACTION : Fld := ⟨R.TK_CMP_CFG, 27, 24⟩
def F.TK_CMP_CFG_QUAL : Fld := ⟨R.TK_CMP_CFG, 15, 0⟩
def F.TK_CMP_THR_HIGH : Fld := ⟨R.TK_CMP_THR, 31, 16⟩
def F.TK_CMP_THR_LOW : Fld := ⟨R.TK_CMP_THR, 15, 0⟩
def F.TK_CMP_STAT_TRIPPED : Fld := ⟨R.TK_CMP_STAT, 31, 31⟩
def F.TK_CMP_STAT_OUTSIDE : Fld := ⟨R.TK_CMP_STAT, 30, 30⟩
def F.TK_CMP_STAT_VALUE : Fld := ⟨R.TK_CMP_STAT, 15, 0⟩
def F.TK_CMP_CNT_ALL : Fld := ⟨R.TK_CMP_CNT, 31, 0⟩
def F.TK_VIN_TRACK_PCT : Fld := ⟨R.TK_VIN_TRACK, 7, 0⟩
def F.TK_RET_ADDR_WORD : Fld := ⟨R.TK_RET_ADDR, 17, 2⟩
def F.TK_RET_DATA_ALL : Fld := ⟨R.TK_RET_DATA, 31, 0⟩
def F.TK_JRNL_HEAD_HEAD : Fld := ⟨R.TK_JRNL_HEAD, 11, 0⟩
def F.TK_JRNL_COUNT_ALL : Fld := ⟨R.TK_JRNL_COUNT, 31, 0⟩
def F.TK_WAKE_CTRL_AUTO_VIN : Fld := ⟨R.TK_WAKE_CTRL, 2, 2⟩
def F.TK_WAKE_CTRL_TIMED_EN : Fld := ⟨R.TK_WAKE_CTRL, 1, 1⟩
def F.TK_WAKE_CTRL_NOW : Fld := ⟨R.TK_WAKE_CTRL, 0, 0⟩
def F.TK_WAKE_SEC_ALL : Fld := ⟨R.TK_WAKE_SEC, 31, 0⟩
def F.TK_LM_HEAD_COUNT : Fld := ⟨R.TK_LM_HEAD, 31, 16⟩
def F.TK_LM_HEAD_NEXT : Fld := ⟨R.TK_LM_HEAD, 3, 0⟩
def F.PS_STATUS_OC_LATCH : Fld := ⟨R.PS_STATUS, 7, 7⟩
def F.PS_STATUS_REV_TRIP : Fld := ⟨R.PS_STATUS, 6, 6⟩
def F.PS_STATUS_OV_CUT : Fld := ⟨R.PS_STATUS, 5, 5⟩
def F.PS_STATUS_VAUX_OK : Fld := ⟨R.PS_STATUS, 4, 4⟩
def F.PS_STATUS_VIN_OK : Fld := ⟨R.PS_STATUS, 3, 3⟩
def F.PS_STATUS_RAILS_ON : Fld := ⟨R.PS_STATUS, 2, 2⟩
def F.PS_STATUS_SS_STATE : Fld := ⟨R.PS_STATUS, 1, 0⟩
def F.PS_CTRL_RETRY : Fld := ⟨R.PS_CTRL, 0, 0⟩
def F.PS_VIN_VIN_AVG : Fld := ⟨R.PS_VIN, 31, 16⟩
def F.PS_VIN_VIN_MIN : Fld := ⟨R.PS_VIN, 15, 0⟩
def F.PS_IIN_IIN_PEAK : Fld := ⟨R.PS_IIN, 31, 16⟩
def F.PS_IIN_IIN_AVG : Fld := ⟨R.PS_IIN, 15, 0⟩
def F.PS_PIN_ALL : Fld := ⟨R.PS_PIN, 31, 0⟩
def F.MD_MODE_MIXED : Fld := ⟨R.MD_MODE, 31, 31⟩
def F.MD_MODE_MODE : Fld := ⟨R.MD_MODE, 2, 0⟩
def F.MD_EPOCH_PREV : Fld := ⟨R.MD_EPOCH, 31, 16⟩
def F.MD_EPOCH_CURRENT : Fld := ⟨R.MD_EPOCH, 15, 0⟩
def F.MD_DRAIN_EPOCH_BANK1 : Fld := ⟨R.MD_DRAIN_EPOCH, 31, 16⟩
def F.MD_DRAIN_EPOCH_BANK0 : Fld := ⟨R.MD_DRAIN_EPOCH, 15, 0⟩
def F.MD_DRAIN_CNT_ZERO : Fld := ⟨R.MD_DRAIN_CNT, 31, 31⟩
def F.MD_DRAIN_CNT_COUNT : Fld := ⟨R.MD_DRAIN_CNT, 27, 0⟩
def F.MD_RESID_LIMIT_US : Fld := ⟨R.MD_RESID, 15, 0⟩
def F.MD_DRAIN_LEFT_ALL : Fld := ⟨R.MD_DRAIN_LEFT, 31, 0⟩
def F.MD_COMMIT_SEC_LO_ALL : Fld := ⟨R.MD_COMMIT_SEC_LO, 31, 0⟩
def F.MD_COMMIT_SEC_HI_SEC : Fld := ⟨R.MD_COMMIT_SEC_HI, 15, 0⟩
def F.MD_COMMIT_NS_NS : Fld := ⟨R.MD_COMMIT_NS, 29, 0⟩
def F.MD_COMMIT_CTRL_GO : Fld := ⟨R.MD_COMMIT_CTRL, 31, 31⟩
def F.MD_COMMIT_CTRL_AFTER_DRAIN : Fld := ⟨R.MD_COMMIT_CTRL, 5, 4⟩
def F.MD_COMMIT_CTRL_DRAIN : Fld := ⟨R.MD_COMMIT_CTRL, 2, 2⟩
def F.MD_COMMIT_CTRL_GAIT : Fld := ⟨R.MD_COMMIT_CTRL, 1, 1⟩
def F.MD_COMMIT_CTRL_EPOCH : Fld := ⟨R.MD_COMMIT_CTRL, 0, 0⟩
def F.MD_COMMIT_STAT_STATE : Fld := ⟨R.MD_COMMIT_STAT, 31, 29⟩
def F.MD_COMMIT_STAT_REASON : Fld := ⟨R.MD_COMMIT_STAT, 28, 24⟩
def F.MD_COMMIT_STAT_SEQ : Fld := ⟨R.MD_COMMIT_STAT, 23, 16⟩
def F.MD_COMMIT_STAT_SRC : Fld := ⟨R.MD_COMMIT_STAT, 15, 15⟩
def F.MD_PREP_GUARD_GUARD_US : Fld := ⟨R.MD_PREP_GUARD, 7, 0⟩
def F.MD_COMMIT_PREP_DIES : Fld := ⟨R.MD_COMMIT_PREP, 12, 0⟩
def F.MD_COMMIT_APPLIED_DIES : Fld := ⟨R.MD_COMMIT_APPLIED, 12, 0⟩
def F.MD_RESET_REFUSED : Fld := ⟨R.MD_RESET, 31, 31⟩
def F.MD_RESET_KIND : Fld := ⟨R.MD_RESET, 2, 0⟩
def F.MD_STR_MASK_ALL : Fld := ⟨R.MD_STR_MASK, 31, 0⟩
def F.MD_EVT_COMMIT_DIE_FAULT : Fld := ⟨R.MD_EVT, 5, 5⟩
def F.MD_EVT_MIXED : Fld := ⟨R.MD_EVT, 4, 4⟩
def F.MD_EVT_EPOCH_DRAINED : Fld := ⟨R.MD_EVT, 3, 3⟩
def F.MD_EVT_DRAIN_DONE : Fld := ⟨R.MD_EVT, 2, 2⟩
def F.MD_EVT_COMMIT_CANCELLED : Fld := ⟨R.MD_EVT, 1, 1⟩
def F.MD_EVT_COMMIT_DONE : Fld := ⟨R.MD_EVT, 0, 0⟩
def F.MD_LAST_RESET_MODE : Fld := ⟨R.MD_LAST_RESET, 15, 8⟩
def F.MD_LAST_RESET_CAUSE : Fld := ⟨R.MD_LAST_RESET, 7, 0⟩
def F.MD_UNIT_MODE_EPOCH : Fld := ⟨R.MD_UNIT_MODE, 31, 16⟩
def F.MD_UNIT_MODE_ISOLATED : Fld := ⟨R.MD_UNIT_MODE, 3, 3⟩
def F.MD_UNIT_MODE_MODE : Fld := ⟨R.MD_UNIT_MODE, 2, 0⟩
def F.PB_STATUS_LOADING : Fld := ⟨R.PB_STATUS, 31, 31⟩
def F.PB_STATUS_FALLBACK : Fld := ⟨R.PB_STATUS, 30, 30⟩
def F.PB_STATUS_UNSIGNED : Fld := ⟨R.PB_STATUS, 29, 29⟩
def F.PB_STATUS_ACTIVE : Fld := ⟨R.PB_STATUS, 28, 28⟩
def F.PB_STATUS_FAIL : Fld := ⟨R.PB_STATUS, 23, 16⟩
def F.PB_STATUS_SKIPPED : Fld := ⟨R.PB_STATUS, 15, 0⟩
def F.PB_SEQ_A_ALL : Fld := ⟨R.PB_SEQ_A, 31, 0⟩
def F.PB_SEQ_B_ALL : Fld := ⟨R.PB_SEQ_B, 31, 0⟩
def F.PB_ATTEMPTS_VALID_B : Fld := ⟨R.PB_ATTEMPTS, 17, 17⟩
def F.PB_ATTEMPTS_VALID_A : Fld := ⟨R.PB_ATTEMPTS, 16, 16⟩
def F.PB_ATTEMPTS_ATT_B : Fld := ⟨R.PB_ATTEMPTS, 15, 8⟩
def F.PB_ATTEMPTS_ATT_A : Fld := ⟨R.PB_ATTEMPTS, 7, 0⟩
def F.PB_IMAGE_ID_LO_ALL : Fld := ⟨R.PB_IMAGE_ID_LO, 31, 0⟩
def F.PB_IMAGE_ID_HI_ALL : Fld := ⟨R.PB_IMAGE_ID_HI, 31, 0⟩
def F.PB_LOAD_US_ALL : Fld := ⟨R.PB_LOAD_US, 31, 0⟩
def F.PB_RPT_ADDR_WORD : Fld := ⟨R.PB_RPT_ADDR, 15, 2⟩
def F.PB_RPT_DATA_ALL : Fld := ⟨R.PB_RPT_DATA, 31, 0⟩
def F.PB_FLASH_ADDR_PAGE : Fld := ⟨R.PB_FLASH_ADDR, 29, 8⟩
def F.PB_FLASH_CMD_GO : Fld := ⟨R.PB_FLASH_CMD, 31, 31⟩
def F.PB_FLASH_CMD_REFUSED : Fld := ⟨R.PB_FLASH_CMD, 30, 30⟩
def F.PB_FLASH_CMD_ERROR : Fld := ⟨R.PB_FLASH_CMD, 29, 29⟩
def F.PB_FLASH_CMD_OP : Fld := ⟨R.PB_FLASH_CMD, 1, 0⟩
def F.PB_FUSE_KEYS_REVOKED : Fld := ⟨R.PB_FUSE_KEYS, 7, 4⟩
def F.PB_FUSE_KEYS_PROGRAMMED : Fld := ⟨R.PB_FUSE_KEYS, 3, 0⟩
def F.PB_FUSE_SECVER_MIN : Fld := ⟨R.PB_FUSE_SECVER, 6, 0⟩
def F.PB_EVT_FALLBACK : Fld := ⟨R.PB_EVT, 1, 1⟩
def F.PB_EVT_FLASH_DONE : Fld := ⟨R.PB_EVT, 0, 0⟩
def F.PB_FUSE_PROG_GO : Fld := ⟨R.PB_FUSE_PROG, 31, 31⟩
def F.PB_FUSE_PROG_ERROR : Fld := ⟨R.PB_FUSE_PROG, 30, 30⟩
def F.PB_FUSE_PROG_SLOT : Fld := ⟨R.PB_FUSE_PROG, 5, 4⟩
def F.PB_FUSE_PROG_OP : Fld := ⟨R.PB_FUSE_PROG, 3, 0⟩
def F.PB_FLASH_DATA_ALL : Fld := ⟨R.PB_FLASH_DATA, 31, 0⟩
def F.PT_CTRL_LOOP_MODE : Fld := ⟨R.PT_CTRL, 7, 6⟩
def F.PT_CTRL_PATINA_EN : Fld := ⟨R.PT_CTRL, 5, 5⟩
def F.PT_CTRL_CLAIMS_EN : Fld := ⟨R.PT_CTRL, 4, 4⟩
def F.PT_FLOOR_SKIRT_FLOOR : Fld := ⟨R.PT_FLOOR_SKIRT, 15, 0⟩
def F.PT_FLOOR_GIRTH_FLOOR : Fld := ⟨R.PT_FLOOR_GIRTH, 15, 0⟩
def F.PT_FLOOR_TREE_FLOOR : Fld := ⟨R.PT_FLOOR_TREE, 15, 0⟩
def F.PT_VFIX_VFIX : Fld := ⟨R.PT_VFIX, 9, 0⟩
def F.PT_PLAN_CFG_WARN_MV : Fld := ⟨R.PT_PLAN_CFG, 31, 24⟩
def F.PT_PLAN_CFG_DRIFT_MV : Fld := ⟨R.PT_PLAN_CFG, 23, 16⟩
def F.PT_PLAN_CFG_INTERVAL_H : Fld := ⟨R.PT_PLAN_CFG, 15, 0⟩
def F.PT_WINDOW_WIN_LOG : Fld := ⟨R.PT_WINDOW, 3, 0⟩
def F.PT_NM_LIMIT_LIMIT : Fld := ⟨R.PT_NM_LIMIT, 15, 0⟩
def F.PT_REPLAN_DIE_MASK : Fld := ⟨R.PT_REPLAN, 12, 0⟩
def F.PT_EVT_CLAIM_STALL : Fld := ⟨R.PT_EVT, 5, 5⟩
def F.PT_EVT_SENSOR_FAULT : Fld := ⟨R.PT_EVT, 4, 4⟩
def F.PT_EVT_GUARANTEE_LOST : Fld := ⟨R.PT_EVT, 3, 3⟩
def F.PT_EVT_MARGIN_EXHAUSTED : Fld := ⟨R.PT_EVT, 2, 2⟩
def F.PT_EVT_MARGIN_LOW : Fld := ⟨R.PT_EVT, 1, 1⟩
def F.PT_EVT_CEILING : Fld := ⟨R.PT_EVT, 0, 0⟩
def F.PT_PACE_VALID : Fld := ⟨R.PT_PACE, 31, 31⟩
def F.PT_PACE_BELOW_GUAR : Fld := ⟨R.PT_PACE, 30, 30⟩
def F.PT_PACE_BELOW_FLOOR : Fld := ⟨R.PT_PACE, 29, 29⟩
def F.PT_PACE_PACE : Fld := ⟨R.PT_PACE, 15, 0⟩
def F.PT_PACE_MIN_SLACK : Fld := ⟨R.PT_PACE_MIN, 31, 16⟩
def F.PT_PACE_MIN_MIN : Fld := ⟨R.PT_PACE_MIN, 15, 0⟩
def F.PT_VCORE_VFLOOR : Fld := ⟨R.PT_VCORE, 25, 16⟩
def F.PT_VCORE_VNOW : Fld := ⟨R.PT_VCORE, 9, 0⟩
def F.PT_LOOP_NEARMISS : Fld := ⟨R.PT_LOOP, 31, 16⟩
def F.PT_LOOP_AT_CEILING : Fld := ⟨R.PT_LOOP, 2, 2⟩
def F.PT_LOOP_AT_TARGET : Fld := ⟨R.PT_LOOP, 1, 1⟩
def F.PT_LOOP_HOLDING : Fld := ⟨R.PT_LOOP, 0, 0⟩
def F.PT_RESERVE_YEARS : Fld := ⟨R.PT_RESERVE, 31, 16⟩
def F.PT_RESERVE_STATE : Fld := ⟨R.PT_RESERVE, 15, 14⟩
def F.PT_RESERVE_RESERVE_MV : Fld := ⟨R.PT_RESERVE, 9, 0⟩
def F.PT_WEAR_WEAR_MV : Fld := ⟨R.PT_WEAR, 23, 16⟩
def F.PT_WEAR_SENS_EXCL : Fld := ⟨R.PT_WEAR, 7, 0⟩
def F.PT_EQH_ALL : Fld := ⟨R.PT_EQH, 31, 0⟩
def F.PT_PLANTIME_ALL : Fld := ⟨R.PT_PLANTIME, 31, 0⟩
def F.PT_CLAIM_HOLDER : Fld := ⟨R.PT_CLAIM, 31, 28⟩
def F.PT_CLAIM_PARKED : Fld := ⟨R.PT_CLAIM, 27, 24⟩
def F.PT_CLAIM_WAITING : Fld := ⟨R.PT_CLAIM, 23, 16⟩
def F.PT_CLAIMCNT_WAITS : Fld := ⟨R.PT_CLAIMCNT, 31, 16⟩
def F.PT_CLAIMCNT_STALLS : Fld := ⟨R.PT_CLAIMCNT, 15, 0⟩
def F.PT_ACT_HOLD_US : Fld := ⟨R.PT_ACT, 31, 16⟩
def F.PT_ACT_BUDGET : Fld := ⟨R.PT_ACT, 9, 0⟩
def F.EV_TOP_PEND2 : Fld := ⟨R.EV_TOP, 3, 0⟩
def F.EV_PEND2_ALL : Fld := ⟨R.EV_PEND2, 31, 0⟩
def F.EV_PEND_ALL : Fld := ⟨R.EV_PEND, 31, 0⟩
def F.EV_STAT_CFG_REFUSED : Fld := ⟨R.EV_STAT, 31, 31⟩
def F.EV_LOST_ALL : Fld := ⟨R.EV_LOST, 31, 0⟩
def F.EV_SRC_EN : Fld := ⟨R.EV_SRC, 31, 31⟩
def F.EV_SRC_DEST : Fld := ⟨R.EV_SRC, 30, 30⟩
def F.EV_SRC_FN : Fld := ⟨R.EV_SRC, 29, 26⟩
def F.EV_SRC_TARGET : Fld := ⟨R.EV_SRC, 10, 0⟩
def F.FT_EVT_FATAL : Fld := ⟨R.FT_EVT, 3, 3⟩
def F.FT_EVT_DIE : Fld := ⟨R.FT_EVT, 2, 2⟩
def F.FT_EVT_PLANE : Fld := ⟨R.FT_EVT, 1, 1⟩
def F.FT_EVT_CONTAINED : Fld := ⟨R.FT_EVT, 0, 0⟩
def F.FT_DIE_STAT_ISOLATED : Fld := ⟨R.FT_DIE_STAT, 12, 0⟩
def F.FT_LAST_ALL : Fld := ⟨R.FT_LAST, 31, 0⟩
def F.FT_HALT_CAUSE : Fld := ⟨R.FT_HALT, 15, 0⟩
def F.FT_HALT_SEQ_ALL : Fld := ⟨R.FT_HALT_SEQ, 31, 0⟩
def F.FT_LONGEST_US : Fld := ⟨R.FT_LONGEST, 15, 0⟩
def F.PC_DIR_PRESENT : Fld := ⟨R.PC_DIR, 31, 31⟩
def F.PC_DIR_KIND : Fld := ⟨R.PC_DIR, 28, 24⟩
def F.PC_DIR_DIE : Fld := ⟨R.PC_DIR, 23, 16⟩
def F.PC_DIR_INSTANCE : Fld := ⟨R.PC_DIR, 7, 0⟩
def F.PC_FREEZE_APPLIED : Fld := ⟨R.PC_FREEZE, 31, 31⟩
def F.PC_FREEZE_DIES : Fld := ⟨R.PC_FREEZE, 12, 0⟩
def F.PC_BW_WIN_WIN_US : Fld := ⟨R.PC_BW_WIN, 19, 0⟩
def F.SM_CFG_EN : Fld := ⟨R.SM_CFG, 31, 31⟩
def F.SM_CFG_K : Fld := ⟨R.SM_CFG, 28, 24⟩
def F.SM_CFG_DEST : Fld := ⟨R.SM_CFG, 0, 0⟩
def F.SM_RING_RING : Fld := ⟨R.SM_RING, 10, 0⟩
def F.SM_RATE_ALL : Fld := ⟨R.SM_RATE, 31, 0⟩
def F.SM_BURST_BURST : Fld := ⟨R.SM_BURST, 15, 0⟩
def F.PC_CTRL_EN : Fld := ⟨R.PC_CTRL, 31, 31⟩
def F.PC_CTRL_USER : Fld := ⟨R.PC_CTRL, 30, 30⟩
def F.PC_OVF_OVF : Fld := ⟨R.PC_OVF, 7, 0⟩
def F.PC_TICK_LO_ALL : Fld := ⟨R.PC_TICK_LO, 31, 0⟩
def F.PC_TICK_HI_ALL : Fld := ⟨R.PC_TICK_HI, 31, 0⟩
def F.PC_SNAP_OVF : Fld := ⟨R.PC_SNAP, 31, 31⟩
def F.PC_SNAP_CLEARED : Fld := ⟨R.PC_SNAP, 30, 30⟩
def F.PC_SNAP_COUNTER : Fld := ⟨R.PC_SNAP, 2, 0⟩
def F.PC_TWIN_COUNT : Fld := ⟨R.PC_TWIN, 30, 16⟩
def F.PC_TWIN_BASE : Fld := ⟨R.PC_TWIN, 13, 0⟩
def F.PC_SEL_TFILT : Fld := ⟨R.PC_SEL, 31, 31⟩
def F.PC_SEL_UNDEF : Fld := ⟨R.PC_SEL, 30, 30⟩
def F.PC_SEL_EVNUM : Fld := ⟨R.PC_SEL, 11, 0⟩
def F.PC_CNT_n_LO_ALL : Fld := ⟨R.PC_CNT_n_LO, 31, 0⟩
def F.PC_CNT_n_HI_STAMP : Fld := ⟨R.PC_CNT_n_HI, 31, 16⟩
def F.PC_CNT_n_HI_VALUE : Fld := ⟨R.PC_CNT_n_HI, 15, 0⟩
def F.PC_BW_RX_VALID : Fld := ⟨R.PC_BW_RX, 31, 31⟩
def F.PC_BW_RX_MBPS : Fld := ⟨R.PC_BW_RX, 20, 0⟩
def F.PC_BW_TX_VALID : Fld := ⟨R.PC_BW_TX, 31, 31⟩
def F.PC_BW_TX_MBPS : Fld := ⟨R.PC_BW_TX, 20, 0⟩
def F.PC_BW_PEAK_TX : Fld := ⟨R.PC_BW_PEAK, 31, 16⟩
def F.PC_BW_PEAK_RX : Fld := ⟨R.PC_BW_PEAK, 15, 0⟩
def F.RC_STAT_HALTED : Fld := ⟨R.RC_STAT, 31, 31⟩
def F.RC_STAT_REASON : Fld := ⟨R.RC_STAT, 27, 24⟩
def F.RC_STAT_FN : Fld := ⟨R.RC_STAT, 23, 20⟩
def F.RC_STAT_SQ : Fld := ⟨R.RC_STAT, 10, 0⟩
def F.RC_HALT_IDX_INDEX : Fld := ⟨R.RC_HALT_IDX, 16, 0⟩
def F.RC_CTRL_HALT_IRQ_EN : Fld := ⟨R.RC_CTRL, 31, 31⟩
def F.RC_CTRL_HALT_VEC : Fld := ⟨R.RC_CTRL, 10, 0⟩
def F.RC_RX_FLUSH_US : Fld := ⟨R.RC_RX_FLUSH, 13, 0⟩
def F.RC_LEARN_EN : Fld := ⟨R.RC_LEARN, 31, 31⟩
def F.RC_LEARN_RING : Fld := ⟨R.RC_LEARN, 10, 0⟩
def F.RC_EVT_HALT : Fld := ⟨R.RC_EVT, 2, 2⟩
def F.RC_EVT_CQ_FULL : Fld := ⟨R.RC_EVT, 1, 1⟩
def F.RC_EVT_RX_DROP : Fld := ⟨R.RC_EVT, 0, 0⟩
def F.RC_HALT_DESC_ALL : Fld := ⟨R.RC_HALT_DESC, 31, 0⟩
def F.RC_SQ_BASE_LO_ADDR : Fld := ⟨R.RC_SQ_BASE_LO, 31, 12⟩
def F.RC_SQ_BASE_HI_ALL : Fld := ⟨R.RC_SQ_BASE_HI, 31, 0⟩
def F.RC_SQ_CFG_EN : Fld := ⟨R.RC_SQ_CFG, 31, 31⟩
def F.RC_SQ_CFG_TYPE : Fld := ⟨R.RC_SQ_CFG, 30, 27⟩
def F.RC_SQ_CFG_LOG2 : Fld := ⟨R.RC_SQ_CFG, 26, 22⟩
def F.RC_SQ_CFG_FN : Fld := ⟨R.RC_SQ_CFG, 21, 18⟩
def F.RC_SQ_CFG_CQ : Fld := ⟨R.RC_SQ_CFG, 10, 0⟩
def F.RC_SQ_PASID_PASID_EN : Fld := ⟨R.RC_SQ_PASID, 31, 31⟩
def F.RC_SQ_PASID_PASID : Fld := ⟨R.RC_SQ_PASID, 19, 0⟩
def F.RC_SQ_STAT_IDLE : Fld := ⟨R.RC_SQ_STAT, 31, 31⟩
def F.RC_SQ_STAT_CFG_REFUSED : Fld := ⟨R.RC_SQ_STAT, 30, 30⟩
def F.RC_SQ_STAT_PARKED : Fld := ⟨R.RC_SQ_STAT, 29, 29⟩
def F.RC_SQ_STAT_HEAD : Fld := ⟨R.RC_SQ_STAT, 16, 0⟩
def F.RC_SQ_TAIL_TAIL : Fld := ⟨R.RC_SQ_TAIL, 16, 0⟩
def F.RC_CQ_BASE_LO_ADDR : Fld := ⟨R.RC_CQ_BASE_LO, 31, 12⟩
def F.RC_CQ_BASE_HI_ALL : Fld := ⟨R.RC_CQ_BASE_HI, 31, 0⟩
def F.RC_CQ_CFG_EN : Fld := ⟨R.RC_CQ_CFG, 31, 31⟩
def F.RC_CQ_CFG_IRQ_EN : Fld := ⟨R.RC_CQ_CFG, 30, 30⟩
def F.RC_CQ_CFG_LOG2 : Fld := ⟨R.RC_CQ_CFG, 29, 25⟩
def F.RC_CQ_CFG_FN : Fld := ⟨R.RC_CQ_CFG, 24, 21⟩
def F.RC_CQ_CFG_VECTOR : Fld := ⟨R.RC_CQ_CFG, 10, 0⟩
def F.RC_CQ_PASID_PASID_EN : Fld := ⟨R.RC_CQ_PASID, 31, 31⟩
def F.RC_CQ_PASID_PASID : Fld := ⟨R.RC_CQ_PASID, 19, 0⟩
def F.RC_CQ_COAL_US : Fld := ⟨R.RC_CQ_COAL, 31, 16⟩
def F.RC_CQ_COAL_CNT : Fld := ⟨R.RC_CQ_COAL, 15, 0⟩
def F.RC_CQ_STAT_FULL : Fld := ⟨R.RC_CQ_STAT, 31, 31⟩
def F.RC_CQ_STAT_CFG_REFUSED : Fld := ⟨R.RC_CQ_STAT, 30, 30⟩
def F.RC_CQ_STAT_HOLD : Fld := ⟨R.RC_CQ_STAT, 29, 26⟩
def F.RC_CQ_STAT_TAIL : Fld := ⟨R.RC_CQ_STAT, 16, 0⟩
def F.RC_CQ_HEAD_HEAD : Fld := ⟨R.RC_CQ_HEAD, 16, 0⟩
def F.RC_ER_BASE_LO_ADDR : Fld := ⟨R.RC_ER_BASE_LO, 31, 12⟩
def F.RC_ER_BASE_HI_ALL : Fld := ⟨R.RC_ER_BASE_HI, 31, 0⟩
def F.RC_ER_CFG_EN : Fld := ⟨R.RC_ER_CFG, 31, 31⟩
def F.RC_ER_CFG_IRQ_EN : Fld := ⟨R.RC_ER_CFG, 30, 30⟩
def F.RC_ER_CFG_LOG2 : Fld := ⟨R.RC_ER_CFG, 29, 25⟩
def F.RC_ER_CFG_FN : Fld := ⟨R.RC_ER_CFG, 24, 21⟩
def F.RC_ER_CFG_VECTOR : Fld := ⟨R.RC_ER_CFG, 10, 0⟩
def F.RC_ER_PASID_PASID_EN : Fld := ⟨R.RC_ER_PASID, 31, 31⟩
def F.RC_ER_PASID_PASID : Fld := ⟨R.RC_ER_PASID, 19, 0⟩
def F.RC_ER_STAT_FULL : Fld := ⟨R.RC_ER_STAT, 31, 31⟩
def F.RC_ER_STAT_CFG_REFUSED : Fld := ⟨R.RC_ER_STAT, 30, 30⟩
def F.RC_ER_STAT_TAIL : Fld := ⟨R.RC_ER_STAT, 16, 0⟩
def F.RC_ER_HEAD_HEAD : Fld := ⟨R.RC_ER_HEAD, 16, 0⟩
def F.RC_ER_LOST_ALL : Fld := ⟨R.RC_ER_LOST, 31, 0⟩
def F.RC_FN_OPS_CLASSES : Fld := ⟨R.RC_FN_OPS, 11, 0⟩
def F.RC_FN_TEN_COUNT : Fld := ⟨R.RC_FN_TEN, 30, 16⟩
def F.RC_FN_TEN_BASE : Fld := ⟨R.RC_FN_TEN, 13, 0⟩
def F.RC_FN_FEAT_MASK : Fld := ⟨R.RC_FN_FEAT, 31, 16⟩
def F.RC_FN_STAT_DRIVER_OK : Fld := ⟨R.RC_FN_STAT, 31, 31⟩
def F.TR_PRI_TMO_MS : Fld := ⟨R.TR_PRI_TMO, 15, 0⟩
def F.TR_STAT_PRI_OUT : Fld := ⟨R.TR_STAT, 24, 16⟩
def F.TR_STAT_TLB_USED : Fld := ⟨R.TR_STAT, 13, 0⟩
def F.TR_EVT_PRI_TIMEOUT : Fld := ⟨R.TR_EVT, 2, 2⟩
def F.TR_EVT_PRI_FAIL : Fld := ⟨R.TR_EVT, 1, 1⟩
def F.TR_EVT_XLATE : Fld := ⟨R.TR_EVT, 0, 0⟩
def F.TR_PARK_SEL_KIND : Fld := ⟨R.TR_PARK_SEL, 12, 11⟩
def F.TR_PARK_SEL_INDEX : Fld := ⟨R.TR_PARK_SEL, 10, 0⟩
def F.TR_PARK_STAT_PARKED : Fld := ⟨R.TR_PARK_STAT, 31, 31⟩
def F.TR_PARK_STAT_STUCK : Fld := ⟨R.TR_PARK_STAT, 30, 30⟩
def F.TR_PARK_STAT_PRG : Fld := ⟨R.TR_PARK_STAT, 28, 20⟩
def F.TR_PARK_STAT_FRAG : Fld := ⟨R.TR_PARK_STAT, 11, 0⟩
def F.TR_PARK_OFF_OFFSET : Fld := ⟨R.TR_PARK_OFF, 23, 0⟩
def F.TR_PARK_VA_LO_ALL : Fld := ⟨R.TR_PARK_VA_LO, 31, 0⟩
def F.TR_PARK_VA_HI_ALL : Fld := ⟨R.TR_PARK_VA_HI, 31, 0⟩
def F.TR_ENG_PASID_PASID_EN : Fld := ⟨R.TR_ENG_PASID, 31, 31⟩
def F.TR_ENG_PASID_PASID : Fld := ⟨R.TR_ENG_PASID, 19, 0⟩
def F.DM_CFG_CHANNELS : Fld := ⟨R.DM_CFG, 19, 16⟩
def F.DM_CFG_MTS : Fld := ⟨R.DM_CFG, 12, 0⟩
def F.DM_SIZE_VISIBLE_MIB : Fld := ⟨R.DM_SIZE, 19, 0⟩
def F.DM_SPARE_FREE : Fld := ⟨R.DM_SPARE, 31, 16⟩
def F.DM_SPARE_PAGES : Fld := ⟨R.DM_SPARE, 15, 0⟩
def F.DM_RETRAIN_DTEMP : Fld := ⟨R.DM_RETRAIN, 31, 24⟩
def F.DM_RETRAIN_INTERVAL_S : Fld := ⟨R.DM_RETRAIN, 15, 0⟩
def F.DM_RETIRE_CE_LIMIT : Fld := ⟨R.DM_RETIRE, 15, 0⟩
def F.DM_SCRUB_HOURS : Fld := ⟨R.DM_SCRUB, 7, 0⟩
def F.DM_UE_CAP_LO_ALL : Fld := ⟨R.DM_UE_CAP_LO, 31, 0⟩
def F.DM_UE_CAP_HI_VALID : Fld := ⟨R.DM_UE_CAP_HI, 31, 31⟩
def F.DM_UE_CAP_HI_OFFSET : Fld := ⟨R.DM_UE_CAP_HI, 5, 0⟩
def F.DM_EVT_SPARE_EMPTY : Fld := ⟨R.DM_EVT, 3, 3⟩
def F.DM_EVT_RETIRED : Fld := ⟨R.DM_EVT, 2, 2⟩
def F.DM_EVT_RETRAIN_FAIL : Fld := ⟨R.DM_EVT, 1, 1⟩
def F.DM_EVT_UE : Fld := ⟨R.DM_EVT, 0, 0⟩
def F.DM_CH_STAT_TRAINED : Fld := ⟨R.DM_CH_STAT, 31, 31⟩
def F.DM_CH_STAT_RETRAINING : Fld := ⟨R.DM_CH_STAT, 30, 30⟩
def F.DM_CH_STAT_TEMP : Fld := ⟨R.DM_CH_STAT, 7, 0⟩
def F.ST_UCODE_VER_BASE : Fld := ⟨R.ST_UCODE_VER, 15, 0⟩
def F.ST_UCODE_STAT_PENDING : Fld := ⟨R.ST_UCODE_STAT, 31, 31⟩
def F.ST_UCODE_STAT_MCHECK_FATAL : Fld := ⟨R.ST_UCODE_STAT, 30, 30⟩
def F.ST_MC_CAP_VALID : Fld := ⟨R.ST_MC_CAP, 31, 31⟩
def F.ST_MC_CAP_ENGINE : Fld := ⟨R.ST_MC_CAP, 28, 24⟩
def F.ST_MC_CAP_THREAD : Fld := ⟨R.ST_MC_CAP, 23, 21⟩
def F.ST_MC_CAP_ADDR : Fld := ⟨R.ST_MC_CAP, 15, 0⟩
def F.ST_EVT_MCHECK_FATAL : Fld := ⟨R.ST_EVT, 1, 1⟩
def F.ST_EVT_MCHECK : Fld := ⟨R.ST_EVT, 0, 0⟩
def F.ST_PUNT_MAP_DEST : Fld := ⟨R.ST_PUNT_MAP, 31, 30⟩
def F.ST_PUNT_MAP_RING : Fld := ⟨R.ST_PUNT_MAP, 10, 0⟩
def F.ST_PUNT_ENG_ALL : Fld := ⟨R.ST_PUNT_ENG, 31, 0⟩
def F.ST_ENG_CTRL_FREEZE : Fld := ⟨R.ST_ENG_CTRL, 31, 31⟩
def F.ST_ENG_CTRL_STOP : Fld := ⟨R.ST_ENG_CTRL, 23, 16⟩
def F.ST_ENG_CTRL_RESUME : Fld := ⟨R.ST_ENG_CTRL, 15, 8⟩
def F.ST_ENG_CTRL_STEP : Fld := ⟨R.ST_ENG_CTRL, 7, 0⟩
def F.ST_ENG_STAT_ALL_WAITING : Fld := ⟨R.ST_ENG_STAT, 31, 31⟩
def F.ST_ENG_STAT_FROZEN : Fld := ⟨R.ST_ENG_STAT, 30, 30⟩
def F.ST_ENG_STAT_RUNNING : Fld := ⟨R.ST_ENG_STAT, 26, 24⟩
def F.ST_ENG_STAT_STOPPED : Fld := ⟨R.ST_ENG_STAT, 23, 16⟩
def F.ST_ENG_STAT_WAITING : Fld := ⟨R.ST_ENG_STAT, 15, 8⟩
def F.ST_ENG_STAT_FAULTED : Fld := ⟨R.ST_ENG_STAT, 7, 0⟩
def F.ST_EXC_VEC_ADDR : Fld := ⟨R.ST_EXC_VEC, 16, 0⟩
def F.ST_PQ_DEPTH : Fld := ⟨R.ST_PQ, 8, 0⟩
def F.ST_CH_STAT_ALL : Fld := ⟨R.ST_CH_STAT, 31, 0⟩
def F.ST_CH_REL_RELEASE : Fld := ⟨R.ST_CH_REL, 15, 0⟩
def F.ST_CH_OWNER_ALL : Fld := ⟨R.ST_CH_OWNER, 31, 0⟩
def F.ST_CH_OWNER_HI_ALL : Fld := ⟨R.ST_CH_OWNER_HI, 31, 0⟩
def F.ST_BRK_EN : Fld := ⟨R.ST_BRK, 31, 31⟩
def F.ST_BRK_ADDR : Fld := ⟨R.ST_BRK, 16, 0⟩
def F.ST_DBG_SEL_THREAD : Fld := ⟨R.ST_DBG_SEL, 10, 8⟩
def F.ST_DBG_SEL_INDEX : Fld := ⟨R.ST_DBG_SEL, 7, 0⟩
def F.ST_DBG_DATA_LO_ALL : Fld := ⟨R.ST_DBG_DATA_LO, 31, 0⟩
def F.ST_DBG_DATA_HI_ALL : Fld := ⟨R.ST_DBG_DATA_HI, 31, 0⟩
def F.ST_ENG_EVT_THREAD_FAULT : Fld := ⟨R.ST_ENG_EVT, 3, 3⟩
def F.ST_ENG_EVT_ALL_WAITING : Fld := ⟨R.ST_ENG_EVT, 2, 2⟩
def F.ST_ENG_EVT_BREAK : Fld := ⟨R.ST_ENG_EVT, 1, 1⟩
def F.ST_ENG_EVT_MCHECK : Fld := ⟨R.ST_ENG_EVT, 0, 0⟩
def F.PG_GRP_CFG_RATE_HI : Fld := ⟨R.PG_GRP_CFG, 23, 20⟩
def F.PG_GRP_CFG_RATE_LO : Fld := ⟨R.PG_GRP_CFG, 19, 16⟩
def F.PG_GRP_CFG_PORT_MAP : Fld := ⟨R.PG_GRP_CFG, 7, 0⟩
def F.PG_GRP_STAT_CFG_REFUSED : Fld := ⟨R.PG_GRP_STAT, 31, 31⟩
def F.PG_GRP_STAT_LANE_LOCK : Fld := ⟨R.PG_GRP_STAT, 7, 0⟩
def F.PG_GRP_FIFO_FIFO_XON : Fld := ⟨R.PG_GRP_FIFO, 23, 16⟩
def F.PG_GRP_FIFO_FIFO_XOFF : Fld := ⟨R.PG_GRP_FIFO, 7, 0⟩
def F.PG_GRP_FIFO_FILL_PEAK : Fld := ⟨R.PG_GRP_FIFO_FILL, 24, 16⟩
def F.PG_GRP_FIFO_FILL_FILL : Fld := ⟨R.PG_GRP_FIFO_FILL, 8, 0⟩
def F.PG_TPID_TPID_ALT : Fld := ⟨R.PG_TPID, 31, 16⟩
def F.PG_TPID_ALT_EN : Fld := ⟨R.PG_TPID, 0, 0⟩
def F.PG_SP_SEED0_ALL : Fld := ⟨R.PG_SP_SEED0, 31, 0⟩
def F.PG_SP_SEED1_ALL : Fld := ⟨R.PG_SP_SEED1, 31, 0⟩
def F.PG_SP_FILL_OVF_USED : Fld := ⟨R.PG_SP_FILL, 27, 17⟩
def F.PG_SP_FILL_ENTRIES : Fld := ⟨R.PG_SP_FILL, 16, 0⟩
def F.PG_SP_EVT_MAP_FULL : Fld := ⟨R.PG_SP_EVT, 0, 0⟩
def F.PG_PORT_CTRL_ADMIN_UP : Fld := ⟨R.PG_PORT_CTRL, 31, 31⟩
def F.PG_PORT_CTRL_AN_EN : Fld := ⟨R.PG_PORT_CTRL, 30, 30⟩
def F.PG_PORT_CTRL_LT_EN : Fld := ⟨R.PG_PORT_CTRL, 29, 29⟩
def F.PG_PORT_CTRL_FEC : Fld := ⟨R.PG_PORT_CTRL, 28, 27⟩
def F.PG_PORT_CTRL_CT_EN : Fld := ⟨R.PG_PORT_CTRL, 26, 26⟩
def F.PG_PORT_CTRL_FC_MODE : Fld := ⟨R.PG_PORT_CTRL, 25, 24⟩
def F.PG_PORT_CTRL_LOOPBACK : Fld := ⟨R.PG_PORT_CTRL, 23, 22⟩
def F.PG_PORT_CTRL_DEF_PRI : Fld := ⟨R.PG_PORT_CTRL, 21, 19⟩
def F.PG_PORT_LEN_MAX_LEN : Fld := ⟨R.PG_PORT_LEN, 13, 0⟩
def F.PG_PORT_AN_PAUSE_ADV : Fld := ⟨R.PG_PORT_AN, 1, 0⟩
def F.PG_PORT_TIMERS_UP_HOLD_MS : Fld := ⟨R.PG_PORT_TIMERS, 31, 16⟩
def F.PG_PORT_TIMERS_DOWN_DEB_US : Fld := ⟨R.PG_PORT_TIMERS, 9, 0⟩
def F.PG_PORT_STAT_LINK_UP : Fld := ⟨R.PG_PORT_STAT, 31, 31⟩
def F.PG_PORT_STAT_AN_DONE : Fld := ⟨R.PG_PORT_STAT, 30, 30⟩
def F.PG_PORT_STAT_LOCAL_FAULT : Fld := ⟨R.PG_PORT_STAT, 29, 29⟩
def F.PG_PORT_STAT_REMOTE_FAULT : Fld := ⟨R.PG_PORT_STAT, 28, 28⟩
def F.PG_PORT_STAT_FEC_ACTIVE : Fld := ⟨R.PG_PORT_STAT, 27, 26⟩
def F.PG_PORT_STAT_TX_PAUSE : Fld := ⟨R.PG_PORT_STAT, 25, 25⟩
def F.PG_PORT_STAT_RX_PAUSE : Fld := ⟨R.PG_PORT_STAT, 24, 24⟩
def F.PG_PORT_STAT_PFC_RX_XOFF : Fld := ⟨R.PG_PORT_STAT, 23, 16⟩
def F.PG_PORT_STAT_PFC_TX_XOFF : Fld := ⟨R.PG_PORT_STAT, 15, 8⟩
def F.PG_PORT_STAT_PFC_WD_ACTIVE : Fld := ⟨R.PG_PORT_STAT, 7, 0⟩
def F.PG_PORT_EVT_TX_UNDERRUN : Fld := ⟨R.PG_PORT_EVT, 5, 5⟩
def F.PG_PORT_EVT_TXTS_OVF : Fld := ⟨R.PG_PORT_EVT, 4, 4⟩
def F.PG_PORT_EVT_TXTS_READY : Fld := ⟨R.PG_PORT_EVT, 3, 3⟩
def F.PG_PORT_EVT_PFC_WD : Fld := ⟨R.PG_PORT_EVT, 2, 2⟩
def F.PG_PORT_EVT_AN_FAIL : Fld := ⟨R.PG_PORT_EVT, 1, 1⟩
def F.PG_PORT_EVT_LINK_CHANGE : Fld := ⟨R.PG_PORT_EVT, 0, 0⟩
def F.PG_PFC_CFG_PFC_EN : Fld := ⟨R.PG_PFC_CFG, 23, 16⟩
def F.PG_PFC_CFG_QUANTA : Fld := ⟨R.PG_PFC_CFG, 15, 0⟩
def F.PG_PFC_MAP_QUEUES : Fld := ⟨R.PG_PFC_MAP, 23, 0⟩
def F.PG_FC_THR_XOFF : Fld := ⟨R.PG_FC_THR, 31, 16⟩
def F.PG_FC_THR_XON : Fld := ⟨R.PG_FC_THR, 15, 0⟩
def F.PG_FC_HEAD_HEADROOM : Fld := ⟨R.PG_FC_HEAD, 15, 0⟩
def F.PG_PFC_WD_WD_MS : Fld := ⟨R.PG_PFC_WD, 31, 16⟩
def F.PG_PFC_WD_RECOVER_MS : Fld := ⟨R.PG_PFC_WD, 15, 0⟩
def F.PG_PORT_SA_LO_ALL : Fld := ⟨R.PG_PORT_SA_LO, 31, 0⟩
def F.PG_PORT_SA_HI_SA : Fld := ⟨R.PG_PORT_SA_HI, 15, 0⟩
def F.PG_TS_RX_ADJ_ALL : Fld := ⟨R.PG_TS_RX_ADJ, 31, 0⟩
def F.PG_TS_TX_ADJ_ALL : Fld := ⟨R.PG_TS_TX_ADJ, 31, 0⟩
def F.PG_TXTS_HEAD_VALID : Fld := ⟨R.PG_TXTS_HEAD, 31, 31⟩
def F.PG_TXTS_HEAD_COUNT : Fld := ⟨R.PG_TXTS_HEAD, 20, 16⟩
def F.PG_TXTS_HEAD_TAG : Fld := ⟨R.PG_TXTS_HEAD, 15, 0⟩
def F.PG_TXTS_SEC_LO_ALL : Fld := ⟨R.PG_TXTS_SEC_LO, 31, 0⟩
def F.PG_TXTS_SEC_HI_SEC : Fld := ⟨R.PG_TXTS_SEC_HI, 15, 0⟩
def F.PG_TXTS_NS_NS : Fld := ⟨R.PG_TXTS_NS, 29, 0⟩
def F.PG_TXTS_FRAC_FRAC : Fld := ⟨R.PG_TXTS_FRAC, 15, 0⟩
def F.PG_SP_CFG_MODE : Fld := ⟨R.PG_SP_CFG, 31, 29⟩
def F.PG_SP_CFG_MISS_ACT : Fld := ⟨R.PG_SP_CFG, 28, 27⟩
def F.PG_SP_CFG_VNI_PORT : Fld := ⟨R.PG_SP_CFG, 26, 26⟩
def F.PG_SP_CFG_DEF_SUBPORT : Fld := ⟨R.PG_SP_CFG, 15, 0⟩
def F.PG_FC_BYTES_UNITS : Fld := ⟨R.PG_FC_BYTES, 23, 0⟩
def F.BR_INJECT_GO : Fld := ⟨R.BR_INJECT, 31, 31⟩
def F.BR_INJECT_CANCEL : Fld := ⟨R.BR_INJECT, 30, 30⟩
def F.BR_INJECT_PORT : Fld := ⟨R.BR_INJECT, 8, 0⟩
def F.BR_EVT_MISMATCH : Fld := ⟨R.BR_EVT, 0, 0⟩
def F.BR_CAP_VALID : Fld := ⟨R.BR_CAP, 31, 31⟩
def F.BR_CAP_CT : Fld := ⟨R.BR_CAP, 30, 30⟩
def F.BR_CAP_CAUSE : Fld := ⟨R.BR_CAP, 29, 27⟩
def F.BR_CAP_EGR_PORT : Fld := ⟨R.BR_CAP, 26, 18⟩
def F.BR_CAP_ING_PORT : Fld := ⟨R.BR_CAP, 17, 9⟩
def F.BR_CAP_PASS : Fld := ⟨R.BR_CAP, 8, 7⟩
def F.BR_CAP_EPOCH_EPOCH : Fld := ⟨R.BR_CAP_EPOCH, 15, 0⟩
def F.BR_CAP_EXPECT_ALL : Fld := ⟨R.BR_CAP_EXPECT, 31, 0⟩
def F.BR_CAP_SEEN_ALL : Fld := ⟨R.BR_CAP_SEEN, 31, 0⟩
def F.BR_CAP_LEN_LEN : Fld := ⟨R.BR_CAP_LEN, 13, 0⟩
def F.PA_CFG_V6_EXT_MAX : Fld := ⟨R.PA_CFG, 3, 0⟩
def F.PA_GRAPH_CRC_ALL : Fld := ⟨R.PA_GRAPH_CRC, 31, 0⟩
def F.PA_EVT_EXTRACT_OVF : Fld := ⟨R.PA_EVT, 0, 0⟩
def F.PA_START_START : Fld := ⟨R.PA_START, 7, 0⟩
def F.CL_BANK_STAT_HELD : Fld := ⟨R.CL_BANK_STAT, 1, 1⟩
def F.CL_BANK_STAT_ACTIVE : Fld := ⟨R.CL_BANK_STAT, 0, 0⟩
def F.CL_BANK_DIGEST_0_ALL : Fld := ⟨R.CL_BANK_DIGEST_0, 31, 0⟩
def F.CL_BANK_DIGEST_1_ALL : Fld := ⟨R.CL_BANK_DIGEST_1, 31, 0⟩
def F.CL_RULES_USED_BANK1 : Fld := ⟨R.CL_RULES_USED, 30, 16⟩
def F.CL_RULES_USED_BANK0 : Fld := ⟨R.CL_RULES_USED, 14, 0⟩
def F.CL_EVT_EDIT_SKIP : Fld := ⟨R.CL_EVT, 1, 1⟩
def F.CL_EVT_PUNT_DROP : Fld := ⟨R.CL_EVT, 0, 0⟩
def F.CL_REASON_CFG_REINJ_ACT : Fld := ⟨R.CL_REASON_CFG, 3, 2⟩
def F.CL_REASON_CFG_ACT : Fld := ⟨R.CL_REASON_CFG, 1, 0⟩
def F.CL_PUNT_RATE_ALL : Fld := ⟨R.CL_PUNT_RATE, 31, 0⟩
def F.CL_PUNT_BURST_BURST : Fld := ⟨R.CL_PUNT_BURST, 15, 0⟩
def F.XT_SEED0_ALL : Fld := ⟨R.XT_SEED0, 31, 0⟩
def F.XT_SEED1_ALL : Fld := ⟨R.XT_SEED1, 31, 0⟩
def F.XT_FILL_ENTRIES : Fld := ⟨R.XT_FILL, 20, 0⟩
def F.XT_OVF_USED : Fld := ⟨R.XT_OVF, 14, 0⟩
def F.XT_EVT_ECC : Fld := ⟨R.XT_EVT, 2, 2⟩
def F.XT_EVT_PLAN_REFUSED : Fld := ⟨R.XT_EVT, 1, 1⟩
def F.XT_EVT_LEARN_FULL : Fld := ⟨R.XT_EVT, 0, 0⟩
def F.XT_PLAN_A_EX_TYPE : Fld := ⟨R.XT_PLAN_A, 31, 29⟩
def F.XT_PLAN_A_EX_OFF : Fld := ⟨R.XT_PLAN_A, 28, 19⟩
def F.XT_PLAN_A_VID_OFF : Fld := ⟨R.XT_PLAN_A, 18, 9⟩
def F.XT_PLAN_A_LPM : Fld := ⟨R.XT_PLAN_A, 8, 7⟩
def F.XT_PLAN_A_OS_EN : Fld := ⟨R.XT_PLAN_A, 6, 6⟩
def F.XT_PLAN_A_LEARN : Fld := ⟨R.XT_PLAN_A, 5, 5⟩
def F.XT_PLAN_A_RES_ORDER : Fld := ⟨R.XT_PLAN_A, 4, 3⟩
def F.XT_PLAN_A_MISS_ACT : Fld := ⟨R.XT_PLAN_A, 2, 1⟩
def F.XT_PLAN_B_SA_OFF : Fld := ⟨R.XT_PLAN_B, 31, 22⟩
def F.XT_PLAN_B_LPM_OFF : Fld := ⟨R.XT_PLAN_B, 21, 12⟩
def F.XT_PLAN_C_MISS_AO : Fld := ⟨R.XT_PLAN_C, 16, 0⟩
def F.LP_SEED0_ALL : Fld := ⟨R.LP_SEED0, 31, 0⟩
def F.LP_SEED1_ALL : Fld := ⟨R.LP_SEED1, 31, 0⟩
def F.LP_ROOT_USED_USED : Fld := ⟨R.LP_ROOT_USED, 19, 0⟩
def F.LP_V4_NODES_USED : Fld := ⟨R.LP_V4_NODES, 18, 0⟩
def F.LP_V6_NODES_USED : Fld := ⟨R.LP_V6_NODES, 16, 0⟩
def F.LP_V4_PREFIXES_COUNT : Fld := ⟨R.LP_V4_PREFIXES, 20, 0⟩
def F.LP_V6_PREFIXES_COUNT : Fld := ⟨R.LP_V6_PREFIXES, 18, 0⟩
def F.OS_CFG_LOW_PCT : Fld := ⟨R.OS_CFG, 23, 16⟩
def F.OS_CFG_CHAIN_MAX : Fld := ⟨R.OS_CFG, 15, 8⟩
def F.OS_CFG_SPACING : Fld := ⟨R.OS_CFG, 6, 0⟩
def F.OS_CTRL_COMPACT : Fld := ⟨R.OS_CTRL, 0, 0⟩
def F.OS_STAT_COMPACTING : Fld := ⟨R.OS_STAT, 31, 31⟩
def F.OS_STAT_WRITES_HELD : Fld := ⟨R.OS_STAT, 30, 30⟩
def F.OS_STAT_FREE : Fld := ⟨R.OS_STAT, 16, 0⟩
def F.OS_USED_ENTRIES : Fld := ⟨R.OS_USED, 16, 0⟩
def F.OS_SEGS_NOHOLE : Fld := ⟨R.OS_SEGS, 13, 0⟩
def F.OS_THERM_STEP : Fld := ⟨R.OS_THERM, 17, 16⟩
def F.OS_THERM_TEMP : Fld := ⟨R.OS_THERM, 15, 0⟩
def F.OS_EVT_ECC : Fld := ⟨R.OS_EVT, 3, 3⟩
def F.OS_EVT_THROTTLE_CHANGE : Fld := ⟨R.OS_EVT, 2, 2⟩
def F.OS_EVT_COMPACT_DONE : Fld := ⟨R.OS_EVT, 1, 1⟩
def F.OS_EVT_INSERT_WAIT : Fld := ⟨R.OS_EVT, 0, 0⟩
def F.OS_PLAN_A_C0 : Fld := ⟨R.OS_PLAN_A, 29, 25⟩
def F.OS_PLAN_A_C1 : Fld := ⟨R.OS_PLAN_A, 24, 20⟩
def F.OS_PLAN_A_C2 : Fld := ⟨R.OS_PLAN_A, 19, 15⟩
def F.OS_PLAN_A_C3 : Fld := ⟨R.OS_PLAN_A, 14, 10⟩
def F.OS_PLAN_A_C4 : Fld := ⟨R.OS_PLAN_A, 9, 5⟩
def F.OS_PLAN_A_C5 : Fld := ⟨R.OS_PLAN_A, 4, 0⟩
def F.OS_PLAN_B_C6 : Fld := ⟨R.OS_PLAN_B, 29, 25⟩
def F.OS_PLAN_B_C7 : Fld := ⟨R.OS_PLAN_B, 24, 20⟩
def F.OS_PLAN_B_C8 : Fld := ⟨R.OS_PLAN_B, 19, 15⟩
def F.OS_PLAN_B_C9 : Fld := ⟨R.OS_PLAN_B, 14, 10⟩
def F.OS_PLAN_B_C10 : Fld := ⟨R.OS_PLAN_B, 9, 5⟩
def F.OS_PLAN_B_C11 : Fld := ⟨R.OS_PLAN_B, 4, 0⟩
def F.OS_PLAN_C_SKIP_ACT : Fld := ⟨R.OS_PLAN_C, 31, 30⟩
def F.OS_PLAN_C_C12 : Fld := ⟨R.OS_PLAN_C, 9, 5⟩
def F.OS_PLAN_C_C13 : Fld := ⟨R.OS_PLAN_C, 4, 0⟩
def F.CB_CTRL_EN : Fld := ⟨R.CB_CTRL, 0, 0⟩
def F.CB_EVT_RED : Fld := ⟨R.CB_EVT, 0, 0⟩
def F.CB_IND_SEL_INDEX : Fld := ⟨R.CB_IND_SEL, 16, 0⟩
def F.CB_IND_CFG_ALL : Fld := ⟨R.CB_IND_CFG, 31, 0⟩
def F.CB_IND_TC_BYTES : Fld := ⟨R.CB_IND_TC, 23, 0⟩
def F.CB_IND_TE_BYTES : Fld := ⟨R.CB_IND_TE, 23, 0⟩
def F.SC_EVT_DEBT_CLAMP : Fld := ⟨R.SC_EVT, 0, 0⟩
def F.SC_IND_SEL_INDEX : Fld := ⟨R.SC_IND_SEL, 15, 0⟩
def F.SC_IND_CFG_ALL : Fld := ⟨R.SC_IND_CFG, 31, 0⟩
def F.SC_IND_BUCKET_ALL : Fld := ⟨R.SC_IND_BUCKET, 31, 0⟩
def F.SC_PORT_A_PSH_EN : Fld := ⟨R.SC_PORT_A, 31, 31⟩
def F.SC_PORT_A_PSH : Fld := ⟨R.SC_PORT_A, 15, 0⟩
def F.SC_PORT_B_GRP_BASE : Fld := ⟨R.SC_PORT_B, 31, 16⟩
def F.SC_PORT_B_GRP_COUNT : Fld := ⟨R.SC_PORT_B, 10, 0⟩
def F.SC_CLS_CSH_EN : Fld := ⟨R.SC_CLS, 31, 31⟩
def F.SC_CLS_LEVEL : Fld := ⟨R.SC_CLS, 30, 28⟩
def F.SC_CLS_WEIGHT : Fld := ⟨R.SC_CLS, 23, 16⟩
def F.SC_CLS_CSH : Fld := ⟨R.SC_CLS, 15, 0⟩
def F.GA_EVT_OVERRUN : Fld := ⟨R.GA_EVT, 2, 2⟩
def F.GA_EVT_PEND_REFUSED : Fld := ⟨R.GA_EVT, 1, 1⟩
def F.GA_EVT_TAKEOVER : Fld := ⟨R.GA_EVT, 0, 0⟩
def F.GA_CTRL_OPER_EN : Fld := ⟨R.GA_CTRL, 31, 31⟩
def F.GA_CTRL_ARM : Fld := ⟨R.GA_CTRL, 30, 30⟩
def F.GA_CTRL_PEND_EN : Fld := ⟨R.GA_CTRL, 29, 29⟩
def F.GA_CTRL_PEND_LEN : Fld := ⟨R.GA_CTRL, 10, 0⟩
def F.GA_PEND_CYCLE_CYCLE : Fld := ⟨R.GA_PEND_CYCLE, 29, 0⟩
def F.GA_PEND_BASE_SEC_LO_ALL : Fld := ⟨R.GA_PEND_BASE_SEC_LO, 31, 0⟩
def F.GA_PEND_BASE_SEC_HI_SEC : Fld := ⟨R.GA_PEND_BASE_SEC_HI, 15, 0⟩
def F.GA_PEND_BASE_NS_NS : Fld := ⟨R.GA_PEND_BASE_NS, 29, 0⟩
def F.GA_OPER_LEN_LEN : Fld := ⟨R.GA_OPER_LEN, 10, 0⟩
def F.GA_OPER_CYCLE_CYCLE : Fld := ⟨R.GA_OPER_CYCLE, 29, 0⟩
def F.GA_OPER_BASE_SEC_LO_ALL : Fld := ⟨R.GA_OPER_BASE_SEC_LO, 31, 0⟩
def F.GA_OPER_BASE_SEC_HI_SEC : Fld := ⟨R.GA_OPER_BASE_SEC_HI, 15, 0⟩
def F.GA_OPER_BASE_NS_NS : Fld := ⟨R.GA_OPER_BASE_NS, 29, 0⟩
def F.GA_STAT_GATES : Fld := ⟨R.GA_STAT, 31, 24⟩
def F.GA_STAT_PEND_OK : Fld := ⟨R.GA_STAT, 10, 10⟩
def F.GA_STAT_ENTRY : Fld := ⟨R.GA_STAT, 9, 0⟩
def F.TY_STAT_ACTIVE : Fld := ⟨R.TY_STAT, 0, 0⟩
def F.TY_EVT_ECC : Fld := ⟨R.TY_EVT, 0, 0⟩
def F.LC_CFG_HOLD_NS : Fld := ⟨R.LC_CFG, 15, 8⟩
def F.LC_CFG_TIMEOUT_US : Fld := ⟨R.LC_CFG, 7, 0⟩
def F.LC_HELD_CELLS : Fld := ⟨R.LC_HELD, 13, 0⟩
def F.LC_EVT_TIMEOUT : Fld := ⟨R.LC_EVT, 1, 1⟩
def F.LC_EVT_GAP : Fld := ⟨R.LC_EVT, 0, 0⟩
def F.EQ_CFG_ROOM : Fld := ⟨R.EQ_CFG, 15, 8⟩
def F.EQ_CFG_MC_SET : Fld := ⟨R.EQ_CFG, 1, 0⟩
def F.EQ_BUF_FREE : Fld := ⟨R.EQ_BUF, 31, 16⟩
def F.EQ_BUF_RESV : Fld := ⟨R.EQ_BUF, 15, 0⟩
def F.EQ_GLOBAL_RESV : Fld := ⟨R.EQ_GLOBAL, 17, 0⟩
def F.EQ_DEEP_DQ_LIMIT : Fld := ⟨R.EQ_DEEP, 31, 16⟩
def F.EQ_DEEP_DQ_YELLOW : Fld := ⟨R.EQ_DEEP, 15, 0⟩
def F.EQ_EVT_SESS_REFUSED : Fld := ⟨R.EQ_EVT, 3, 3⟩
def F.EQ_EVT_RESID_DROP : Fld := ⟨R.EQ_EVT, 2, 2⟩
def F.EQ_EVT_GLOBAL_REFUSE : Fld := ⟨R.EQ_EVT, 1, 1⟩
def F.EQ_EVT_FLUSH_DONE : Fld := ⟨R.EQ_EVT, 0, 0⟩
def F.EQ_PORTSET_ALL : Fld := ⟨R.EQ_PORTSET, 31, 0⟩
def F.EQ_PSET_PORT_LIMIT : Fld := ⟨R.EQ_PSET, 31, 16⟩
def F.EQ_PSET_ECN_THR : Fld := ⟨R.EQ_PSET, 15, 0⟩
def F.EQ_CLS_LIMIT : Fld := ⟨R.EQ_CLS, 31, 16⟩
def F.EQ_CLS_ECN_EN : Fld := ⟨R.EQ_CLS, 0, 0⟩
def F.EQ_PROF_MAX : Fld := ⟨R.EQ_PROF, 31, 16⟩
def F.EQ_PROF_MIN : Fld := ⟨R.EQ_PROF, 15, 0⟩
def F.EQ_PROF_P_PMAX : Fld := ⟨R.EQ_PROF_P, 7, 0⟩
def F.EQ_SESS_TYPE : Fld := ⟨R.EQ_SESS, 31, 30⟩
def F.EQ_SESS_PORT : Fld := ⟨R.EQ_SESS, 29, 21⟩
def F.EQ_SESS_CLASS : Fld := ⟨R.EQ_SESS, 20, 18⟩
def F.EQ_SESS_CAP_LEN : Fld := ⟨R.EQ_SESS, 17, 9⟩
def F.EQ_SESS_RATE_ALL : Fld := ⟨R.EQ_SESS_RATE, 31, 0⟩
def F.EQ_SESS_BURST_BURST : Fld := ⟨R.EQ_SESS_BURST, 15, 0⟩
def F.EQ_SESS_RING_HOST_RING : Fld := ⟨R.EQ_SESS_RING, 10, 0⟩
def F.GF_STATUS_ISOLATED : Fld := ⟨R.GF_STATUS, 31, 31⟩
def F.GF_STATUS_GEN : Fld := ⟨R.GF_STATUS, 5, 4⟩
def F.GF_STATUS_COL : Fld := ⟨R.GF_STATUS, 3, 2⟩
def F.GF_STATUS_N_M1 : Fld := ⟨R.GF_STATUS, 1, 0⟩
def F.GF_EVT_COL_LOST : Fld := ⟨R.GF_EVT, 0, 0⟩
def F.BM_CELL_FREE_FREE : Fld := ⟨R.BM_CELL_FREE, 18, 0⟩
def F.BM_CELL_PEAK_PEAK : Fld := ⟨R.BM_CELL_PEAK, 18, 0⟩
def F.BM_LINK_FREE_FREE : Fld := ⟨R.BM_LINK_FREE, 19, 0⟩
def F.BM_RETIRED_CELLS : Fld := ⟨R.BM_RETIRED, 18, 0⟩
def F.BM_DEEP_HEAD_COLS : Fld := ⟨R.BM_DEEP_HEAD, 15, 0⟩
def F.BM_DFREE_CAP_ALL : Fld := ⟨R.BM_DFREE_CAP, 31, 0⟩
def F.BM_EVT_REF_LIMIT : Fld := ⟨R.BM_EVT, 1, 1⟩
def F.BM_EVT_DOUBLE_FREE : Fld := ⟨R.BM_EVT, 0, 0⟩
def F.QM_CFG_STEP : Fld := ⟨R.QM_CFG, 7, 0⟩
def F.QM_WEIGHT_ALL : Fld := ⟨R.QM_WEIGHT, 31, 0⟩
def F.QM_SEL_INDEX : Fld := ⟨R.QM_SEL, 14, 0⟩
def F.QM_DEPTH_COLS : Fld := ⟨R.QM_DEPTH, 18, 0⟩
def F.QM_AVG_AVG : Fld := ⟨R.QM_AVG, 26, 0⟩
def F.QM_EVT_EXPEDITE : Fld := ⟨R.QM_EVT, 0, 0⟩
def F.RC_SQ_DB_TAIL : Fld := ⟨R.RC_SQ_DB, 16, 0⟩
def F.RC_CQ_DB_HEAD : Fld := ⟨R.RC_CQ_DB, 16, 0⟩
def F.AW_CTRL_EN : Fld := ⟨R.AW_CTRL, 0, 0⟩
def F.AW_THERM_STEP : Fld := ⟨R.AW_THERM, 17, 16⟩
def F.AW_THERM_TEMP : Fld := ⟨R.AW_THERM, 15, 0⟩
def F.AW_STORE_FREE : Fld := ⟨R.AW_STORE, 9, 0⟩
def F.AW_BUDGET_GBPS : Fld := ⟨R.AW_BUDGET, 9, 0⟩
def F.AW_TIMEOUT_US : Fld := ⟨R.AW_TIMEOUT, 15, 0⟩
def F.AW_EVT_SCAN_TIMEOUT : Fld := ⟨R.AW_EVT, 3, 3⟩
def F.AW_EVT_SET_RELOADED : Fld := ⟨R.AW_EVT, 2, 2⟩
def F.AW_EVT_SET_FAULT : Fld := ⟨R.AW_EVT, 1, 1⟩
def F.AW_EVT_THROTTLE_CHANGE : Fld := ⟨R.AW_EVT, 0, 0⟩
def F.AW_SET_CFG_STATE : Fld := ⟨R.AW_SET_CFG, 31, 29⟩
def F.AW_SET_CFG_UNSCAN_ACT : Fld := ⟨R.AW_SET_CFG, 28, 28⟩
def F.AW_SET_CFG_SKIP : Fld := ⟨R.AW_SET_CFG, 23, 16⟩
def F.AW_SET_CFG_WIN64 : Fld := ⟨R.AW_SET_CFG, 5, 0⟩
def F.AW_SET_BASE_BLOCK : Fld := ⟨R.AW_SET_BASE, 8, 0⟩
def F.AW_SET_LEN_BLOCKS : Fld := ⟨R.AW_SET_LEN, 9, 0⟩
def F.AW_SET_INFO_PATTERNS : Fld := ⟨R.AW_SET_INFO, 12, 0⟩
def F.AW_SET_REFS_BANK1 : Fld := ⟨R.AW_SET_REFS, 31, 16⟩
def F.AW_SET_REFS_BANK0 : Fld := ⟨R.AW_SET_REFS, 15, 0⟩
def F.AW_SET_CRC_ALL : Fld := ⟨R.AW_SET_CRC, 31, 0⟩
def F.TS_CTRL_NOTIFY : Fld := ⟨R.TS_CTRL, 2, 2⟩
def F.TS_CTRL_AGE_EN : Fld := ⟨R.TS_CTRL, 1, 1⟩
def F.TS_CTRL_LEARN_EN : Fld := ⟨R.TS_CTRL, 0, 0⟩
def F.TS_AGE_AGE_S : Fld := ⟨R.TS_AGE, 11, 0⟩
def F.TS_LEARN_BASE_BASE : Fld := ⟨R.TS_LEARN_BASE, 16, 0⟩
def F.TS_SEQ_ALL : Fld := ⟨R.TS_SEQ, 31, 0⟩
def F.TS_AO_FREE_COUNT : Fld := ⟨R.TS_AO_FREE, 17, 0⟩
def F.TS_AO_RETIRED_COUNT : Fld := ⟨R.TS_AO_RETIRED, 17, 0⟩
def F.TS_EVT_LEARN_DROP : Fld := ⟨R.TS_EVT, 2, 2⟩
def F.TS_EVT_LIMIT_REACHED : Fld := ⟨R.TS_EVT, 1, 1⟩
def F.TS_EVT_FAIL_LATE : Fld := ⟨R.TS_EVT, 0, 0⟩
def F.TS_PLIM_LIMIT_ACT : Fld := ⟨R.TS_PLIM, 31, 31⟩
def F.TS_PLIM_LIMIT : Fld := ⟨R.TS_PLIM, 17, 0⟩
def F.TS_PCNT_AT_LIMIT : Fld := ⟨R.TS_PCNT, 31, 31⟩
def F.TS_PCNT_COUNT : Fld := ⟨R.TS_PCNT, 17, 0⟩
def F.FC_CTRL_EN : Fld := ⟨R.FC_CTRL, 0, 0⟩
def F.FC_CAP_CONTEXTS : Fld := ⟨R.FC_CAP, 22, 0⟩
def F.FC_USED_CONTEXTS : Fld := ⟨R.FC_USED, 22, 0⟩
def F.FC_TIMEOUT_US : Fld := ⟨R.FC_TIMEOUT, 15, 0⟩
def F.FC_SEED0_ALL : Fld := ⟨R.FC_SEED0, 31, 0⟩
def F.FC_SEED1_ALL : Fld := ⟨R.FC_SEED1, 31, 0⟩
def F.FC_EVT_TIMEOUT : Fld := ⟨R.FC_EVT, 2, 2⟩
def F.FC_EVT_FULL : Fld := ⟨R.FC_EVT, 1, 1⟩
def F.FC_EVT_ECC : Fld := ⟨R.FC_EVT, 0, 0⟩
def F.FC_PROF_A_EN : Fld := ⟨R.FC_PROF_A, 31, 31⟩
def F.FC_PROF_A_CREATE : Fld := ⟨R.FC_PROF_A, 30, 30⟩
def F.FC_PROF_A_COUNT_NEW : Fld := ⟨R.FC_PROF_A, 29, 29⟩
def F.FC_PROF_A_FAIL_ACT : Fld := ⟨R.FC_PROF_A, 28, 28⟩
def F.FC_PROF_A_INIT_STATE : Fld := ⟨R.FC_PROF_A, 27, 24⟩
def F.FC_PROF_A_FLAGS_OFF : Fld := ⟨R.FC_PROF_A, 23, 14⟩
def F.FC_PROF_B_IDLE_S : Fld := ⟨R.FC_PROF_B, 15, 0⟩
def F.FP_PATTERN_GEN : Fld := ⟨R.FP_PATTERN, 19, 18⟩
def F.FP_PATTERN_N_M1 : Fld := ⟨R.FP_PATTERN, 17, 16⟩
def F.FP_PATTERN_MAP : Fld := ⟨R.FP_PATTERN, 15, 0⟩
def F.FP_REPAT_ACTIVE : Fld := ⟨R.FP_REPAT, 31, 31⟩
def F.FP_REPAT_COUNT : Fld := ⟨R.FP_REPAT, 23, 16⟩
def F.FP_REPAT_LAST_US : Fld := ⟨R.FP_REPAT, 15, 0⟩
def F.FP_EVT_REPATTERN_DONE : Fld := ⟨R.FP_EVT, 1, 1⟩
def F.FP_EVT_REPATTERN_START : Fld := ⟨R.FP_EVT, 0, 0⟩
def F.SB_TREE_SPLIT_N64 : Fld := ⟨R.SB_TREE_SPLIT, 23, 0⟩
def F.SB_DEEP_RESV_PAGES : Fld := ⟨R.SB_DEEP_RESV, 23, 0⟩
def F.SB_DFREE_CAP_ALL : Fld := ⟨R.SB_DFREE_CAP, 31, 0⟩
def F.SB_EVT_POOL_LOW : Fld := ⟨R.SB_EVT, 2, 2⟩
def F.SB_EVT_BAD_HANDLE : Fld := ⟨R.SB_EVT, 1, 1⟩
def F.SB_EVT_DOUBLE_FREE : Fld := ⟨R.SB_EVT, 0, 0⟩
def F.SB_POOL_CFG_NEXT : Fld := ⟨R.SB_POOL_CFG, 31, 28⟩
def F.SB_POOL_CFG_COUNT : Fld := ⟨R.SB_POOL_CFG, 23, 0⟩
def F.SB_POOL_FREE_FREE : Fld := ⟨R.SB_POOL_FREE, 23, 0⟩
def F.SB_POOL_BASE_ALL : Fld := ⟨R.SB_POOL_BASE, 31, 0⟩
def F.SB_POOL_LOW_LOW : Fld := ⟨R.SB_POOL_LOW, 23, 0⟩
def F.CP_DDR_BASE_ALL : Fld := ⟨R.CP_DDR_BASE, 31, 0⟩
def F.CP_DDR_CFG_EN : Fld := ⟨R.CP_DDR_CFG, 31, 31⟩
def F.CP_DDR_CFG_LOG2 : Fld := ⟨R.CP_DDR_CFG, 4, 0⟩
def F.CP_DDR_PROD_INDEX : Fld := ⟨R.CP_DDR_PROD, 20, 0⟩
def F.CP_DDR_CONS_INDEX : Fld := ⟨R.CP_DDR_CONS, 20, 0⟩
def F.CP_EVT_NOHOST : Fld := ⟨R.CP_EVT, 1, 1⟩
def F.CP_EVT_RING_FULL : Fld := ⟨R.CP_EVT, 0, 0⟩
def F.TL_CTRL_DEST : Fld := ⟨R.TL_CTRL, 1, 0⟩
def F.TL_TIME_INTERIM_S : Fld := ⟨R.TL_TIME, 21, 16⟩
def F.TL_TIME_OFFSET_S : Fld := ⟨R.TL_TIME, 5, 0⟩
def F.TL_RING_RING : Fld := ⟨R.TL_RING, 10, 0⟩
def F.TL_SEQ_ALL : Fld := ⟨R.TL_SEQ, 31, 0⟩
def F.TL_COMMIT_SEC_LO_ALL : Fld := ⟨R.TL_COMMIT_SEC_LO, 31, 0⟩
def F.TL_COMMIT_SEC_HI_SEC : Fld := ⟨R.TL_COMMIT_SEC_HI, 15, 0⟩
def F.TL_STAT_WRITING : Fld := ⟨R.TL_STAT, 31, 31⟩
def F.TL_STAT_DEFERRED : Fld := ⟨R.TL_STAT, 30, 30⟩
def F.TL_STAT_TIME_PEND : Fld := ⟨R.TL_STAT, 29, 29⟩
def F.TL_LOG_BASE_ALL : Fld := ⟨R.TL_LOG_BASE, 31, 0⟩
def F.TL_LOG_CFG_EN : Fld := ⟨R.TL_LOG_CFG, 31, 31⟩
def F.TL_LOG_CFG_LOG2 : Fld := ⟨R.TL_LOG_CFG, 4, 0⟩
def F.TL_LOG_PROD_INDEX : Fld := ⟨R.TL_LOG_PROD, 24, 0⟩
def F.TL_LOG_CONS_INDEX : Fld := ⟨R.TL_LOG_CONS, 24, 0⟩
def F.TL_EVT_ECC : Fld := ⟨R.TL_EVT, 4, 4⟩
def F.TL_EVT_DEFERRED : Fld := ⟨R.TL_EVT, 3, 3⟩
def F.TL_EVT_DISCARDED : Fld := ⟨R.TL_EVT, 2, 2⟩
def F.TL_EVT_DIVERTED : Fld := ⟨R.TL_EVT, 1, 1⟩
def F.TL_EVT_SET_DONE : Fld := ⟨R.TL_EVT, 0, 0⟩

/-- The registers of block ID. -/
def regsID : List RegSpec :=
  [R.ID_DEVICE]

/-- The registers of block FEAT. -/
def regsFEAT : List RegSpec :=
  [R.FEAT_OFFER, R.FEAT_ACCEPT, R.FEAT_CTRL]

/-- The registers of block TK. -/
def regsTK : List RegSpec :=
  [R.TK_STATUS, R.TK_SEC_LO, R.TK_SEC_HI, R.TK_NS, R.TK_FRAC,
   R.TK_TICK_LO, R.TK_TICK_HI, R.TK_STEP_SEC_LO, R.TK_STEP_SEC_HI, R.TK_STEP_NS,
   R.TK_ADDEND_LO, R.TK_ADDEND_HI, R.TK_SLEW, R.TK_PPS_CTRL, R.TK_PPS_CAP_SEC,
   R.TK_PPS_CAP_NS, R.TK_PPS_OUT, R.TK_PPS_OFS, R.TK_EVT, R.TK_CMP_CFG,
   R.TK_CMP_THR, R.TK_CMP_STAT, R.TK_CMP_CNT, R.TK_VIN_TRACK, R.TK_RET_ADDR,
   R.TK_RET_DATA, R.TK_JRNL_HEAD, R.TK_JRNL_COUNT, R.TK_WAKE_CTRL, R.TK_WAKE_SEC,
   R.TK_LM_HEAD]

/-- The registers of block PS. -/
def regsPS : List RegSpec :=
  [R.PS_STATUS, R.PS_CTRL, R.PS_VIN, R.PS_IIN, R.PS_PIN]

/-- The registers of block MD. -/
def regsMD : List RegSpec :=
  [R.MD_MODE, R.MD_EPOCH, R.MD_DRAIN_EPOCH, R.MD_DRAIN_CNT, R.MD_RESID,
   R.MD_DRAIN_LEFT, R.MD_COMMIT_SEC_LO, R.MD_COMMIT_SEC_HI, R.MD_COMMIT_NS, R.MD_COMMIT_CTRL,
   R.MD_COMMIT_STAT, R.MD_PREP_GUARD, R.MD_COMMIT_PREP, R.MD_COMMIT_APPLIED, R.MD_RESET,
   R.MD_STR_MASK, R.MD_EVT, R.MD_LAST_RESET, R.MD_UNIT_MODE]

/-- The registers of block PB. -/
def regsPB : List RegSpec :=
  [R.PB_STATUS, R.PB_SEQ_A, R.PB_SEQ_B, R.PB_ATTEMPTS, R.PB_IMAGE_ID_LO,
   R.PB_IMAGE_ID_HI, R.PB_LOAD_US, R.PB_RPT_ADDR, R.PB_RPT_DATA, R.PB_FLASH_ADDR,
   R.PB_FLASH_CMD, R.PB_FUSE_KEYS, R.PB_FUSE_SECVER, R.PB_EVT, R.PB_FUSE_PROG,
   R.PB_FLASH_DATA]

/-- The registers of block PT. -/
def regsPT : List RegSpec :=
  [R.PT_CTRL, R.PT_FLOOR_SKIRT, R.PT_FLOOR_GIRTH, R.PT_FLOOR_TREE, R.PT_VFIX,
   R.PT_PLAN_CFG, R.PT_WINDOW, R.PT_NM_LIMIT, R.PT_REPLAN, R.PT_EVT,
   R.PT_PACE, R.PT_PACE_MIN, R.PT_VCORE, R.PT_LOOP, R.PT_RESERVE,
   R.PT_WEAR, R.PT_EQH, R.PT_PLANTIME, R.PT_CLAIM, R.PT_CLAIMCNT,
   R.PT_ACT]

/-- The registers of block EV. -/
def regsEV : List RegSpec :=
  [R.EV_TOP, R.EV_PEND2, R.EV_PEND, R.EV_STAT, R.EV_LOST,
   R.EV_SRC]

/-- The registers of block FT. -/
def regsFT : List RegSpec :=
  [R.FT_EVT, R.FT_DIE_STAT, R.FT_LAST, R.FT_HALT, R.FT_HALT_SEQ,
   R.FT_LONGEST, R.FT_CORRECTED, R.FT_CONTAINED, R.FT_PLANE, R.FT_DIE]

/-- The registers of block PC. -/
def regsPC : List RegSpec :=
  [R.PC_DIR, R.PC_FREEZE, R.PC_BW_WIN, R.PC_CTRL, R.PC_OVF,
   R.PC_TICK_LO, R.PC_TICK_HI, R.PC_SNAP, R.PC_TWIN, R.PC_SEL,
   R.PC_CNT_n_LO, R.PC_CNT_n_HI, R.PC_BW_RX, R.PC_BW_TX, R.PC_BW_PEAK]

/-- The registers of block SM. -/
def regsSM : List RegSpec :=
  [R.SM_CFG, R.SM_RING, R.SM_RATE, R.SM_BURST, R.SM_TAGGED,
   R.SM_RATE_DROP]

/-- The registers of block RC. -/
def regsRC : List RegSpec :=
  [R.RC_STAT, R.RC_HALT_IDX, R.RC_CTRL, R.RC_RX_FLUSH, R.RC_LEARN,
   R.RC_EVT, R.RC_HALT_DESC, R.RC_DONE, R.RC_REFETCH, R.RC_CQ_STALL,
   R.RC_RX_DROP, R.RC_FENCE_LOST, R.RC_SQ_BASE_LO, R.RC_SQ_BASE_HI, R.RC_SQ_CFG,
   R.RC_SQ_PASID, R.RC_SQ_STAT, R.RC_SQ_TAIL, R.RC_CQ_BASE_LO, R.RC_CQ_BASE_HI,
   R.RC_CQ_CFG, R.RC_CQ_PASID, R.RC_CQ_COAL, R.RC_CQ_STAT, R.RC_CQ_HEAD,
   R.RC_ER_BASE_LO, R.RC_ER_BASE_HI, R.RC_ER_CFG, R.RC_ER_PASID, R.RC_ER_STAT,
   R.RC_ER_HEAD, R.RC_ER_LOST, R.RC_FN_OPS, R.RC_FN_TEN, R.RC_FN_FEAT,
   R.RC_FN_STAT, R.RC_SQ_DB, R.RC_CQ_DB]

/-- The registers of block TR. -/
def regsTR : List RegSpec :=
  [R.TR_PRI_TMO, R.TR_STAT, R.TR_EVT, R.TR_PARK_SEL, R.TR_PARK_STAT,
   R.TR_PARK_OFF, R.TR_PARK_VA_LO, R.TR_PARK_VA_HI, R.TR_ENG_PASID, R.TR_TLB_HIT,
   R.TR_TLB_MISS, R.TR_PRI_REQ, R.TR_INVAL, R.TR_XLATE_ERR]

/-- The registers of block DM. -/
def regsDM : List RegSpec :=
  [R.DM_CFG, R.DM_SIZE, R.DM_SPARE, R.DM_RETRAIN, R.DM_RETIRE,
   R.DM_SCRUB, R.DM_UE_CAP_LO, R.DM_UE_CAP_HI, R.DM_EVT, R.DM_CH_STAT,
   R.DM_CE, R.DM_UE, R.DM_RETRAIN_FAIL, R.DM_RETIRED, R.DM_UE_DROP,
   R.DM_WITHDRAWN]

/-- The registers of block ST. -/
def regsST : List RegSpec :=
  [R.ST_UCODE_VER, R.ST_UCODE_STAT, R.ST_MC_CAP, R.ST_EVT, R.ST_PUNT_MAP,
   R.ST_PUNT_ENG, R.ST_PUNT_NOBUF, R.ST_PUNT_DEAD, R.ST_PUNT_NOHOST, R.ST_ENG_CTRL,
   R.ST_ENG_STAT, R.ST_EXC_VEC, R.ST_PQ, R.ST_CH_STAT, R.ST_CH_REL,
   R.ST_CH_OWNER, R.ST_CH_OWNER_HI, R.ST_BRK, R.ST_DBG_SEL, R.ST_DBG_DATA_LO,
   R.ST_DBG_DATA_HI, R.ST_ENG_EVT, R.ST_PUNTS, R.ST_PQ_FULL, R.ST_SWITCHES,
   R.ST_ALLWAIT, R.ST_TIMEOUTS, R.ST_MCHECK, R.ST_FAULTS, R.ST_RESET_DROP]

/-- The registers of block PG. -/
def regsPG : List RegSpec :=
  [R.PG_GRP_CFG, R.PG_GRP_STAT, R.PG_GRP_FIFO, R.PG_GRP_FIFO_FILL, R.PG_TPID,
   R.PG_SP_SEED0, R.PG_SP_SEED1, R.PG_SP_FILL, R.PG_SP_EVT, R.PG_PORT_CTRL,
   R.PG_PORT_LEN, R.PG_PORT_AN, R.PG_PORT_TIMERS, R.PG_PORT_STAT, R.PG_PORT_EVT,
   R.PG_PFC_CFG, R.PG_PFC_MAP, R.PG_FC_THR, R.PG_FC_HEAD, R.PG_PFC_WD,
   R.PG_PORT_SA_LO, R.PG_PORT_SA_HI, R.PG_TS_RX_ADJ, R.PG_TS_TX_ADJ, R.PG_TXTS_HEAD,
   R.PG_TXTS_SEC_LO, R.PG_TXTS_SEC_HI, R.PG_TXTS_NS, R.PG_TXTS_FRAC, R.PG_SP_CFG,
   R.PG_FC_BYTES, R.RX_OK_FRAMES, R.RX_OK_OCTETS, R.RX_FCS_ERR, R.RX_RUNT,
   R.RX_OVERSIZE, R.RX_OVERRUN, R.RX_HEADROOM_DROP, R.RX_DRAIN_DISCARD, R.RX_PAUSE,
   R.RX_MACCTL_OTHER, R.RX_PFC, R.TX_OK_FRAMES, R.TX_OK_OCTETS, R.TX_STOMPED,
   R.TX_TRUNCATED, R.TX_PAUSE, R.TX_PFC, R.FEC_CORR_CW, R.FEC_UNCORR_CW,
   R.FEC_CORR_SYM, R.LINK_DOWN_COUNT, R.AN_FAIL, R.PFC_WD_TRIPS, R.SP_MISS,
   R.TXTS_OVF, R.TX_UNDERRUN, R.TX_OVERSIZE]

/-- The registers of block BR. -/
def regsBR : List RegSpec :=
  [R.BR_INJECT, R.BR_EVT, R.BR_CAP, R.BR_CAP_EPOCH, R.BR_CAP_EXPECT,
   R.BR_CAP_SEEN, R.BR_CAP_LEN, R.BR_CAUSE, R.BR_CHECKED]

/-- The registers of block PA. -/
def regsPA : List RegSpec :=
  [R.PA_CFG, R.PA_GRAPH_CRC, R.PA_EVT, R.PA_START, R.PA_PARSED,
   R.PA_EXTRACT_OVF]

/-- The registers of block CL. -/
def regsCL : List RegSpec :=
  [R.CL_BANK_STAT, R.CL_BANK_DIGEST_0, R.CL_BANK_DIGEST_1, R.CL_RULES_USED, R.CL_EVT,
   R.CL_REASON_CFG, R.CL_PUNT_RATE, R.CL_PUNT_BURST, R.CL_REASON_CNT, R.CL_PUNT_DROP,
   R.CL_CLASSIFIED, R.CL_EDIT_SKIP, R.CL_TENANT_LOCKED]

/-- The registers of block XT. -/
def regsXT : List RegSpec :=
  [R.XT_SEED0, R.XT_SEED1, R.XT_FILL, R.XT_OVF, R.XT_EVT,
   R.XT_PLAN_A, R.XT_PLAN_B, R.XT_PLAN_C, R.XT_EX_HIT, R.XT_PLAN_MISS,
   R.XT_LEARN_REQ, R.XT_LEARN_FULL, R.XT_LIMIT_ACT, R.XT_ECC_MISS, R.XT_ECC_DROP]

/-- The registers of block LP. -/
def regsLP : List RegSpec :=
  [R.LP_SEED0, R.LP_SEED1, R.LP_ROOT_USED, R.LP_V4_NODES, R.LP_V6_NODES,
   R.LP_V4_PREFIXES, R.LP_V6_PREFIXES, R.LP_HIT]

/-- The registers of block OS. -/
def regsOS : List RegSpec :=
  [R.OS_CFG, R.OS_CTRL, R.OS_STAT, R.OS_USED, R.OS_SEGS,
   R.OS_THERM, R.OS_EVT, R.OS_PLAN_A, R.OS_PLAN_B, R.OS_PLAN_C,
   R.OS_SEARCH, R.OS_HIT, R.OS_MULTI, R.OS_THROTTLED, R.OS_MOVES,
   R.OS_COMPACTIONS, R.OS_ECC_DROP]

/-- The registers of block CB. -/
def regsCB : List RegSpec :=
  [R.CB_CTRL, R.CB_EVT, R.CB_IND_SEL, R.CB_IND_CFG, R.CB_IND_TC,
   R.CB_IND_TE, R.CB_IND_GREEN, R.CB_IND_YELLOW, R.CB_IND_RED, R.CB_GREEN,
   R.CB_YELLOW, R.CB_RED]

/-- The registers of block SC. -/
def regsSC : List RegSpec :=
  [R.SC_EVT, R.SC_IND_SEL, R.SC_IND_CFG, R.SC_IND_BUCKET, R.SC_PORT_A,
   R.SC_PORT_B, R.SC_CLS, R.SC_SELECTED, R.SC_DEBT_CLAMP, R.SC_GRP_HELD]

/-- The registers of block GA. -/
def regsGA : List RegSpec :=
  [R.GA_EVT, R.GA_CTRL, R.GA_PEND_CYCLE, R.GA_PEND_BASE_SEC_LO, R.GA_PEND_BASE_SEC_HI,
   R.GA_PEND_BASE_NS, R.GA_OPER_LEN, R.GA_OPER_CYCLE, R.GA_OPER_BASE_SEC_LO, R.GA_OPER_BASE_SEC_HI,
   R.GA_OPER_BASE_NS, R.GA_STAT, R.GA_NEVER_FITS, R.GA_WAITED, R.GA_OVERRUN]

/-- The registers of block TY. -/
def regsTY : List RegSpec :=
  [R.TY_STAT, R.TY_EVT, R.TY_TOT_IN, R.TY_TOT_OUT, R.TY_ECC_LOST]

/-- The registers of block LC. -/
def regsLC : List RegSpec :=
  [R.LC_CFG, R.LC_HELD, R.LC_EVT, R.LC_SPANS_OUT, R.LC_HOLD_CLOSED,
   R.LC_IDLE_OUT, R.LC_SPANS_IN, R.LC_WIN_WAIT, R.LC_GAP_DROP, R.LC_TIMEOUT_DROP,
   R.LC_REPAT_DROP, R.LC_MC_NOPORT]

/-- The registers of block EQ. -/
def regsEQ : List RegSpec :=
  [R.EQ_CFG, R.EQ_BUF, R.EQ_GLOBAL, R.EQ_DEEP, R.EQ_EVT,
   R.EQ_PORTSET, R.EQ_PSET, R.EQ_CLS, R.EQ_PROF, R.EQ_PROF_P,
   R.EQ_SESS, R.EQ_SESS_RATE, R.EQ_SESS_BURST, R.EQ_SESS_RING, R.EQ_ADM_WRED,
   R.EQ_ADM_TAIL, R.EQ_ADM_POOL, R.EQ_ECN_MARKED, R.EQ_ADM_GLOBAL, R.EQ_MC_DIE_REFUSED,
   R.EQ_MIRROR_REFUSED, R.EQ_DEEP_REFUSED, R.EQ_DOWN_DISCARD, R.EQ_CAP_RATE_DROP, R.EQ_RESID_DROP,
   R.EQ_FLUSH_DROP]

/-- The registers of block GF. -/
def regsGF : List RegSpec :=
  [R.GF_STATUS, R.GF_EVT, R.GF_CELLS_IN, R.GF_IDLE_IN, R.GF_CELLS_OUT,
   R.GF_COL_LOST]

/-- The registers of block BM. -/
def regsBM : List RegSpec :=
  [R.BM_CELL_FREE, R.BM_CELL_PEAK, R.BM_LINK_FREE, R.BM_RETIRED, R.BM_DEEP_HEAD,
   R.BM_DFREE_CAP, R.BM_EVT, R.BM_DFREE, R.BM_REF_LIMIT, R.BM_SPILLED,
   R.BM_FILLED]

/-- The registers of block QM. -/
def regsQM : List RegSpec :=
  [R.QM_CFG, R.QM_WEIGHT, R.QM_SEL, R.QM_DEPTH, R.QM_AVG,
   R.QM_EVT, R.QM_EXPEDITED, R.QM_FLUSHED]

/-- The registers of block AW. -/
def regsAW : List RegSpec :=
  [R.AW_CTRL, R.AW_THERM, R.AW_STORE, R.AW_BUDGET, R.AW_TIMEOUT,
   R.AW_EVT, R.AW_SET_CFG, R.AW_SET_BASE, R.AW_SET_LEN, R.AW_SET_INFO,
   R.AW_SET_REFS, R.AW_SET_CRC, R.AW_SCANNED, R.AW_BYTES, R.AW_MATCHED,
   R.AW_MULTI, R.AW_UNSCAN_THROTTLE, R.AW_UNSCAN_QUEUE, R.AW_UNSCAN_TIMEOUT, R.AW_UNSCAN_SET]

/-- The registers of block TS. -/
def regsTS : List RegSpec :=
  [R.TS_CTRL, R.TS_AGE, R.TS_LEARN_BASE, R.TS_SEQ, R.TS_AO_FREE,
   R.TS_AO_RETIRED, R.TS_EVT, R.TS_PLIM, R.TS_PCNT, R.TS_LEARNED,
   R.TS_MOVED, R.TS_AGED, R.TS_AGE_CANCEL, R.TS_RELEARN, R.TS_LEARN_DROP,
   R.TS_FAIL_LATE, R.TS_LIMIT_LATE]

/-- The registers of block FC. -/
def regsFC : List RegSpec :=
  [R.FC_CTRL, R.FC_CAP, R.FC_USED, R.FC_TIMEOUT, R.FC_SEED0,
   R.FC_SEED1, R.FC_EVT, R.FC_PROF_A, R.FC_PROF_B, R.FC_OPS,
   R.FC_CACHE_MISS, R.FC_CREATED, R.FC_AGED, R.FC_CAUSE]

/-- The registers of block FP. -/
def regsFP : List RegSpec :=
  [R.FP_PATTERN, R.FP_REPAT, R.FP_EVT]

/-- The registers of block SB. -/
def regsSB : List RegSpec :=
  [R.SB_TREE_SPLIT, R.SB_DEEP_RESV, R.SB_DFREE_CAP, R.SB_EVT, R.SB_POOL_CFG,
   R.SB_POOL_FREE, R.SB_POOL_BASE, R.SB_POOL_LOW, R.SB_ALLOC, R.SB_FALLBACK,
   R.SB_FAIL, R.SB_DFREE]

/-- The registers of block CP. -/
def regsCP : List RegSpec :=
  [R.CP_DDR_BASE, R.CP_DDR_CFG, R.CP_DDR_PROD, R.CP_DDR_CONS, R.CP_EVT,
   R.CP_RECORDS, R.CP_DROP_FULL, R.CP_DROP_NOHOST, R.CP_DROP_QUEUE]

/-- The registers of block TL. -/
def regsTL : List RegSpec :=
  [R.TL_CTRL, R.TL_TIME, R.TL_RING, R.TL_SEQ, R.TL_COMMIT_SEC_LO,
   R.TL_COMMIT_SEC_HI, R.TL_STAT, R.TL_LOG_BASE, R.TL_LOG_CFG, R.TL_LOG_PROD,
   R.TL_LOG_CONS, R.TL_EVT, R.TL_SETS, R.TL_RECORDS, R.TL_DIVERTED,
   R.TL_DISCARDED, R.TL_DEFERRED]

end Sys2Proof.Machine
end

