-- ==== Sys2Proof/Machine/State.lean ====
section
/-! DEFINITION. The state of the UB9840 as plain data: registers, tables, memories, buffers, queues and the commands
that wait, and the machine right after power-on reset. -/

namespace Sys2Proof.Machine

/-- The external flash device (R125, R126). -/
structure FlashDev where
  /-- Its bytes; an erased byte reads 0xFF (R130). -/
  cells : Map Byte := []
  /-- Its size in bytes. -/
  size : Nat := 64 * 1024 * 1024
  /-- Its SFDP table reports octal DDR mode, 4-byte addressing and 64 KiB erase (R125). -/
  good : Bool := true
  deriving DecidableEq, Repr

/-- Fuses beside PB_FUSE_KEYS and PB_FUSE_SECVER: the key hash of each programmed slot, as a number (R135, R160). -/
structure Fuse where
  hash : Map Nat := []
  deriving DecidableEq, Repr

/-- A Patina plan record as it is read back (R56): `stamp` is the sequence number of the set it was written with; the
trims are those of the groups in order. -/
structure PlanRec where
  stamp : Nat := 0
  eq : Nat := 0
  wear : Nat := 0
  trims : List Nat := []
  vfloor : Nat := 0
  sNum : Nat := 0
  sDen : Nat := 0
  reserve : Nat := 0
  state : Nat := 0
  years : Nat := 0
  time : Nat := 0
  floor : Nat := 0
  deriving DecidableEq, Repr

/-- Where a load attempt stands (R151). -/
inductive LoadPhase where
  | idle | checked | verified | failed
  deriving DecidableEq, Repr

/-- An entry of the section table (R134). -/
structure SecEntry where
  typ : Nat
  required : Bool
  die : Nat
  inst : Nat
  off : Nat
  len : Nat
  crc : Nat
  deriving DecidableEq, Repr

/-- An entry of the load report (R160). -/
structure RepEntry where
  typ : Nat
  die : Nat
  inst : Nat
  status : Nat
  us : Nat
  deriving DecidableEq, Repr

/-- The loader beside the PB registers (R125 to R160). -/
structure Loader where
  phase : LoadPhase := .idle
  /-- The slot asked for by an orderly DRAIN that loads from the other slot (R131). -/
  want : Option Nat := none
  slot : Nat := 0
  preferred : Nat := 0
  startTick : Nat := 0
  fail : Nat := 0
  tries : Nat := 0
  /-- The slot's attempt count before this attempt (R113). -/
  before : Nat := 0
  /-- Sections still to apply, in order (R136). -/
  todo : List SecEntry := []
  report : List RepEntry := []
  skipped : Nat := 0
  /-- Step 4 has begun (R151). -/
  applying : Bool := false
  imageId : Nat := 0
  seq : Nat := 0
  /-- Feature bits withheld by the image (R141, R155). -/
  withhold : Nat := 0
  /-- A flash operation of the PB registers under way: op and page address (R158). -/
  flashOp : Option (Nat × Nat) := none
  /-- SerDes lane settings by lane of the device, as section 0x0010 gave them; an unlisted lane has those that R143 names. -/
  lanes : Map Nat := []
  /-- Attempts of this load that have failed: the slot and the code (R154). -/
  ended : List (Nat × Nat) := []
  /-- Sections 0x0032 that have been applied, whose objects are to be LIVE after phase 5, with those objects (R329). -/
  orders : List (SecEntry × List Nat) := []
  /-- The tick at which the last section ended, or at which the first pass did (R160). -/
  secTick : Nat := 0
  deriving DecidableEq, Repr

/-- The three ordering codes (R1). -/
inductive Variant where
  | x | t | e
  deriving DecidableEq, Repr

/-- The six modes (R100). -/
inductive Mode where
  | off | standby | load | run | drain | halt
  deriving DecidableEq, Repr

/-- The mode code of R100. -/
def Mode.code : Mode → Nat
  | .off => 0 | .standby => 1 | .load => 2 | .run => 3 | .drain => 4 | .halt => 5

/-- TAI and the device tick at a tick boundary (R83, R84). -/
structure Clock where
  /-- TAI seconds, 48 bits (R83). -/
  sec : Nat := 0
  /-- TAI nanoseconds, 0 to 999,999,999 (R83). -/
  ns : Nat := 0
  /-- TK_TICK: whole nanoseconds since the last VAUX cycle, 64 bits (R84). -/
  tick : Nat := 0
  /-- The internal fraction of TAI, in units of 2^-32 ns, as the last TCXO period boundary left it (R83). -/
  frac : Nat := 0
  /-- Units of 2^-32 ns of TAI from this tick to the next TCXO period boundary, at the addend in force (R83). -/
  left : Nat := 171798691840
  deriving DecidableEq, Repr

/-- TAI as one count of nanoseconds. -/
def Clock.tai (c : Clock) : Nat := c.sec * 1000000000 + c.ns

/-- A journal entry before it is given its place in the ring (R547). -/
structure JEntry where
  cls : Nat := 0
  completion : Bool := false
  untrusted : Bool := false
  die : Nat := 0xFF
  unit : Nat := 0
  cause : Nat := 0
  mode : Nat := 0
  action : Nat := 0
  epoch : Nat := 0
  sec : Nat := 0
  ns : Nat := 0
  count : Nat := 1
  d0 : Nat := 0
  d1 : Nat := 0
  ref : Nat := 0
  dur : Nat := 0
  deriving DecidableEq, Repr

/-- A fault report on its way to the Tree die (R541). `dieWide` says that the fault takes the die's service with it. -/
structure FaultRep where
  die : Nat
  unit : Nat
  cause : Nat
  dieWide : Bool := false
  d0 : Nat := 0
  d1 : Nat := 0
  deriving DecidableEq, Repr

/-- An emergency DRAIN under way (R78). -/
structure EDrain where
  t0 : Nat := 0
  cause : Nat := 0
  mode : Nat := 0
  epoch : Nat := 0
  sec : Nat := 0
  ns : Nat := 0
  entered : Bool := false
  macsStopped : Bool := false
  frozen : Bool := false
  txOff : Bool := false
  sealed : Bool := false
  tail : Bool := false
  /-- Every present Skirt die's totals reach the Tree die before the seal: VBUS averaged at least 16 V and PCT was at least 80
  (R79). -/
  sure : Bool := false
  /-- Per-die totals that have reached the Tree die: die, octets in, octets out (R78, R79). -/
  totals : List (Nat × Nat × Nat) := []
  deriving DecidableEq, Repr

/-- Where a flash copy stands (R81). -/
inductive CopyPhase where
  | none | due | writing
  deriving DecidableEq, Repr

/-- What the Tack Room holds beside its registers (R66 to R99). -/
structure Tack where
  /-- Retention memory, 256 KiB, by byte address (R92). -/
  ret : Map Byte := []
  /-- A wake that waits for qualified VIN: its LAST_WAKE code (R97). -/
  wake : Option Nat := none
  /-- The hot-swap switch is held open until RETRY or a VAUX cycle (R71). -/
  switchHeld : Bool := false
  /-- Soft-start tries that failed (R69). -/
  ssTries : Nat := 0
  /-- The tick of the next soft-start try (R69). -/
  ssRetryAt : Option Nat := none
  /-- Comparators that have tripped in their present excursion, a bit each (R73). -/
  excursion : Nat := 0
  /-- VIN in 10 mV units, as last measured at the lands (R69, R77). -/
  vin : Nat := 0
  /-- The tick at which VAUX fell below its window, while it is below (R82). -/
  vauxLowAt : Option Nat := none
  /-- VAUX is back in its window after a long excursion whose VAUX cycle is still to take place (R82). -/
  vauxBack : Bool := false
  /-- A flash copy is called for when the rails go off (R81). -/
  copyCalled : Bool := false
  /-- The bytes handed to the Tree die for the flash copy (R81, R574). -/
  copyData : List Byte := []
  /-- The mode to record if the device falls to STANDBY from VIN loss: the mode at the collapse (R121). -/
  lossMode : Option Nat := none
  /-- The VAUX cycle of this excursion has taken place (R82, R119). -/
  vauxCycled : Bool := false
  edrain : Option EDrain := none
  /-- A HALT that is ending on a VIN collapse or a trip, its journal tail still to write (R78, R103). -/
  haltFall : Bool := false
  copy : CopyPhase := .none
  /-- The flash copy under way carries a marker: the sealed marker's slot (R81, R574). -/
  copyMarker : Option Nat := none
  /-- The BAR0 offset last written by SMBus command 0x01 (R96). -/
  smbOffset : Nat := 0
  /-- The 7-bit SMBus address sampled at power-on reset (R565). -/
  smbAddr : Nat := 0x60
  /-- The last edge of PPS_IN, accepted or not (R88). -/
  ppsEdge : Option Nat := none
  /-- The last accepted edge (R88). -/
  ppsAccepted : Option Nat := none
  /-- Consecutive accepted edges within 100 ns (R88). -/
  ppsCount : Nat := 0
  /-- The tick at which TK_PPS_CTRL.MODE was last written (R88). -/
  ppsModeAt : Nat := 0
  /-- PPS_OUT is high until this tick (R90). -/
  ppsOutEnd : Option Nat := none
  /-- One more than the TAI second of the last PPS_OUT pulse; 0 before the first (R90). -/
  ppsOutSec : Nat := 0
  /-- The tick at which the last piece of the slew was applied (R85). -/
  slewAt : Nat := 0
  deriving DecidableEq, Repr

/-- A timed commit in progress, as captured at GO (R108) or as the Tack Room made it (R113, R119). -/
structure Commit where
  /-- Requested by the Tack Room (R576). -/
  tack : Bool := false
  /-- Bit 0 EPOCH, bit 1 GAIT, bit 2 DRAIN. -/
  kinds : Nat := 0
  after : Nat := 0
  /-- The instant, in TAI nanoseconds. -/
  instant : Nat := 0
  /-- 1 PREPARING, 2 ARMED, 3 APPLYING; 5 CANCELLED, of a hidden commit, with its REASON (R103, R110, R113, R576). -/
  state : Nat := 1
  why : Nat := 0
  prep : Nat := 0
  applied : Nat := 0
  /-- Dies that have applied it, whether or not their report has come (R111, R112). -/
  did : Nat := 0
  /-- The instant has been reached and the dies have applied (R111). -/
  reached : Bool := false
  /-- The ticks at which the instant was reached and at which the retry of a lagging die began (R111, R112). -/
  reachedAt : Nat := 0
  lagAt : Nat := 0
  /-- Highest sequenced write issued before GO (R109). -/
  seqAtGo : Nat := 0
  deriving DecidableEq, Repr

/-- An orderly DRAIN under way (R104, R105). -/
structure ODrain where
  /-- TAI of its commit instant. -/
  instant : Nat := 0
  /-- The device tick of that instant (R104). -/
  startTick : Nat := 0
  /-- The tick of the bound: residence limit plus 2 ms after the instant. -/
  boundTick : Nat := 0
  after : Nat := 0
  /-- The end has been decided; the action waits for the flush set (R105). -/
  ended : Bool := false
  /-- The reset cause it ends in is a forwarding restart asked for by MD_RESET (R119). -/
  restart : Bool := false
  deriving DecidableEq, Repr

/-- Modes, commits and resets beside the MD registers (R100 to R124). -/
structure Modes where
  commit : Option Commit := none
  /-- The Tack Room's commit that prepares unseen behind a driver's (R113, R576). -/
  hidden : Option Commit := none
  odrain : Option ODrain := none
  /-- RESET_N is low and the dies are held in reset (R119). -/
  inReset : Bool := false
  /-- Superseded epochs that have not yet drained, oldest first (R116). -/
  draining : List Nat := []
  deriving DecidableEq, Repr

/-- What the counting blocks have counted at one tick (R532, R533): the tick plus one; each counter's value and its overflow bit
as they were before; and the events, newest first: block, number, how often, and the frame's tenant. Log 249 (DEDUCED). -/
structure TickLog where
  at_ : Nat := 0
  pre : Map (Nat × Bool) := []
  events : List (Nat × Nat × Nat × Option Nat) := []
  deriving DecidableEq, Repr

/-- Events and counters beside their registers (R522 to R535). -/
structure Events where
  /-- Sources with a delivery due, in order of becoming due (R525). -/
  due : List Nat := []
  /-- MSI-X vectors and functions that are unmasked, and pending bits, keyed by function and vector (R527). -/
  vecOpen : Map Nat := []
  fnOpen : Map Nat := []
  pba : Map Nat := []
  /-- Tick count of each block up to its last stop, and the tick at which it last began to run (R529). -/
  blkAcc : Map Nat := []
  blkSince : Map Nat := []
  /-- Programmable counters, 48 bits, keyed by block and counter (R529); what has happened at the present tick. -/
  cnt : Map Nat := []
  now : TickLog := {}
  /-- Counters that count enabled device ticks, event 0x001 (R530). -/
  onTick : List (Nat × Nat) := []
  /-- Sample latches, keyed by page kind, function, block: SNAP and CNT_HI words and latched tick high (R532). -/
  snap : Map Nat := []
  cntHi : Map Nat := []
  tickHi : Map Nat := []
  /-- Counters reprogrammed since a latch last sampled them, keyed by page, function, block, counter (R533). -/
  cleared : List Nat := []
  /-- Entries written to each event ring, for SEQ (R526). -/
  erSeq : Map Nat := []
  /-- Octets received and sent in the bandwidth window so far, by port (R535). -/
  bwRx : Map Nat := []
  bwTx : Map Nat := []
  /-- The window in progress began under the present WIN_US (R535). -/
  bwFull : Bool := true
  /-- One more than the tick at which the last window ended. -/
  bwAt : Nat := 0
  deriving DecidableEq, Repr

/-- Faults beside the FT registers (R541 to R551). -/
structure Faults where
  /-- Reports that have not reached the Tree die, oldest first. -/
  reports : List FaultRep := []
  /-- Journal entries queued on the Tree die, oldest first, up to 32 (R547). -/
  jq : List JEntry := []
  /-- Corrected faults since the last summary entry, keyed by die, unit and cause (R547). -/
  summary : Map Nat := []
  summaryAt : Map Nat := []
  /-- One more than the tick of a unit's last restart, keyed by die and unit (R542). -/
  restartAt : Map Nat := []
  /-- Recoveries in progress: die, unit, cause, action, SEQ of the detection, tick (R547). -/
  recovering : List (Nat × Nat × Nat × Nat × Nat × Nat) := []
  /-- Dies to be isolated, oldest first: die, and unit and cause of the fault (R544). -/
  iso : List (Nat × Nat × Nat) := []
  deriving DecidableEq, Repr

/-- A frame on the line of port `port` (R169): the preamble and the start-of-frame delimiter before it, its bytes with their
FCS, whether it was sent whole, and the bytes of idle that follow it at least. One not sent whole ends in an error code
group (R29). -/
structure LineFrame where
  port : Nat
  preamble : List Byte
  sfd : Byte
  bytes : List Byte
  whole : Bool
  idle : Nat
  deriving DecidableEq, Repr

/-- What has left the device, newest first: the model's own record of its outputs. -/
structure Outputs where
  /-- The last word a reader was given over PCIe or SMBus. -/
  readData : Nat := 0
  /-- MSI-X messages: function and vector (R527). -/
  msix : List (Nat × Nat) := []
  /-- Frames sent by a MAC (R169). -/
  wire : List LineFrame := []
  /-- PAUSE and PFC frames sent (R169, R171, R172, R577). -/
  pauses : List LineFrame := []
  /-- The level of PPS_OUT (R90). -/
  ppsOut : Bool := false
  deriving DecidableEq, Repr

/-- A request waiting for a slack claim: the tick of its arbitration step and its activity code (R60). -/
structure ClaimReq where
  at_ : Nat
  act : Nat
  deriving DecidableEq, Repr

/-- A re-plan under way on one die (R52). -/
structure Replan where
  die : Nat
  /-- A sensor-only re-plan: steps 3 to 5 are skipped (R52). -/
  sensorOnly : Bool := false
  /-- The tick of the claim request; the claim has been granted. -/
  askedAt : Nat := 0
  granted : Bool := false
  /-- The rail and the lowest pace before the probe, and the lowest pace at the last step. -/
  v0 : Nat := 0
  p0 : Nat := 0
  pLast : Nat := 0
  steps : Nat := 0
  probing : Bool := true
  /-- Step 2 is done: the sensors have been read. -/
  sensed : Bool := false
  /-- The new trims of step 4, by group, which step 7 applies. -/
  trims : List (Nat × Nat) := []
  /-- The lowest rail of the probe that showed no near miss. -/
  vClean : Nat := 0
  /-- The tick from which the present step of the probe or of a trim is held (R52). -/
  stepAt : Nat := 0
  deriving DecidableEq, Repr

/-- Pace, the voltage loop, Patina and slack claims beside the PT registers (R37 to R65). -/
structure Pace where
  /-- Pace of each monitor over the last 16 µs (R44). -/
  pace16 : Map Nat := []
  /-- The tick at which each monitor's reporting window began, and each die's last loop evaluation (R38, R44). -/
  winAt : Map Nat := []
  evalAt : Map Nat := []
  /-- The tick at which each die's rail was last lowered (R44). -/
  lowAt : Map Nat := []
  /-- A die's near misses of the last millisecond: the tick and the trim group of the latch (R44, R47, R57). -/
  nm : Map (List (Nat × Nat)) := []
  /-- Sensor readings in µV plus one, 0 for none, keyed by die and sensor; excluded sensors (R49). -/
  sensor : Map Nat := []
  excluded : Map Nat := []
  sensedAt : Map Nat := []
  /-- Equivalent time of each die, in 10^-9 equivalent seconds (R50). -/
  eq : Map Nat := []
  /-- RUN seconds since the last entry into LOAD, since the last plan and since the last saved record (R51, R54, R56). -/
  runSec : Map Nat := []
  planSec : Map Nat := []
  saveSec : Map Nat := []
  /-- Equivalent time added in the last 1,000 RUN hours or since LOAD, newest first: what a second added, and how many
  seconds running (R54). -/
  growth : Map (List (Nat × Nat)) := []
  /-- The projected date of guarantee loss, in TAI seconds, that a die's MARGIN_EXHAUSTED event carried (R55). -/
  lossDate : Map Nat := []
  /-- Wear and floor F at the last plan (R51, R55). -/
  planWear : Map Nat := []
  planF : Map Nat := []
  /-- Sensitivity S as fall in pace over steps; absent, the fused factory value (R52). -/
  sNum : Map Nat := []
  sDen : Map Nat := []
  /-- Trims by die and group, as steps longer than the factory setting plus 2^16 (R52). -/
  trim : Map Nat := []
  /-- Shortened trims that wait until the rail has reached the new voltage floor (R52 step 7). -/
  trimWait : Map Nat := []
  /-- Trim steps taken in the re-plan by group, and groups finished. -/
  trimSteps : Map Nat := []
  /-- Near misses of each die since its last plan and before the last reset of the dies (R51). -/
  nmPlan : Map Nat := []
  /-- Dies to be re-planned within 60 s of RUN: their record was missing at LOAD, or a reset cut their re-plan or request off
  (R51, R56, R123). -/
  mustPlan : Nat := 0
  /-- Dies whose equivalent hours are to be rebuilt from present wear (R56). -/
  rebuild : Nat := 0
  replan : Option Replan := none
  /-- A record waits to be saved, by die (R56); Patina is writing until this tick (R127). -/
  saveDue : Nat := 0
  saveEnd : Nat := 0
  /-- Waiting claim requests of each die, in order (R60). -/
  queue : Map (List ClaimReq) := []
  /-- The tick of each die's grant, its pause, and its last borrow slot (R43, R61, R62). -/
  grantAt : Map Nat := []
  paused : Nat := 0
  borrowAt : Map Nat := []
  /-- Borrow slots of each die's ingress slices that its compaction has taken and not used (R323). -/
  slots : Map Nat := []
  /-- Claim credit that a monitor's borrow slots have spent, in 10^-6 slot, and the tick it was reckoned at (R43). -/
  spent : Map Nat := []
  spentAt : Map Nat := []
  deriving DecidableEq, Repr

/-- A header instance met by a parse walk: its class, kind, offset and length (R211, R229). -/
structure Hdr where
  cls : Nat
  kind : Nat
  off : Nat
  len : Nat
  deriving DecidableEq, Repr

/-- One pass of a tagged frame as the sample record shows it (R538). -/
structure PassTrace where
  stages : Nat := 0
  profile : Nat := 0
  ruleV : Bool := false
  rule : Nat := 0
  reason : Nat := 0
  hits : Nat := 0
  plen : Nat := 0
  exAo : Nat := 0
  lpmAo : Nat := 0
  osId : Nat := 0
  ao : Nat := 0
  kind : Nat := 0
  edits : Nat := 0
  awlFirst : Nat := 0
  awlCount : Nat := 0
  awlCause : Nat := 0
  flowState : Nat := 0
  flowCause : Nat := 0
  deriving DecidableEq, Repr

/-- The metadata that rides with a frame (R22, R334). -/
structure Meta where
  inPort : Nat := 0
  slice : Nat := 0
  /-- Ingress time in units of 2^-16 ns of TAI. -/
  t16 : Nat := 0
  epoch : Nat := 0
  subport : Nat := 0
  tenant : Nat := 0
  cls : Nat := 0
  colour : Nat := 0
  pass : Nat := 0
  pri : Nat := 0
  reinj : Bool := false
  /-- A reinjected frame takes its ingress time at its parser entry (R222). -/
  timeSrc : Bool := false
  /-- Length as received, FCS included; 0 for a frame the device did not receive (R410). -/
  rxLen : Nat := 0
  /-- Length excluding FCS as admitted (R390). -/
  len0 : Nat := 0
  /-- The frame has been counted in (R410, R411), and the number of the Tally bank that it was counted in. -/
  counted : Bool := false
  inBank : Nat := 0
  /-- It counts in its epoch's drain counter (R115). -/
  live : Bool := false
  /-- Its bytes are counted against its port and priority (R171). -/
  held : Bool := false
  unscanned : Bool := false
  osMulti : Bool := false
  sampled : Bool := false
  ce : Bool := false
  ct : Bool := false
  ruleV : Bool := false
  rule : Nat := 0
  ao : Nat := 0
  mirror : Nat := 0
  /-- The number under which the references of a multicast or mirrored frame are counted; 0 for any other (R115). -/
  uid : Nat := 0
  /-- An object has been resolved: the list is the edits of the rule and then those of the object (R228, R334). -/
  resolved : Bool := false
  /-- Extension records: the place in the list of each edit whose value was fixed at resolution, and its value (R230,
  R334). -/
  exts : List (Nat × Nat) := []
  hdrs : List Hdr := []
  /-- The 320-bit match key of the pass (R225). -/
  mkey : Nat := 0
  trace : List PassTrace := []
  /-- Its source was requested for learning on its first pass (R287, R538). -/
  asked : Bool := false
  deriving DecidableEq, Repr

/-- A frame without its FCS. `tail` says that its tail is still arriving (R335). -/
structure Frame where
  m : Meta
  bytes : List Byte
  brand : Nat
  poison : Bool := false
  tail : Bool := false
  deriving DecidableEq, Repr

/-- The pass of a frame between the lookups and resolution (R23). -/
structure Pass where
  f : Frame
  /-- The key vector (R218). -/
  kv : Nat := 0
  /-- The payload offset. -/
  q : Nat := 0
  prof : Nat := 0
  spTenant : Nat := 0
  defClass : Nat := 0
  ruleEdits : List Nat := []
  stateful : Bool := false
  awlEn : Bool := false
  awlSet : Nat := 0
  /-- SKIP, the window's length and UNSCAN_ACT as they stood at the scan request, and whether the scan met an uncorrectable
  error (R244, R257, R263). -/
  awlSkip : Nat := 0
  awlLen : Nat := 0
  awlAct : Bool := false
  awlEcc : Bool := false
  /-- The table result, and whether reason 14 is raised (R276). -/
  result : Option Nat := none
  miss : Bool := false
  /-- 0 none, 1 discard, 2 flood (R277 step 4). -/
  learn : Nat := 0
  /-- The Awl result record and match list (R250), the verdict (1 discard, 2 action) and its object. -/
  awlRes : Nat := 0
  awlList : List Nat := []
  verdict : Nat := 0
  verdictAo : Nat := 0
  /-- The flow result (R300), the state action and its object (R299), and whether FAIL_ACT punts. -/
  flowRes : Nat := 0
  flowAct : Nat := 0
  flowAo : Nat := 0
  flowPunt : Bool := false
  awlPunt : Bool := false
  tr : PassTrace := {}
  deriving DecidableEq, Repr

/-- A pass held for Awl or the flow unit: its request's tick, and whether its result is made (R246, R300). -/
structure Held where
  p : Pass
  at_ : Nat
  ready : Bool := false
  deriving DecidableEq, Repr

/-- A punt on its way to the Tree die, or buffered there (R221, R251). -/
structure Punt where
  f : Frame
  reason : Nat
  kv : Nat := 0
  awlRes : Nat := 0
  awlList : List Nat := []
  flowRes : Nat := 0
  /-- The die that punted it. -/
  die : Nat := 0
  /-- It was punted in DRAIN: the Stitchers no longer take it (R104). -/
  late : Bool := false
  /-- The pass had a result of Awl, and of the flow unit. -/
  awlV : Bool := false
  flowV : Bool := false
  deriving DecidableEq, Repr

/-- A frame in transmission by a MAC, or in an egress queue (R362). -/
structure EFrame where
  m : Meta
  bytes : List Byte
  brand : Nat
  poison : Bool := false
  /-- Every byte has arrived. -/
  whole : Bool := true
  /-- The ingress MAC found a receive error in a cut-through frame (R335). -/
  rxErr : Bool := false
  /-- It is forwarded cut-through (R29). -/
  ct : Bool := false
  /-- The intake check failed (R199). -/
  intakeBad : Bool := false
  /-- A port mirror copy (R32). -/
  mirror : Bool := false
  /-- The multicast frame it is a copy of (R30). -/
  mc : Option Nat := none
  /-- Cell slots held (R363). -/
  slots : Nat := 0
  /-- Wire length charged by Rein (R394). -/
  lw : Nat := 0
  /-- It has been counted under a cause of R204. -/
  failed : Bool := false
  deriving DecidableEq, Repr

/-- A frame the MAC is sending: what it is, its outcome and when it began (R398, R410). -/
structure TxFrame where
  e : EFrame
  cls : Nat
  /-- The bytes as they will be sent, without FCS, and whether the FCS is inverted. -/
  out : List Byte
  bad : Bool := false
  /-- TAI was stepped while it was being sent, and its gate has been seen closed since (R405). -/
  stepped : Bool := false
  overran : Bool := false
  /-- Time requests: kind, offset, tag or checksum (R176). -/
  stamps : List (Nat × Nat × Nat) := []
  deriving DecidableEq, Repr

/-- A frame start in a cell (R332), with its frame record (R334). -/
structure Start where
  off : Nat
  len : Nat
  brand : Nat
  m : Meta
  poison : Bool := false
  deriving DecidableEq, Repr

/-- A cell (R332): TYPE 0 DATA, 1 IDLE, 2 MCAST. `tailRec` is the tail record: Brand, length, receive error (R335). -/
structure Cell where
  typ : Nat := 0
  gen : Nat := 0
  slice : Nat := 0
  port : Nat := 0
  cls : Nat := 0
  span : Nat := 0
  col : Nat := 0
  tick : Nat := 0
  own : Bool := false
  deep : Bool := false
  group : Nat := 0
  /-- The mirror session of an own-span frame (R337, R349). -/
  mir : Nat := 0
  /-- The VOQ of its granted port mirror (R349, R370, R378). -/
  mirQ : Option Nat := none
  /-- Egress dies that a multicast span is still meant for (R369). -/
  dies : Nat := 0
  /-- The frames whose last byte this cell holds (R350). -/
  ends : List Meta := []
  starts : List Start := []
  tailRec : Option (Nat × Nat × Bool) := none
  poison : Bool := false
  data : List Byte := []
  /-- Written at delivery: the link kind, the ordinal and the queue it was delivered from (R343). -/
  link : Nat := 0
  ord : Nat := 0
  qid : Nat := 0
  /-- The cell has been counted as one that waits (R345). -/
  waited : Bool := false
  deriving DecidableEq, Repr

/-- Ports beside the PG registers (R161 to R192). -/
structure Ports where
  /-- Receive FIFO of each port group, oldest first (R172). -/
  fifo : Map (List Frame) := []
  /-- Bytes held for each port and priority (R171). -/
  fcBytes : Map Nat := []
  /-- Priorities held by the port's own byte counts; bit 8 is PAUSE (R171). -/
  xoff : Map Nat := []
  /-- The group's FIFO fill holds its ports (R172). -/
  fifoHold : Map Nat := []
  /-- Tick at which a received pause ends, by port and priority; priority 8 is PAUSE (R173). -/
  pauseEnd : Map Nat := []
  /-- One more than the tick since which a priority has stayed paused (R174). -/
  pausedAt : Map Nat := []
  /-- Tick at which the watchdog lets a priority be paused again (R174). -/
  wdEnd : Map Nat := []
  /-- Tick at which the last pause frame of a priority was sent (R171). -/
  sentAt : Map Nat := []
  /-- Two-step timestamps, oldest first: tag and time (R176). -/
  txts : Map (List (Nat × Nat)) := []
  /-- Frames in transmission. -/
  tx : Map TxFrame := []
  /-- PAUSE directions that negotiation resolved: bit 0 transmit, bit 1 receive (R166). -/
  anPause : Map Nat := []
  /-- Negotiation waits for its break-link timer (R166). -/
  anBreak : Map Nat := []
  /-- Cut-through frames whose tail is still arriving, by port: the stream they are in, their head as it was cut and as it
  was admitted. -/
  ctTail : Map Nat := []
  ctFrame : Map Frame := []
  /-- The header its cells carry. -/
  ctHead : Map Cell := []
  ctSeen : Map (List Byte) := []
  /-- The frame whose head has come was marked as a receive error (R165, R167). -/
  rxBad : Map Nat := []
  /-- One more than the tick since which ADMIN_UP and negotiation allow the port to be up (R180). -/
  upFrom : Map Nat := []
  /-- The RS sends remote fault (R181). -/
  faulting : Map Nat := []
  /-- Frames sent and not yet received again, oldest first: LOOPBACK 0b01 (R182). -/
  looped : Map (List (List Byte)) := []
  deriving DecidableEq, Repr

/-- Ingress slices beside their registers (R16, R23, R34). -/
structure Slices where
  awlQ : Map (List Held) := []
  flowQ : Map (List Held) := []
  recirc : Map (List Frame) := []
  reinj : Map (List Frame) := []
  /-- Sampling and early-drop generators (R368, R536). -/
  smGen : Map Nat := []
  edGen : Map Nat := []
  /-- Token buckets in 2^-32 units with the tick of their last update: punt policers (R223), capture sessions (R378),
  sampling (R536), ordered-store throttle (R326), Awl budgets (R255). -/
  bucket : Map Nat := []
  bucketAt : Map Nat := []
  /-- Recirculation overflows, by slice (R35). -/
  rcOvf : Map Nat := []
  /-- Punts on their way over the Tree–Skirt strap, oldest first. -/
  punts : List Punt := []
  /-- Sample records on their way to the Tree die (R537). -/
  samples : List (List Byte × Nat) := []
  deriving DecidableEq, Repr

/-- The open span of a stream in an ingress slice (R336 to R338). -/
structure Stream where
  next : Nat := 0
  done : List Cell := []
  cur : Option Cell := none
  /-- The tick at which the open span received its first byte. -/
  since : Nat := 0
  /-- Deep frames not yet released and the deep queue of the latest (R351). -/
  deepOut : Nat := 0
  deepQ : Nat := 0
  /-- Frames that wait to be cut behind one whose tail is still arriving: the cell header, own-span, the frame. -/
  behind : List (Cell × Bool × Frame) := []
  deriving DecidableEq, Repr

/-- A queue link on a Girth die (R349, R376): the cell's number, the link kind and the commit tick; `page` holds the
handle of the deep page the column was spilled to (R352). -/
structure Link where
  id : Nat
  kind : Nat
  at_ : Nat
  lost : Bool := false
  page : Option Nat := none
  cell : Cell
  deriving DecidableEq, Repr

/-- A span in Lacing: its ordinal, the tick of its first cell and the cells it has (R345). -/
structure LSpan where
  ord : Nat
  at_ : Nat
  cells : List Cell
  deriving DecidableEq, Repr

/-- A delivered queue in Lacing: the oldest incomplete ordinal and the spans it holds (R345). -/
structure Lace where
  h : Nat := 0
  spans : List LSpan := []
  /-- Ordinals abandoned under R347 that are still to be passed, each with the header of its cells and, in it, the frames that
  began before the cells that came and ended in them. -/
  gone : List (Nat × Cell) := []
  deriving DecidableEq, Repr

/-- A frame open in Lacing: its start, the header of the cell it starts in, its bytes, the slots it holds (R346, R363). -/
structure OpenFrame where
  st : Start
  hdr : Cell
  bytes : List Byte := []
  poison : Bool := false
  slots : Nat := 0
  /-- It has been passed to its egress queue as a cut-through frame (R29). -/
  early : Bool := false
  deriving DecidableEq, Repr

/-- What Lacing holds of a stream: the last SPAN taken and the frame that is open (R346). -/
structure Asm where
  last : Option Nat := none
  cur : Option OpenFrame := none
  /-- A span of the stream was abandoned: a frame may have begun in a column that never came (R347). -/
  torn : Bool := false
  deriving DecidableEq, Repr

/-- The girth fabric beside its registers (R332 to R354, R362 to R377). -/
structure Fabric where
  /-- Open spans by stream. -/
  streams : Map Stream := []
  /-- The tick of each slice's last span (R338). -/
  sentAt : Map Nat := []
  /-- Cells on each strap from a Skirt die to a Girth die, oldest first, and the stamp of the last thing delivered. -/
  strap : Map (List Cell) := []
  stamp : Map Nat := []
  /-- Queues of each Girth die (R362). -/
  queue : Map (List Link) := []
  /-- Reference counts of the cells (R349) and the next number of a link that has no cell. -/
  refs : Map Nat := []
  nextId : Nat := 0
  /-- Cells of each Girth die: those freed, most recent first, the first never taken, and those retired (R355, R356, R359). -/
  cellFree : Map (List Nat) := []
  cellFresh : Map Nat := []
  cellBad : Map (List Nat) := []
  /-- Spans delivered from each queue since its reset (R343). -/
  ord : Map Nat := []
  /-- Credits spent (R344), round-robin classes, calendar places and calendars (R342, R343). -/
  spent : Map Nat := []
  rr : Map Nat := []
  calPos : Map Nat := []
  cal : Map (List Nat) := []
  calNew : Map (List Nat) := []
  /-- Egress dies whose calendar awaits a rebuild (R342). -/
  calDue : List Nat := []
  /-- Room withdrawn, by port and class or multicast class (R373). -/
  noRoom : Map Nat := []
  /-- Queue averages (R365), and the depths, averages, port sums and free counts last reported (R364). -/
  avg : Map Nat := []
  avgAt : Map Nat := []
  repDepth : Map Nat := []
  repAvg : Map Nat := []
  repPort : Map Nat := []
  repUsed : Map Nat := []
  repPages : Map Nat := []
  /-- Pending admissions of each slice, by queue (R367). -/
  pendQ : Map Nat := []
  /-- Cells in the receive queues (R345). -/
  recv : Map (List Cell) := []
  lace : Map Lace := []
  asm : Map Asm := []
  /-- Frames that a die has discarded ahead of their last cell: die, ingress port and ingress time. -/
  dead : List (Nat × Nat × Nat) := []
  /-- Frames of an isolated ingress die whose rest will not come, named likewise, that are still to be met (R544). -/
  cut : List (Nat × Nat × Nat) := []
  /-- Egress queues by port and class (R362). -/
  egq : Map (List EFrame) := []
  /-- Multicast frames being copied, by die and number: copies left, cells and class; and the next number (R373). -/
  mc : Map (Nat × Nat × Nat) := []
  nextMc : Nat := 0
  /-- References of each multicast or mirrored frame: the egress dies and the mirror copy that still hold it; and the last
  number given (R32, R115). -/
  holders : Map Nat := []
  lastUid : Nat := 0
  /-- Release notices on their way to ingress dies: port, priority, bytes (R350). -/
  notices : List (Nat × Nat × Nat) := []
  /-- Ports being flushed: the Girth dies still to unlink, and those whose marker is still to arrive (R377). -/
  flushAsk : Map Nat := []
  flushWait : Map Nat := []
  /-- Capture copies waiting on the Tree die: session, Girth die and number of the cell they refer to, if it still stands, the
  cell, and the frame record (R349, R379). -/
  captures : List (Nat × Option (Nat × Nat) × Cell × Start) := []
  /-- SEQ and LOST of each capture ring (R380), the DDR5 ring being 0. -/
  capSeq : Map Nat := []
  capLost : Map Nat := []
  /-- A re-pattern under way: the tick of t0 (R353). -/
  repatAt : Option Nat := none
  /-- The Girth dies whose loss it answers, as a mask (R354). -/
  repatLost : Nat := 0
  /-- Cells in use and cells retired on each Girth die (R359). -/
  used : Map Nat := []
  retired : Map Nat := []
  deriving DecidableEq, Repr

/-- Saddlebag's pools 4 to 8 (R355 to R357): buffers freed, most recent first; the first index never taken; the state
bits by handle; and the pages of the deep reserve in use. -/
structure Pools where
  stack : Map (List Nat) := []
  fresh : Map Nat := []
  used : Map Nat := []
  /-- Pages of the deep reserve, from its first: in use; freed, most recent first; and the first never taken. -/
  deep : List Nat := []
  deepFree : List Nat := []
  deepFresh : Nat := 0
  /-- Buffers that lie in a failing page: withdrawn, or to be withdrawn when freed (R509). -/
  gone : List Nat := []
  deriving DecidableEq, Repr

/-- Rein and Gait beside their registers, and the buckets of Curb (R387 to R405). -/
structure Shaping where
  tc : Map Nat := []
  te : Map Nat := []
  polAt : Map Nat := []
  /-- Frames given each colour by a policer (R407). -/
  polCnt : Map Nat := []
  /-- Shaper buckets as signed counts of 2^-32 byte, and the tick of their last update (R395). -/
  bkt : Map Int := []
  bktAt : Map Nat := []
  /-- Rein's deficits by queue and pointers by port and level (R398). -/
  deficit : Map Nat := []
  ptr : Map Nat := []
  /-- The head of a queue has been counted as one that waits for its window (R401). -/
  waited : Map Nat := []
  deriving DecidableEq, Repr

/-- A set that is being written, or waits to be (R416 to R421): its kind (0 minute, 1 interim, 2 flush), the parts that all
its records share, the sums by tenant and counter, and how far the writing has come. -/
structure TallySet where
  kind : Nat := 0
  flags : Nat := 0
  minute : Nat := 0
  startMs : Nat := 0
  endMs : Nat := 0
  seq : Nat := 0
  sums : Map Nat := []
  mask : Nat := 0
  /-- Tenants whose records are still to be made, rising; and the trailer has been made. -/
  todo : List Nat := []
  trailer : Bool := false
  records : Nat := 0
  diverted : Nat := 0
  discarded : Nat := 0
  cutAt : Nat := 0
  /-- TAI seconds of the cut (R424). -/
  cutSec : Nat := 0
  /-- The number of the bank whose counts it holds. -/
  bank : Nat := 0
  deriving DecidableEq, Repr

/-- Tally beside its registers (R410 to R426). -/
structure TallyBanks where
  /-- The active bank, keyed by die, then tenant and counter. -/
  live : Map Nat := []
  /-- Its number, and the frozen banks of minutes whose sets are not complete, each with its number (R414, R425). -/
  bank : Nat := 0
  frozen : List (Nat × Map Nat) := []
  /-- Sets not complete, oldest first: the first is being written (R417). -/
  sets : List TallySet := []
  /-- Records of the set that a receive buffer gave back (R484, R516): bytes, and whether it is the trailer. -/
  again : List (List Byte × Bool) := []
  /-- A minute is in progress: its MINUTE_SEC, the start of its counted period in ms, its flags, the instant from which its
  interim instants count, and the instants at which it ends and at which its next interim cut falls: in ns of TAI, or in
  device ticks where its cuts fall by them (R413, R422). -/
  on : Bool := false
  minute : Nat := 0
  startMs : Nat := 0
  flags : Nat := 0
  base : Nat := 0
  minuteEnd : Nat := 0
  nextInterim : Nat := 0
  byTick : Bool := false
  /-- Interim cuts that wait for the set that is being written (R417). -/
  deferred : Nat := 0
  /-- OFFSET_S and INTERIM_S in force (R422, R424). -/
  offset : Nat := 0
  interim : Nat := 10
  /-- What the commit block holds of the latest complete sets (R424). -/
  interimSeq : Nat := 0
  interimSec : Nat := 0
  /-- Definitions that take effect at the next boundary (R426). -/
  defsNext : Map Nat := []
  /-- Records discarded in this minute, on the E (R418). -/
  lostMinute : Nat := 0
  /-- An emergency DRAIN has frozen the banks (R78). -/
  stopped : Bool := false
  deriving DecidableEq, Repr


/-- Who waits for a host address (R510, R515 to R518): the next fetch of an SQ, entry `i` of an SQ, a receive queue's
record, a CQ, an event ring, a Stitcher thread, or a DMA tag of an engine. -/
inductive Who where
  | fetch (q : Nat)
  | entry (q i : Nat)
  | rx (q : Nat)
  | cq (c : Nat)
  | er (r : Nat)
  | thread (e t : Nat)
  | tag (e n : Nat)
  deriving DecidableEq, Repr

/-- An access that waits: who, the function, one more than the PASID (0 without one), the address, the direction and the
Success responses it has had (R514). -/
structure Wait where
  who : Who
  fn : Nat
  pas : Nat
  va : Nat
  write : Bool
  tries : Nat := 0
  deriving DecidableEq, Repr

/-- A translation the device holds (R512): its first 4 KiB page and its size in such pages. -/
structure TlbEntry where
  fn : Nat
  pas : Nat
  base : Nat
  pages : Nat
  r : Bool
  w : Bool
  deriving DecidableEq, Repr

/-- An outstanding page request (R514). -/
structure PageReq where
  grp : Nat
  fn : Nat
  pas : Nat
  page : Nat
  write : Bool
  waits : List Wait
  at_ : Nat
  deriving DecidableEq, Repr

/-- Translation beside the TR registers (R510 to R519). -/
structure Xlate where
  /-- Most recently used first. -/
  tlb : List TlbEntry := []
  /-- Accesses that wait for a translation request, oldest first. -/
  asked : List Wait := []
  prq : List PageReq := []
  /-- Faults that wait for a page request to become free. -/
  priWait : List Wait := []
  /-- Groups given up before their response came, each until it comes (R514, R519). -/
  deadGrps : List Nat := []
  /-- Functions that had a Response Failure, a bit each; the host's outstanding allocation of each function. -/
  blocked : Nat := 0
  alloc : Map Nat := []
  /-- CQs that are stuck (R517). -/
  stuck : List Nat := []
  /-- Invalidations whose completion is still to be sent (R513). -/
  invals : Nat := 0
  deriving DecidableEq, Repr

/-- A completion on its way to its CQ (R477). -/
structure Compl where
  cq : Nat
  sq : Nat
  slot : Nat
  fence : Bool := false
  status : Nat := 0
  op : Nat := 0
  cookie : Nat := 0
  r0 : Nat := 0
  r1 : Nat := 0
  deriving DecidableEq, Repr

/-- An entry taken from an SQ and not completed (R473 to R478). -/
structure Job where
  q : Nat
  idx : Nat
  /-- The 64 bytes of the entry. -/
  ent : Nat
  cq : Nat
  fn : Nat
  pas : Nat
  at_ : Nat
  /-- The fragment table, once read. -/
  frags : Option (List (Nat × Nat)) := none
  /-- Data read from the host so far, data still to be written there with what has been moved of it (R515). -/
  got : List Byte := []
  put : List Byte := []
  moved : Nat := 0
  /-- 0 taken; 1 waits for its table writes; 2 has data to write; 3 waits in the ordered-store planner or for flash; 4 waits
  for room in a reinjection queue. An entry whose function has been reset and that ends inside the device is one of queue 2048
  and of function 16 (R493). -/
  stage : Nat := 0
  status : Nat := 0
  r0 : Nat := 0
  r1 : Nat := 0
  deriving DecidableEq, Repr

/-- A posted receive buffer (R484). -/
structure RxBuf where
  idx : Nat
  ent : Nat
  cq : Nat
  fn : Nat
  pas : Nat
  frags : List (Nat × Nat)
  len : Nat
  used : Nat := 0
  recs : Nat := 0
  at_ : Nat := 0
  deriving DecidableEq, Repr

/-- A record being written, or about to be, into a receive buffer. -/
structure RxRec where
  bytes : List Byte
  moved : Nat := 0
  /-- A Tally trailer (R484); the frame of a punt, charged when the record is lost (R484). -/
  trailer : Bool := false
  frame : Option Meta := none
  /-- The tenant on behalf of whose frame it is written (R531). -/
  who : Option Nat := none
  deriving DecidableEq, Repr

/-- A retire fence (R482). -/
structure Fence where
  ao : Nat
  c : Compl
  due : Bool := false
  deriving DecidableEq, Repr

/-- The Ring Complex beside its registers (R461 to R493). -/
structure RingC where
  /-- Entries fetched and not taken, by queue and index, with whether the tail covered them then (R472). -/
  fetched : Map (Nat × Bool) := []
  jobs : List Job := []
  /-- Completions still to be written, oldest first, and the holds of the CQs (R478). -/
  comp : List Compl := []
  hold : Map (List Compl) := []
  fences : List Fence := []
  /-- CQ entries since the last message and the tick of the first (R479). -/
  cqNew : Map Nat := []
  cqFirst : Map Nat := []
  bufs : Map (List RxBuf) := []
  recs : Map (List RxRec) := []
  /-- FEAT_ACCEPT words of the VFs by function and word, and their FEAT_CTRL (R462, R464). -/
  vfAcc : Map Nat := []
  vfCtl : Map Nat := []
  /-- VFs enabled in the SR-IOV capability. -/
  vfs : Nat := 0
  /-- Punts written to each ring, for SEQ (R485). -/
  punts : Map Nat := []
  deriving DecidableEq, Repr

/-- A write of the table sequence (R284): the table, the entry's index and its whole value; `move` marks the last write of an
ordered-store move (R320, R331). -/
structure SeqWrite where
  tbl : Nat
  idx : Nat
  val : Nat
  move : Bool := false
  deriving DecidableEq, Repr

/-- An entry closed by an ager's visit: the slot, the write of its filter clear, and a hit in the closed period (R292). -/
structure AgeVisit where
  slot : Nat
  key : Nat
  m : Nat
  hit : Bool := false
  /-- A hit notice of the new period has arrived (R293). -/
  hitNew : Bool := false
  deriving DecidableEq, Repr

/-- The table sequencer and the Tree die's learning and ageing (R284 to R293). -/
structure Sequencer where
  /-- Writes issued. -/
  issued : Nat := 0
  /-- Writes that some live Skirt die has not applied, oldest first, with their numbers. -/
  log : List (Nat × SeqWrite) := []
  /-- The number of the last write each Skirt die has applied. -/
  applied : Map Nat := []
  /-- Learn requests on their way: key, tenant, port and the die; and those still outstanding at a die (R287). -/
  learn : List (Nat × Nat × Nat × Nat) := []
  asked : List (Nat × Nat) := []
  /-- Learned entries: the tenant and port each slot is counted under (R289). -/
  owner : Map (Nat × Nat) := []
  tenantCnt : Map Nat := []
  /-- Hit filter bits, by die and slot, and hit notices on their way: slot, key, port, tenant, write number (R291). -/
  filter : Map Nat := []
  hits : List (Nat × Nat × Nat × Nat × Nat) := []
  /-- Keys with a hit in the present period, by slot (R292). -/
  periodHit : Map Nat := []
  visits : List AgeVisit := []
  visitAt : Map Nat := []
  /-- Objects: 1 LIVE, 2 plus the epoch RETIRED; unlisted FREE (R281). -/
  aoState : Map Nat := []
  /-- LPM nodes that an operation freed, by family and node: the device tick (R275). -/
  freed : Map Nat := []
  /-- The rule banks that a die has applied a write to, whose digest it keeps from then on (R238, R241). -/
  digested : Map Nat := []
  deriving DecidableEq, Repr

/-- An ordered-store operation that waits on the Tree die (R319, R324): who asked, the kind (0 insert, 1 delete, 2 repoint,
3 rewrite), the ID, the entry and the tick. -/
structure OsWait where
  ref : Who
  kind : Nat
  id : Nat
  val : Nat
  at_ : Nat
  deriving DecidableEq, Repr

/-- The ordered store's planner on the Tree die (R318 to R325). -/
structure OsPlan where
  /-- Operations that wait. -/
  waiting : List OsWait := []
  /-- The moves of a compaction still to make, by die, source and destination (R322); under die 12 the whole list. -/
  moves : Map (List (Nat × Nat)) := []
  /-- A compaction is in progress. -/
  busy : Bool := false
  /-- The stopped compaction is to start again (R325). -/
  again : Bool := false
  /-- The spacing in force: that of the last compaction layout (R321, R330). -/
  spacing : Nat := 16
  /-- One more than the tick of the last throttle evaluation, by die; under 12 Awl's (R256, R326). -/
  evalAt : Map Nat := []
  /-- Throttle: evaluations in a row below the step's threshold, by die (R326). -/
  cool : Map Nat := []
  coolAwl : Nat := 0
  deriving DecidableEq, Repr

/-- Awl beside its registers (R243 to R262). -/
structure AwlStore where
  /-- The automaton image of each set. -/
  image : Map (List Byte) := []
  /-- Attribute entries, by set and pattern (R252). -/
  attr : Map Nat := []
  /-- Blocks with an uncorrectable error, by block; the tick of a block's last error, plus one (R262). -/
  badBlock : List Nat := []
  errAt : Map Nat := []
  /-- Scans of frames that have timed out, still on the Tree die (R257). -/
  late : List Pass := []
  /-- Sets in which the next SCAN operation meets an uncorrectable error (R262). -/
  opBad : List Nat := []
  deriving DecidableEq, Repr

/-- A flow context (R297). -/
structure Flow where
  key : Nat
  state : Nat := 0
  pkts : Nat := 0
  octets : Nat := 0
  firstSec : Nat := 0
  lastSec : Nat := 0
  lastNs : Nat := 0
  user : Nat := 0
  deriving DecidableEq, Repr

/-- Flow contexts (R295 to R303). -/
structure Flows where
  /-- Contexts by index: bucket × 8 + entry in DDR5, set × 16 + way on the UB9840-E (R296). -/
  ctx : Map Flow := []
  /-- Cached context indexes of each cache set, most recently used first (R295). -/
  cache : Map (List Nat) := []
  /-- Contexts with an uncorrectable error, and those of them whose fault has been reported. -/
  bad : List Nat := []
  told : List Nat := []
  /-- Operations of frames that have timed out, still in the pipeline (R300). -/
  late : List Pass := []
  /-- What the ager read: LAST_SEC and LAST_NS, by index (R302). -/
  read : Map (Nat × Nat) := []
  deriving DecidableEq, Repr



/-- The DDR5 beside the DM registers (R502 to R509). -/
structure Ddr where
  /-- Device memory, by device offset (R503); a byte never written reads zero. -/
  data : Map Byte := []
  /-- Bursts of 64 bytes with an uncorrectable error. -/
  bad : List Nat := []
  /-- The tick of each channel's last training, plus one, and the DRAM temperature then (R505). -/
  trainAt : Map Nat := []
  trainTemp : Map Int := []
  /-- Channels whose last retraining failed: due again by time alone (R505). -/
  trainFailed : List Nat := []
  /-- The memory's devices are x8, not x4 (R506). -/
  x8 : Bool := false
  /-- The burst that the patrol scrub reads next, and the tick at which its pass began, plus one (R506). -/
  scrubNext : Nat := 0
  scrubFrom : Nat := 0
  /-- Channels due for retraining, rising (R505). -/
  due : List Nat := []
  /-- Pages remapped to a spare: the spare's number plus one; the spares taken; and the pages whose copy runs (R508). -/
  remap : Map Nat := []
  spares : List Nat := []
  copying : List Nat := []
  /-- The tick of each page's first uncorrectable error, plus one, and of its corrected errors of the last hour (R508). -/
  ueAt : Map Nat := []
  ceAt : Map (List Nat) := []
  /-- Pages due for retirement, and pages for which no spare was free (R508, R509). -/
  retire : List Nat := []
  spareless : List Nat := []
  deriving DecidableEq, Repr

/-- Why a thread of a Stitcher does not run (R439, R440, R454): it is ready or runs; it is in WAIT; in DMAW; an access or a
unit has not answered; a machine check. -/
inductive Stall where
  | none | wait | dmaw | unit | check
  deriving DecidableEq, Repr

/-- The micro state of a thread within a micro-routine (R429, R452): the microaddress, U0 to U7, the micro-stack, the writes
that are pending by register code (0x70 PC, 0x80 FLAGS), and the last unit result. -/
structure Micro where
  at_ : Nat
  temps : Map Nat := []
  stack : List Nat := []
  regs : Map Nat := []
  last : Nat := 0
  deriving DecidableEq, Repr

/-- A DMA of a thread (R437): its tag, source, destination, length and the bytes moved; `bad` when poisoned data or a
translation error met it. -/
structure DmaJob where
  tag : Nat
  src : Nat
  dst : Nat
  len : Nat
  moved : Nat := 0
  bad : Bool := false
  deriving DecidableEq, Repr

/-- A Stitcher thread (R429). -/
structure Thread where
  /-- A0 to A31. -/
  a : Map Nat := []
  pc : Nat := 0
  flags : Nat := 0
  epc : Nat := 0
  ecause : Nat := 0
  eaddr : Nat := 0
  dl : Nat := 0
  stall : Stall := .none
  stopped : Bool := false
  faulted : Bool := false
  /-- STEP has resumed it for one boundary (R456). -/
  step : Bool := false
  /-- The breakpoint at PC has stopped it; on resume it goes on. -/
  passBrk : Bool := false
  /-- The signal latch and the DMA-done latch (R440). -/
  signal : Bool := false
  dmaDone : Bool := false
  /-- Channels it owned that the debugger released, a bit each (R443, R457). -/
  lost : Nat := 0
  /-- DMAs outstanding, and tags whose DMA failed, a bit each (R507, R518). -/
  dma : List DmaJob := []
  tagBad : Nat := 0
  /-- What its instruction waited for is there; it goes on when the engine runs it (R430, R439). -/
  answered : Bool := false
  /-- The event mask of the WAIT that it is in (R440). -/
  mask : Nat := 0
  micro : Option Micro := none
  deriving DecidableEq, Repr

/-- A Stitcher engine (R429). -/
structure Engine where
  /-- S0 to S63. -/
  s : Map Nat := []
  /-- Channel words by channel × 8 + word, states and owners (R442). -/
  words : Map Nat := []
  chan : Map Nat := []
  owner : Map Nat := []
  /-- The punt queue: handles of descriptors, oldest first (R433), and the punts queued since the last reset (R434). -/
  pq : List Nat := []
  seq : Nat := 0
  /-- The device-memory cache: the 64-byte blocks it holds, most recently used first (R429). -/
  cache : List Nat := []
  /-- The running thread. -/
  cur : Option Nat := none
  /-- A Stitcher reset is under way (R119). -/
  inReset : Bool := false
  /-- It is all waiting (R441). -/
  allWaiting : Bool := false
  deriving DecidableEq, Repr

/-- The Stitcher engines beside their registers (R429 to R460). -/
structure Stitch where
  /-- Threads by device-wide number, and engines. -/
  thr : Map Thread := []
  eng : Map Engine := []
  /-- Data memory, and the pool window from its first byte (R431). -/
  mem : Map Byte := []
  pool : Map Byte := []
  /-- The control store, the dispatch table and program memory as the engines read them (R450); a microword is held as its
  difference from one never written (R149). -/
  ucode : Map Nat := []
  disp : Map Nat := []
  prog : Map Nat := []
  /-- Microwords whose parity fails, and the tick of each one's last machine check, plus one (R454). -/
  badWord : List Nat := []
  failAt : Map Nat := []
  /-- Table operations of threads that have completed, by engine and thread: status, RESULT0 and sequence number. -/
  tops : Map (Nat × Nat × Nat) := []
  /-- The Tree copies of microwords, dispatch entries and program words: table 23, 24 or 25, and the index (R455). -/
  copy : Map Nat := []
  /-- The frames of the punts that engines hold, by descriptor handle (R445). -/
  held : Map Meta := []
  /-- The engine that took each of them, plus one; none while its punt is queued. -/
  heldBy : Map Nat := []
  /-- The frames received that punts have placed in chains, by the handle of the chain's first buffer (R410, R444). -/
  chains : Map Meta := []
  deriving DecidableEq, Repr

/-- The state of the block: everything the spec gives the UB9840, and the commands that wait. -/
structure State where
  /-- Commands that wait, first in, first out. -/
  pending : List Instr := []
  /-- Which ordering code this module is (R1); no command changes it. -/
  variant : Variant := .x
  clock : Clock := {}
  mode : Mode := .standby
  /-- The registers of BAR0 by offset; an unlisted one reads as its reset value. -/
  regs : Map Word := []
  /-- The 64-bit counters by the offset of their low word. -/
  ctrs : Map Nat := []
  /-- Low words written and waiting for their high word, and high words latched by a read of the low word (R11), keyed
  by offset; latches are kept for each function. -/
  staged : Map Word := []
  latched : Map Word := []
  /-- The next free value to be taken (the model's own field). -/
  free : Nat := 0
  tack : Tack := {}
  modes : Modes := {}
  ev : Events := {}
  flt : Faults := {}
  out : Outputs := {}
  pace : Pace := {}
  load : Loader := {}
  flash : FlashDev := {}
  fuse : Fuse := {}
  /-- Host memory as the device's accesses see it: bytes keyed by function, PASID and address (R510). -/
  host : Map Byte := []
  /-- The tables of the dies: keyed by die, table and index; the Tree die's own copy is die 12 (R284). -/
  tabs : Map Nat := []
  /-- Table entries with an uncorrectable error (R294, R328). -/
  badTabs : List Nat := []
  ts : Sequencer := {}
  osp : OsPlan := {}
  awl : AwlStore := {}
  flow : Flows := {}
  port : Ports := {}
  sl : Slices := {}
  fab : Fabric := {}
  shp : Shaping := {}
  pool : Pools := {}
  tally : TallyBanks := {}
  xl : Xlate := {}
  rc : RingC := {}
  ddr : Ddr := {}
  st : Stitch := {}
  deriving DecidableEq, Repr


/-- The machine right after power-on reset, with VAUX in its window and VIN not yet qualified (R119, R92, R93, R98, R99,
R121): every register at its reset value but PS_STATUS.VAUX_OK, TK_STATUS.RET_VALID and MD_LAST_RESET (cause 1); the
retention header with its signature, the reset cause and its CRC-32C; the Tack Room on, everything else unpowered.
Log 1 (DESIGN CHOICE), 6 (DESIGN CHOICE), 10 (DESIGN CHOICE). -/
def State.reset : State :=
  { mode := .standby
    regs := [(0x10000, 0x10#32), (0x20000, 0x10#32), (0x3004C, 0x1#32)]
    tack := { ret := [(0, 0x4B#8), (1, 0x43#8), (2, 0x41#8), (3, 0x54#8), (4, 0x01#8),
                      (16, 0xE0#8), (17, 0x05#8), (18, 0xAB#8), (19, 0x5B#8)] } }

/-- Faults of the model's own step. The block's commands raise none: what the spec calls an error of a command is an
effect on the state (a status, an event, a journal entry). -/
inductive Fault where
  /-- Never raised; kept so that the type has a name for a stop of the model itself. Safe: no step answers it. -/
  | stuck
  deriving DecidableEq, Repr

/-- Refusals. -/
inductive Refusal where
  /-- Raised by an arm of `exec` whose command has no meaning yet. Safe: nothing is claimed of it. -/
  | notModelled (mnemonic : String)
  deriving DecidableEq, Repr

end Sys2Proof.Machine
end

