-- ==== Sys2Proof/Machine/Ops.lean ====
section
/-! DEFINITION. The shared operations: which units are present, register fields, counters, event sources, counting
blocks, the journal and the two ways a command completes. -/

namespace Sys2Proof.Machine

/-- The outcome of a command. -/
abbrev Out := Host.Outcome State Fault Refusal

/-! ## Completion -/

/-- A command that leaves the timekeeper's time alone completes with the effect `f` (R83: only the tick, steps, slews
and PPS discipline move time). The variant is fixed at manufacture (R1) and the queue belongs to the step.
Log 3 (DESIGN CHOICE). -/
def done (f : State → State) (s : State) : Out :=
  .next { f s with clock := s.clock, variant := s.variant, pending := s.pending }

/-- A command that may move time completes with the effect `f`. Log 3 (DESIGN CHOICE). -/
def doneTimed (f : State → State) (s : State) : Out :=
  .next { f s with variant := s.variant, pending := s.pending }

/-- `f` where the command's own condition holds, and no change where it does not. Log 3 (DESIGN CHOICE). -/
def onlyIf (b : Bool) (f : State → State) (s : State) : State := if b then f s else s

/-- Apply `f` for every element of a list, left to right. -/
def forEach {α : Type} (l : List α) (f : α → State → State) (s : State) : State := l.foldl (fun t a => f a t) s

/-! ## Which units are present (R1, R2, R65) -/

/-- Skirt dies fitted. -/
def Variant.skirts : Variant → Nat
  | .x => 8 | .t => 4 | .e => 4

/-- Girth dies fitted. -/
def Variant.girths : Variant → Nat
  | .x => 4 | .t => 2 | .e => 2

/-- DDR5 channels fitted. -/
def Variant.channels : Variant → Nat
  | .x => 8 | .t => 4 | .e => 0

/-- DDR5 controllers and attached memory are present. -/
def Variant.hasDdr : Variant → Bool
  | .e => false | _ => true

/-- Die index `x` of R65 names a die that is present. -/
def Variant.hasDie (v : Variant) (x : Nat) : Bool :=
  decide (x < v.skirts) || (decide (8 ≤ x) && decide (x < 8 + v.girths)) || x == 12

/-- The present die indexes, rising. -/
def Variant.dies (v : Variant) : List Nat := (List.range 13).filter v.hasDie

/-! ## Registers and fields -/

/-- Reset values that differ by index: comparators (R74), activities (R59), reason actions (R219), early-drop profiles
(R383), the pools (R355) and, by variant, the sample destination and the fabric pattern (R540, R361).
Log 8 (DESIGN CHOICE), 14 (DESIGN CHOICE). -/
def resetByIndex (v : Variant) (base : Nat) (ix : List Nat) : Nat :=
  let i := ix.getLastD 0
  if base = R.TK_CMP_CFG.base then
    ([0x83000000, 0x8100000A, 0x81000064, 0x8300000A, 0x82002710, 0x820003E8, 0x0100000A, 0x0100000A] : List Nat).getD i 0
  else if base = R.TK_CMP_THR.base then
    ([0xFFFF0230, 0x18060000, 0x06A40000, 0x0D890C3F, 0x0360FFB0, 0, 0xFFFF0000, 0xFFFF0000] : List Nat).getD i 0
  else if base = R.PT_ACT.base then
    ([0, 0x07D00028, 0x01F40014, 0x0FA0001E, 0x4E200028, 0x00640032] : List Nat).getD i 0
  else if base = R.CL_REASON_CFG.base then
    -- REINJ_ACT [3:2], ACT [1:0]: 0 punt, 1 discard, 2 continue
    if i = 12 then 0x5 else if i = 5 ∨ (7 ≤ i ∧ i ≤ 10) then 0x8 else 0x4
  else if base = R.EQ_PROF.base then
    ([0x04000100, 0x01000040, 0x00400000] : List Nat).getD (i % 3) 0
  else if base = R.EQ_PROF_P.base then
    ([0x1A, 0x80, 0xFF] : List Nat).getD (i % 3) 0
  else if base = R.ID_DEVICE.base then 0x98400000
  else if base = R.SM_CFG.base then (if v = .e then 0x10000001 else 0x10000000)
  else if base = R.FP_PATTERN.base then (if v = .x then 0x3210 else 0x10)
  else if base = R.SB_POOL_CFG.base then
    -- NEXT [31:28], COUNT [23:0] (R355)
    ([0x50008000, (if v = .e then 0xF0004000 else 0x60004000), 0x70000000, 0x80000000, 0xF0000000] : List Nat).getD (i - 4) 0
  else 0

/-- The reset value of a register's instance. -/
def resetOf (v : Variant) (r : RegSpec) (ix : List Nat) : Nat :=
  if r.byIndex || r.base == R.SM_CFG.base || r.base == R.FP_PATTERN.base then resetByIndex v r.base ix else r.rst

namespace State

/-- The stored word of a register. -/
def rd (s : State) (r : RegSpec) (ix : List Nat) : Nat :=
  (s.regs.at (BitVec.ofNat 32 (resetOf s.variant r ix)) (r.addr ix)).toNat

/-- Store a word in a register. -/
def wr (s : State) (r : RegSpec) (ix : List Nat) (v : Nat) : State :=
  { s with regs := s.regs.put (BitVec.ofNat 32 (resetOf s.variant r ix)) (r.addr ix) (BitVec.ofNat 32 v) }

/-- The value of a field. -/
def get (s : State) (f : Fld) (ix : List Nat) : Nat := bits (s.rd f.reg ix) f.hi f.lo

/-- The field is not zero. -/
def isOn (s : State) (f : Fld) (ix : List Nat) : Bool := s.get f ix != 0

/-- The device sets a field. -/
def set (s : State) (f : Fld) (ix : List Nat) (v : Nat) : State :=
  s.wr f.reg ix (setBits (s.rd f.reg ix) f.hi f.lo v)

/-- Add to a field, saturating at its width. -/
def addSat (s : State) (f : Fld) (ix : List Nat) (n : Nat) : State :=
  s.set f ix (satAdd (2 ^ (f.hi + 1 - f.lo) - 1) (s.get f ix) n)

/-- A 64-bit counter (R11). Log 186 (DESIGN CHOICE). -/
def ctr (s : State) (r : RegSpec) (ix : List Nat) : Nat := s.ctrs.at 0 (r.addr ix)

/-- Add to a 64-bit counter. Log 186 (DESIGN CHOICE). -/
def inc (s : State) (r : RegSpec) (ix : List Nat) (n : Nat := 1) : State :=
  { s with ctrs := s.ctrs.put 0 (r.addr ix) ((s.ctr r ix + n) % 2 ^ 64) }

/-- Zero a 64-bit counter. Log 186 (DESIGN CHOICE). -/
def zeroCtr (s : State) (r : RegSpec) (ix : List Nat) : State :=
  { s with ctrs := s.ctrs.put 0 (r.addr ix) 0 }

/-- The next free value's index; the value itself is an opaque constant of Config applied to it. -/
def takeFree (s : State) : Nat × State := (s.free, { s with free := s.free + 1 })

/-! ## Dies and modes -/

/-- The fault registers show die `x` isolated (R544). -/
def isolated (s : State) (x : Nat) : Bool := bit (s.get F.FT_DIE_STAT_ISOLATED []) x

/-- Die `x` is present and not isolated. -/
def live (s : State) (x : Nat) : Bool := s.variant.hasDie x && !s.isolated x

/-- The live dies. -/
def liveDies (s : State) : List Nat := (List.range 13).filter s.live

/-- The live Skirt dies. -/
def liveSkirts (s : State) : List Nat := (List.range 8).filter s.live

/-- The live Girth dies, by Girth number. -/
def liveGirths (s : State) : List Nat := (List.range 4).filter fun g => s.live (8 + g)

/-- The mask of the live dies. -/
def liveMask (s : State) : Nat := (s.liveDies.map (2 ^ ·)).sum

/-- The dies are powered and out of reset (R100, R119). -/
def powered (s : State) : Bool :=
  !s.modes.inReset && (match s.mode with | .load | .run | .drain | .halt => true | _ => false)

/-- Frames are forwarded or drained (R100). -/
def forwarding (s : State) : Bool :=
  !s.modes.inReset && (match s.mode with | .run | .drain => true | _ => false)

/-- Every transmitter is off, and stays so: in HALT, and in an emergency DRAIN from t0 + 5 µs (R78, R103). -/
def txOff (s : State) : Bool := s.mode == .halt || s.tack.edrain.any fun e => e.txOff

/-- The device is in RUN. -/
def running (s : State) : Bool := !s.modes.inReset && s.mode == .run

/-- The configuration epoch in force (R106). -/
def epoch (s : State) : Nat := s.get F.MD_EPOCH_CURRENT []

/-- TAI is trusted (R91). -/
def timeValid (s : State) : Bool := s.isOn F.TK_STATUS_TIME_VALID []

/-- Ticks since `t`. -/
def since (s : State) (t : Nat) : Nat := s.clock.tick - t

/-! ## Features that a driver has accepted (R464 to R466) -/

/-- Word `w` of what a function has written into FEAT_ACCEPT. -/
def acceptWord (s : State) (fn w : Nat) : Nat := if fn = 0 then s.rd R.FEAT_ACCEPT [w] else s.rc.vfAcc.at 0 (fn * 8 + w)

/-- The function's DRIVER_OK. -/
def driverOk (s : State) (fn : Nat) : Bool :=
  if fn = 0 then s.isOn F.FEAT_CTRL_DRIVER_OK [] else bit (s.rc.vfCtl.at 0 fn) 31

/-- The function has accepted feature bit `b` (R464, R466). -/
def accepted (s : State) (fn b : Nat) : Bool := s.driverOk fn && bit (s.acceptWord fn 0) b

end State

/-! ## Event sources (R522 to R525) -/

/-- The per-die event registers of a Skirt die, in the order of sources 64 to 75 (R522). -/
def skirtEvts : List RegSpec :=
  [R.PG_SP_EVT, R.BR_EVT, R.PA_EVT, R.CL_EVT, R.XT_EVT, R.OS_EVT, R.EQ_EVT, R.CB_EVT, R.SC_EVT, R.GA_EVT, R.TY_EVT, R.LC_EVT]

/-- The event registers of a Girth die (R522). -/
def girthEvts : List RegSpec := [R.GF_EVT, R.BM_EVT, R.QM_EVT]

/-- The device-wide event registers, sources 0x480 to 0x490 (R522). -/
def deviceEvts : List RegSpec :=
  [R.TK_EVT, R.FT_EVT, R.PT_EVT, R.MD_EVT, R.PB_EVT, R.RC_EVT, R.TR_EVT, R.DM_EVT, R.ST_EVT, R.AW_EVT, R.TS_EVT,
   R.FC_EVT, R.FP_EVT, R.SB_EVT, R.CP_EVT, R.TL_EVT, R.EV_STAT]

/-- The overflow source of counting block `b` (R522). -/
def ovfSource (b : Nat) : Nat :=
  if b < 128 then 0x80 * (b / 16) + 76 + b % 16
  else if b < 160 then 0x400 + 0x20 * ((b - 128) / 8) + 8 + b % 8
  else 0x4C0 + (b - 160)

/-- The position of a register in a list of registers. -/
def posOf (l : List RegSpec) (r : RegSpec) : Option Nat := l.findIdx? fun q => q.base == r.base

/-- The event source of an event register (R522). -/
def evtSource (r : RegSpec) (ix : List Nat) : Option Nat :=
  let a := ix.headD 0
  if r.base = R.PG_PORT_EVT.base then some (0x80 * a + ix.getD 1 0)
  else if r.base = R.ST_ENG_EVT.base then some (0x4A0 + a)
  else if r.base = R.PC_OVF.base then some (ovfSource a)
  else match posOf skirtEvts r, posOf girthEvts r, posOf deviceEvts r with
    | some i, _, _ => some (0x80 * a + 64 + i)
    | _, some i, _ => some (0x400 + 0x20 * a + i)
    | _, _, some i => some (0x480 + i)
    | _, _, _ => none

/-- The register behind a register source, with its indexes (R522). -/
def sourceReg (n : Nat) : Option (RegSpec × List Nat) :=
  if n < 0x400 then
    let d := n / 0x80
    let i := n % 0x80
    if i < 64 then some (R.PG_PORT_EVT, [d, i])
    else if i < 76 then (skirtEvts[i - 64]?).map fun r => (r, [d])
    else if i < 92 then some (R.PC_OVF, [16 * d + (i - 76)])
    else none
  else if n < 0x480 then
    let g := (n - 0x400) / 0x20
    let i := n % 0x20
    if i < 3 then (girthEvts[i]?).map fun r => (r, [g])
    else if 8 ≤ i ∧ i < 16 then some (R.PC_OVF, [128 + 8 * g + (i - 8)])
    else none
  else if n < 0x491 then (deviceEvts[n - 0x480]?).map fun r => (r, [])
  else if 0x4A0 ≤ n ∧ n < 0x4C0 then some (R.ST_ENG_EVT, [n - 0x4A0])
  else if 0x4C0 ≤ n ∧ n < 0x4D0 then some (R.PC_OVF, [160 + (n - 0x4C0)])
  else none

namespace State

/-- A source is pending (R523): a bit of its register is set, or its level condition holds. -/
def sourcePending (s : State) (n : Nat) : Bool :=
  if 0x800 ≤ n ∧ n < 0x1000 then s.isOn F.RC_CQ_STAT_FULL [n - 0x800]
  else if 0x500 ≤ n ∧ n < 0x540 then s.isOn F.RC_ER_STAT_FULL [n - 0x500]
  else match sourceReg n with
    | some (r, ix) => (s.rd r ix) &&& r.w1c != 0
    | none => false

/-- The source is enabled (R524). -/
def sourceOn (s : State) (n : Nat) : Bool := s.isOn F.EV_SRC_EN [n]

/-- A delivery falls due at an enabled source (R525). -/
def due (s : State) (n : Nat) : State :=
  if s.sourceOn n then { s with ev.due := s.ev.due ++ [n] } else s

/-- Set a bit of an event register; a source that becomes pending has a delivery due (R523, R525). -/
def raise (s : State) (f : Fld) (ix : List Nat) : State :=
  match evtSource f.reg ix with
  | none => s.set f ix 1
  | some n => if s.sourcePending n then s.set f ix 1 else (s.set f ix 1).due n

/-- Set or clear a level condition; its source has a delivery due when it rises (R523, R525). -/
def level (s : State) (f : Fld) (ix : List Nat) (n : Nat) (b : Bool) : State :=
  if b then (if s.isOn f ix then s else (s.set f ix 1).due n) else s.set f ix 0

end State

/-! ## Counting blocks (R528 to R533) -/

/-- The KIND of a counting block (R528). -/
def blockKind (b : Nat) : Nat :=
  if b < 128 then
    let i := b % 16
    if i < 4 then 0 else if i < 8 then 1 else if i < 12 then 2 else i - 9
  else if b < 160 then
    let i := b % 8
    if i < 4 then 7 else i + 4
  else if b < 168 then 12
  else ([13, 14, 15, 15, 16, 17, 18, 19] : List Nat).getD (b - 168) 0

/-- The die of a counting block, as the die index of R65. -/
def blockDie (b : Nat) : Nat := if b < 128 then b / 16 else if b < 160 then 8 + (b - 128) / 8 else 12

/-- The instance of a counting block within its die: s, j or c (R528). -/
def blockInstance (b : Nat) : Nat :=
  if b < 128 then (if b % 16 < 12 then b % 4 else 0)
  else if b < 160 then (if b % 8 < 4 then b % 4 else 0)
  else if b < 168 then b - 160
  else if b = 171 then 1 else 0

/-- Counting block `b` belongs to a present unit (R7, R528). -/
def Variant.hasBlock (v : Variant) (b : Nat) : Bool :=
  decide (b < 176) && v.hasDie (blockDie b) &&
    (if 160 ≤ b ∧ b < 168 then decide (b - 160 < v.channels) else !(v == .e && b == 172))

/-- Events each KIND lists, 0x080 × (KIND + 1) + i (R530). -/
def kindEvents (k : Nat) : Nat :=
  ([10, 8, 6, 6, 8, 7, 5, 6, 6, 6, 3, 3, 5, 6, 5, 5, 4, 4, 5, 5] : List Nat).getD k 0

/-- The event number has a meaning in a block of KIND `k` (R530). -/
def eventDefined (k ev : Nat) : Bool :=
  decide (ev < 4) ||
    (decide (0x80 * (k + 1) ≤ ev) && decide (ev < 0x80 * (k + 1) + kindEvents k)
      && !((k == 3 || k == 8) && decide (0x80 * (k + 1) + 4 ≤ ev)))

namespace State

/-- Block `b` counts: EN is 1 and its die is not frozen (R529). -/
def blockRuns (s : State) (b : Nat) : Bool :=
  s.variant.hasBlock b && s.isOn F.PC_CTRL_EN [b]
    && !(s.isOn F.PC_FREEZE_APPLIED [] && bit (s.get F.PC_FREEZE_DIES []) (blockDie b))

/-- The event counts under the filter of counter `n` (R531): `who` is the tenant of the frame it is made for.
Log 188 (DEDUCED). -/
def tenantCounts (s : State) (b n : Nat) (who : Option Nat) : Bool :=
  if s.isOn F.PC_SEL_TFILT [b, n] then
    match who with
    | none => false
    | some t =>
      let base := s.get F.PC_TWIN_BASE [b]
      decide (base ≤ t) && decide (t < base + s.get F.PC_TWIN_COUNT [b])
  else true

/-- What has been counted at the present tick. Log 249 (DEDUCED). -/
def nowLog (s : State) : TickLog := if s.ev.now.at_ = s.clock.tick + 1 then s.ev.now else { at_ := s.clock.tick + 1 }

/-- Counter `n` of block `b` and its overflow bit as a sample takes them: with the events of ticks before this one (R532,
R533). Log 249 (DEDUCED). -/
def sampleOf (s : State) (b n : Nat) : Nat × Bool :=
  (s.nowLog.pre.find? (key2 b n)).getD (s.ev.cnt.at 0 (key2 b n), bit (s.rd R.PC_OVF [b]) n)

/-- The same is kept ahead of the first change of the counter at a tick. Log 249 (DEDUCED). -/
def keepSample (s : State) (b n : Nat) : TickLog := { s.nowLog with pre := s.nowLog.pre.insert (key2 b n) (s.sampleOf b n) }

/-- Counter `n` of block `b` has wrapped at the present tick (R533). Log 249 (DEDUCED). -/
def wrappedNow (s : State) (b n : Nat) : Bool := (s.nowLog.pre.find? (key2 b n)).any fun x => decide (s.ev.cnt.at 0 (key2 b n) < x.1)

/-- Add to counter `n` of block `b`; a wrap sets PC_OVF and its source fires (R533). -/
def addCount (s : State) (b n k : Nat) : State :=
  let v := s.ev.cnt.at 0 (key2 b n) + k
  let t := { s with ev.cnt := s.ev.cnt.put 0 (key2 b n) (v % 2 ^ 48), ev.now := s.keepSample b n }
  if 2 ^ 48 ≤ v then
    let u := t.wr R.PC_OVF [b] (setBit (t.rd R.PC_OVF [b]) n true)
    if t.sourcePending (ovfSource b) then u else u.due (ovfSource b)
  else t

/-- Event `ev` happens `k` times in block `b` on behalf of a frame of tenant `who` (R529 to R531). -/
def count (s : State) (b ev k : Nat) (who : Option Nat := none) : State :=
  if s.blockRuns b && k != 0 then
    forEach (List.range 8) (fun n t =>
      if t.get F.PC_SEL_EVNUM [b, n] == ev && t.tenantCounts b n who then t.addCount b n k else t)
      { s with ev.now := { s.nowLog with events := (b, ev, k, who) :: s.nowLog.events } }
  else s

/-- Event `i` of the block's own KIND. -/
def countKind (s : State) (b i k : Nat) (who : Option Nat := none) : State :=
  s.count b (0x80 * (blockKind b + 1) + i) k who

/-- Event `i` of ingress slice `sl`, numbered across the device (R16, R528). -/
def countIng (s : State) (sl i : Nat) (k : Nat := 1) (who : Option Nat := none) : State :=
  s.countKind (16 * (sl / 4) + sl % 4) i k who

/-- Event `i` of egress slice `sl`, numbered across the device. -/
def countEgr (s : State) (sl i : Nat) (k : Nat := 1) (who : Option Nat := none) : State :=
  s.countKind (16 * (sl / 4) + 4 + sl % 4) i k who

/-- The counting block of a Skirt die's Girth strap (R528). Log 231 (DEDUCED). -/
def strapBlock (s : State) (d g k : Nat) : Nat := 16 * d + 8 + (if s.variant = .x then g else 2 * g + k)

/-- The counting block of Girth die `g` that holds the straps of Skirt die `d` (R528). Log 231 (DEDUCED). -/
def girthBlock (s : State) (g d : Nat) : Nat := 128 + 8 * g + (if s.variant = .x then d / 2 else d)

/-- A transfer between Skirt die `d` and the Tree die is sent (0) or received (1) at the Skirt's end (R530). Log 231 (DEDUCED). -/
def treeTransfer (s : State) (d i : Nat) (who : Option Nat := none) : State := s.countKind (16 * d + 12) i 1 who

/-- The Tree die's queue of capture and sample records holds 256 (R379, R537). Log 233 (DEDUCED). -/
def recordsFull (s : State) : Bool := decide (256 ≤ s.fab.captures.length + s.sl.samples.length)

/-- The ring of a capture session: 0 the DDR5 ring, n + 1 host ring n (R378, R381, R382). -/
def captureRing (s : State) (d sess : Nat) : Nat :=
  if s.get F.EQ_SESS_TYPE [d, sess] = 3 then s.get F.EQ_SESS_RING_HOST_RING [d, sess] + 1 else 0

/-- The ring of the sample records, numbered likewise (R537). -/
def sampleRing (s : State) : Nat := if s.isOn F.SM_CFG_DEST [] then s.get F.SM_RING_RING [] + 1 else 0

/-- A record of ring `k` is discarded: the next one written there tells of it (R380 to R382). Log 172 (DEDUCED). -/
def capDrop (s : State) (k : Nat) (who : Nat) : State :=
  { s with fab.capLost := s.fab.capLost.put 0 k (satAdd 0xFFFFFFFF (s.fab.capLost.at 0 k) 1) }.countKind 175 4 1 (some who)

/-- A record of ring `k` finds the queue of records full (R379, R530). Log 233 (DEDUCED). -/
def dropRecord (s : State) (k who : Nat) : State := (s.inc R.CP_DROP_QUEUE []).capDrop k who

/-- Event `i` of ingress slice `sl` that came before its frame's tenant was fixed: counted under TFILT only (R531).
Log 188 (DEDUCED). -/
def countIngLate (s : State) (sl i k who : Nat) : State :=
  let b := 16 * (sl / 4) + sl % 4
  if s.blockRuns b then
    forEach (List.range 8) (fun n t =>
      if t.isOn F.PC_SEL_TFILT [b, n] && t.get F.PC_SEL_EVNUM [b, n] == 0x80 + i && t.tenantCounts b n (some who) then
        t.addCount b n k else t) s
  else s

/-- The tick count of a block (R529). -/
def blockTicks (s : State) (b : Nat) : Nat :=
  s.ev.blkAcc.at 0 b + (if s.blockRuns b then s.clock.tick - s.ev.blkSince.at 0 b else 0)

/-- Bring a block's tick count up to now, ahead of a change of what runs it. -/
def settleBlock (s : State) (b : Nat) : State :=
  { s with ev.blkAcc := s.ev.blkAcc.put 0 b (s.blockTicks b), ev.blkSince := s.ev.blkSince.put 0 b s.clock.tick }

end State

/-! ## The journal (R94, R547) -/

/-- The 64 bytes of an entry with sequence number `seq` (R547). -/
def JEntry.bytes (e : JEntry) (seq : Nat) : List Byte :=
  let w0 := 0x464A + 2 ^ 16 + e.cls * 2 ^ 24 + b2n e.completion * 2 ^ 27 + b2n e.untrusted * 2 ^ 28
  let w1 := e.die + e.unit * 2 ^ 8 + e.cause * 2 ^ 16
  let w3 := e.mode + e.action * 2 ^ 8 + e.epoch * 2 ^ 16
  let head := leBytes w0 4 ++ leBytes w1 4 ++ leBytes seq 4 ++ leBytes w3 4 ++ leBytes e.sec 8
    ++ leBytes e.ns 4 ++ leBytes e.count 4 ++ leBytes e.d0 8 ++ leBytes e.d1 8 ++ leBytes e.ref 8 ++ leBytes e.dur 4
  head ++ leBytes (crc32c head) 4

namespace State

/-- An entry as the device stands now (R547). -/
def entryNow (s : State) (cls die unit cause action : Nat) (d0 d1 : Nat := 0) (count : Nat := 1) : JEntry :=
  { cls := cls, untrusted := !s.timeValid, die := die, unit := unit, cause := cause, mode := s.mode.code,
    action := action, epoch := s.epoch, sec := s.clock.sec, ns := s.clock.ns, count := count, d0 := d0, d1 := d1 }

/-- Write bytes into retention memory (R92). -/
def retWrite (s : State) (a : Nat) (bs : List Byte) : State :=
  { s with tack.ret := s.tack.ret.putAll 0 a bs }

/-- Read bytes of retention memory. -/
def retRead (s : State) (a n : Nat) : List Byte := s.tack.ret.run 0 a n

/-- Write one entry into the ring of R94; the first entry that overwrites an old one in a turn raises JOURNAL_WRAP. -/
def journalWrite (s : State) (e : JEntry) : State :=
  let head := s.get F.TK_JRNL_HEAD_HEAD []
  let seq := s.rd R.TK_JRNL_COUNT []
  let t := s.retWrite (0x4000 + 64 * head) (e.bytes seq)
  let t := t.wr R.FT_LAST [] seq
  let t := (t.set F.TK_JRNL_HEAD_HEAD [] ((head + 1) % 3840)).wr R.TK_JRNL_COUNT [] (satAdd 0xFFFFFFFF seq 1)
  if head = 0 ∧ 3840 ≤ seq then t.raise F.TK_EVT_JOURNAL_WRAP [] else t

/-- Record an entry: queued on the Tree die while it is powered, with the oldest written through when 32 wait, and
written by the Tack Room itself otherwise (R547). -/
def journal (s : State) (e : JEntry) : State :=
  if s.powered then
    match s.flt.jq with
    | [] => { s with flt.jq := [e] }
    | o :: r =>
      if s.flt.jq.length < 32 then { s with flt.jq := s.flt.jq ++ [e] }
      else { s.journalWrite o with flt.jq := r ++ [e] }
  else s.journalWrite e

/-- The SEQ an entry recorded now will take: the entries ahead of it in the queue are written first. -/
def nextSeq (s : State) : Nat := s.rd R.TK_JRNL_COUNT [] + s.flt.jq.length

/-- A fault report sets out for the Tree die (R541). -/
def report (s : State) (f : FaultRep) : State := { s with flt.reports := s.flt.reports ++ [f] }

end State

end Sys2Proof.Machine
end

