-- ==== Sys2Proof/Machine/TackRoom.lean ====
section
/-! DEFINITION. What the Tack Room keeps through every reset: the retention header (R92, R121), wakes and soft start
(R69, R97), and the way into STANDBY. -/

namespace Sys2Proof.Machine

namespace State

/-! ## The retention header (R92) -/

/-- Retention bytes read as one little-endian number. -/
def retGet (s : State) (a n : Nat) : Nat := ofLe (s.retRead a n)

/-- Write `n` little-endian bytes of a number into retention memory. -/
def retPut (s : State) (a n v : Nat) : State := s.retWrite a (leBytes v n)

/-- The region of retention memory that holds offset `a`: its first offset and its end (R92). -/
def retRegion (a : Nat) : Nat × Nat := if a < 0x4000 then (a / 0x1000 * 0x1000, a / 0x1000 * 0x1000 + 0x1000) else (0x4000, 0x40000)

/-- The region of retention memory that holds offset `a` fails its CRC-32C or has a word that ECC cannot correct: it is zeroed, and
RET_VALID is cleared (R93). -/
def loseRegion (s : State) (a : Nat) : State :=
  let r := retRegion a
  { s with tack.ret := s.tack.ret.dropRange r.1 r.2 }.set F.TK_STATUS_RET_VALID [] 0

/-- Renew the header's CRC-32C over 0x000 to 0x00F. -/
def headerSeal (s : State) : State := s.retPut 0x10 4 (crc32c (s.retRead 0 16))

/-- Write the header with its signature (R93). Log 10 (DESIGN CHOICE). -/
def headerInit (s : State) : State := (s.retPut 0 4 0x5441434B).headerSeal

/-- Record a reset: its cause and the mode at the moment it takes effect, in the header and in MD_LAST_RESET (R121). -/
def noteReset (s : State) (cause mode : Nat) : State :=
  ((s.retPut 4 1 cause).retPut 5 1 mode).headerSeal.wr R.MD_LAST_RESET [] (cause + mode * 2 ^ 8)

/-- The load attempts counted on a slot (R92). -/
def attempts (s : State) (slot : Nat) : Nat := s.retGet (8 + slot) 1

/-- Set the load attempts of a slot. Log 39 (DEDUCED). -/
def setAttempts (s : State) (slot n : Nat) : State := (s.retPut (8 + slot) 1 n).headerSeal

/-- The active slot recorded in the header (R92). -/
def activeSlot (s : State) : Nat := s.retGet 10 1 % 2

/-- Record the active slot. -/
def setActiveSlot (s : State) (slot : Nat) : State := (s.retPut 10 1 slot).headerSeal

/-- The boot count adds one, modulo 2^32 (R92). -/
def countBoot (s : State) : State := (s.retPut 12 4 ((s.retGet 12 4 + 1) % 2 ^ 32)).headerSeal

/-! ## Wakes (R97) and soft start (R69) -/

/-- The power stage starts: in STANDBY with a wake pending, VIN qualified and no latch (R69). -/
def tryStart (s : State) : State :=
  if s.mode == .standby && s.tack.wake.isSome && s.isOn F.PS_STATUS_VIN_OK [] && !s.tack.switchHeld
      && s.get F.PS_STATUS_SS_STATE [] == 0 && s.tack.ssRetryAt.isNone then
    s.set F.PS_STATUS_SS_STATE [] 1
  else s

/-- A wake arrives in STANDBY: it is recorded, and stays pending until VIN qualifies (R97). Log 15 (DEDUCED), 17 (DEDUCED). -/
def wakeBy (s : State) (cause : Nat) : State :=
  if s.mode == .standby then
    ({ s with tack.wake := some cause }.set F.TK_STATUS_LAST_WAKE [] cause).tryStart
  else s

/-- The device falls to STANDBY; a NOW request written before is a wake (R97). -/
def enterStandby (s : State) : State :=
  let t := { s with mode := .standby }
  if t.isOn F.TK_WAKE_CTRL_NOW [] then t.wakeBy 2 else t

/-! ## Time as the Tack Room counts it (R83, R85, R86) -/

end State

/-- Nanoseconds in the whole range of TAI: 48 bits of seconds (R83). -/
def taiSpan : Nat := 2 ^ 48 * 1000000000

/-- Move TAI by a signed count of nanoseconds; seconds carry and wrap at 48 bits (R83, R87). -/
def Clock.shift (c : Clock) (d : Int) : Clock :=
  let t := ((Int.ofNat c.tai + d) % Int.ofNat taiSpan).toNat
  { c with sec := t / 1000000000, ns := t % 1000000000 }

/-- One device tick: TK_TICK and TAI advance together by 1 ns, which is 2^32 units of the addend. Where a TCXO period boundary
falls within it, the fraction is what lies between the tick before and the boundary, and a period of the addend then in force
begins (R83, R84). Log 25 (DEDUCED). -/
def Clock.advance (c : Clock) (addend : Nat) : Clock :=
  let t := { c.shift 1 with tick := (c.tick + 1) % 2 ^ 64 }
  if 2 ^ 32 < c.left then { t with left := c.left - 2 ^ 32 }
  else { t with frac := c.left % 2 ^ 32, left := c.left + addend - 2 ^ 32 }

/-- The 40-bit addend (R83). -/
def State.addend (s : State) : Nat := s.get F.TK_ADDEND_LO_ALL [] + s.get F.TK_ADDEND_HI_ADDEND [] * 2 ^ 32

/-- A two's-complement number of `w` bits. -/
def signed (w v : Nat) : Int := if v % 2 ^ w < 2 ^ (w - 1) then Int.ofNat (v % 2 ^ w) else Int.ofNat (v % 2 ^ w) - 2 ^ w

/-- A signed number as a two's-complement number of `w` bits. -/
def unsigned (w : Nat) (i : Int) : Nat := (i % (2 ^ w : Int)).toNat

/-- The magnitude of a signed number. -/
def absInt (i : Int) : Nat := i.natAbs

end Sys2Proof.Machine
end

