-- ==== Sys2Proof/Machine/Pace.lean ====
section
/-! DEFINITION. Pace monitors, the adaptive voltage loop, Patina and slack claims (R36 to R65). -/

namespace Sys2Proof.Machine

/-! ## Monitors (R39) -/

/-- The monitors of die `x`. -/
def monitorsOf (x : Nat) : List Nat :=
  if x < 8 then (List.range 8).map (8 * x + ·) else if x < 12 then [64 + 2 * (x - 8), 65 + 2 * (x - 8)] else [72, 73]

/-- The die of monitor `m`. -/
def monitorDie (m : Nat) : Nat := if m < 64 then m / 8 else if m < 72 then 8 + (m - 64) / 2 else 12

/-- The guarantee G of the monitors of die `x`, in tokens/µs (R39). -/
def guarantee (x : Nat) : Nat := if x < 8 then 3000 else if x < 12 then 16000 else 1200

/-- The floor register of die `x` (R65). -/
def floorReg (x : Nat) : Fld :=
  if x < 8 then F.PT_FLOOR_SKIRT_FLOOR else if x < 12 then F.PT_FLOOR_GIRTH_FLOOR else F.PT_FLOOR_TREE_FLOOR

/-- The sensors of die `x` (R48). -/
def sensorsOf (x : Nat) : Nat := if x < 8 then 48 else if x < 12 then 24 else 32

/-- 2^(r/10) in units of 10^-9, for r = 0 to 9 (R50). Log 41 (DEDUCED). -/
def twoToTenths (r : Nat) : Nat :=
  ([1000000000, 1071773463, 1148698355, 1231144413, 1319507911, 1414213562, 1515716567, 1624504793, 1741101127,
    1866065983] : List Nat).getD r 0

/-- Equivalent seconds at 95 °C of one second at `t` °C, in units of 10^-9: 2^((T − 95) / 10) (R50). -/
def wearOf (t : Int) : Nat :=
  let q := (t - 95).fdiv 10
  let m := twoToTenths ((t - 95).fmod 10).toNat
  match q with
  | .ofNat k => m * 2 ^ k
  | .negSucc k => m / 2 ^ (k + 1)

/-- Trim groups of a die: a plan record has a byte for each (R56). Log 199 (DESIGN CHOICE). -/
def trimGroups : Nat := 28

namespace State

/-- The floor F of die `x`. -/
def floorOf (s : State) (x : Nat) : Nat := s.get (floorReg x) []

/-- The lowest 16 µs pace of die `x`. -/
def lowestPace (s : State) (x : Nat) : Nat :=
  (monitorsOf x).foldl (fun a m => min a (s.pace.pace16.at 0 m)) 65535

/-- The budget of activity `a` on die `x`, in tokens/µs times 1,000 (R59). -/
def budgetMilli (s : State) (a x : Nat) : Nat := guarantee x * s.get F.PT_ACT_BUDGET [a]

/-- Every monitor of die `x` shows pace − B ≥ G (R60, R61). -/
def claimRoom (s : State) (a x : Nat) : Bool :=
  (monitorsOf x).all fun m => decide (guarantee x * 1000 + s.budgetMilli a x ≤ s.pace.pace16.at 0 m * 1000)

/-! ## Near misses (R47) -/

/-- The near misses of die `x` over the last millisecond. -/
def nmLast (s : State) (x : Nat) : List (Nat × Nat) := (s.pace.nm.at [] x).filter fun e => decide (s.since e.1 < 1000000)

/-- A near miss on die `x`, at a latch of trim group `group`. -/
def nearMiss (s : State) (x group : Nat) : State :=
  { s.addSat F.PT_LOOP_NEARMISS [x] 1 with pace.nm := s.pace.nm.put [] x ((s.clock.tick, group) :: s.nmLast x) }

/-- What the check latches of die `x` report with an operation: 0 for no near miss, or one more than the trim group of the
latch that saw one. -/
def checkLatches (s : State) (x nm : Nat) : State := if nm = 0 then s else s.nearMiss x (nm - 1)

/-- The number of near misses of die `x` over the last millisecond. -/
def nmRecent (s : State) (x : Nat) : Nat := (s.nmLast x).length

/-! ## Slack claims (R59 to R64) -/

/-- The activity that holds a claim on die `x`; 0 for none. -/
def holder (s : State) (x : Nat) : Nat := s.get F.PT_CLAIM_HOLDER [x]

/-- Replace the queue of die `x` and show its length. -/
def setQueue (s : State) (x : Nat) (q : List ClaimReq) : State :=
  { s with pace.queue := s.pace.queue.put [] x q }.set F.PT_CLAIM_WAITING [x] (min 255 q.length)

/-- Insert a request behind earlier ones; requests of one arbitration step stand in order of activity code (R60).
Log 44 (DEDUCED). -/
def insertReq (r : ClaimReq) : List ClaimReq → List ClaimReq
  | [] => [r]
  | h :: t => if r.at_ = h.at_ ∧ r.act < h.act then r :: h :: t else h :: insertReq r t

/-- Activity `a` may name die `x` (R59). -/
def claimDie (a x : Nat) : Bool :=
  if a = 1 then true else if a = 2 then decide (x < 8) || x == 12 else if a = 3 then x == 12
  else if a = 4 then decide (x < 8) else false

/-- A request for a claim of activity `a` on die `x` (R60, R64); while CLAIMS_EN is 0 it waits like any other, and only the
grant is withheld; outside RUN nothing is requested. Log 44 (DEDUCED), 192 (DESIGN CHOICE). -/
def requestClaim (s : State) (a x : Nat) : State :=
  let q := s.pace.queue.at [] x
  if s.running && s.live x && claimDie a x && s.holder x != a
      && s.get F.PT_CLAIM_PARKED [x] != a && !q.any (·.act == a) && !(a == 3 && s.variant == .e) then
    let t := s.setQueue x (insertReq { at_ := s.clock.tick, act := a } q)
    if s.holder x ≠ 0 then t.addSat F.PT_CLAIMCNT_WAITS [x] 1 else t
  else s

/-- Give the claim on die `x` to activity `a`: a pause stays, so an activity that was parked while it was paused goes on
only when its room is back (R61, R63). -/
def hold (s : State) (a x : Nat) : State :=
  { s.set F.PT_CLAIM_HOLDER [x] a with pace.grantAt := s.pace.grantAt.put 0 x s.clock.tick }

/-- The claim on die `x` ends. -/
def unhold (s : State) (x : Nat) : State :=
  { s.set F.PT_CLAIM_HOLDER [x] 0 with pace.paused := setBit s.pace.paused x false, pace.slots := s.pace.slots.erase x }

/-- The held claim of activity `a` on die `x`, if it holds one, is released, a parked one is given up, and a waiting request is
withdrawn. -/
def releaseClaim (s : State) (a x : Nat) : State :=
  let t := if s.holder x = a then s.unhold x else s
  let t := if t.get F.PT_CLAIM_PARKED [x] = a then t.set F.PT_CLAIM_PARKED [x] 0 else t
  t.setQueue x ((t.pace.queue.at [] x).filter fun r => r.act != a)

/-- The claims of one die are dropped, held and queued (R64). -/
def dropClaimsOf (x : Nat) (s : State) : State := ((s.unhold x).set F.PT_CLAIM_PARKED [x] 0).setQueue x []

/-- Every claim is dropped (R64, R78, R103). -/
def dropClaims (s : State) : State := forEach (List.range 13) dropClaimsOf s

/-- Activity `a` holds die `x` and is not paused: it may go on with its work (R61). Log 46 (DEDUCED). -/
def mayWork (s : State) (a x : Nat) : Bool := s.holder x == a && (a == 5 || !bit s.pace.paused x)

/-- Activity `a` may take borrow slots of die `x`: it may work, and every monitor shows pace − B ≥ G, which a re-pattern
does not need (R61, R63). Log 46 (DEDUCED). -/
def mayBorrow (s : State) (a x : Nat) : Bool := s.mayWork a x && (a == 5 || s.claimRoom a x)

/-- The credit that the borrow slots of monitor `m` have spent by now: it comes back at B tokens/µs (R43, R59).
Log 193 (DESIGN CHOICE). -/
def spentNow (s : State) (a x m : Nat) : Nat :=
  s.pace.spent.at 0 m - s.since (s.pace.spentAt.at 0 m) * s.budgetMilli a x

/-- The claim's budget has credit for one borrow slot at monitor `m`: what a microsecond brings may be spent ahead, and
at least one slot. Log 193 (DESIGN CHOICE). -/
def borrowCredit (s : State) (a x m : Nat) : Bool :=
  s.budgetMilli a x != 0 && decide (s.spentNow a x m + 1000000 ≤ max 1000000 (1000 * s.budgetMilli a x))

/-- Activity `a` may take a borrow slot at monitor `m` of die `x` (R43). Log 46 (DEDUCED). -/
def mayTakeSlot (s : State) (a x m : Nat) : Bool := s.mayBorrow a x && s.borrowCredit a x m

/-- Activity `a` takes a borrow slot at monitor `m` of die `x` (R43). Log 193 (DESIGN CHOICE). -/
def takeSlot (s : State) (a x m : Nat) : State :=
  { s with pace.borrowAt := s.pace.borrowAt.put 0 x s.clock.tick, pace.spent := s.pace.spent.put 0 m (s.spentNow a x m + 1000000)
           pace.spentAt := s.pace.spentAt.put 0 m s.clock.tick }

/-- A slot that activity `a` has taken at an ingress slice of die `x`: a compaction spends them on its moves (R323).
Log 46 (DEDUCED). -/
def keepSlot (s : State) (a x : Nat) : State :=
  if a = 4 then { s with pace.slots := s.pace.slots.put 0 x (s.pace.slots.at 0 x + 1) } else s

/-- The re-pattern takes die `x`, parking what it holds (R63). -/
def holdRepattern (x : Nat) (s : State) : State :=
  let h := s.holder x
  (if h ≠ 0 ∧ h ≠ 5 then s.set F.PT_CLAIM_PARKED [x] h else s).hold 5 x

/-- In RUN a re-pattern claims every live die but the Tree die at once, parking what they held (R63, R64). -/
def claimRepattern (s : State) : State :=
  if s.running then
    forEach (s.liveDies.filter (· != 12)) holdRepattern s
  else s

/-- The re-pattern releases die `x`; a parked activity resumes with its claim (R63). Its hold limit starts anew. Log 194 (DESIGN CHOICE). -/
def releaseRepatternOf (x : Nat) (s : State) : State :=
  if s.holder x = 5 then
    let p := s.get F.PT_CLAIM_PARKED [x]
    if p ≠ 0 then (s.set F.PT_CLAIM_PARKED [x] 0).hold p x else s.unhold x
  else s

/-- The re-pattern releases every die (R63). Log 194 (DESIGN CHOICE). -/
def releaseRepattern (s : State) : State := forEach (List.range 13) releaseRepatternOf s

/-! ## The voltage loop (R44 to R46, R57, R58) -/

/-- The rail of die `x`: never below 620 mV (R46). -/
def rail (s : State) (x : Nat) : Nat := max 620 (s.get F.PT_VCORE_VNOW [x])

/-- The target below which the loop does not lower the rail (R45). -/
def railTarget (s : State) (x : Nat) : Nat :=
  let vf := max 620 (s.get F.PT_VCORE_VFLOOR [x])
  match s.get F.PT_CTRL_LOOP_MODE [] with
  | 1 => max 750 vf
  | 2 => max (s.get F.PT_VFIX_VFIX []) vf
  | _ => vf

/-- The 16 µs pace of one monitor is recorded (R58, R65). -/
def notePace (x m p : Nat) (s : State) : State :=
  let t := { s with pace.pace16 := s.pace.pace16.put 0 m p }
  let t := if p < t.get F.PT_PACE_MIN_MIN [m] then t.set F.PT_PACE_MIN_MIN [m] p else t
  let t := if p < guarantee x then t.set F.PT_PACE_BELOW_GUAR [m] 1 else t
  if p < t.floorOf x then t.set F.PT_PACE_BELOW_FLOOR [m] 1 else t

/-- The trims of die `x` for the groups that near misses of the last millisecond affected lengthen by one step (R57). -/
def lengthenTrims (s : State) (x : Nat) : State :=
  forEach ((s.nmLast x).map (·.2)).eraseDups
    (fun g t => { t with pace.trim := t.pace.trim.put 65536 (key2 x g) (t.pace.trim.at 65536 (key2 x g) + 1) }) s

/-- Shortened trims of die `x` come into force once the rail is at or above the voltage floor (R52 step 7). -/
def settleTrims (s : State) (x : Nat) : State :=
  if s.get F.PT_VCORE_VFLOOR [x] ≤ s.rail x then
    let mine := s.pace.trimWait.filter fun e => e.1 / 2 ^ 40 == x
    { s with pace.trim := mine.foldl (fun (m : Map Nat) e => m.put 65536 e.1 e.2) s.pace.trim
             pace.trimWait := s.pace.trimWait.filter fun e => e.1 / 2 ^ 40 != x }
  else s

/-- One evaluation of the loop of die `x` (R44 to R46, R57). In EXHAUSTED and in GUARANTEE LOST the rail stands at the
ceiling from the next evaluation; there the affected trims lengthen by a step at each evaluation with too many near misses. Log 195 (DESIGN CHOICE). -/
def loopStep (s : State) (x : Nat) : State :=
  let low := s.lowestPace x
  let f := s.floorOf x
  let v := s.rail x
  let nm := s.nmRecent x
  let tooMany := decide (s.get F.PT_NM_LIMIT_LIMIT [] < nm)
  let exhausted := decide (2 ≤ s.get F.PT_RESERVE_STATE [x])
  let v' :=
    if exhausted then 800
    else if low < f ∨ tooMany then min 800 (v + 5)
    else if 65 * f ≤ 64 * low ∧ nm = 0 ∧ s.railTarget x < v ∧ 1000000 ≤ s.since (s.pace.lowAt.at 0 x) then v - 1
    else v
  let t := if v' < v then { s with pace.lowAt := s.pace.lowAt.put 0 x s.clock.tick } else s
  let t := if exhausted && tooMany && decide (v = 800) then t.lengthenTrims x else t
  let ceiling := decide (v' = 800) && decide (low < f)
  let t := if ceiling && !t.isOn F.PT_LOOP_AT_CEILING [x] then t.raise F.PT_EVT_CEILING [] else t
  let t := (t.set F.PT_VCORE_VNOW [x] v').set F.PT_LOOP_AT_CEILING [x] (b2n ceiling)
  ((t.set F.PT_LOOP_AT_TARGET [x] (b2n (v' == t.railTarget x))).set F.PT_LOOP_HOLDING [x] (b2n (decide (f ≤ low)))).settleTrims x

/-! ## Wear and re-planning (R49 to R56) -/

/-- One sensor's new reading, in µV: outside 0 to 255 mV, or down by more than 3 mV, it is excluded (R49). -/
def readSensor (x : Nat) (e : Nat × Int) (s : State) : State :=
  let k := key2 x e.1
  let prev := s.pace.sensor.at 0 k
  if s.pace.excluded.at 0 k = 1 ∨ sensorsOf x ≤ e.1 then s
  else if e.2 < 0 ∨ 255000 < e.2 ∨ (prev ≠ 0 ∧ e.2 + 3000 < Int.ofNat (prev - 1)) then
    (({ s with pace.excluded := s.pace.excluded.put 0 k 1 }).addSat F.PT_WEAR_SENS_EXCL [x] 1).raise F.PT_EVT_SENSOR_FAULT []
  else { s with pace.sensor := s.pace.sensor.put 0 k (e.2.toNat + 1) }

/-- The equivalent time of die `x` in hundredths of an hour (R50, R65). -/
def eqHundredths (s : State) (x : Nat) : Nat := s.pace.eq.at 0 x / (36 * 1000000000)

/-- The factory wear model: the largest whole number of mV not above 2.3 × H^(1/4), for `eq` 10^-9 equivalent seconds (R56). -/
def factoryWear (eq : Nat) : Nat :=
  ((List.range 256).filter fun w => decide (w ^ 4 * 10 ^ 4 * 3600000000000 ≤ 23 ^ 4 * eq)).length - 1

/-- The wear W of die `x`: the highest sensor, or the factory model when over a quarter are excluded (R49, R56). -/
def setWear (s : State) (x : Nat) : State :=
  let live := (List.range (sensorsOf x)).filter fun i => s.pace.excluded.at 0 (key2 x i) = 0
  let top := live.foldl (fun a i => max a (s.pace.sensor.at 0 (key2 x i) - 1)) 0
  let w := if sensorsOf x < 4 * s.get F.PT_WEAR_SENS_EXCL [x] then factoryWear (s.pace.eq.at 0 x) else top / 1000
  s.set F.PT_WEAR_WEAR_MV [x] (min 255 w)

/-- A re-plan of die `x` is due (R51, R56). -/
def replanDue (s : State) (x : Nat) : Bool :=
  let h := s.get F.PT_PLAN_CFG_INTERVAL_H []
  let d := s.get F.PT_PLAN_CFG_DRIFT_MV []
  bit (s.get F.PT_REPLAN_DIE_MASK []) x || bit s.pace.mustPlan x
    || (s.isOn F.PT_CTRL_PATINA_EN []
        && ((h != 0 && decide (h * 3600 ≤ s.pace.planSec.at 0 x))
          || (d != 0 && decide (s.pace.planWear.at 0 x + d ≤ s.get F.PT_WEAR_WEAR_MV [x]))))
    || decide (64 * s.get F.PT_NM_LIMIT_LIMIT [] < s.pace.nmPlan.at 0 x + s.get F.PT_LOOP_NEARMISS [x])

/-- Patina starts the re-plan of the lowest die that is due, one die at a time, in RUN (R51, R52). -/
def startReplan (s : State) : State :=
  if s.pace.replan.isSome || !s.running then s
  else match s.liveDies.find? (s.replanDue ·) with
    | none => s
    | some x =>
      let r : Replan := { die := x, askedAt := s.clock.tick }
      let t := { s with pace.trimSteps := [] }
      if s.isOn F.PT_CTRL_CLAIMS_EN [] then { t with pace.replan := some r }.requestClaim 1 x
      else { t with pace.replan := some { r with sensorOnly := true } }

/-- The re-plan is abandoned: the rail returns and the claim is released (R123). Log 45 (DEDUCED). -/
def abandonReplan (s : State) : State :=
  match s.pace.replan with
  | none => s
  | some r =>
    ({ s with pace.replan := none, pace.trimSteps := [] }.set F.PT_VCORE_VNOW [r.die] (max r.v0 (s.get F.PT_VCORE_VNOW [r.die]))).releaseClaim 1 r.die

/-- The sensitivity S of die `x` as a fraction: of its last probe, or the fused factory value (R52). Log 42 (DESIGN CHOICE). -/
def sensitivity (s : State) (x : Nat) : Nat × Nat :=
  if s.pace.sDen.at 0 x = 0 then (Config.factoryS x, 1) else (s.pace.sNum.at 0 x, s.pace.sDen.at 0 x)

/-- 790 mV less v_worst, times 1,000 × the numerator of S (R53). -/
def roomScaled (s : State) (x : Nat) (tj : Int) (v p : Nat) : Int :=
  let S := s.sensitivity x
  let f := s.floorOf x
  let n : Int := Int.ofNat S.1
  790 * 1000 * n - (1000 * n * Int.ofNat v - 1000 * (Int.ofNat p - Int.ofNat f) * Int.ofNat S.2
    + n * Int.ofNat (Config.tempCoeff x) * max 0 (105 - tj))

/-- The newest `n` seconds of a record of growth (R54). -/
def newest : Nat → List (Nat × Nat) → List (Nat × Nat)
  | _, [] => []
  | n, (e, k) :: r => if n = 0 then [] else (e, min k n) :: newest (n - k) r

/-- One more second, which added `e`, of the 1,000 RUN hours that the rate looks back over (R54). -/
def grow (e : Nat) (l : List (Nat × Nat)) : List (Nat × Nat) :=
  newest 3600000 (match l with
    | (e', k) :: r => if e' = e then (e, k + 1) :: r else (e, 1) :: l
    | [] => [(e, 1)])

/-- Years in tenths until `reserve` mV of wear are used, 0xFFFF beyond the field or at a rate of zero (R54). -/
def yearsLeft (s : State) (x reserve : Nat) : Nat :=
  let w := max 1 (s.get F.PT_WEAR_WEAR_MV [x])
  let now := s.pace.eq.at 0 x
  let l := s.pace.growth.at [] x
  let sec := (l.map (·.2)).sum
  let added := (l.map fun e => e.1 * e.2).sum
  let y := 10 * now * ((w + reserve) ^ 4 - w ^ 4) * sec / (w ^ 4 * added * 3600 * 8766)
  if added = 0 ∨ 65535 ≤ y then 65535 else y

/-- The margin state of die `x` moves at a re-plan; events on entry, MARGIN_EXHAUSTED with the projected date of guarantee
loss, a tenth of a year being 876.6 hours (R54, R55). Log 42 (DESIGN CHOICE), 196 (DESIGN CHOICE). -/
def setMargin (s : State) (x : Nat) (tj : Int) : State :=
  let S := s.sensitivity x
  let f := s.floorOf x
  let room := s.roomScaled x tj (s.rail x) (s.lowestPace x)
  let n : Int := 1000 * Int.ofNat S.1
  let fr := s.takeFree
  let s1 := if S.1 = 0 then fr.2 else s
  let reserve := if S.1 = 0 then Config.freeReserve fr.1 else (max 0 (room.fdiv n)).toNat
  let gres := if S.1 = 0 then Config.freeReserve (fr.1 + 2 ^ 64)
    else (max 0 ((room + 1000 * (Int.ofNat f - Int.ofNat (guarantee x)) * Int.ofNat S.2).fdiv n)).toNat
  let st := if s.get F.PT_PLAN_CFG_WARN_MV [] < reserve then 0 else if 0 < reserve then 1 else if 0 < gres then 2 else 3
  let old := s.get F.PT_RESERVE_STATE [x]
  let st := if s.pace.planF.at 0 x = f then max old st else st
  let shown := if st = 3 then 0 else if st = 2 then gres else reserve
  let t := (s1.set F.PT_RESERVE_STATE [x] st).set F.PT_RESERVE_RESERVE_MV [x] (min 1023 shown)
  let years := if st = 3 then 0 else s.yearsLeft x shown
  let t := t.set F.PT_RESERVE_YEARS [x] years
  let t := { t with pace.planF := t.pace.planF.put 0 x f }
  if st = old then t
  else if st = 1 then t.raise F.PT_EVT_MARGIN_LOW []
  else if st = 2 then
    { t with pace.lossDate := t.pace.lossDate.put 0 x (t.clock.sec + years * 3155760) }.raise F.PT_EVT_MARGIN_EXHAUSTED []
  else if st = 3 then t.raise F.PT_EVT_GUARANTEE_LOST [] else t

end State

/-! ## The commands -/

/-- PACE_WINDOW: a reporting window of monitor `m` ends with `tokens` completed (R38, R40, R42). -/
def execPaceWindow (m tokens : Nat) (s : State) : Out :=
  done (fun s =>
    let len := 2 ^ s.get F.PT_WINDOW_WIN_LOG []
    let x := monitorDie m
    onlyIf (decide (m < 74) && s.powered && s.mode != .halt && s.live x && decide (len * 1000 ≤ s.since (s.pace.winAt.at 0 m))) (fun s =>
      let p := min 65535 (tokens / len)
      let t := { s with pace.winAt := s.pace.winAt.put 0 m s.clock.tick }
      let t := ((t.set F.PT_PACE_PACE [m] p).set F.PT_PACE_VALID [m] 1).set F.PT_PACE_MIN_SLACK [m] (p - guarantee x)
      if tokens = 0 then t.report { die := x, unit := 16, cause := 5, dieWide := true, d0 := m } else t) s) s

/-- LOOP_EVAL: 16 µs of device time end on die `x`, with the pace of each of its monitors (R44). -/
def execLoopEval (x : Nat) (paces : List Nat) (s : State) : Out :=
  done (fun s =>
    onlyIf (s.powered && s.mode != .halt && s.live x && paces.length == (monitorsOf x).length
        && decide (16000 ≤ s.since (s.pace.evalAt.at 0 x))) (fun s =>
      let t := { s with pace.evalAt := s.pace.evalAt.put 0 x s.clock.tick }
      let t := forEach ((monitorsOf x).zip paces) (fun e u => State.notePace x e.1 (min 65535 e.2) u) t
      t.loopStep x) s) s

/-- The rail at which a probe holds its present step, never below 620 mV (R46, R52 step 3). -/
def Replan.rail (r : Replan) : Nat := max 620 (r.v0 - (r.steps + 1))

/-- Step 2 of the re-plan under way is the next to take on die `x`. -/
def State.senseDue (s : State) (x : Nat) : Bool :=
  s.pace.replan.any fun r => r.die == x && !r.sensed && (r.sensorOnly || (r.granted && s.mayWork 1 x))

/-- Step 2 of a re-plan is done. With a claim the probe begins: the rail goes 1 mV lower, where it may (R46, R52). -/
def State.startProbe (s : State) (x : Nat) : State :=
  match s.pace.replan with
  | some r =>
    if r.die ≠ x ∨ r.sensed then s
    else if r.sensorOnly then { s with pace.replan := some { r with sensed := true } }
    else
      let v := s.rail x
      let p := s.lowestPace x
      let r' := { r with sensed := true, v0 := v, p0 := p, pLast := p, vClean := v, probing := decide (620 < v), stepAt := s.clock.tick }
      let t := { s with pace.replan := some r' }.set F.PT_VCORE_VNOW [x] r'.rail
      if 620 < v then t else { t with pace.sNum := t.pace.sNum.put 0 x 0, pace.sDen := t.pace.sDen.put 0 x 0 }
  | none => s

/-- SENSOR_READ: Patina reads the sensors of die `x`, each as its number and value in µV, every 10 s and in step 2 of a
re-plan (R49, R52). -/
def execSensorRead (x : Nat) (values : List (Nat × Int)) (s : State) : Out :=
  done (fun s =>
    let due := s.senseDue x
    onlyIf (s.powered && s.live x && (due || decide (10000000000 ≤ s.since (s.pace.sensedAt.at 0 x)))) (fun s =>
      let t := { s with pace.sensedAt := s.pace.sensedAt.put 0 x s.clock.tick }
      let t := (forEach values (State.readSensor x) t).setWear x
      let t := if due then t.startProbe x else t
      if bit t.pace.rebuild x then
        let eq := 10 ^ 4 * t.get F.PT_WEAR_WEAR_MV [x] ^ 4 * 3600000000000 / 23 ^ 4
        { t with pace.eq := t.pace.eq.put 0 x eq, pace.rebuild := setBit t.pace.rebuild x false }.wr R.PT_EQH [x]
          (min (2 ^ 32 - 1) (eq / (36 * 1000000000)))
      else t) s) s

/-- WEAR_TIME_ADD: a second of RUN with die `x` at `temp` °C adds its equivalent time (R50). Log 41 (DEDUCED). -/
def execWearTimeAdd (x : Nat) (temp : Int) (s : State) : Out :=
  done (fun s =>
    onlyIf (s.running && s.live x) (fun s =>
      let e := s.pace.eq.at 0 x
      let r := s.pace.runSec.at 0 x
      let t := { s with pace.eq := s.pace.eq.put 0 x (e + wearOf temp), pace.runSec := s.pace.runSec.put 0 x (r + 1),
                        pace.planSec := s.pace.planSec.put 0 x (s.pace.planSec.at 0 x + 1),
                        pace.saveSec := s.pace.saveSec.put 0 x (s.pace.saveSec.at 0 x + 1),
                        pace.growth := s.pace.growth.put [] x (State.grow (wearOf temp) (s.pace.growth.at [] x)) }
      let t := t.wr R.PT_EQH [x] (min (2 ^ 32 - 1) (t.eqHundredths x))
      if t.pace.saveSec.at 0 x = 86400 then { t with pace.saveDue := setBit t.pace.saveDue x true } else t) s) s

/-- REPLAN_DUE: Patina takes up the next re-plan that is due (R51). -/
def execReplanDue (s : State) : Out := done (fun s => s.startReplan) s

/-- PT_REPLAN_WRITE: software requests re-plans (R51, R65). -/
def execPtReplanWrite (mask : Nat) (s : State) : Out :=
  done (fun s =>
    onlyIf s.powered (fun s =>
      (s.set F.PT_REPLAN_DIE_MASK [] (s.get F.PT_REPLAN_DIE_MASK [] ||| (mask % 8192 &&& s.liveMask))).startReplan) s) s

/-- REPLAN_CLAIM_TIMEOUT: the probe claim has not been granted within 10 s, or claims are off: the re-plan goes on from
its sensors only (R52). -/
def execReplanClaimTimeout (s : State) : Out :=
  done (fun s =>
    match s.pace.replan with
    | some r =>
      onlyIf (!r.granted && !r.sensorOnly && (decide (10000000000 ≤ s.since r.askedAt) || !s.isOn F.PT_CTRL_CLAIMS_EN [])) (fun s =>
        { s with pace.replan := some { r with sensorOnly := true } }.releaseClaim 1 r.die) s
    | none => s) s

/-- PROBE_STEP: the rail of the die being re-planned has been held 1 mV lower for 64 µs, with its lowest pace `p`; `nm` is
what its check latches saw. The probe stops at 10 steps, below max(G, F − B), or where the next step would pass 620 mV, and
restores the rail (R46, R52 step 3). A rail that the loop raised meanwhile goes where the step puts it; while the probe is
paused or parked the rail stays where its step put it. Log 197 (DESIGN CHOICE). -/
def execProbeStep (p nm : Nat) (s : State) : Out :=
  done (fun s =>
    match s.pace.replan with
    | some r =>
      onlyIf (r.granted && r.sensed && r.probing && !r.sensorOnly && s.mayWork 1 r.die && decide (64000 ≤ s.since r.stepAt)) (fun s =>
        let x := r.die
        let n := r.steps + 1
        let low := max (guarantee x * 1000) (s.floorOf x * 1000 - s.budgetMilli 1 x)
        let stop := decide (10 ≤ n) || decide (p * 1000 < low) || decide (r.v0 ≤ 620 + n)
        let r := { r with steps := n, pLast := p, probing := !stop, vClean := if nm = 0 then r.v0 - n else r.vClean
                          stepAt := s.clock.tick }
        let t := s.checkLatches x nm
        let t := { t with pace.replan := some r }
        let t := t.set F.PT_VCORE_VNOW [x] (if stop then r.v0 else r.rail)
        if stop && decide (2 ≤ n) then
          { t with pace.sNum := t.pace.sNum.put 0 x (r.p0 - p), pace.sDen := t.pace.sDen.put 0 x n }
        else if stop then { t with pace.sNum := t.pace.sNum.put 0 x 0, pace.sDen := t.pace.sDen.put 0 x 0 } else t) s
    | none => s) s

/-- TRIM_STEP: the matched delay of a trim group has been one step shorter for 100 µs, or until a near miss. The new trim is 2
steps longer than the shortest clean setting, and waits for step 7; at most 4 steps are tried (R52 step 4). -/
def execTrimStep (group : Nat) (clean : Bool) (s : State) : Out :=
  done (fun s =>
    match s.pace.replan with
    | some r =>
      let k := key2 r.die group
      let n := s.pace.trimSteps.at 0 k
      onlyIf (r.granted && r.sensed && !r.probing && !r.sensorOnly && s.mayWork 1 r.die && decide (n < 4) && decide (group < trimGroups)
          && (!clean || decide (100000 ≤ s.since r.stepAt))) (fun s =>
        let cur := s.pace.trim.at 65536 k
        let t := if clean then s else s.nearMiss r.die group
        let r := { r with stepAt := s.clock.tick }
        if clean && decide (n < 3) then { t with pace.trimSteps := t.pace.trimSteps.put 0 k (n + 1), pace.replan := some r }
        else
          let short := if clean then n + 1 else n
          { t with pace.trimSteps := t.pace.trimSteps.put 0 k 4
                   pace.replan := some { r with trims := (group, cur - short + 2) :: r.trims } }) s
    | none => s) s

/-- Step 7 of R52 on die `x`: lengthened trims, then the new voltage floor, then shortened trims once the rail is at or
above it. The rail goes up to a higher floor at once. Log 198 (DESIGN CHOICE). -/
def State.applyPlan (x vf : Nat) (trims : List (Nat × Nat)) (s : State) : State :=
  let longer := fun (e : Nat × Nat) => decide (s.pace.trim.at 65536 (key2 x e.1) ≤ e.2)
  let put := fun (l : List (Nat × Nat)) (m : Map Nat) => l.foldl (fun (m : Map Nat) e => m.put 65536 (key2 x e.1) e.2) m
  let wait := fun (m : Map Nat) => (trims.filter fun e => !longer e).foldl (fun (m : Map Nat) e => m.insert (key2 x e.1) e.2) m
  let t := { s with pace.trim := put (trims.filter longer) s.pace.trim }
  let t := t.set F.PT_VCORE_VFLOOR [x] vf
  let t := t.set F.PT_VCORE_VNOW [x] (min 800 (max (t.rail x) vf))
  { t with pace.trimWait := wait (t.pace.trimWait.filter fun e => e.1 / 2 ^ 40 != x) }.settleTrims x

/-- Step 4 of the re-plan of die `x` is done: every trim group has its new trim (R52). -/
def State.trimsDone (s : State) (x : Nat) : Bool := (List.range trimGroups).all fun g => s.pace.trimSteps.at 0 (key2 x g) == 4

/-- PLAN_APPLY: the plan of the die is computed from its present wear, rail and pace at junction temperature `tj`, and
applied; the claim is released and the record waits to be saved (R52 to R55). Log 198 (DESIGN CHOICE). -/
def execPlanApply (tj : Int) (s : State) : Out :=
  done (fun s =>
    match s.pace.replan with
    | some r =>
      onlyIf (r.sensed && (r.sensorOnly || (r.granted && !r.probing && s.trimsDone r.die && s.mayWork 1 r.die))) (fun s =>
        let x := r.die
        let vf := if r.sensorOnly then s.get F.PT_VCORE_VFLOOR [x] else max 620 (r.vClean + 10)
        let t := (s.setMargin x tj).applyPlan x vf r.trims
        let t := (t.set F.PT_LOOP_NEARMISS [x] 0).wr R.PT_PLANTIME [x] (t.clock.sec % 2 ^ 32)
        let t := t.set F.PT_REPLAN_DIE_MASK [] (setBit (t.get F.PT_REPLAN_DIE_MASK []) x false)
        let t := { t with pace.replan := none, pace.trimSteps := [], pace.nmPlan := t.pace.nmPlan.erase x, pace.planSec := t.pace.planSec.put 0 x 0,
                          pace.planWear := t.pace.planWear.put 0 x (t.get F.PT_WEAR_WEAR_MV [x]),
                          pace.mustPlan := setBit t.pace.mustPlan x false, pace.saveDue := setBit t.pace.saveDue x true }
        (t.releaseClaim 1 x).startReplan) s
    | none => s) s

/-- CLAIM_REQUEST: activity `a` asks for a slack claim on die `x` (R59, R60, R64). -/
def execClaimRequest (a x : Nat) (s : State) : Out := done (fun s => s.requestClaim a x) s

/-- The re-plan of die `x` has its claim: a probe that had yielded goes on where it stopped (R52, R62).
Log 197 (DESIGN CHOICE). -/
def State.replanGranted (s : State) (x : Nat) : State :=
  match s.pace.replan with
  | some p =>
    if p.die = x ∧ !p.granted then
      let t := { s with pace.replan := some { p with granted := true, stepAt := s.clock.tick } }
      if p.sensed && p.probing then t.set F.PT_VCORE_VNOW [x] p.rail else t
    else s
  | none => s

/-- The re-plan of die `x` yields its claim: it restores the rail and waits again for the claim, for at most 10 s more
(R52, R62). Log 197 (DESIGN CHOICE). -/
def State.replanYields (s : State) (x : Nat) : State :=
  match s.pace.replan with
  | some p =>
    if p.die = x ∧ p.granted then
      let t := { s with pace.replan := some { p with granted := false, askedAt := s.clock.tick } }
      if p.sensed && p.probing then t.set F.PT_VCORE_VNOW [x] p.v0 else t
    else s
  | none => s

/-- CLAIM_GRANT: the first request of die `x` is granted when no claim is held and every monitor has room (R60). -/
def execClaimGrant (x : Nat) (s : State) : Out :=
  done (fun s =>
    match s.pace.queue.at [] x with
    | [] => s
    | q :: r =>
      onlyIf (s.running && s.live x && s.holder x == 0 && s.isOn F.PT_CTRL_CLAIMS_EN [] && s.claimRoom q.act x) (fun s =>
        let t := (s.setQueue x r).hold q.act x
        if q.act = 1 then t.replanGranted x else t) s) s

/-- CLAIM_STALL: the room of the held claim on die `x` is gone: the activity pauses and keeps its claim (R61). -/
def execClaimStall (x : Nat) (s : State) : Out :=
  done (fun s =>
    onlyIf (s.holder x != 0 && s.holder x != 5 && !bit s.pace.paused x && !s.claimRoom (s.holder x) x) (fun s =>
      ({ s with pace.paused := setBit s.pace.paused x true }.addSat F.PT_CLAIMCNT_STALLS [x] 1).raise F.PT_EVT_CLAIM_STALL []) s) s

/-- CLAIM_RESUME: the room is there again (R61). -/
def execClaimResume (x : Nat) (s : State) : Out :=
  done (fun s =>
    onlyIf (bit s.pace.paused x && s.holder x != 5 && s.claimRoom (s.holder x) x) (fun s => { s with pace.paused := setBit s.pace.paused x false }) s) s

/-- CLAIM_HOLD_LIMIT: the activity has held die `x` for its limit: it yields, releases its claim and requests again at
the back of the queue (R62). A re-pattern's request waits for no one: while it lasts it takes the die again (R63).
Log 194 (DESIGN CHOICE). -/
def execClaimHoldLimit (x : Nat) (s : State) : Out :=
  done (fun s =>
    let a := s.holder x
    let lim := s.get F.PT_ACT_HOLD_US [a]
    onlyIf (a != 0 && lim != 0 && decide (lim * 1000 ≤ s.since (s.pace.grantAt.at 0 x))) (fun s =>
      if a = 5 then
        let t := State.releaseRepatternOf x s
        if t.fab.repatAt.isSome then State.holdRepattern x t else t
      else
        let t := (s.unhold x).setQueue x ((s.pace.queue.at [] x) ++ [{ at_ := s.clock.tick, act := a }])
        if a = 1 then t.replanYields x else t) s) s

/-- CLAIM_RELEASE: the activity holding die `x` has finished (R62); an activity parked by a re-pattern resumes (R63). -/
def execClaimRelease (x : Nat) (s : State) : Out :=
  done (fun s => onlyIf (s.holder x != 0) (fun s => if s.holder x = 5 then State.releaseRepatternOf x s else s.unhold x) s) s

end Sys2Proof.Machine
end

