-- ==== Sys2Proof/Machine/Path.lean ====
section
/-! DEFINITION. What every stage of the frame path shares: table entries of a die, epoch drain counts, byte counts held
for a port, Tally counts, token buckets, discards and Brand failures. -/

namespace Sys2Proof.Machine

/-! ## Tables (R284) -/

/-- The tables a die holds: `root` the LPM's root store, `lpWord` the slots and defaults of its nodes, `vrfDef` the VRF
defaults, `lpm` the prefixes held (R270). -/
inductive Tbl where
  | spMap | spTab | tenant | exact | lpm | root | ao | elist | mcast | os | flowMask | flowTrans | flowAct
  | node | trans | extract | prof0 | prof1 | rule0 | rule1 | tmpl0 | tmpl1 | policer | spSel | tenSel | shaper | tgroup
  | gaitOper | gaitPend | binMap | starts | lpWord | vrfDef
  deriving DecidableEq, Repr

/-- The table's number in keys. -/
def Tbl.num : Tbl → Nat
  | .spMap => 0 | .spTab => 1 | .tenant => 2 | .exact => 3 | .lpm => 4 | .root => 5 | .ao => 6 | .elist => 7
  | .mcast => 8 | .os => 9 | .flowMask => 10 | .flowTrans => 11 | .flowAct => 12 | .node => 13 | .trans => 14
  | .extract => 15 | .prof0 => 16 | .prof1 => 17 | .rule0 => 18 | .rule1 => 19 | .tmpl0 => 20 | .tmpl1 => 21
  | .policer => 22 | .spSel => 23 | .tenSel => 24 | .shaper => 25 | .tgroup => 26 | .gaitOper => 27 | .gaitPend => 28
  | .binMap => 29 | .starts => 30 | .lpWord => 31 | .vrfDef => 32

/-- The key of entry `i` of a table on die `x`; the Tree die's copy has x = 12. -/
def tkey (x : Nat) (t : Tbl) (i : Nat) : Nat := (x * 64 + t.num) * 2 ^ 200 + i

/-- The keys of a table on a die lie in this range. -/
def tkeyLo (x : Nat) (t : Tbl) : Nat := tkey x t 0

namespace State

/-- Entry `i` of a table as die `x` holds it; an entry never written is zero. -/
def tab (s : State) (x : Nat) (t : Tbl) (i : Nat) : Nat := s.tabs.at 0 (tkey x t i)

/-- Write an entry on one die. -/
def setTab (s : State) (x : Nat) (t : Tbl) (i v : Nat) : State := { s with tabs := s.tabs.put 0 (tkey x t i) v }

/-- The listed entries of a table on a die: index and value, rising. -/
def tabList (s : State) (x : Nat) (t : Tbl) : List (Nat × Nat) :=
  let lo := tkeyLo x t
  (s.tabs.filter fun e => decide (lo ≤ e.1) && decide (e.1 < lo + 2 ^ 200)).map fun e => (e.1 - lo, e.2)

/-- The entry has an uncorrectable error that has not been mended (R294, R328). -/
def tabBad (s : State) (x : Nat) (t : Tbl) (i : Nat) : Bool := s.badTabs.contains (tkey x t i)

/-- A scrub or a lookup of die `x` finds an uncorrectable error in entry `i` of table `t` (R294, R305, R328). -/
def tabFails (s : State) (x : Nat) (t : Tbl) (i : Nat) : State :=
  { s.raise (if t = .os then F.OS_EVT_ECC else F.XT_EVT_ECC) [x] with badTabs := addOnce (tkey x t i) s.badTabs }

/-- The tables of a Skirt die that are kept with the ECC of R294 or R328. -/
def scrubbed (t : Tbl) : Bool := [Tbl.exact, .root, .lpWord, .vrfDef, .ao, .elist, .tenant, .os].contains t

/-! ## Epoch drain (R115) -/

/-- A frame is stamped with epoch `e`. Log 51 (DEDUCED). -/
def epochAdd (s : State) (e : Nat) (n : Nat := 1) : State :=
  let b := e % 2
  (s.set F.MD_DRAIN_CNT_COUNT [b] (s.get F.MD_DRAIN_CNT_COUNT [b] + n)).set F.MD_DRAIN_CNT_ZERO [b]
    (b2n (s.get F.MD_DRAIN_CNT_COUNT [b] + n == 0))

/-- `n` frames or copies of epoch `e` leave the device, are discarded or are punted. Log 51 (DEDUCED). -/
def epochDrop (s : State) (e : Nat) (n : Nat := 1) : State :=
  let b := e % 2
  let c := s.get F.MD_DRAIN_CNT_COUNT [b] - n
  (s.set F.MD_DRAIN_CNT_COUNT [b] c).set F.MD_DRAIN_CNT_ZERO [b] (b2n (c == 0))

/-- The frame releases its epoch's drain count. Log 51 (DEDUCED). -/
def epochOut (s : State) (m : Meta) : State := if m.live then s.epochDrop m.epoch else s

/-- A frame of which `n` references exist: they are counted under a number of their own (R32, R115). -/
def shareFrame (s : State) (n : Nat) (m : Meta) : Meta × State :=
  let u := s.fab.lastUid + 1
  ({ m with uid := u }, { s with fab.lastUid := u, fab.holders := s.fab.holders.put 0 u n })

/-- One reference of a frame goes; its last one releases the drain count (R32, R115). Log 93 (DEDUCED). -/
def refOut (s : State) (m : Meta) : State :=
  if m.uid = 0 then s.epochOut m
  else
    let n := s.fab.holders.at 0 m.uid
    if 1 < n then { s with fab.holders := s.fab.holders.put 0 m.uid (n - 1) }
    else if n = 1 then { s with fab.holders := s.fab.holders.erase m.uid }.epochOut m
    else s

/-- Every reference of a frame goes at once. -/
def frameGone (s : State) (m : Meta) : State := { s with fab.holders := s.fab.holders.erase m.uid }.epochOut m

/-! ## Bytes held for a port and priority (R171) -/

/-- Bytes held. -/
def fcHeld (s : State) (p pri : Nat) : Nat := s.port.fcBytes.at 0 (key2 p pri)

/-- Set the bytes held and the register that shows them in 64-byte units. -/
def setHeld (s : State) (p pri n : Nat) : State :=
  ({ s with port.fcBytes := s.port.fcBytes.put 0 (key2 p pri) n }).set F.PG_FC_BYTES_UNITS [p / 64, p % 64, pri] (ceilDiv n 64)

/-- The bytes of a frame are released. -/
def freeHeld (s : State) (m : Meta) : State :=
  if m.held then s.setHeld m.inPort m.pri (s.fcHeld m.inPort m.pri - m.len0) else s

/-! ## Tally (R410 to R412) -/

/-- Counters of a Tally entry: packets and octets in by bin, out by bin, mirror octets by bin, drops (packets and octets)
in the three categories, sessions and transactions. -/
def tlyIn (bin : Nat) : Nat := bin
def tlyOctIn (bin : Nat) : Nat := 2 + bin
def tlyOut (bin : Nat) : Nat := 4 + bin
def tlyOctOut (bin : Nat) : Nat := 6 + bin
def tlyMirror (bin : Nat) : Nat := 8 + bin
def tlyDrop (cat : Nat) : Nat := 10 + cat
def tlyDropOct (cat : Nat) : Nat := 13 + cat
def tlySessions : Nat := 16
def tlyTrans : Nat := 17

/-- Add to a counter of a tenant on a die, in the active bank (R410, R414); an emergency DRAIN freezes it (R78). -/
def tallyAdd (s : State) (x tenant ctr n : Nat) : State :=
  let k := key2 x (tenant * 32 + ctr)
  if s.tally.stopped then s else { s with tally.live := s.tally.live.put 0 k (s.tally.live.at 0 k + n) }

/-- The definition of a tenant in force, EN in [16], QUIET in [17] and BIN_MAP in [31:24]; one never given has EN 1, QUIET 0
and BIN_MAP 0xF0 (R426). -/
def tallyDef (s : State) (tenant : Nat) : Nat := s.tab 12 .binMap tenant ^^^ 0xF0010000

/-- The bin of class `c` of a tenant (R412). -/
def tallyBin (s : State) (tenant c : Nat) : Nat := b2n (bit (s.tallyDef tenant) (24 + c))

/-- The tenant a frame is charged to: fixed on its first pass, or that of its sub-port when reinjected (R410). -/
def chargee (s : State) (m : Meta) : Nat :=
  if m.reinj then bits (s.tab (m.slice / 4) .spTab m.subport) 62 49 else m.tenant

/-- Count a frame in, once (R410). Log 80 (DEDUCED). -/
def tallyIn (s : State) (m : Meta) : State :=
  let b := s.tallyBin m.tenant m.cls
  let x := m.slice / 4
  (s.tallyAdd x m.tenant (tlyIn b) 1).tallyAdd x m.tenant (tlyOctIn b) m.rxLen

/-- What a frame of `n` octets counted in moves from bin `a` to bin `b` of the entry at `lo`. -/
def moveBin (lo a b n : Nat) (m : Map Nat) : Map Nat :=
  let move := fun (m : Map Nat) (i j k : Nat) => (m.put 0 (lo + i) (m.at 0 (lo + i) - k)).put 0 (lo + j) (m.at 0 (lo + j) + k)
  move (move m (tlyIn a) (tlyIn b) 1) (tlyOctIn a) (tlyOctIn b) n

/-- The class of a counted frame changes before its pass 0 ends: its IN counts go to the bin of class `c`, in the minute that they
were made in (R410, R412). Log 80 (DEDUCED). -/
def tallyRebin (s : State) (m : Meta) (c : Nat) : State :=
  let a := s.tallyBin m.tenant m.cls
  let b := s.tallyBin m.tenant c
  let lo := key2 (m.slice / 4) (m.tenant * 32)
  if a = b ∨ s.tally.stopped then s
  else if m.inBank = s.tally.bank then { s with tally.live := moveBin lo a b m.rxLen s.tally.live }
  else
    let bank := fun (e : Nat × Map Nat) => if e.1 = m.inBank then (e.1, moveBin lo a b m.rxLen e.2) else e
    let set := fun (t : TallySet) =>
      if t.kind ≠ 1 ∧ t.bank = m.inBank then { t with sums := moveBin (m.tenant * 32) a b m.rxLen t.sums } else t
    { s with tally.frozen := s.tally.frozen.map bank, tally.sets := s.tally.sets.map set }

/-- Charge a discard on die `x` in a category: 0 policer, 1 congestion, 2 other (R411). Log 100 (DEDUCED). -/
def tallyDrop (s : State) (x cat : Nat) (m : Meta) : State :=
  if m.counted then
    let who := s.chargee m
    (s.tallyAdd x who (tlyDrop cat) 1).tallyAdd x who (tlyDropOct cat) m.rxLen
  else s

/-- What ingress slice `sl` holds. -/
def sliceFrames (s : State) (sl : Nat) : List Meta :=
  ((s.sl.awlQ.at [] sl ++ s.sl.flowQ.at [] sl).map fun h => h.p.f.m) ++ ((s.sl.recirc.at [] sl ++ s.sl.reinj.at [] sl).map fun f => f.m)

/-! ## Token buckets (R223) -/

/-- Bring bucket `k` up to now with `rate` tokens a second and `burst`, then take `n` tokens if it holds them. -/
def takeTokens (s : State) (k rate burst n : Nat) : Bool × State :=
  let inc := roundDiv (rate * 2 ^ 32) 1000000000
  let full := burst * 2 ^ 32
  let t0 := s.sl.bucketAt.at 0 k
  -- an unlisted bucket is full: the store holds what is missing from it
  let tok := min full ((full - s.sl.bucket.at 0 k) + inc * (s.clock.tick - t0))
  let ok := decide (n * 2 ^ 32 ≤ tok)
  let left := if ok then tok - n * 2 ^ 32 else tok
  (ok, { s with sl.bucket := s.sl.bucket.put 0 k (full - left), sl.bucketAt := s.sl.bucketAt.put 0 k s.clock.tick })

/-- Fill a bucket. -/
def fillBucket (s : State) (k : Nat) : State := { s with sl.bucket := s.sl.bucket.erase k }

end State

/-- The buckets: punt policer `r` of die `d`, capture session `i` of slice `sl`, sampling of a slice, ordered-store
throttle of a slice, Awl budget of a die. -/
def bktPunt (d r : Nat) : Nat := key2 1 (d * 64 + r)
def bktCap (sl i : Nat) : Nat := key2 2 (sl * 16 + i)
def bktSample (sl : Nat) : Nat := key2 3 sl
def bktOs (sl : Nat) : Nat := key2 4 sl
def bktAwl (d : Nat) : Nat := key2 5 d

/-- The bucket of the learn rate (R285). Log 152 (DEDUCED). -/
def bktLearn : Nat := key2 6 0

namespace State

/-! ## The end of a recovery (R545, R547) -/

/-- The recovery of a fault of class 2 or 4 has ended: its second journal entry, and FT_LONGEST. -/
def recovered (s : State) (die unit cause : Nat) : State :=
  match takeFirst (fun (r : Nat × Nat × Nat × Nat × Nat × Nat) => r.1 == die && r.2.1 == unit && r.2.2.1 == cause) s.flt.recovering with
  | none => s
  | some (r, rest) =>
    let act := r.2.2.2.1
    let us := s.since r.2.2.2.2.2 / 1000
    let t := { s with flt.recovering := rest }
    let e := t.entryNow (if act = 6 ∨ act = 7 then 4 else 2) die unit cause act
    let t := t.journal { e with completion := true, ref := r.2.2.2.2.1, dur := us }
    t.set F.FT_LONGEST_US [] (max (t.get F.FT_LONGEST_US []) (min 65535 us))

/-! ## Brand failures (R204, R205) -/

/-- Count a failure under `cause` on die `d`, and capture the first. -/
def brandFail (s : State) (d cause egr : Nat) (m : Meta) (ct : Bool) (expect seen len : Nat) : State :=
  let t := (s.inc R.BR_CAUSE [d, cause]).raise F.BR_EVT_MISMATCH [d]
  if t.isOn F.BR_CAP_VALID [d] then t
  else
    let w := 2 ^ 31 + b2n ct * 2 ^ 30 + cause * 2 ^ 27 + (if cause = 5 ∨ cause = 6 then 0 else egr) * 2 ^ 18
      + m.inPort * 2 ^ 9 + m.pass * 2 ^ 7
    ((((t.wr R.BR_CAP [d] w).wr R.BR_CAP_EPOCH [d] m.epoch).wr R.BR_CAP_EXPECT [d] (if cause = 1 then 0 else expect)).wr
      R.BR_CAP_SEEN [d] (if cause ≤ 2 then 0 else seen)).wr R.BR_CAP_LEN [d] len

/-! ## Discards in an ingress slice (R24) -/

/-- A frame is discarded in its slice: buffer, drain count, slice count and Tally in category `cat`. Log 98 (DEDUCED). -/
def dropInSlice (s : State) (cat : Nat) (m : Meta) : State :=
  ((((s.freeHeld m).epochOut m).tallyDrop (m.slice / 4) cat m).countIng m.slice 9 1 (some m.tenant))

end State

end Sys2Proof.Machine
end

