-- ==== Sys2Proof/Machine/Parser.lean ====
section
/-! DEFINITION. The parser: the walk of the parse graph and the key vector (R209 to R218). -/

namespace Sys2Proof.Machine

/-- A field of `w` bits at bit offset `o` of a byte string, in network order (R210). -/
def netField (bs : List Byte) (o w : Nat) : Nat :=
  let a := o / 8
  let n := (o % 8 + w + 7) / 8
  (ofBe (slice bs a n) >>> (8 * n - o % 8 - w)) % 2 ^ w

/-- Reading bits up to bit `e` of the frame raises this reason: beyond the frame 1, beyond byte 512 2 (R214). Of a frame whose
tail is still arriving (`open_`), a read past its head is not decided before it is whole, which reason 0 says: no action lets
such a head go on. Log 209 (DEDUCED). -/
def readFail (open_ : Bool) (bs : List Byte) (e : Nat) : Option Nat :=
  if 8 * bs.length < e then some (if open_ then 0 else 1) else if 8 * 512 < e then some 2 else none

/-- What a walk has found so far. -/
structure Walk where
  kv : Nat := 0
  hdrs : List Hdr := []
  q : Nat := 0
  prof : Nat := 0
  tun : Nat := 0
  ttlLow : Bool := false
  mpls : Bool := false
  exts : Nat := 0
  made : Nat := 0
  overflow : Nat := 0
  /-- The first VXLAN (1) or Geneve (2) header's VNI (R184). -/
  vni : Option (Nat × Nat) := none
  /-- Reasons raised, in walk order, and the one whose action ends the frame's fast path: reason and action. -/
  reasons : List Nat := []
  halt : Option (Nat × Nat) := none
  deriving DecidableEq, Repr

/-- IPv6 headers whose unknown next header raises reason 6 (R216), and those that count as extension headers (R215). -/
def chainKind (k : Nat) : Bool := k == 5 || k == 6 || k == 7 || k == 13 || k == 14
def extKind (k : Nat) : Bool := k == 6 || k == 7 || k == 13 || k == 14

/-- Ones'-complement sum of 16-bit words. -/
def onesSum : List Byte → Nat
  | [] => 0
  | [a] => a.toNat * 256
  | a :: b :: r => let t := a.toNat * 256 + b.toNat + onesSum r; t % 65536 + t / 65536

/-- The IPv4 checksum of header bytes whose checksum field counts as given is right. -/
def ipSumOk (h : List Byte) : Bool := onesSum h == 0xFFFF

/-- The first check of a header that fails, as its reason (R215): `h` are the bytes from the header to the end of the
frame, `exts` the extension headers visited so far, this one among them. The end of a frame whose tail is still arriving
(`open_`) is not known: no length passes it. Log 209 (DEDUCED). -/
def kindCheck (open_ : Bool) (k : Nat) (h : List Byte) (exts maxExt : Nat) : Option Nat :=
  let b := fun i => (h.getD i 0).toNat
  if extKind k && decide (maxExt < exts) then some 6
  else match k with
  | 4 =>
    let ihl := b 0 % 16
    let len := b 2 * 256 + b 3
    let off := (b 6 * 256 + b 7) % 8192
    if b 0 / 16 ≠ 4 ∨ ihl < 5 then some 4
    else if len < 4 * ihl ∨ (!open_ ∧ h.length < len) then some 4
    else if !ipSumOk (slice h 0 (4 * ihl)) then some 12
    else if bit (b 6) 5 && off == 0 then some 7
    else if off ≠ 0 then some 8
    else if 5 < ihl then some 5
    else none
  | 5 => if b 0 / 16 ≠ 6 ∨ (!open_ ∧ h.length < 40 + b 4 * 256 + b 5) then some 4 else none
  | 7 =>
    let off := (b 2 * 256 + b 3) / 8
    if off = 0 ∧ b 3 % 2 = 1 then some 9 else if off ≠ 0 then some 10 else none
  | 9 => if b 12 / 16 < 5 then some 4 else none
  | 11 => if b 0 / 64 ≠ 0 then some 4 else none
  | 12 => if b 1 % 8 ≠ 0 then some 4 else none
  | 13 => if b 4 + 1 < b 3 ∨ b 2 ≠ 4 then some 4 else none
  | 14 => some 5
  | _ => none

/-- Semantic reasons (R215). -/
def semantic (r : Nat) : Bool := r == 5 || (decide (7 ≤ r) && decide (r ≤ 10))

/-- The header sets TTL_LOW (R215). Log 81 (DEDUCED). -/
def ttlLowOf (k : Nat) (h : List Byte) (mpls : Bool) : Bool :=
  let b := fun i => (h.getD i 0).toNat
  (k == 3 && !mpls && decide (b 3 ≤ 1)) || (k == 4 && decide (b 8 ≤ 1)) || (k == 5 && decide (b 7 ≤ 1))

namespace State

/-- The action of reason `r`: 0 punt, 1 discard, 2 continue (R219, R220). -/
def reasonAct (s : State) (d r : Nat) (reinj : Bool) : Nat :=
  if 1 ≤ r ∧ r ≤ 13 then s.get (if reinj then F.CL_REASON_CFG_REINJ_ACT else F.CL_REASON_CFG_ACT) [d, r] else 0

/-- The header length of a node at a byte offset, or the reason its length field's read raises (R211, R214). -/
def nodeLen (open_ : Bool) (bs : List Byte) (n off : Nat) : Nat ⊕ Nat :=
  let k := bits n 127 123
  if k = 12 then
    match readFail open_ bs (8 * off + 16) with
    | some r => .inr r
    | none =>
      let fl := netField bs (8 * off) 16
      .inl (4 + 4 * (b2n (bit fl 15) + b2n (bit fl 13) + b2n (bit fl 12)))
  else match bits n 115 114 with
    | 1 =>
      let o := 8 * off + bits n 104 93
      let w := bits n 92 89 + 1
      match readFail open_ bs (o + w) with
      | some r => .inr r
      | none => .inl (netField bs o w * 2 ^ bits n 88 86 + bits n 85 77)
    | 2 => if open_ then .inr 0 else .inl (bs.length - off)
    | _ => .inl (bits n 113 105)

/-- The transition of a node: the next node's code, or the reason the select field's read raises (R212). Log 81 (DEDUCED). -/
def nodeNext (s : State) (d : Nat) (open_ : Bool) (bs : List Byte) (n off : Nat) : (Nat × Bool) ⊕ Nat :=
  let cnt := bits n 49 46
  let base := bits n 59 50
  let dflt := bits n 45 37
  if cnt = 0 then .inl (dflt, false)
  else
    let o := 8 * off + bits n 76 65
    let w := bits n 64 60 + 1
    match readFail open_ bs (o + w) with
    | some r => .inr r
    | none =>
      let v := netField bs o w
      match ((List.range cnt).map fun i => s.tab d .trans (base + i)).find? fun t =>
          bit t 73 && v &&& bits t 63 32 == bits t 31 0 &&& bits t 63 32 with
      | some t => .inl (bits t 72 64, false)
      | none => .inl (dflt, true)

/-- Make a node's extractions for instance `inst` of its class (R213, R214); a read that fails gives its reason. -/
def extracts (s : State) (d : Nat) (open_ : Bool) (bs : List Byte) (off inst : Nat) : List Nat → Walk → Walk ⊕ Nat
  | [], w => .inl w
  | i :: r, w =>
    let e := s.tab d .extract i
    let want := bits e 2 0
    if want ≠ 7 ∧ want ≠ inst then extracts s d open_ bs off inst r w
    else if 64 ≤ w.made then extracts s d open_ bs off inst r { w with overflow := w.overflow + 1 }
    else
      let o := 8 * off + bits e 31 20
      let n := bits e 19 13 + 1
      match readFail open_ bs (o + n) with
      | some f => .inr f
      | none =>
        let dst := bits e 12 3
        extracts s d open_ bs off inst r
          { w with made := w.made + 1, kv := setBits w.kv (dst + n - 1) dst (netField bs o n) }

/-- Raise a reason: the first whose action is not continue ends the frame's fast path (R220). -/
def raised (s : State) (d : Nat) (reinj : Bool) (w : Walk) (r : Nat) : Walk :=
  let a := s.reasonAct d r reinj
  { w with reasons := w.reasons ++ [r], halt := w.halt <|> (if a = 2 then none else some (r, a)) }

/-- Raise a reason that ends the walk at payload offset `q`. -/
def endWalk (s : State) (d : Nat) (reinj : Bool) (w : Walk) (r q : Nat) : Walk := { s.raised d reinj w r with q := q }

/-- The walk from node `i` at byte offset `off`, with `fuel` nodes still allowed (R212 to R216). Log 66 (DEDUCED). -/
def walk (s : State) (d : Nat) (open_ : Bool) (bs : List Byte) (reinj : Bool) : Nat → Nat → Nat → Walk → Walk
  | 0, _, off, w => s.endWalk d reinj w 2 off
  | fuel + 1, i, off, w =>
    let n := s.tab d .node i
    let k := bits n 127 123
    let cls := bits n 122 117
    let inst := (w.hdrs.filter fun h => h.cls == cls).length
    let w := { w with
      tun := if bit n 116 then min 3 (w.tun + 1) else w.tun
      prof := if bit n 19 then bits n 23 20 else w.prof
      exts := if extKind k then w.exts + 1 else w.exts }
    match nodeLen open_ bs n off with
    | .inr r => s.endWalk d reinj w r off
    | .inl len =>
      match readFail open_ bs (8 * (off + len)) with
      | some r => s.endWalk d reinj w r off
      | none =>
        let h := bs.drop off
        let chk := kindCheck open_ k h w.exts (s.get F.PA_CFG_V6_EXT_MAX [d])
        match chk with
        | some r =>
          if semantic r then
            match s.extracts d open_ bs off inst ((List.range (bits n 26 24)).map (bits n 36 27 + ·)) w with
            | .inr f => s.endWalk d reinj (s.raised d reinj w r) f off
            | .inl w' =>
              let w' := { w' with hdrs := w'.hdrs ++ [⟨cls, k, off, len⟩], kv := setBit w'.kv (896 + cls) true
                                  ttlLow := w'.ttlLow || ttlLowOf k h w'.mpls }
              if r = 5 ∧ s.reasonAct d 5 reinj = 2 then
                -- the walk continues past the options
                match s.nodeNext d open_ bs n off with
                | .inr f => s.endWalk d reinj (s.raised d reinj w r) f off
                | .inl (nx, unm) =>
                  let w' := s.raised d reinj w' r
                  if nx < 256 then walk s d open_ bs reinj fuel nx (off + len) w'
                  else if nx = 0x100 then { w' with q := off + len }
                  else s.endWalk d reinj w' (if unm && chainKind k then 6 else 3) (off + len)
              else s.endWalk d reinj w' r (off + len)
          else s.endWalk d reinj w r off
        | none =>
          match s.extracts d open_ bs off inst ((List.range (bits n 26 24)).map (bits n 36 27 + ·)) w with
          | .inr f => s.endWalk d reinj w f off
          | .inl w' =>
            match s.nodeNext d open_ bs n off with
            | .inr f => s.endWalk d reinj w f off
            | .inl (nx, unm) =>
              let vni := if (k == 10 || k == 11) && w'.vni.isNone then
                  some (if k = 10 then 1 else 2, netField bs (8 * (off + 4)) 24) else w'.vni
              let w' := { w' with
                hdrs := w'.hdrs ++ [⟨cls, k, off, len⟩], kv := setBit w'.kv (896 + cls) true, vni := vni
                ttlLow := w'.ttlLow || ttlLowOf k h w'.mpls, mpls := w'.mpls || k == 3 }
              if nx < 256 then walk s d open_ bs reinj fuel nx (off + len) w'
              else if nx = 0x100 then { w' with q := off + len }
              else s.endWalk d reinj w' (if unm && chainKind k then 6 else 3) (off + len)

/-- The walk of a frame, with the metadata block of the key vector but for the sub-port fields (R218). -/
def parse (s : State) (f : Frame) : Walk :=
  let d := f.m.slice / 4
  let w := s.walk d f.tail f.bytes f.m.reinj 24 (s.get F.PA_START_START [d, f.m.inPort % 64]) 0 {}
  let first := (w.reasons.filter fun r => s.reasonAct d r f.m.reinj == 2).headD 0
  let kv := setBits w.kv 1023 1015 f.m.inPort
  let kv := setBits (setBits (setBits kv 981 980 f.m.pass) 979 979 (b2n f.m.reinj)) 978 977 w.tun
  { w with kv := setBits (setBits (setBits kv 976 971 first) 970 968 f.m.pri) 967 967 (b2n w.ttlLow) }

end State

end Sys2Proof.Machine
end

