-- ==== Sys2Proof/Machine/Edits.lean ====
section
/-! DEFINITION. Header edits and what they do to the frame, its checksums and its Brand (R196, R229 to R234, R578). -/

namespace Sys2Proof.Machine

/-- A frame under its edit list. `stamps` are the time requests for the MAC: kind 1 origin, 2 correction, 3 two-step;
byte offset; the tag, or one more than the offset of the UDP checksum to update (R176, R230). -/
structure EditSt where
  bytes : List Byte
  brand : Nat
  hdrs : List Hdr
  skips : Nat := 0
  stamps : List (Nat × Nat × Nat) := []
  /-- Every edit is taken to apply, as L_w takes it (R394). -/
  whole : Bool := false
  /-- Bytes of the pushes that have no place and are taken to apply. -/
  extra : Nat := 0
  deriving DecidableEq, Repr

/-- One edit is well-formed (R229): `e` is the 192-bit form, control word first. -/
def editValid (e : Nat) : Bool :=
  let c := e % 2 ^ 64
  let w := bits c 38 32 + 1
  match bits c 63 62 with
  | 0 =>
    let src := bits c 53 51
    decide (src ≤ 5) && bits c 20 0 == 0 && (src != 2 || decide (w ≤ 32)) && (src != 3 || w == 80) && (src != 4 || w == 64)
      && (!(src == 3 || src == 4) || bits c 50 39 % 8 == 0)
  | 1 => bits c 44 0 == 0
  | 2 => bits c 44 0 == 0
  | _ => false

/-- The values that resolution fixes from the key vector, by the place of their edits in the list (R230 SRC KEY, R334).
Log 247 (DESIGN CHOICE). -/
def fixKeys (kv : Nat) (edits : List Nat) : List (Nat × Nat) :=
  edits.zipIdx.filterMap fun e =>
    let c := e.1 % 2 ^ 64
    if bits c 63 62 = 0 ∧ bits c 53 51 = 1 then some (e.2, (kv >>> bits c 30 21) % 2 ^ (bits c 38 32 + 1)) else none

/-- One update of a ones'-complement checksum by RFC 1624: word `m` becomes `m'`. Log 84 (PRESUMED). -/
def csumStep (hc m m' : Nat) : Nat :=
  let t := (0xFFFF - hc) + (0xFFFF - m) + m'
  let t := t % 65536 + t / 65536
  let t := t % 65536 + t / 65536
  0xFFFF - t

/-- Word `i` of a region; the lone last byte of an odd one is the word's high byte. -/
def regionWord (bs : List Byte) (i : Nat) : Nat := ofBe [bs.getD (2 * i) 0, bs.getD (2 * i + 1) 0]

/-- The 16-bit words of a region that differ between two states of it, as old and new; `skip` is the checksum's word. -/
def wordsChanged (a b : List Byte) (skip : Nat) : List (Nat × Nat) :=
  (List.range ((max a.length b.length + 1) / 2)).filterMap fun i =>
    let x := regionWord a i
    let y := regionWord b i
    if i = skip ∨ x = y then none else some (x, y)

/-- Update the 16-bit field at `off` of the frame for the changed words. A field counted as part of an edit is a 2-byte
SET for the Brand (R231). Log 84 (PRESUMED). -/
def setCsum (st : EditSt) (off : Nat) (v : Nat) : EditSt :=
  let a := slice st.bytes off 2
  let b := beBytes v 2
  { st with bytes := overwrite st.bytes off b, brand := brandSet st.brand st.bytes.length off a b }

/-- The header's instance of class `c` (R229), outermost first. -/
def findHdr (hs : List Hdr) (c inst : Nat) : Option Hdr := (hs.filter fun h => h.cls == c)[inst]?

/-- The pseudo-header of the TCP or UDP header `t` behind IP header `ip`, but for its length (R578): the addresses and the
upper-layer protocol, which the last header ahead of `t` names. Behind a routing header with segments left, the destination
is the last one, Segment List[0] (RFC 8200). Log 208 (DEDUCED). -/
def pseudoHeader (hs : List Hdr) (ip t : Hdr) (bs : List Byte) : List Byte :=
  let o := ip.off
  if ip.kind = 4 then slice bs (o + 12) 8 ++ [0, bs.getD (o + 9) 0]
  else
    let exts := hs.filter fun h => extKind h.kind && decide (o < h.off) && decide (h.off < t.off)
    let dst := match exts.find? fun h => h.kind == 13 && bs.getD (h.off + 3) 0 != 0 with
      | some h => slice bs (h.off + 8) 16
      | none => slice bs (o + 24) 16
    let proto := match exts.getLast? with | some h => bs.getD h.off 0 | none => bs.getD (o + 6) 0
    slice bs (o + 8) 16 ++ dst ++ [0, proto]

/-- The changed words a change of the frame brings into the checksum of the TCP or UDP header `t` (R578). Log 208 (DEDUCED). -/
def l4Changes (hs : List Hdr) (old new : List Byte) (edited t : Hdr) : List (Nat × Nat) :=
  if t.off ≤ edited.off then
    wordsChanged (old.drop t.off) (new.drop t.off) (if t.kind = 8 then 3 else 8)
  else
    match (hs.filter fun h => (h.kind == 4 || h.kind == 5) && decide (h.off < t.off)).getLast? with
    | some ip =>
      if ip.off ≤ edited.off then wordsChanged (pseudoHeader hs ip t old) (pseudoHeader hs ip t new) 99 else []
    | none => []

/-- Update a TCP or UDP checksum; a UDP checksum of zero stays zero (R230). -/
def updateL4 (st : EditSt) (old : List Byte) (edited : Hdr) : EditSt :=
  let isL4 := fun (h : Hdr) => h.kind == 8 || h.kind == 9
  let target := if isL4 edited then some edited
    else st.hdrs.find? fun h => isL4 h && decide (edited.off < h.off)
  match target with
  | none => st
  | some t =>
    let off := t.off + (if t.kind = 8 then 6 else 16)
    let cs := ofBe (slice st.bytes off 2)
    if st.bytes.length < off + 2 ∨ (t.kind = 8 ∧ cs = 0) then st
    else
      match l4Changes st.hdrs old st.bytes edited t with
      | [] => st
      | ch =>
        let v := ch.foldl (fun c m => csumStep c m.1 m.2) cs
        setCsum st off (if t.kind = 8 ∧ v = 0 then 0xFFFF else v)

/-- Skip an edit (R234). -/
def skipEdit (st : EditSt) : EditSt := { st with skips := st.skips + 1 }

/-- SET (R230, R231). -/
def applySet (e : Nat) (st : EditSt) : EditSt :=
  let c := e % 2 ^ 64
  let imm := e / 2 ^ 64
  let src := bits c 53 51
  let w := bits c 38 32 + 1
  let bo := bits c 50 39
  if src = 5 then { st with stamps := st.stamps ++ [(3, 0, imm % 65536)] }
  else match findHdr st.hdrs (bits c 61 56) (bits c 55 54) with
  | none => skipEdit st
  | some h =>
    if 8 * h.len < bo + w then skipEdit st
    else if src = 3 ∨ src = 4 then
      let l4 := if bit c 31 then
          match st.hdrs.reverse.find? fun t => t.kind == 8 && decide (t.off ≤ h.off) with
          | some t => t.off + 7
          | none => 0
        else 0
      { st with stamps := st.stamps ++ [(src - 2, h.off + bo / 8, l4)] }
    else
      let o := 8 * h.off + bo
      let a := o / 8
      let n := (o % 8 + w + 7) / 8
      let old := slice st.bytes a n
      let sh := 8 * n - o % 8 - w
      let cur := netField st.bytes o w
      let v := if src = 2 then (cur + imm % 2 ^ 32) % 2 ^ w else imm % 2 ^ w
      let new := beBytes (setBits (ofBe old) (sh + w - 1) sh v) n
      let before := st.bytes
      let st1 := { st with bytes := overwrite st.bytes a new, brand := brandSet st.brand st.bytes.length a old new }
      let st2 := if h.kind = 4 then
          match wordsChanged (slice before h.off h.len) (slice st1.bytes h.off h.len) 5 with
          | [] => st1
          | ch => setCsum st1 (h.off + 10) (ch.foldl (fun x m => csumStep x m.1 m.2) (ofBe (slice st1.bytes (h.off + 10) 2)))
        else st1
      if bit c 31 then updateL4 st2 before h else st2

/-- Byte `i` of a 96-byte template. -/
def tByte (t i : Nat) : Nat := bits t (8 * i + 7) (8 * i)

/-- The valid headers of a template's header map: class, kind, offset (R232). -/
def tmplHdrs (t : Nat) : List (Nat × Nat × Nat) :=
  (List.range 4).filterMap fun i =>
    let m := tByte t (0x41 + 2 * i) + 256 * tByte t (0x42 + 2 * i)
    if bit m 15 then some (bits m 14 9, bits m 8 4, tByte t (0x49 + i)) else none

/-- Fix-up `j` of a template: type, offset, base, adjustment (R232). -/
def tmplFix (t j : Nat) : Nat × Nat × Nat × Int :=
  let w := tByte t (0x4D + 3 * j) + 256 * tByte t (0x4E + 3 * j) + 65536 * tByte t (0x4F + 3 * j)
  (bits w 23 22, bits w 21 16, bits w 15 8, signed 8 (bits w 7 0))

/-- The template's length. -/
def tmplLen (t : Nat) : Nat := tByte t 0x40 % 128

/-- The CRC-32C of a 40-byte match key in network order (R225). -/
def keyHash (mkey : Nat) : Nat := crc32c (beBytes mkey 40)

/-- The inserted bytes after their fix-ups: lengths and entropy first, then IPv4 checksums (R232). -/
def tmplBytes (t mkey n p : Nat) : List Byte :=
  let b0 := leBytes t (tmplLen t)
  let fix := fun (pass : Bool) (b : List Byte) (j : Nat) =>
    let f := tmplFix t j
    match pass, f.1 with
    | false, 1 => overwrite b f.2.1 (beBytes ((Int.ofNat n - Int.ofNat p - Int.ofNat f.2.2.1 + f.2.2.2) % 65536).toNat 2)
    | false, 3 =>
      let h := keyHash mkey % 65536
      overwrite b f.2.1 (beBytes (if f.2.2.2 = 0 then h else h % 2 ^ 14 + 0xC000) 2)
    | true, 2 =>
      let len := 4 * ((b.getD f.2.2.1 0).toNat % 16)
      let hdr := overwrite (slice b f.2.2.1 len) 10 [0, 0]
      overwrite b f.2.1 (beBytes (0xFFFF - onesSum hdr) 2)
    | _, _ => b
  let b1 := (List.range 4).foldl (fix false) b0
  (List.range 4).foldl (fix true) b1

/-- Shift the offsets at or beyond `o` by `n` up, or down with `neg`. -/
def shiftHdrs (o n : Nat) (neg : Bool) (hs : List Hdr) : List Hdr :=
  hs.map fun h => if o ≤ h.off then { h with off := if neg then h.off - n else h.off + n } else h

/-- Shift the offsets of time requests. -/
def shiftStamps (o n : Nat) (neg : Bool) (l : List (Nat × Nat × Nat)) : List (Nat × Nat × Nat) :=
  let mv := fun x => if o ≤ x then (if neg then x - n else x + n) else x
  l.map fun r => if r.1 = 3 then r else (r.1, mv r.2.1, if r.2.2 = 0 then 0 else mv (r.2.2 - 1) + 1)

/-- A PUSH that does not apply: its bytes still count where every edit is taken to apply (R394). -/
def skipPush (len : Nat) (st : EditSt) : EditSt :=
  skipEdit (if st.whole then { st with extra := st.extra + len } else st)

/-- PUSH of template `t` (R232). -/
def applyPush (t mkey e : Nat) (st : EditSt) : EditSt :=
  let c := e % 2 ^ 64
  match findHdr st.hdrs (bits c 61 56) (bits c 55 54) with
  | none => skipPush (tmplLen t) st
  | some h =>
    let p := if bit c 45 then h.off + h.len else h.off
    let len := tmplLen t
    if (512 < p ∧ !st.whole) ∨ len = 0 then skipEdit st
    else
      let ins := tmplBytes t mkey (st.bytes.length + len) p
      let maps := tmplHdrs t
      let ends := (maps.drop 1).map (·.2.2) ++ [len]
      let news := (maps.zip ends).map fun q => { cls := q.1.1, kind := q.1.2.1, off := p + q.1.2.2, len := q.2 - q.1.2.2 : Hdr }
      { st with
        brand := brandPush st.brand st.bytes.length (st.bytes.take p) ins
        bytes := st.bytes.take p ++ ins ++ st.bytes.drop p
        hdrs := (st.hdrs.filter fun x => decide (x.off < p)) ++ news
          ++ shiftHdrs p len false (st.hdrs.filter fun x => decide (p ≤ x.off))
        stamps := shiftStamps p len false st.stamps }

/-- POP (R233). -/
def applyPop (e : Nat) (st : EditSt) : EditSt :=
  let c := e % 2 ^ 64
  let last := if bit c 53 then (findHdr st.hdrs (bits c 52 47) (bits c 46 45)).map (·.off)
    else (findHdr st.hdrs (bits c 61 56) (bits c 55 54)).map fun h => h.off + h.len
  match findHdr st.hdrs (bits c 61 56) (bits c 55 54), last with
  | some h, some z =>
    if bit c 53 && decide (z ≤ h.off) then skipEdit st
    else
      let n := z - h.off
      { st with
        brand := brandPop st.brand st.bytes.length (st.bytes.take h.off) (slice st.bytes h.off n)
        bytes := st.bytes.take h.off ++ st.bytes.drop z
        hdrs := shiftHdrs z n true (st.hdrs.filter fun x => !(decide (h.off ≤ x.off) && decide (x.off < z)))
        stamps := shiftStamps z n true st.stamps }
  | _, _ => skipEdit st

/-- One edit; `tmpl` gives the templates of the frame's bank. -/
def applyEdit (tmpl : Nat → Nat) (mkey : Nat) (st : EditSt) (e : Nat) : EditSt :=
  let c := e % 2 ^ 64
  match bits c 63 62 with
  | 0 => applySet e st
  | 1 => applyPush (tmpl (bits c 53 46)) mkey e st
  | 2 => applyPop e st
  | _ => skipEdit st

namespace State

/-- Bank tables of a frame's epoch (R224). -/
def profTbl (b : Nat) : Tbl := if b % 2 = 0 then .prof0 else .prof1
def ruleTbl (b : Nat) : Tbl := if b % 2 = 0 then .rule0 else .rule1
def tmplTbl (b : Nat) : Tbl := if b % 2 = 0 then .tmpl0 else .tmpl1

/-- The edits of a rule in use (R226): 24-byte forms behind its 88 bytes. -/
def ruleEdits (r : Nat) : List Nat := (List.range (min 8 (bits r 33 30))).map fun i => bits r (704 + 192 * i + 191) (704 + 192 * i)

/-- The edits of the list that an object names, from the replica of die `d` (R278, R283). -/
def objectEdits (s : State) (d o : Nat) : List Nat :=
  (List.range (min 8 (bits o 75 72))).map fun i => bits (s.tab d .elist (bits o 89 76)) (192 * i + 191) (192 * i)

/-- The edit list of a resolved frame as die `d` holds it: the rule's edits and then the object's (R228), each value that was
fixed at resolution put in its place (R283, R334). -/
def editList (s : State) (d : Nat) (m : Meta) : List Nat :=
  if m.resolved then
    let rule := if m.ruleV then ruleEdits (s.tab d (ruleTbl m.epoch) m.rule) else []
    (rule ++ s.objectEdits d (s.tab d .ao m.ao)).zipIdx.map fun e =>
      match m.exts.find? fun x => x.1 == e.2 with
      | some x => e.1 % 2 ^ 64 + x.2 * 2 ^ 64
      | none => e.1
  else []

/-- Die `d` cannot read the object or the list that a resolved frame needs (R294). -/
def editsBad (s : State) (d : Nat) (m : Meta) : Bool :=
  let o := s.tab d .ao m.ao
  m.resolved && (s.tabBad d .ao m.ao || (bits o 75 72 != 0 && s.tabBad d .elist (bits o 89 76)))

/-- Apply a frame's edit list on die `d` (R28, R34, R235). -/
def runEdits (s : State) (d : Nat) (m : Meta) (bytes : List Byte) (brand : Nat) : EditSt :=
  (s.editList d m).foldl (applyEdit (fun i => s.tab d (tmplTbl m.epoch) i) m.mkey)
    { bytes := bytes, brand := brand, hdrs := m.hdrs }

/-- The length of a frame if every edit of its list applies (R394). Log 229 (DEDUCED). -/
def editedLen (s : State) (d : Nat) (m : Meta) (bytes : List Byte) : Nat :=
  let r := (s.editList d m).foldl (applyEdit (fun i => s.tab d (tmplTbl m.epoch) i) m.mkey)
    { bytes := bytes, brand := 0, hdrs := m.hdrs, whole := true }
  r.bytes.length + r.extra

/-- Count the skipped edits on the die that applies them (R234). -/
def countSkips (s : State) (d n : Nat) : State :=
  if n = 0 then s else (s.inc R.CL_EDIT_SKIP [d] n).raise F.CL_EVT_EDIT_SKIP [d]

end State

end Sys2Proof.Machine
end

