-- ==== Sys2Proof/Machine/Ports.lean ====
section
/-! DEFINITION. Ports: breakout, negotiation, the receiving MAC, PAUSE and PFC, two-step timestamps (R161 to R182). -/

namespace Sys2Proof.Machine

/-! ## Breakout (R161 to R163) -/

/-- Data per lane in Gb/s by rate code (R163). -/
def laneGb (code : Nat) : Nat := ([0, 10, 25, 25, 50, 100, 200] : List Nat).getD code 0

/-- Widths permitted at a lane rate (R163). -/
def laneWidths (code : Nat) : List Nat := ([[], [1], [1, 2, 4], [1], [1, 2, 4, 8], [1, 2, 4, 8], [1, 2, 4, 8]] : List (List Nat)).getD code []

/-- FEC values permitted at a lane rate (R163). -/
def laneFec (code : Nat) : List Nat := ([[], [0], [0, 1], [2], [2], [2], [2]] : List (List Nat)).getD code []

/-- Lanes from `l` to the next port start of `map`, or to lane 7 (R162). -/
def laneRun (map l : Nat) : Nat := (((List.range 8).filter fun k => decide (l < k) && bit map k).headD 8) - l

/-- A configuration word of a group is valid (R162). Log 87 (DEDUCED). -/
def groupValid (w : Nat) : Bool :=
  let lo := bits w 19 16
  let hi := bits w 23 20
  let map := bits w 7 0
  let rate := fun l => if l < 4 then lo else hi
  let first := (setPositions map 8).headD 8
  decide (lo ≤ 6) && decide (hi ≤ 6)
    && (setPositions map 8).all (fun l =>
        let n := laneRun map l
        [1, 2, 4, 8].contains n && l % n == 0 && (laneWidths (rate l)).contains n && (n != 8 || lo == hi)
          && (List.range 8).all fun k => !(decide (l ≤ k) && decide (k < l + n)) || rate k != 0)
    && (List.range 8).all fun k => rate k == 0 || decide (first ≤ k)

namespace State

/-- The group configuration over port `p`. -/
def grpCfg (s : State) (p : Nat) : Nat := s.rd R.PG_GRP_CFG [p / 64, p / 8 % 8]

/-- A port starts at lane `p` (R161, R164). Log 76 (DEDUCED). -/
def isPort (s : State) (p : Nat) : Bool := s.variant.hasDie (p / 64) && decide (p < 512) && bit (s.grpCfg p) (p % 8)

/-- The lane rate code of a port. -/
def portRate (s : State) (p : Nat) : Nat := if p % 8 < 4 then bits (s.grpCfg p) 19 16 else bits (s.grpCfg p) 23 20

/-- Port speed in Gb/s (R163). -/
def portSpeed (s : State) (p : Nat) : Nat := laneRun (bits (s.grpCfg p) 7 0) (p % 8) * laneGb (s.portRate p)

/-- The ports of a group. -/
def groupPorts (s : State) (g : Nat) : List Nat := ((List.range 8).map (8 * g + ·)).filter s.isPort

/-- Indexes of a port's registers. -/
def pix (p : Nat) : List Nat := [p / 64, p % 64]

/-- The port is up (R180). -/
def linkUp (s : State) (p : Nat) : Bool := s.isPort p && s.isOn F.PG_PORT_STAT_LINK_UP (pix p)

/-- Flow control mode: 0 none, 1 PAUSE, 2 PFC. -/
def fcMode (s : State) (p : Nat) : Nat := s.get F.PG_PORT_CTRL_FC_MODE (pix p)

/-- The lanes of a port, as bits of its group (R161). -/
def portLanes (s : State) (p : Nat) : Nat := (2 ^ laneRun (bits (s.grpCfg p) 7 0) (p % 8) - 1) * 2 ^ (p % 8)

/-- The technology that a port advertises: the one of its lane rate and width (R166). -/
def technology (s : State) (p : Nat) : Nat × Nat := (s.portRate p, laneRun (bits (s.grpCfg p) 7 0) (p % 8))

/-- PAUSE directions shown in PG_PORT_STAT (R166). -/
def showPause (s : State) (p : Nat) : State :=
  let both := if s.fcMode p ≠ 1 then 0 else if s.isOn F.PG_PORT_CTRL_AN_EN (pix p) then s.port.anPause.at 0 p else 3
  (s.set F.PG_PORT_STAT_TX_PAUSE (pix p) (both % 2)).set F.PG_PORT_STAT_RX_PAUSE (pix p) (both / 2)

/-- A write of PG_GRP_CFG (R162, R164). -/
def writeGroup (s : State) (g v : Nat) : State :=
  let ix := [g / 8, g % 8]
  if (s.groupPorts g).any (fun p => s.isOn F.PG_PORT_CTRL_ADMIN_UP (pix p)) || !groupValid v then
    s.set F.PG_GRP_STAT_CFG_REFUSED ix 1
  else
    let t := (s.wr R.PG_GRP_CFG ix (v &&& R.PG_GRP_CFG.rw)).set F.PG_GRP_STAT_LANE_LOCK ix 0
    { t with fab.calDue := addOnce (g / 8) t.fab.calDue }

/-! ## Pauses (R171 to R174) -/

/-- Ticks of `q` pause quanta at the port's speed (R173). -/
def quantaTicks (s : State) (p q : Nat) : Nat := ceilDiv (q * 512) (max 1 (s.portSpeed p))

/-- Priority `pri` of a port is paused by the partner now; priority 8 is PAUSE (R173). -/
def paused (s : State) (p pri : Nat) : Bool := decide (s.clock.tick < s.port.pauseEnd.at 0 (key2 p pri))

/-- Egress queue `c` of a port is paused (R173). -/
def queuePaused (s : State) (p c : Nat) : Bool :=
  s.paused p 8 || (List.range 8).any fun pri =>
    s.paused p pri && bits (s.rd R.PG_PFC_MAP (pix p)) (3 * pri + 2) (3 * pri) == c

/-- Set a received pause of `q` quanta; quanta 0 ends it (R173). -/
def setPause (s : State) (p pri q : Nat) : State :=
  let k := key2 p pri
  let now := s.clock.tick
  let t := { s with
    port.pauseEnd := s.port.pauseEnd.put 0 k (if q = 0 then 0 else now + s.quantaTicks p q),
    port.pausedAt := s.port.pausedAt.put 0 k (if q = 0 then 0 else if s.paused p pri then s.port.pausedAt.at 0 k else now + 1) }
  if pri < 8 then
    t.set F.PG_PORT_STAT_PFC_RX_XOFF (pix p) (setBit (t.get F.PG_PORT_STAT_PFC_RX_XOFF (pix p)) pri (q != 0))
  else t

/-- The priorities the group's FIFO makes the port hold (R172); bit 8 is PAUSE. -/
def fifoMask (s : State) (p : Nat) : Nat :=
  if s.port.fifoHold.at 0 (p / 8) = 0 then 0
  else if s.fcMode p = 2 then s.get F.PG_PFC_CFG_PFC_EN (pix p)
  else if s.fcMode p = 1 then 256 else 0

/-- Priorities the port holds off, by its counts or by the FIFO. -/
def holding (s : State) (p : Nat) : Nat := s.port.xoff.at 0 p ||| s.fifoMask p

/-- Show the held priorities. -/
def showHolding (s : State) (p : Nat) : State := s.set F.PG_PORT_STAT_PFC_TX_XOFF (pix p) (s.holding p % 256)

/-- The port may send pause frames of its mode for `pri` (R166, R171). -/
def sendsPause (s : State) (p pri : Nat) : Bool :=
  s.linkUp p && (if pri = 8 then s.fcMode p == 1 && s.isOn F.PG_PORT_STAT_TX_PAUSE (pix p)
    else s.fcMode p == 2 && bit (s.get F.PG_PFC_CFG_PFC_EN (pix p)) pri)

/-- A MAC control frame of 64 bytes (R577): the multicast address, the port's own, EtherType, opcode, parameters, padding
and FCS. -/
def controlFrame (sa op : Nat) (params : List Byte) : List Byte :=
  let body := beBytes 0x0180C2000001 6 ++ beBytes sa 6 ++ beBytes 0x8808 2 ++ beBytes op 2 ++ params
  let body := body ++ List.replicate (60 - body.length) 0
  body ++ leBytes (crc32 body) 4

/-- The PAUSE frame (`pri` = 8) or the PFC frame for one priority that a port sends: one time, or the enable vector and
eight of them (R171, R577). -/
def pauseFrame (s : State) (p pri q : Nat) : List Byte :=
  let sa := s.rd R.PG_PORT_SA_HI (pix p) * 2 ^ 32 + s.rd R.PG_PORT_SA_LO (pix p)
  if pri = 8 then controlFrame sa 1 (beBytes q 2)
  else controlFrame sa 0x101 (beBytes (2 ^ pri) 2 ++ (List.range 8).flatMap fun i => beBytes (if i = pri then q else 0) 2)

/-- The loopback setting of a port: 0 none, 1 near end, 2 far end (R182). -/
def loopback (s : State) (p : Nat) : Nat := s.get F.PG_PORT_CTRL_LOOPBACK (pix p)

/-- A frame sent in near-end loopback comes back to the port's own receiver (R182). -/
def loopBack (s : State) (p : Nat) (bytes : List Byte) : State :=
  if s.loopback p = 1 then { s with port.looped := s.port.looped.put [] p (s.port.looped.at [] p ++ [bytes]) } else s

/-- What the receiver of a port can hear passes `ok`: in near-end loopback, only the oldest frame that the port sent (R182). -/
def hears (s : State) (p : Nat) (ok : List Byte → Bool) : Bool :=
  if s.loopback p = 1 then (s.port.looped.at [] p).head?.any ok else true

/-- The frame that came back has been received. -/
def unloop (s : State) (p : Nat) : State := { s with port.looped := s.port.looped.put [] p (s.port.looped.at [] p).tail }

/-- A frame as a MAC sends it: behind preamble and delimiter, and followed by its idle (R169). -/
def lineFrame (p : Nat) (bytes : List Byte) (whole : Bool) : LineFrame :=
  { port := p, preamble := List.replicate 7 0x55, sfd := 0xD5, bytes := bytes, whole := whole, idle := 12 }

/-- The port sends a PAUSE frame (`pri` = 8) or a PFC frame for one priority, with `q` quanta (R169, R171, R192, R577). -/
def sendPause (p pri q : Nat) (s : State) : State :=
  if s.sendsPause p pri then
    let bs := s.pauseFrame p pri q
    let t := { s with
      out.pauses := lineFrame p bs true :: s.out.pauses
      port.sentAt := s.port.sentAt.put 0 (key2 p pri) s.clock.tick
      ev.bwTx := s.ev.bwTx.put 0 p (s.ev.bwTx.at 0 p + bs.length) }
    let t := ((t.inc R.TX_OK_FRAMES (pix p)).inc R.TX_OK_OCTETS (pix p) bs.length).loopBack p bs
    if pri = 8 then t.inc R.TX_PAUSE (pix p) else t.inc R.TX_PFC (pix p ++ [pri])
  else s

/-- The quanta an XOFF sets. -/
def quanta (s : State) (p : Nat) : Nat := s.get F.PG_PFC_CFG_QUANTA (pix p)

/-- The byte count that governs `pri` of a port: one priority under PFC, the sum under PAUSE (R171). -/
def fcCount (s : State) (p pri : Nat) : Nat :=
  if pri = 8 then ((List.range 8).map (s.fcHeld p)).sum else s.fcHeld p pri

/-- The mode and enables make byte counts of `pri` act on this port (R171). -/
def fcActs (s : State) (p pri : Nat) : Bool :=
  if pri = 8 then s.fcMode p == 1 else s.fcMode p == 2 && bit (s.get F.PG_PFC_CFG_PFC_EN (pix p)) pri

/-! ## The receiving MAC (R20, R167 to R172) -/

/-- Bytes in a group's receive FIFO. Log 75 (DEDUCED). -/
def fifoBytes (s : State) (g : Nat) : Nat := ((s.port.fifo.at [] g).map fun f => f.bytes.length).sum

/-- Show the FIFO's fill and peak in KiB (R189). -/
def showFill (s : State) (g : Nat) : State :=
  let ix := [g / 8, g % 8]
  let kib := min 511 (ceilDiv (s.fifoBytes g) 1024)
  let t := s.set F.PG_GRP_FIFO_FILL_FILL ix kib
  if t.get F.PG_GRP_FIFO_FILL_PEAK ix < kib then t.set F.PG_GRP_FIFO_FILL_PEAK ix kib else t

/-- Replace a group's FIFO. -/
def setFifo (s : State) (g : Nat) (l : List Frame) : State :=
  ({ s with port.fifo := s.port.fifo.put [] g l }).showFill g

/-- A recognised tag protocol identifier (R184). -/
def isTpid (s : State) (d v : Nat) : Bool :=
  v == 0x8100 || v == 0x88A8 || (s.isOn F.PG_TPID_ALT_EN [d] && v == s.get F.PG_TPID_TPID_ALT [d])

/-- The outer tag's control word, if the frame has one (R184). -/
def outerTag (s : State) (d : Nat) (bs : List Byte) : Option Nat :=
  if 16 ≤ bs.length ∧ s.isTpid d (ofBe (slice bs 12 2)) then some (ofBe (slice bs 14 2)) else none

/-- The inner VID (R184). -/
def innerVid (s : State) (d : Nat) (bs : List Byte) : Nat :=
  if (s.outerTag d bs).isSome ∧ 20 ≤ bs.length ∧ ofBe (slice bs 16 2) = 0x8100 then ofBe (slice bs 18 2) % 4096 else 0

/-- The priority fixed at admission (R170). -/
def priorityOf (s : State) (p : Nat) (bs : List Byte) : Nat :=
  match s.outerTag (p / 64) bs with
  | some tci => tci / 2 ^ 13
  | none => s.get F.PG_PORT_CTRL_DEF_PRI (pix p)

/-- The slice that serves a port (R16). -/
def sliceOf (p : Nat) : Nat := 4 * (p / 64) + p / 16 % 4

/-- Ingress time: the capture less the receive adjustment in ps (R175), in units of 2^-16 ns. -/
def ingressTime (s : State) (p back : Nat) : Nat :=
  let cap := Int.ofNat (s.clock.tai * 65536) - Int.ofNat back
  ((cap - roundDivInt (signed 32 (s.rd R.PG_TS_RX_ADJ (pix p)) * 65536) 1000) % Int.ofNat (taiSpan * 65536)).toNat

/-- The receiver of a port is working: RUN or DRAIN, and the port up (R100). Log 85 (DEDUCED). -/
def lineOpen (s : State) (p : Nat) : Bool :=
  s.forwarding && s.live (p / 64) && s.linkUp p && !(s.tack.edrain.any fun e => e.macsStopped)

/-- What it receives reaches the MAC: not in far-end loopback (R182). Log 85 (DEDUCED). -/
def macReceives (s : State) (p : Nat) : Bool := s.lineOpen p && s.loopback p != 2

/-- The reason for which a frame of `n` bytes with its FCS fails at the MAC, if any: the first of FCS error, runt and
oversize (R167). -/
def macFail (s : State) (p n : Nat) (rxErr : Bool) : Option RegSpec :=
  if rxErr then some R.RX_FCS_ERR
  else if n < 64 then some R.RX_RUNT
  else if min 16000 (s.get F.PG_PORT_LEN_MAX_LEN (pix p)) < n then some R.RX_OVERSIZE
  else none

/-- The headroom test fails (R171). -/
def headroomFull (s : State) (p pri : Nat) : Bool :=
  let lim := (s.get F.PG_FC_THR_XOFF (pix p) + s.get F.PG_FC_HEAD_HEADROOM (pix p)) * 64
  (s.fcActs p pri && decide (lim ≤ s.fcHeld p pri)) || (s.fcActs p 8 && decide (lim ≤ s.fcCount p 8))

/-- Count an admitted frame of `n` bytes with its FCS (R168, R192, R535). -/
def countAdmitted (s : State) (p n : Nat) : State :=
  let t := (s.inc R.RX_OK_FRAMES (pix p)).inc R.RX_OK_OCTETS (pix p) n
  { t.countIng (sliceOf p) 8 n with ev.bwRx := t.ev.bwRx.put 0 p (t.ev.bwRx.at 0 p + n) }

/-- The frame as its MAC admits it: `bytes` without FCS (R21, R22). -/
def newFrame (s : State) (p : Nat) (bytes : List Byte) (t16 : Nat) (tail : Bool) : Frame :=
  { m := { inPort := p, slice := sliceOf p, t16 := t16, pri := s.priorityOf p bytes, rxLen := bytes.length + 4,
           len0 := bytes.length, held := true }
    bytes := bytes, brand := crc32c bytes, tail := tail }

/-- Admit a frame to the group's FIFO, or discard it for headroom or for want of room (R171, R172). Log 75 (DEDUCED). -/
def admitFrame (s : State) (p : Nat) (f : Frame) : State :=
  if s.headroomFull p f.m.pri then s.inc R.RX_HEADROOM_DROP (pix p)
  else if 256 * 1024 < s.fifoBytes (p / 8) + f.bytes.length then s.inc R.RX_OVERRUN (pix p)
  else
    let t := s.setFifo (p / 8) (s.port.fifo.at [] (p / 8) ++ [f])
    let t := t.setHeld p f.m.pri (t.fcHeld p f.m.pri + f.m.len0)
    if f.tail then t else t.countAdmitted p f.m.rxLen

/-- The symbols in error that RS-FEC decoding corrects in a codeword of a port: RS(528,514) or RS(544,514); none where no FEC
is in use (R165). Log 86 (DEDUCED). -/
def fecLimit (s : State) (p : Nat) : Option Nat :=
  match s.get F.PG_PORT_STAT_FEC_ACTIVE (pix p) with
  | 0 => none
  | 1 => some 7
  | _ => some 15

/-- RS-FEC decoding of codewords with these numbers of symbols in error: those it corrects, those it cannot, and the symbols
corrected are counted (R165, R192). Log 86 (DEDUCED). -/
def countFec (s : State) (p : Nat) (fec : List Nat) : State :=
  match s.fecLimit p with
  | none => s
  | some n =>
    let good := fec.filter fun e => decide (0 < e) && decide (e ≤ n)
    ((s.inc R.FEC_CORR_CW (pix p) good.length).inc R.FEC_UNCORR_CW (pix p) (fec.filter fun e => decide (n < e)).length).inc
      R.FEC_CORR_SYM (pix p) good.sum

/-- One of the codewords is uncorrectable: what they touch is a receive error (R165). Log 86 (DEDUCED). -/
def fecFails (s : State) (p : Nat) (fec : List Nat) : Bool := (s.fecLimit p).any fun n => fec.any fun e => decide (n < e)

/-- A frame is being received: its head has come and its tail has not (R29). -/
def receiving (s : State) (p : Nat) : Bool :=
  s.port.ctTail.at 0 p != 0 || (s.port.fifo.at [] (p / 8)).any fun f => f.m.inPort == p && f.tail

/-- What far-end loopback does with received data: it is sent again as it came (R182). -/
def resend (s : State) (p : Nat) (bytes : List Byte) : State :=
  { s with out.wire := { port := p, preamble := [], sfd := 0, bytes := bytes, whole := true, idle := 0 } :: s.out.wire }

/-- The frame's delimiter, `back` 2^-16 ns ago, did not arrive before the die's drain instant; a step of TAI does not matter
(R104). -/
def drainDiscards (s : State) (p back : Nat) : Bool :=
  s.get F.MD_UNIT_MODE_MODE [p / 64] == 4 && s.modes.odrain.any fun o => decide (o.startTick * 65536 ≤ s.clock.tick * 65536 - back)

end State

/-! ## Commands -/

/-- FRAME_ADMIT: port `p` receives `bytes`, FCS included, behind `rx.1` bytes of preamble and the start-of-frame
delimiter; `rx.2` says that the PCS marked it; `fec` gives the symbols in error of each codeword it came in (R165); `back` is how long
ago its delimiter crossed, in 2^-16 ns. With `early`, only the head of a frame whose tail is still arriving has come (R29,
R178). A frame behind another preamble is not accepted and not counted (R167, log 207 (DEDUCED)). Log 85 (DEDUCED). -/
def execFrameAdmit (p : Nat) (bytes : List Byte) (rx : Nat × Bool) (fec : List Nat) (back : Nat) (early : Bool)
    (s : State) : Out :=
  done (fun s =>
    let pre := rx.1
    let rxErr := rx.2 || s.fecFails p fec
    let s := if s.lineOpen p then s.countFec p fec else s
    let n := bytes.length
    let body := bytes.take (n - 4)
    let t16 := s.ingressTime p back
    let badFcs := rxErr || ofLe (bytes.drop (n - 4)) != crc32 body
    if s.lineOpen p && s.loopback p == 2 then s.resend p bytes
    else if !s.macReceives p || pre != 7 || s.receiving p || !s.hears p (fun b => (if early then b.take n else b) == bytes) then s
    else if early then
      -- the whole head of 512 bytes must have come; its FCS is tested with its tail
      if n < 512 ∨ ofBe (slice bytes 12 2) = 0x8808 then s
      else if s.drainDiscards p back then s.inc R.RX_DRAIN_DISCARD (State.pix p)
      else { s with port.rxBad := s.port.rxBad.put 0 p (b2n rxErr) }.admitFrame p (s.newFrame p bytes t16 true)
    else let s := s.unloop p; match s.macFail p n badFcs with
      | some c => s.inc c (State.pix p)
      | none =>
        if ofBe (slice body 12 2) = 0x8808 then
          if ofBe (slice body 14 2) = 1 ∨ ofBe (slice body 14 2) = 0x101 then s else s.inc R.RX_MACCTL_OTHER (State.pix p)
        else if s.drainDiscards p back then s.inc R.RX_DRAIN_DISCARD (State.pix p)
        else s.admitFrame p (s.newFrame p body t16 false)) s

/-- GROUP_CONFIG_WRITE (R162, R164). -/
def execGroupConfigWrite (g v : Nat) (s : State) : Out :=
  done (fun s => onlyIf (s.powered && s.live (g / 8)) (fun s => s.writeGroup g v) s) s

/-- RS(528,514) is used on 25.78125 Gb/s lanes: the port has the ability and asks for it by PG_PORT_CTRL.FEC; `able` and `ask`
are the partner's (R166). Log 77 (PRESUMED). -/
def State.usesRs (s : State) (p : Nat) (able ask : Bool) : Bool := able && (ask || s.get F.PG_PORT_CTRL_FEC (State.pix p) == 1)

/-- AN_COMPLETE: negotiation with the partner ends. `techs`: the technologies the partner advertises, as lane rate codes and
widths; `pause`: its bits C1:C0; `rs`: it has RS(528,514), and asks for it (R166). Log 77 (PRESUMED). -/
def execAnComplete (p : Nat) (techs : List (Nat × Nat)) (pause : Nat) (rs : Bool × Bool) (s : State) : Out :=
  done (fun s =>
    let (rsAble, rsAsk) := rs
    if s.powered && s.live (p / 64) && !s.txOff && s.isPort p && s.isOn F.PG_PORT_CTRL_ADMIN_UP (State.pix p)
        && s.isOn F.PG_PORT_CTRL_AN_EN (State.pix p) && !s.isOn F.PG_PORT_STAT_AN_DONE (State.pix p)
        && s.port.anBreak.at 0 p == 0 then
      if techs.contains (s.technology p) then
        let mine := s.get F.PG_PORT_AN_PAUSE_ADV (State.pix p)
        -- IEEE 802.3 Annex 28B: bit 0 PAUSE, bit 1 ASM_DIR
        let res := if bit mine 0 && bit pause 0 then 3
          else if mine == 2 && pause % 4 == 3 then 1
          else if mine == 3 && pause % 4 == 2 then 2 else 0
        let t := ({ s with port.anPause := s.port.anPause.put 0 p res }).set F.PG_PORT_STAT_AN_DONE (State.pix p) 1
        let t := t.set F.PG_PORT_STAT_FEC_ACTIVE (State.pix p)
          (if t.portRate p = 2 then b2n (t.usesRs p rsAble rsAsk) else t.get F.PG_PORT_CTRL_FEC (State.pix p))
        { t with port.upFrom := t.port.upFrom.put 0 p (t.clock.tick + 1) }.showPause p
      else
        { (s.raise F.PG_PORT_EVT_AN_FAIL (State.pix p)).inc R.AN_FAIL (State.pix p) with port.anBreak := s.port.anBreak.put 0 p 1 }
    else s) s

/-- AN_RESTART: the break-link timer expires and negotiation starts again (R166). -/
def execAnRestart (p : Nat) (s : State) : Out :=
  done (fun s => if s.txOff then s else { s with port.anBreak := s.port.anBreak.erase p }) s

namespace State

/-- The conditions that a port's line shows (R180): every lane of `lanes` locked, no local or remote fault, and training
complete where it is enabled, which it is with negotiation or LT_EN (R166). -/
def lineGood (s : State) (p lanes : Nat) (lf rf trained : Bool) : Bool :=
  (lanes &&& s.portLanes p) == s.portLanes p && !lf && !rf
    && (trained || !(s.isOn F.PG_PORT_CTRL_AN_EN (pix p) || s.isOn F.PG_PORT_CTRL_LT_EN (pix p)))

/-- The links of ports train or work: the mode forwards, or a load has applied its port section (R100). -/
def linksTrain (s : State) : Bool :=
  s.forwarding || (s.mode == .load && !s.modes.inReset && s.load.phase == .verified && !s.load.todo.any fun e => e.typ == 0x0020)

/-- The line of a port can be seen: its die is up, its links train, and ADMIN_UP is set (R164, R180). -/
def lineSeen (s : State) (p : Nat) : Bool :=
  s.powered && s.linksTrain && s.live (p / 64) && s.isPort p && s.isOn F.PG_PORT_CTRL_ADMIN_UP (pix p) && !s.txOff

/-- The lock of the port's lanes and the faults of its RS as the line shows them; the RS sends remote fault while the receive side
is failed (R181, R189, R191). Log 88 (DEDUCED). -/
def showLine (s : State) (p lanes : Nat) (lf rf : Bool) : State :=
  let g := [p / 64, p / 8 % 8]
  let mask := s.portLanes p
  let old := s.get F.PG_GRP_STAT_LANE_LOCK g
  let failed := (lanes &&& mask) != mask || lf
  let s := { s with port.faulting := s.port.faulting.put 0 p (b2n failed) }
  let t := s.set F.PG_GRP_STAT_LANE_LOCK g (old - (old &&& mask) + (lanes &&& mask))
  (t.set F.PG_PORT_STAT_LOCAL_FAULT (pix p) (b2n lf)).set F.PG_PORT_STAT_REMOTE_FAULT (pix p) (b2n rf)

/-- UP_HOLD_MS has passed with ADMIN_UP set and negotiation, where enabled, complete, and `us` µs with the line good (R180). -/
def heldUp (s : State) (p us : Nat) : Bool :=
  let ms := s.get F.PG_PORT_TIMERS_UP_HOLD_MS (pix p)
  decide (ms * 1000 ≤ us) && decide (ms * 1000000 ≤ s.since (s.port.upFrom.at 0 p - 1))

end State

/-- LINK_UP: the line of port `l.1`, which is not up, shows its lanes locked or not, its faults, and training complete or not, and
has done so for the last operand's µs: with every condition of R180 held for UP_HOLD_MS the port is up. Log 88 (DEDUCED). -/
def execLinkUp (l : Nat × Nat × Bool × Bool × Bool × Nat) (s : State) : Out :=
  done (fun s =>
    let (p, lanes, lf, rf, trained, us) := l
    onlyIf (s.lineSeen p && !s.linkUp p) (fun s =>
      let up := s.lineGood p lanes lf rf trained && s.heldUp p us
        && (!s.isOn F.PG_PORT_CTRL_AN_EN (State.pix p) || s.isOn F.PG_PORT_STAT_AN_DONE (State.pix p))
      let s := s.showLine p lanes lf rf
      if !up then s
      else
        let t := if s.isOn F.PG_PORT_CTRL_AN_EN (State.pix p) then s
          else s.set F.PG_PORT_STAT_FEC_ACTIVE (State.pix p) (s.get F.PG_PORT_CTRL_FEC (State.pix p))
        ((t.set F.PG_PORT_STAT_LINK_UP (State.pix p) 1).raise F.PG_PORT_EVT_LINK_CHANGE (State.pix p)).showPause p) s) s

/-- A MAC control frame of an opcode with these parameters. -/
def State.isControl (op : Nat) (params b : List Byte) : Bool :=
  ofBe (slice b 12 2) == 0x8808 && ofBe (slice b 14 2) == op && slice b 16 params.length == params

/-- PAUSE_RX: a good PAUSE frame is received; `q` is its quanta (R168, R173). Log 85 (DEDUCED). -/
def execPauseRx (p q : Nat) (s : State) : Out :=
  done (fun s =>
    onlyIf (s.macReceives p && s.hears p (State.isControl 1 (beBytes q 2))) (fun s =>
      let t := (s.unloop p).inc R.RX_PAUSE (State.pix p)
      if t.fcMode p == 1 && t.isOn F.PG_PORT_STAT_RX_PAUSE (State.pix p) then t.setPause p 8 (q % 65536) else t) s) s

/-- PFC_RX: a good PFC frame is received with class vector `vec` and eight quanta (R168, R173, R174). Log 85 (DEDUCED). -/
def execPfcRx (p vec : Nat) (qs : List Nat) (s : State) : Out :=
  done (fun s =>
    onlyIf (s.macReceives p && s.hears p (State.isControl 0x101 (beBytes vec 2 ++ (List.range 8).flatMap fun i => beBytes (qs.getD i 0) 2)))
      (fun s => forEach (setPositions vec 8) (fun pri t =>
        let t := t.inc R.RX_PFC (State.pix p ++ [pri])
        if t.fcMode p == 2 && !bit (t.get F.PG_PORT_STAT_PFC_WD_ACTIVE (State.pix p)) pri then
          t.setPause p pri (qs.getD pri 0 % 65536)
        else t) (s.unloop p)) s) s

/-- MACCTL_OTHER_RX: a good MAC control frame of another opcode is discarded and counted (R168). -/
def execMacctlOtherRx (p : Nat) (s : State) : Out :=
  done (fun s => onlyIf (s.macReceives p && s.loopback p != 1) (fun s => s.inc R.RX_MACCTL_OTHER (State.pix p)) s) s

/-- PAUSE_EXPIRY: a received pause has run out its quanta (R173). -/
def execPauseExpiry (p pri : Nat) (s : State) : Out :=
  done (fun s =>
    onlyIf (s.port.pauseEnd.at 0 (key2 p pri) != 0 && !s.paused p pri) (fun s => s.setPause p pri 0) s) s

/-- FC_XOFF: a byte count has reached XOFF; `pri` is 8 for PAUSE (R171). -/
def execFcXoff (p pri : Nat) (s : State) : Out :=
  done (fun s =>
    onlyIf (decide (pri ≤ 8) && s.linkUp p && s.fcActs p pri && !bit (s.port.xoff.at 0 p) pri
        && decide (s.get F.PG_FC_THR_XOFF (State.pix p) * 64 ≤ s.fcCount p pri)) (fun s =>
      let t := { s with port.xoff := s.port.xoff.put 0 p (setBit (s.port.xoff.at 0 p) pri true) }
      (t.sendPause p pri (s.quanta p)).showHolding p) s) s

/-- FC_XON: the count has fallen to XON or below: quanta 0, unless the FIFO still holds the priority (R171, R172). -/
def execFcXon (p pri : Nat) (s : State) : Out :=
  done (fun s =>
    onlyIf (bit (s.port.xoff.at 0 p) pri && decide (s.fcCount p pri ≤ s.get F.PG_FC_THR_XON (State.pix p) * 64)) (fun s =>
      let t := { s with port.xoff := s.port.xoff.put 0 p (setBit (s.port.xoff.at 0 p) pri false) }
      (if bit (t.fifoMask p) pri then t else t.sendPause p pri 0).showHolding p) s) s

/-- PFC_REFRESH: half of QUANTA has elapsed while the priority is held (R171). -/
def execPfcRefresh (p pri : Nat) (s : State) : Out :=
  done (fun s =>
    onlyIf (bit (s.holding p) pri
        && decide (s.quanta p * 256 ≤ s.since (s.port.sentAt.at 0 (key2 p pri)) * max 1 (s.portSpeed p)))
      (State.sendPause p pri (s.quanta p)) s) s

/-- FIFO_XOFF: the fill of group `g` has reached FIFO_XOFF KiB (R172). -/
def execFifoXoff (g : Nat) (s : State) : Out :=
  done (fun s =>
    onlyIf (s.port.fifoHold.at 0 g == 0 && s.live (g / 8)
        && decide (s.get F.PG_GRP_FIFO_FIFO_XOFF [g / 8, g % 8] * 1024 ≤ s.fifoBytes g)) (fun s =>
      let t := { s with port.fifoHold := s.port.fifoHold.put 0 g 1 }
      forEach (t.groupPorts g) (fun p u =>
        (forEach (setPositions (u.fifoMask p) 9) (fun pri w => w.sendPause p pri (w.quanta p)) u).showHolding p) t) s) s

/-- FIFO_XON: the fill has fallen to FIFO_XON KiB or below (R172). -/
def execFifoXon (g : Nat) (s : State) : Out :=
  done (fun s =>
    onlyIf (s.port.fifoHold.at 0 g != 0 && decide (s.fifoBytes g ≤ s.get F.PG_GRP_FIFO_FIFO_XON [g / 8, g % 8] * 1024))
      (fun s =>
        let t := { s with port.fifoHold := s.port.fifoHold.erase g }
        forEach (t.groupPorts g) (fun p u =>
          (forEach (setPositions (s.fifoMask p) 9) (fun pri w =>
            if bit (w.port.xoff.at 0 p) pri then w else w.sendPause p pri 0) u).showHolding p) t) s) s

/-- PFC_WD_TRIP: the partner has kept a priority paused for WD_MS ms (R174). -/
def execPfcWdTrip (p pri : Nat) (s : State) : Out :=
  done (fun s =>
    let wd := s.get F.PG_PFC_WD_WD_MS (State.pix p)
    onlyIf (wd != 0 && decide (pri < 8) && s.paused p pri && s.port.pausedAt.at 0 (key2 p pri) != 0
        && decide (wd * 1000000 ≤ s.clock.tick + 1 - s.port.pausedAt.at 0 (key2 p pri))) (fun s =>
      let t := s.setPause p pri 0
      let until_ := t.clock.tick + t.get F.PG_PFC_WD_RECOVER_MS (State.pix p) * 1000000
      let t := { t with port.wdEnd := t.port.wdEnd.put 0 (key2 p pri) until_ }
      ((t.set F.PG_PORT_STAT_PFC_WD_ACTIVE (State.pix p)
        (setBit (t.get F.PG_PORT_STAT_PFC_WD_ACTIVE (State.pix p)) pri true)).raise F.PG_PORT_EVT_PFC_WD (State.pix p)).inc
        R.PFC_WD_TRIPS (State.pix p)) s) s

/-- PFC_WD_RECOVER: RECOVER_MS has passed (R174). -/
def execPfcWdRecover (p pri : Nat) (s : State) : Out :=
  done (fun s =>
    onlyIf (bit (s.get F.PG_PORT_STAT_PFC_WD_ACTIVE (State.pix p)) pri
        && decide (s.port.wdEnd.at 0 (key2 p pri) ≤ s.clock.tick)) (fun s =>
      let t := s.set F.PG_PORT_STAT_PFC_WD_ACTIVE (State.pix p)
        (setBit (s.get F.PG_PORT_STAT_PFC_WD_ACTIVE (State.pix p)) pri false)
      { t with port.wdEnd := t.port.wdEnd.erase (key2 p pri) }) s) s

namespace State

/-- Show the head of the two-step FIFO (R191). -/
def showTxts (s : State) (p : Nat) : State :=
  let l := s.port.txts.at [] p
  match l with
  | [] => s.wr R.PG_TXTS_HEAD (pix p) 0
  | h :: _ => s.wr R.PG_TXTS_HEAD (pix p) (2 ^ 31 + l.length * 2 ^ 16 + h.1)

/-- A two-step timestamp is made (R176). -/
def pushTxts (s : State) (p tag t16 : Nat) : State :=
  let l := s.port.txts.at [] p
  if l.length < 16 then
    (({ s with port.txts := s.port.txts.put [] p (l ++ [(tag, t16)]) }).showTxts p).raise F.PG_PORT_EVT_TXTS_READY (pix p)
  else (s.inc R.TXTS_OVF (pix p)).raise F.PG_PORT_EVT_TXTS_OVF (pix p)

/-- A read of PG_TXTS_HEAD answers the head; with VALID 1 it latches the time and removes the entry (R176). -/
def popTxts (s : State) (p : Nat) : State :=
  let t := { s with out.readData := s.rd R.PG_TXTS_HEAD (pix p) }
  match t.port.txts.at [] p with
  | [] => t
  | h :: r =>
    let ns := h.2 / 65536
    let sec := ns / 1000000000
    let u := ((((t.wr R.PG_TXTS_SEC_LO (pix p) (sec % 2 ^ 32)).wr R.PG_TXTS_SEC_HI (pix p) (sec / 2 ^ 32)).wr
      R.PG_TXTS_NS (pix p) (ns % 1000000000)).wr R.PG_TXTS_FRAC (pix p) (h.2 % 65536))
    ({ u with port.txts := u.port.txts.put [] p r }).showTxts p

end State

/-- TXTS_POP: a read of PG_TXTS_HEAD (R176). -/
def execTxtsPop (p : Nat) (s : State) : Out :=
  done (fun s => onlyIf (s.powered && s.live (p / 64) && s.isPort p) (fun s => s.popTxts p) s) s

/-- BRAND_INJECT_ARM: GO of BR_INJECT on die `d` names a port (R206). -/
def execBrandInjectArm (d p : Nat) (s : State) : Out :=
  done (fun s => onlyIf (s.powered && s.live d && decide (d < 8)) (fun s =>
    (s.set F.BR_INJECT_PORT [d] p).set F.BR_INJECT_GO [d] 1) s) s

/-- BRAND_INJECT_CANCEL (R206). -/
def execBrandInjectCancel (d : Nat) (s : State) : Out :=
  done (fun s => onlyIf (s.powered && s.live d && decide (d < 8)) (fun s => s.set F.BR_INJECT_GO [d] 0) s) s

end Sys2Proof.Machine
end

