-- ==== Sys2Proof/Machine/Lookup.lean ====
section
/-! DEFINITION. Searches of a die's tables: hashed stores, the sub-port map, the exact store, the LPM trie and the
ordered rule store (R183 to R188, R265 to R276, R286, R291, R312 to R317, R326, R327). -/

namespace Sys2Proof.Machine

namespace State

/-! ## Hashed stores (R186) -/

/-- The two buckets of a key: CRC-32C and CRC-32 over the seeds and the key's bytes. -/
def hashPair (seed0 seed1 : Nat) (key : List Byte) (nbits : Nat) : Nat × Nat :=
  (crc32c (leBytes seed0 4 ++ key) % 2 ^ nbits, crc32 (leBytes seed1 4 ++ key) % 2 ^ nbits)

/-- The indexes of a bucket's four entries. -/
def bucketIdx (b : Nat) : List Nat := (List.range 4).map (4 * b + ·)

/-- Find an entry passing `p` in the two buckets or in the overflow store that begins at `ovf` (R186). -/
def storeFind (s : State) (x : Nat) (t : Tbl) (b : Nat × Nat) (ovf : Nat) (p : Nat → Bool) : Option (Nat × Nat) :=
  let near := (bucketIdx b.1 ++ bucketIdx b.2).map fun i => (i, s.tab x t i)
  match near.find? fun e => p e.2 with
  | some e => some e
  | none => ((s.tabList x t).filter fun e => decide (ovf ≤ e.1)).find? fun e => p e.2

/-- The place of a new key: the lowest free entry of the bucket with more free entries, the first on a tie, else the
lowest free overflow entry of `n` (R186). -/
def storePlace (s : State) (x : Nat) (t : Tbl) (b : Nat × Nat) (ovf n : Nat) : Option Nat :=
  let free := fun c => (bucketIdx c).filter fun i => s.tab x t i == 0
  let f0 := free b.1
  let f1 := free b.2
  if f0.isEmpty && f1.isEmpty then ((List.range n).map (ovf + ·)).find? fun i => s.tab x t i == 0
  else if f0.length < f1.length then f1.head? else f0.head?

/-! ## The sub-port map (R183 to R188) -/

/-- Where the overflow store of the sub-port map begins, and its size. -/
def spOvf : Nat := 65536
def spOvfN : Nat := 1024

/-- The buckets of a sub-port key on die `d`. -/
def spHash (s : State) (d key : Nat) : Nat × Nat :=
  hashPair (s.rd R.PG_SP_SEED0 [d]) (s.rd R.PG_SP_SEED1 [d]) (leBytes key 8) 14

/-- The stored form of a map entry: never zero. -/
def spEntry (key sp : Nat) : Nat := (key * 2 ^ 16 + sp) * 2 + 1

/-- The entry that holds a key. -/
def spFind (s : State) (x d key : Nat) : Option (Nat × Nat) :=
  s.storeFind x .spMap (s.spHash d key) spOvf fun v => v % 2 == 1 && v / 2 ^ 17 == key

/-- The sub-port key of a frame (R183, R185), if its port's mode asks for one and the frame has it. -/
def spKey (s : State) (f : Frame) (vni : Option (Nat × Nat)) : Option Nat :=
  let p := f.m.inPort
  let d := p / 64
  let vid := ((s.outerTag d f.bytes).getD 0) % 4096
  let vlan := fun (inner : Nat) => p * 2 ^ 52 + vid * 2 ^ 40 + inner * 2 ^ 28
  let tun := fun (v : Nat × Nat) =>
    let q := s.isOn F.PG_SP_CFG_VNI_PORT (pix p)
    v.1 * 2 ^ 62 + b2n q * 2 ^ 61 + (if q then p else 0) * 2 ^ 52 + v.2
  match s.get F.PG_SP_CFG_MODE (pix p) with
  | 1 => some (vlan 0)
  | 2 => some (vlan (s.innerVid d f.bytes))
  | 3 => vni.map tun
  | 4 => some (match vni with | some v => tun v | none => vlan 0)
  | _ => none

/-- How a frame's mapping ends: its sub-port, or a discard with the sub-port whose tenant is charged (R188). -/
inductive SpFate where
  | takes (sp : Nat) (punt : Bool)
  | discard (charged : Option Nat)
  deriving DecidableEq, Repr

/-- Map a frame of a first pass (R183 to R188). -/
def mapSubport (s : State) (f : Frame) (vni : Option (Nat × Nat)) : SpFate :=
  let p := f.m.inPort
  let d := p / 64
  let valid := fun sp => bit (s.tab d .spTab sp) 63
  let dflt := s.get F.PG_SP_CFG_DEF_SUBPORT (pix p)
  let takeDef := fun punt => if valid dflt then .takes dflt punt else SpFate.discard none
  if s.get F.PG_SP_CFG_MODE (pix p) = 0 then takeDef false
  else
    let hit := (s.spKey f vni).bind fun k => (s.spFind d d k).map fun e => e.2 / 2 % 2 ^ 16
    match hit.filter valid with
    | some sp => .takes sp false
    | none => match s.get F.PG_SP_CFG_MISS_ACT (pix p) with
      | 1 => .discard (if valid dflt then some dflt else none)
      | 2 => takeDef true
      | _ => takeDef false

/-! ## The exact store (R266 to R269) -/

/-- Where the exact store's overflow begins, and its size. -/
def exOvf : Nat := 2 ^ 20
def exOvfN : Nat := 16384

/-- The buckets of a 160-bit key. -/
def exHash (s : State) (d key : Nat) : Nat × Nat :=
  hashPair (s.rd R.XT_SEED0 [d]) (s.rd R.XT_SEED1 [d]) (leBytes key 20) 18

/-- The entry that holds a key on die `x` under the seeds of die `d`. -/
def exFind (s : State) (x d key : Nat) : Option (Nat × Nat) :=
  s.storeFind x .exact (s.exHash d key) exOvf fun v => v != 0 && v / 2 ^ 32 == key

/-- `w` key-vector bits at offset `o`. -/
def kvField (kv o w : Nat) : Nat := (kv >>> o) % 2 ^ w

/-- The destination key of a plan (R266); `te` is the tenant entry. -/
def exKey (s : State) (d p kv te : Nat) : Option Nat :=
  let o := s.get F.XT_PLAN_A_EX_OFF [d, p]
  let typ := s.get F.XT_PLAN_A_EX_TYPE [d, p]
  let tagged := fun v => some (typ * 2 ^ 156 + v)
  match typ with
  | 1 => tagged (bits te 49 36 * 2 ^ 60 + kvField kv (s.get F.XT_PLAN_A_VID_OFF [d, p]) 12 * 2 ^ 48 + kvField kv o 48)
  | 2 => tagged (bits te 63 50 * 2 ^ 32 + kvField kv o 32)
  | 3 => tagged (bits te 63 50 * 2 ^ 128 + kvField kv o 128)
  | 4 => tagged (kvField kv o 20)
  | 5 => tagged (kvField kv o 152)
  | _ => none

/-- The source key of a plan (R266). -/
def srcKey (s : State) (d p kv te : Nat) : Nat :=
  2 ^ 156 + bits te 49 36 * 2 ^ 60 + kvField kv (s.get F.XT_PLAN_A_VID_OFF [d, p]) 12 * 2 ^ 48
    + kvField kv (s.get F.XT_PLAN_B_SA_OFF [d, p]) 48

/-- An ageable entry at `slot` is hit on die `d`: a die whose filter bit is clear sets it and sends a notice (R291).
Log 153 (DEDUCED). -/
def noteHit (s : State) (d slot key port tenant : Nat) : State :=
  if s.ts.filter.at 0 (key2 d slot) = 0 then
    { s with ts.filter := s.ts.filter.put 0 (key2 d slot) 1,
             ts.hits := s.ts.hits ++ [(slot, key, port, tenant, s.ts.applied.at 0 d)] }
  else s

/-! ## The LPM trie (R270 to R275) -/

/-- The index of a prefix: family, VRF, length and the address's leading bits (32 for IPv4, 64 for IPv6), masked. -/
def lpmIdx (fam vrf len addr : Nat) : Nat :=
  let w := if fam = 0 then 32 else 64
  ((fam * 2 ^ 14 + vrf) * 2 ^ 7 + len) * 2 ^ 64 + addr / 2 ^ (w - len) * 2 ^ (w - len)

/-- The bits of an address in the LPM. -/
def lpmWidth (fam : Nat) : Nat := if fam = 0 then 32 else 64

/-- The levels below the root: the address bit depth each starts after, and its stride (R271). -/
def lpmLevels (fam : Nat) : List (Nat × Nat) :=
  if fam = 0 then [(16, 4), (20, 4), (24, 4), (28, 4)] else [(16, 8), (24, 8), (32, 8), (40, 8), (48, 8), (56, 8)]

/-- Fields of a slot word and of a default word (R272). -/
def slotType (w : Nat) : Nat := bits w 31 30
def slotTarget (w : Nat) : Nat := bits w 22 0
def wordLen (w : Nat) : Nat := bits w 29 23
def wordAo (w : Nat) : Nat := bits w 16 0

/-- The root key of (FAM, VRF, TOP), and where the root store's overflow begins and its size (R270). -/
def rootKey (fam vrf top : Nat) : Nat := fam * 2 ^ 30 + vrf * 2 ^ 16 + top
def rootOvf : Nat := 2 ^ 19
def rootOvfN : Nat := 4096

/-- The place of a node's slot `k`, or of its default for k = 256, and that of a VRF default. -/
def lpWordIdx (fam node k : Nat) : Nat := (fam * 2 ^ 18 + node) * 512 + k
def vrfIdx (fam vrf : Nat) : Nat := fam * 2 ^ 14 + vrf

/-- The buckets of a root key under the seeds of die `d` (R268, R270). -/
def rootHash (s : State) (d k : Nat) : Nat × Nat :=
  hashPair (s.rd R.LP_SEED0 [d]) (s.rd R.LP_SEED1 [d]) (leBytes k 4) 17

/-- The root entry that holds a key on die `x` under the seeds of die `d`: its place, and its key above its slot word. -/
def rootFind (s : State) (x d k : Nat) : Option (Nat × Nat) :=
  s.storeFind x .root (s.rootHash d k) rootOvf fun v => v != 0 && v / 2 ^ 32 == k

/-- A word as a lookup meets it: one with an uncorrectable error is a miss, and is counted (R294). Log 217 (DEDUCED). -/
def lookWord (s : State) (x : Nat) (t : Tbl) (i : Nat) : Nat × Nat := if s.tabBad x t i then (0, 1) else (s.tab x t i, 0)

/-- A default word's prefix length and object, or the best so far where it is not valid. -/
def takeDefault (w : Nat) (best : Option (Nat × Nat)) : Option (Nat × Nat) :=
  if bit w 31 then some (wordLen w, wordAo w) else best

/-- The walk below the root, from a node (R273): prefix length and object, and the words it met with an uncorrectable
error. Log 217 (DEDUCED). -/
def lpmWalk (s : State) (x fam addr : Nat) : List (Nat × Nat) → Nat → Option (Nat × Nat) → Nat → Option (Nat × Nat) × Nat
  | [], _, best, n => (best, n)
  | (dep, st) :: r, node, best, n =>
    let df := s.lookWord x .lpWord (lpWordIdx fam node 256)
    let best := takeDefault df.1 best
    let w := s.lookWord x .lpWord (lpWordIdx fam node (addr >>> (lpmWidth fam - dep - st) % 2 ^ st))
    let n := n + df.2 + w.2
    if slotType w.1 = 1 then (some (wordLen w.1, wordAo w.1), n)
    else if slotType w.1 = 2 then lpmWalk s x fam addr r (slotTarget w.1) best n
    else (best, n)

/-- A lookup of an address in the LPM of die `x` (R273). Log 217 (DEDUCED). -/
def lpmFind (s : State) (x fam vrf addr : Nat) : Option (Nat × Nat) × Nat :=
  let df := s.lookWord x .vrfDef (vrfIdx fam vrf)
  let best := takeDefault df.1 none
  match s.rootFind x x (rootKey fam vrf (addr >>> (lpmWidth fam - 16))) with
  | none => (best, df.2)
  | some e =>
    let w := s.lookWord x .root e.1
    let n := df.2 + w.2
    if slotType (w.1 % 2 ^ 32) = 1 then (some (wordLen w.1, wordAo w.1), n)
    else if slotType (w.1 % 2 ^ 32) = 2 then s.lpmWalk x fam addr (lpmLevels fam) (slotTarget w.1) best n
    else (best, n)

/-- The LPM lookup of a pass under plan `p` (R271). -/
def lpmLookup (s : State) (d p kv te : Nat) : Option (Nat × Nat) × Nat :=
  let o := s.get F.XT_PLAN_B_LPM_OFF [d, p]
  match s.get F.XT_PLAN_A_LPM [d, p] with
  | 1 => s.lpmFind d 0 (bits te 63 50) (kvField kv o 32)
  | 2 => s.lpmFind d 1 (bits te 63 50) (kvField kv (o + 64) 64)
  | _ => (none, 0)

/-! ## The ordered rule store (R312 to R317, R326, R327) -/

/-- The chunk indexes of an ordered-store plan, c0 first. -/
def osChunks (s : State) (d p : Nat) : List Nat :=
  let six := fun w => [bits w 29 25, bits w 24 20, bits w 19 15, bits w 14 10, bits w 9 5, bits w 4 0]
  six (s.rd R.OS_PLAN_A [d, p]) ++ six (s.rd R.OS_PLAN_B [d, p])
    ++ [s.get F.OS_PLAN_C_C12 [d, p], s.get F.OS_PLAN_C_C13 [d, p]]

/-- The search key of a pass (R312). -/
def osKey (s : State) (d p kv te tenant : Nat) : Nat :=
  let head := (bits te 63 50 * 2 ^ 14 + tenant) * 2 ^ 4 + p
  (s.osChunks d p).foldl (fun a c => a * 2 ^ 32 + kvField kv (32 * c) 32) head

/-- Fields of an entry (R313). -/
def osPrio (e : Nat) : Nat := bits e 61 46
def osId (e : Nat) : Nat := bits e 45 30
def osAo (e : Nat) : Nat := bits e 16 0
def osMatches (e key : Nat) : Bool := bit e 63 && (key &&& bits e 543 64) == (bits e 1023 544 &&& bits e 543 64)

/-- What a search returns: the winner's index and entry, and MULTI (R316). -/
def osSearch (s : State) (x key : Nat) : Option (Nat × Nat × Bool) :=
  let hits := (s.tabList x .os).filter fun e => osMatches e.2 key
  match hits with
  | [] => none
  | w :: r => some (w.1, w.2, r.any fun e => osPrio e.2 == osPrio w.2 && osId e.2 != osId w.2)

/-- Rate of a throttled slice's searches by step (R326): f × 3,000,000,000 per second. -/
def osRate (step : Nat) : Nat := ([0, 2250000000, 1500000000, 750000000] : List Nat).getD step 0

/-- A slice admits a search (R326). -/
def osAdmit (s : State) (sl : Nat) : Bool × State :=
  let st := s.get F.OS_THERM_STEP [sl / 4]
  if st = 0 then (true, s) else s.takeTokens (bktOs sl) (osRate st) 256 1

/-! ## The classifier (R225 to R227) -/

/-- The 320-bit match key of profile `i` of a bank on die `d` (R225). -/
def matchKey (s : State) (d bank i kv : Nat) : Nat :=
  let pr := s.tab d (profTbl bank) i
  (List.range 10).foldl (fun a k => a * 2 ^ 32 + kvField kv (32 * bits pr (5 * k + 4) (5 * k)) 32) 0

/-- The winning rule: the matching one of lowest index (R227). -/
def winner (s : State) (d bank prof mkey : Nat) : Option (Nat × Nat) :=
  (s.tabList d (ruleTbl bank)).find? fun r =>
    bit r.2 703 && bits r.2 702 699 == prof && (mkey &&& bits r.2 378 59) == (bits r.2 698 379 &&& bits r.2 378 59)

end State

end Sys2Proof.Machine
end

