-- ==== Sys2Proof/Machine/Cut.lean ====
section
/-! DEFINITION. Admission to the fabric, the CE mark, mirroring and the cutting of frames into cells (R25, R332 to R338,
R366 to R372, R378). -/

namespace Sys2Proof.Machine

/-- Queue numbers on a Girth die (R385): VOQ, multicast, deep. -/
def voqId (port cls : Nat) : Nat := 8 * port + cls
def mcqId (die cls : Nat) : Nat := 0x1000 + 8 * die + cls
def deepId (q : Nat) : Nat := 0x4000 + q

/-- Streams (R336): kind 0 unicast (slice, port and class), 1 multicast (slice, class), 2 deep (slice, queue). -/
def streamKey (kind slice x : Nat) : Nat := key3 kind slice x

namespace State

/-- Columns of the pattern (R336). -/
def cols (s : State) : Nat := s.get F.FP_PATTERN_N_M1 [] + 1

/-- The Girth die of column `j`. -/
def colGirth (s : State) (j : Nat) : Nat := bits (s.get F.FP_PATTERN_MAP []) (4 * j + 3) (4 * j)

/-- The Girth dies in the pattern. -/
def girths (s : State) : List Nat := (List.range s.cols).map s.colGirth

/-- The highest of a reported figure over the Girth dies in the pattern. -/
def maxRep (s : State) (m : Map Nat) (i : Nat) : Nat := (s.girths.map fun g => m.at 0 (key2 g i)).foldl max 0

/-- Q: depth of a queue in cells as a slice sees it (R365, R367). -/
def viewQ (s : State) (sl q : Nat) : Nat := s.cols * s.maxRep s.fab.repDepth q + s.fab.pendQ.at 0 (key2 sl q)

/-- A: average of a queue in cells. -/
def viewA (s : State) (q : Nat) : Nat := s.cols * s.maxRep s.fab.repAvg q / 256

/-- P: port pool of an egress port in cells, with the pending admissions to each of its queues (R367). -/
def viewP (s : State) (sl e : Nat) : Nat :=
  s.cols * s.maxRep s.fab.repPort e + ((List.range 8).map fun c => s.fab.pendQ.at 0 (key2 sl (voqId e c))).sum

/-- F: the lowest reported count of free cells. -/
def viewF (s : State) : Nat := (s.girths.map fun g => 262144 - s.fab.repUsed.at 0 g).foldl min 262144

/-- Cells a frame of `n` bytes needs (R366). -/
def cellsFor (s : State) (n : Nat) (own : Bool) : Nat :=
  if own then s.cols * ceilDiv n (256 * s.cols) else ceilDiv n 256 + 1

/-- The random early drop of R368 with profile (`set`, `cls`, `col`) and average `a`: whether the frame is admitted, and the state after it. -/
def wred (s : State) (sl set cls col a : Nat) : Bool × State :=
  let d := sl / 4
  let i := 24 * set + 3 * cls + col
  let lo := s.get F.EQ_PROF_MIN [d, i] * 16
  let hi := s.get F.EQ_PROF_MAX [d, i] * 16
  if a < lo then (true, s)
  else if hi ≤ a then (false, s)
  else
    let g0 := s.sl.edGen.at 0 sl
    let g := lfsrStep 0x80200003 (if g0 = 0 then 0x00019840 + sl else g0)
    let p := s.get F.EQ_PROF_P_PMAX [d, i] * 256 * (a - lo) / (hi - lo)
    (!decide (g % 65536 < p), { s with sl.edGen := s.sl.edGen.put 0 sl g })

/-- The profile set of an egress port (R383). -/
def portSet (s : State) (d e : Nat) : Nat := bits (s.rd R.EQ_PORTSET [d, e / 16]) (2 * (e % 16) + 1) (2 * (e % 16))

/-- Step 2 of R367. -/
def roomGlobal (s : State) (d c : Nat) : Bool := decide (s.get F.EQ_GLOBAL_RESV [d] + ceilDiv c s.cols ≤ s.viewF)

/-- Pages of pool 7 that are free in the deep reserve, as reported (R364). -/
def viewPages (s : State) : Nat :=
  (s.girths.map fun g => s.get F.SB_DEEP_RESV_PAGES [] - s.fab.repPages.at 0 g).foldl min (s.get F.SB_DEEP_RESV_PAGES [])

/-- The test of R371 for `spans` spans of deep queue `q`. -/
def deepRoom (s : State) (d q colour spans : Nat) : Bool :=
  let dep := s.maxRep s.fab.repDepth (deepId q)
  decide (dep + spans ≤ s.get F.EQ_DEEP_DQ_LIMIT [d] * 64)
    && (colour == 0 || decide (dep < s.get F.EQ_DEEP_DQ_YELLOW [d] * 64))
    && decide (64 + ceilDiv spans 37 ≤ s.viewPages)

/-- The admission of a unicast frame of `n` bytes (R367): the step that refuses it, 0 for none, and the state after the
counts. `deep` names the deep queue it is directed to. -/
def admitUnicast (s : State) (sl e cls col n : Nat) (own : Bool) (deep : Option Nat) : Nat × State :=
  let d := sl / 4
  let set := s.portSet d e
  let c := s.cellsFor n own
  if !s.linkUp e then (1, s.inc R.EQ_DOWN_DISCARD [d])
  else if !s.roomGlobal d c then (2, (s.inc R.EQ_ADM_GLOBAL [d]).raise F.EQ_EVT_GLOBAL_REFUSE [d])
  else match deep with
  | some q => if s.deepRoom d q col (c / s.cols) then (0, s) else (3, s.inc R.EQ_DEEP_REFUSED [d])
  | none =>
    if s.get F.EQ_PSET_PORT_LIMIT [d, set] * 16 ≤ s.viewP sl e then (4, s.inc R.EQ_ADM_POOL [d, cls])
    else if s.get F.EQ_CLS_LIMIT [d, set, cls] * 16 < s.viewQ sl (voqId e cls) + c then (5, s.inc R.EQ_ADM_TAIL [d, cls])
    else
      let w := s.wred sl set cls col (s.viewA (voqId e cls))
      if w.1 then (0, w.2) else (6, w.2.inc R.EQ_ADM_WRED [d, cls])

/-- Count an admission of `c` cells into the slice's own view (R367). -/
def addPending (s : State) (sl q c : Nat) : State :=
  { s with fab.pendQ := s.fab.pendQ.put 0 (key2 sl q) (s.fab.pendQ.at 0 (key2 sl q) + c) }

/-- The test of a multicast frame at one egress die (R369): the step that refuses it, 0 for none. -/
def admitMcDie (s : State) (sl x cls col c : Nat) : Nat × State :=
  let d := sl / 4
  let set := s.get F.EQ_CFG_MC_SET [d]
  if !s.roomGlobal d c then (2, s)
  else if s.get F.EQ_CLS_LIMIT [d, set, cls] * 16 < s.viewQ sl (mcqId x cls) + c then (5, s)
  else
    let w := s.wred sl set cls col (s.viewA (mcqId x cls))
    if w.1 then (0, w.2) else (6, w.2)

/-- Count the cause of a multicast discard (R369). Log 92 (DESIGN CHOICE). -/
def countMcCause (s : State) (d cls step : Nat) : State :=
  match step with
  | 2 => (s.inc R.EQ_ADM_GLOBAL [d]).raise F.EQ_EVT_GLOBAL_REFUSE [d]
  | 5 => s.inc R.EQ_ADM_TAIL [d, cls]
  | 6 => s.inc R.EQ_ADM_WRED [d, cls]
  | _ => s

/-- The dies of `mask` that take a multicast frame, the first refusing step, and the state (R369). Log 92 (DESIGN CHOICE). -/
def admitMulticast (s : State) (sl cls col n mask : Nat) : Nat × Nat × State :=
  let c := s.cellsFor n true
  (setPositions mask 8).foldl (fun a x =>
    let r := a.2.2.admitMcDie sl x cls col c
    if r.1 = 0 then (a.1 + 2 ^ x, a.2.1, r.2.addPending sl (mcqId x cls) c)
    else (a.1, (if a.2.1 = 0 then r.1 else a.2.1), r.2.inc R.EQ_MC_DIE_REFUSED [sl / 4])) (0, 0, s)

/-- Congestion Experienced (R372): the frame after the mark, if it is marked. -/
def ceMark (s : State) (sl e cls : Nat) (f : Frame) : Option Frame :=
  let d := sl / 4
  let set := s.portSet d e
  if s.isOn F.EQ_CLS_ECN_EN [d, set, cls] && decide (s.get F.EQ_PSET_ECN_THR [d, set] * 16 ≤ s.viewP sl e) then
    match f.m.hdrs.find? fun h => h.kind == 4 || h.kind == 5 with
    | none => none
    | some h =>
      let lo := if h.kind = 4 then 0 else 4
      let old := slice f.bytes (h.off + 1) 1
      let v := ofBe old
      let ecn := bits v (lo + 1) lo
      if ecn = 1 ∨ ecn = 2 then
        let new := beBytes (setBits v (lo + 1) lo 3) 1
        let st : EditSt := { bytes := overwrite f.bytes (h.off + 1) new
                             brand := brandSet f.brand f.bytes.length (h.off + 1) old new, hdrs := f.m.hdrs }
        let st := if h.kind = 4 then
            setCsum st (h.off + 10)
              ((wordsChanged (slice f.bytes h.off h.len) (slice st.bytes h.off h.len) 5).foldl
                (fun x w => csumStep x w.1 w.2) (ofBe (slice st.bytes (h.off + 10) 2)))
          else st
        some { f with bytes := st.bytes, brand := st.brand, m := { f.m with ce := true } }
      else none
  else none

/-- The mirror session an admitted frame's object names, as far as it is granted (R370, R378). -/
def grantMirror (s : State) (sl sess n : Nat) : Nat × State :=
  let d := sl / 4
  if sess = 0 then (0, s)
  else match s.get F.EQ_SESS_TYPE [d, sess] with
  | 0 => (0, s)
  | 1 =>
    let e := s.get F.EQ_SESS_PORT [d, sess]
    let cls := s.get F.EQ_SESS_CLASS [d, sess]
    let c := s.cellsFor n true
    let set := s.portSet d e
    let w := s.wred sl set cls 2 (s.viewA (voqId e cls))
    if !s.linkUp e || decide (s.get F.EQ_CLS_LIMIT [d, set, cls] * 16 < s.viewQ sl (voqId e cls) + c) then
      (0, s.inc R.EQ_MIRROR_REFUSED [d])
    else if w.1 then (sess, w.2.addPending sl (voqId e cls) c) else (0, w.2.inc R.EQ_MIRROR_REFUSED [d])
  | _ =>
    let r := s.takeTokens (bktCap sl sess) (s.rd R.EQ_SESS_RATE [d, sess]) (s.get F.EQ_SESS_BURST_BURST [d, sess]) 1
    if r.1 then (sess, r.2) else (0, r.2.inc R.EQ_CAP_RATE_DROP [d])

/-! ## Cells and spans (R332 to R338) -/

/-- Straps between a Skirt and a Girth die: one on the X, two on the T and E (R18). -/
def strapsPer (s : State) : Nat := if s.variant = .x then 1 else 2

/-- The strap of a span: on the T and E by the parity of SPAN (R18, R336). -/
def strapOf (s : State) (d g span : Nat) : Nat := key3 d g (span % s.strapsPer)

/-- Put one stamped cell on its strap, which carries its cells in the order of their ticks (R338, R339). -/
def sendCell (tick : Nat) (c : Cell) (s : State) : State :=
  let d := c.slice / 4
  let g := s.colGirth c.col
  let k := s.strapOf d g c.span
  let l := s.fab.strap.at [] k
  let sooner := l.takeWhile fun x => decide (x.tick ≤ tick)
  let t := { s with fab.strap := s.fab.strap.put [] k (sooner ++ { c with tick := tick } :: l.drop sooner.length) }
  let b := t.strapBlock d g (c.span % t.strapsPer)
  let t := t.countKind b 0 1
  if c.typ = 1 then (t.countKind b 4 1).inc R.LC_IDLE_OUT [d] else t

/-- The open span of a stream is sent, with idle cells of the same header in the columns not started (R338). A slice sends
at most one span in a device tick. Log 89 (DEDUCED). -/
def sendSpan (s : State) (key : Nat) : State :=
  let st := s.fab.streams.at {} key
  match st.done ++ st.cur.toList with
  | [] => s
  | c0 :: rest =>
    let cells := c0 :: rest
    let sl := c0.slice
    let tick := max s.clock.tick (s.fab.sentAt.at 0 sl)
    let idle : Cell := { c0 with typ := 1, starts := [], ends := [], data := [], tailRec := none, poison := false }
    let all := (cells ++ List.replicate (s.cols - cells.length) idle).zipIdx.map fun e =>
      { e.1 with col := e.2, span := st.next, gen := s.get F.FP_PATTERN_GEN [] }
    let t := forEach all (sendCell tick) s
    { t.inc R.LC_SPANS_OUT [sl / 4] with
      fab.sentAt := t.fab.sentAt.put 0 sl (tick + 1)
      fab.streams := t.fab.streams.put {} key { st with next := (st.next + 1) % 16384, done := [], cur := none } }

/-- Close the open cell of a stream; a span with its last column full is sent. Log 89 (DEDUCED). -/
def closeCell (s : State) (key : Nat) : State :=
  let st := s.fab.streams.at {} key
  match st.cur with
  | none => s
  | some c =>
    let t := { s with fab.streams := s.fab.streams.put {} key { st with done := st.done ++ [c], cur := none } }
    if st.done.length + 1 = s.cols then t.sendSpan key else t

/-- Append bytes to a stream, cell by cell; `fuel` bounds the cells. `fin` is the frame whose last byte they end with, and
`tail` its tail record (R335). -/
def appendBytes (key : Nat) (proto : Cell) (fin : Option Meta) (tail : Option (Nat × Nat × Bool)) : Nat → List Byte → State → State
  | 0, _, s => s
  | _, [], s => s
  | fuel + 1, bs, s =>
    let st := s.fab.streams.at {} key
    let c := st.cur.getD proto
    let room := 256 - c.data.length
    let last := if bs.length ≤ room then fin.toList else []
    let tr := if bs.length ≤ room then tail <|> c.tailRec else c.tailRec
    let c' := { c with data := c.data ++ bs.take room, ends := c.ends ++ last, tailRec := tr }
    let first := if st.cur.isNone && st.done.isEmpty then s.clock.tick else st.since
    let st' := { st with cur := some c', since := first }
    let t := { s with fab.streams := s.fab.streams.put {} key st' }
    let t := if c.data.length + (bs.take room).length = 256 then t.closeCell key else t
    appendBytes key proto fin tail fuel (bs.drop room) t

/-- A frame starts in a stream: at most two starts a cell (R333). Log 102 (DESIGN CHOICE). -/
def startFrame (s : State) (key : Nat) (proto : Cell) (st : Start) : State :=
  let full := match (s.fab.streams.at {} key).cur with
    | some c => decide (2 ≤ c.starts.length)
    | none => false
  let s := if full then s.closeCell key else s
  let str := s.fab.streams.at {} key
  let c := str.cur.getD proto
  let c := { c with starts := c.starts ++ [{ st with off := c.data.length }] }
  let str' := { str with cur := some c, since := if str.cur.isNone && str.done.isEmpty then s.clock.tick else str.since }
  { s with fab.streams := s.fab.streams.put {} key str' }

/-- The open frame of a stream is one whose tail is still arriving. -/
def streamBusy (s : State) (key : Nat) : Bool := s.port.ctTail.any fun e => e.2 == key + 1

/-- Cut a frame into a stream (R25, R333, R335, R337). Behind one whose tail is still arriving it waits, so that its cells
follow those of that tail (R27, R335). -/
def cutFrame (s : State) (key : Nat) (proto : Cell) (own : Bool) (f : Frame) : State :=
  let str := s.fab.streams.at {} key
  if s.streamBusy key then
    { s with fab.streams := s.fab.streams.put {} key { str with behind := str.behind ++ [(proto, own, f)] } }
  else
  let proto := { proto with mir := if own then f.m.mirror else 0 }
  -- the open span is closed first, as the span it is
  let t := if own then s.sendSpan key else s
  let t := t.startFrame key proto
    { off := 0, len := if f.tail then 0 else f.bytes.length, brand := if f.tail then 0 else f.brand, m := f.m, poison := f.poison }
  let t := appendBytes key proto (if f.tail then none else some f.m) none 70 f.bytes t
  -- the span of its last byte goes at once; that of a cut-through frame when its tail has come
  if own && !f.tail then t.sendSpan key else t

/-- The frames that waited behind a cut-through frame are cut (R27). -/
def cutBehind (k : Nat) (s : State) : State :=
  let str := s.fab.streams.at {} k
  forEach str.behind (fun b u => u.cutFrame k b.1 b.2.1 b.2.2)
    { s with fab.streams := s.fab.streams.put {} k { str with behind := [] } }

end State

/-- SPAN_HOLD_EXPIRY: the open span of a stream has been held for HOLD_NS: it is closed and sent (R338). `kind`, `sl` and
`x` name the stream. -/
def execSpanHoldExpiry (kind sl x : Nat) (s : State) : Out :=
  done (fun s =>
    let key := streamKey kind sl x
    let st := s.fab.streams.at {} key
    onlyIf (s.forwarding && s.live (sl / 4) && s.fab.repatAt.isNone && (st.cur.isSome || !st.done.isEmpty)
        && decide (s.get F.LC_CFG_HOLD_NS [sl / 4] ≤ s.since st.since)) (fun s =>
      (s.sendSpan key).inc R.LC_HOLD_CLOSED [sl / 4]) s) s

/-- TIME_MARK: strap `k` of Skirt die `d` to Girth die `g` sends a time mark stamped with the tick (R339). -/
def execTimeMark (d g k : Nat) (s : State) : Out :=
  done (fun s =>
    onlyIf (s.forwarding && s.live d && s.live (8 + g) && decide (d < 8) && decide (k < s.strapsPer)) (fun s =>
      let key := key3 d g k
      let t := { s with fab.stamp := s.fab.stamp.put 0 key (max (s.fab.stamp.at 0 key) (s.clock.tick + 1)) }
      t.countKind (t.strapBlock d g k) 5 1) s) s

end Sys2Proof.Machine
end

