-- ==== Sys2Proof/Machine/Girth.lean ====
section
/-! DEFINITION. Girth dies: committing cells, queues, the deep buffer, the calendars, depth reports and Saddlebag's pools
(R26, R339 to R344, R349 to R352, R355 to R357, R364, R365, R373, R376). -/

namespace Sys2Proof.Machine

/-- The egress die a queue leads to, for VOQs and multicast queues. -/
def qDie (q : Nat) : Nat := if q < 0x1000 then q / 512 else (q - 0x1000) / 8

/-- The receive queue of a delivered column: port index, or 64 plus the class for multicast (R345). -/
def recvKey (d g k : Nat) : Nat := key3 d g k

/-- What tells one frame from another in the egress die: its ingress port and time. -/
def Meta.id (m : Meta) : Nat × Nat := (m.inPort, m.t16)

/-- The stream of a column (R336). -/
def Cell.stream (c : Cell) : Nat :=
  if c.dies ≠ 0 then streamKey 1 c.slice c.cls else if c.deep then streamKey 2 c.slice c.group
  else streamKey 0 c.slice (voqId c.port c.cls)

/-- The stream of an egress frame that went to a deep queue (R351). -/
def Cell.unicast (c : Cell) : Nat := streamKey 0 c.slice (voqId c.port c.cls)

/-- What Lacing takes a cell to continue: its stream, apart from the port mirrors of the same stream (R346). -/
def Cell.place (c : Cell) : Nat := c.stream + (if c.link = 2 then 2 ^ 79 else 0)

/-- A cell's header alone. -/
def Cell.header (c : Cell) : Cell := { c with data := [], starts := [], ends := [], tailRec := none }

/-- The egress die that the link of a cell in queue `q` leads to. -/
def Cell.linkDie (c : Cell) (q : Nat) : Nat := if q < 0x4000 then qDie q else c.port / 64

/-- With no cell in use, the retired cells of each Girth die are those marked (R359). -/
def Fabric.worn (f : Fabric) : Map Nat := f.cellBad.map fun e => (e.1, e.2.length)

namespace State

/-! ## Saddlebag pools (R355 to R357) -/

/-- The next pool of the fallback chain (R355). -/
def poolNext (s : State) (n : Nat) : Option Nat :=
  if n = 4 ∨ n = 6 ∨ n = 7 then some (n + 1) else if n = 5 ∧ s.variant.hasDdr then some 6 else none

/-- Buffers of a pool that any requester may take: the reserve of pool 7 is the deep buffer's (R355). -/
def poolSize (s : State) (n : Nat) : Nat :=
  s.get F.SB_POOL_CFG_COUNT [n] - (if n = 7 then s.get F.SB_DEEP_RESV_PAGES [] else 0)

/-- A buffer handle (R355). -/
def handle (pool index : Nat) : Nat := pool * 2 ^ 28 + index

/-- Set a pool's free count, and POOL_LOW when it falls to the threshold (R356). -/
def setPoolFree (s : State) (n free : Nat) (down : Bool) : State :=
  let t := s.set F.SB_POOL_FREE_FREE [n] free
  if down && free == t.get F.SB_POOL_LOW_LOW [n] then t.raise F.SB_EVT_POOL_LOW [] else t

/-- Take a buffer of one pool: the most recently freed, else one never taken (R356). Log 90 (DESIGN CHOICE). -/
def takeFrom (s : State) (n : Nat) : Option (Nat × State) :=
  let mark := fun (t : State) (i : Nat) =>
    let t := { t with pool.used := t.pool.used.put 0 (handle n i) 1 }
    (handle n i, (t.setPoolFree n (t.get F.SB_POOL_FREE_FREE [n] - 1) true).inc R.SB_ALLOC [n])
  match s.pool.stack.at [] n with
  | i :: r => some (mark { s with pool.stack := s.pool.stack.put [] n r } i)
  | [] =>
    let i := s.pool.fresh.at 0 n
    -- buffers of a failing page are passed over (R509)
    match (List.range (s.poolSize n - i)).find? fun k => !s.pool.gone.contains (handle n (i + k)) with
    | some k => some (mark { s with pool.fresh := s.pool.fresh.put 0 n (i + k + 1) } (i + k))
    | none => none

/-- Walk the fallback chain. -/
def takeChain (first : Nat) : Nat → Nat → State → Option Nat × State
  | 0, _, s => (none, s.inc R.SB_FAIL [first])
  | fuel + 1, n, s =>
    match s.takeFrom n with
    | some (h, t) => (some h, if n = first then t else t.inc R.SB_FALLBACK [first])
    | none => match s.poolNext n with
      | some m => takeChain first fuel m s
      | none => (none, s.inc R.SB_FAIL [first])

/-- Allocate from pool `n` or a fallback pool (R356). -/
def alloc (s : State) (n : Nat) : Option Nat × State := takeChain n 5 n s

/-- Free a buffer: 0 freed, 1 a double free, 2 a bad handle (R357). Log 227 (DEDUCED). -/
def freeBuffer (s : State) (h : Nat) : Nat × State :=
  let n := h / 2 ^ 28
  let i := h % 2 ^ 24
  if n < 4 ∨ 8 < n ∨ bits h 27 24 ≠ 0 ∨ s.get F.SB_POOL_CFG_COUNT [n] ≤ i then
    (2, (if 4 ≤ n ∧ n ≤ 8 then s.inc R.SB_DFREE [n] else s).raise F.SB_EVT_BAD_HANDLE [])
  else if s.pool.used.at 0 h = 0 then
    let t := if s.isOn F.SB_EVT_DOUBLE_FREE [] then s else s.wr R.SB_DFREE_CAP [] h
    (1, (t.inc R.SB_DFREE [n]).raise F.SB_EVT_DOUBLE_FREE [])
  else
    let page := n = 7 ∧ s.poolSize 7 ≤ i
    let k := i - s.poolSize 7
    let t := { s with pool.used := s.pool.used.erase h, st.chains := s.st.chains.erase h }
    let t := if page then { t with pool.deep := removeOne k t.pool.deep } else t
    if s.pool.gone.contains h then (0, t.inc R.DM_WITHDRAWN [])
    else
      let t := if page then { t with pool.deepFree := k :: t.pool.deepFree }
        else { t with pool.stack := t.pool.stack.put [] n (i :: t.pool.stack.at [] n) }
      (0, t.setPoolFree n (t.get F.SB_POOL_FREE_FREE [n] + 1) false)

/-- The pages of the deep reserve that cannot be taken: in use, or withdrawn (R364, R509). -/
def pagesOut (s : State) : Nat :=
  let lost := s.pool.gone.filter fun h => h / 2 ^ 28 == 7 && decide (s.poolSize 7 ≤ h % 2 ^ 24)
  s.pool.deep.length + (lost.filter fun h => !s.pool.deep.contains (h % 2 ^ 24 - s.poolSize 7)).length

/-- Take a page of the deep reserve: the most recently freed, else one never taken (R352, R356). Log 90 (DESIGN CHOICE). -/
def takePage (s : State) : Option Nat × State :=
  let base := s.poolSize 7
  let mark := fun (t : State) (i : Nat) =>
    let h := handle 7 (base + i)
    let t := { t with pool.deep := i :: t.pool.deep, pool.used := t.pool.used.put 0 h 1 }
    (some h, (t.setPoolFree 7 (t.get F.SB_POOL_FREE_FREE [7] - 1) true).inc R.SB_ALLOC [7])
  match s.pool.deepFree with
  | i :: r => mark { s with pool.deepFree := r } i
  | [] =>
    let i := s.pool.deepFresh
    match (List.range (s.get F.SB_DEEP_RESV_PAGES [] - i)).find? fun k => !s.pool.gone.contains (handle 7 (base + i + k)) with
    | some k => mark { s with pool.deepFresh := i + k + 1 } (i + k)
    | none => (none, s.inc R.SB_FAIL [7])

/-- Give a page of the deep reserve back (R357, R509). Log 90 (DESIGN CHOICE). -/
def freePage (s : State) (h : Nat) : State := (s.freeBuffer h).2

/-- Every page of the deep reserve is given back. -/
def freePages (s : State) : State := forEach s.pool.deep (fun i t => t.freePage (handle 7 (t.poolSize 7 + i))) s

/-! ## The cell store (R349, R350) -/

/-- Show the free cells and the peak of a Girth die (R359). -/
def showCells (s : State) (g : Nat) : State :=
  let u := s.fab.used.at 0 g
  let t := s.set F.BM_CELL_FREE_FREE [g] (262144 - u - s.fab.retired.at 0 g)
  if t.get F.BM_CELL_PEAK_PEAK [g] < u then t.set F.BM_CELL_PEAK_PEAK [g] u else t

/-- A Girth queue. -/
def gq (s : State) (g q : Nat) : List Link := s.fab.queue.at [] (key2 g q)

/-- Replace a Girth queue. -/
def setGq (s : State) (g q : Nat) (l : List Link) : State := { s with fab.queue := s.fab.queue.put [] (key2 g q) l }

/-- The cell that Girth die `g` takes next: the most recently freed, else the first never taken that is not retired (R355,
R356). Log 90 (DESIGN CHOICE). -/
def nextCell (s : State) (g : Nat) : Nat :=
  match s.fab.cellFree.at [] g with
  | i :: _ => i
  | [] =>
    let n := s.fab.cellFresh.at 0 g
    let bad := s.fab.cellBad.at [] g
    n + ((List.range (bad.length + 1)).find? fun k => !bad.contains (n + k)).getD 0

/-- Girth die `g` has no cell to take (R341). -/
def cellsOut (s : State) (g : Nat) : Bool := decide (262144 ≤ s.fab.used.at 0 g + s.fab.retired.at 0 g)

/-- The next cell is taken with `n` references (R349). -/
def takeCell (s : State) (g n : Nat) : State :=
  let id := s.nextCell g
  let t := match s.fab.cellFree.at [] g with
    | _ :: r => { s with fab.cellFree := s.fab.cellFree.put [] g r }
    | [] => { s with fab.cellFresh := s.fab.cellFresh.put 0 g (id + 1) }
  { t with fab.refs := t.fab.refs.put 0 (key2 g id) n, fab.used := t.fab.used.put 0 g (t.fab.used.at 0 g + 1) }.showCells g

/-- Cell `id` is freed; one that is to be retired is not used again. Log 235 (DESIGN CHOICE). -/
def freeCell (s : State) (g id : Nat) : State :=
  let t := { s with fab.refs := s.fab.refs.erase (key2 g id), fab.used := s.fab.used.put 0 g (s.fab.used.at 0 g - 1) }
  let t := if (s.fab.cellBad.at [] g).contains id then { t with fab.retired := t.fab.retired.put 0 g (t.fab.retired.at 0 g + 1) }
    else { t with fab.cellFree := t.fab.cellFree.put [] g (id :: t.fab.cellFree.at [] g) }
  t.showCells g

/-- A number for a link that has no cell: beyond every cell's. -/
def bareId (s : State) : Nat := 262144 + s.fab.nextId

/-- Cell `id` of Girth die `g` is retired after repeated errors: at once where it is free, else when it is freed (R359).
Log 235 (DESIGN CHOICE). -/
def retireCell (s : State) (g id : Nat) : State :=
  if 262144 ≤ id ∨ (s.fab.cellBad.at [] g).contains id then s
  else
    let t := { s with fab.cellBad := s.fab.cellBad.put [] g (id :: s.fab.cellBad.at [] g) }
    if s.fab.refs.at 0 (key2 g id) ≠ 0 then t
    else { t with
      fab.cellFree := t.fab.cellFree.put [] g (removeOne id (t.fab.cellFree.at [] g))
      fab.retired := t.fab.retired.put 0 g (t.fab.retired.at 0 g + 1) }.showCells g

/-- The notices that a column's cell sends when its last reference goes: one for each frame whose last byte it holds (R350). -/
def sendNotices (s : State) (c : Cell) : State :=
  { s with fab.notices := s.fab.notices ++ (c.ends.filter (·.held)).map fun m => (m.inPort, m.pri, m.len0) }

/-- One reference of a cell goes; the last frees the cell, and a frame's last byte in it sends a release notice (R349,
R350, R357). Log 93 (DEDUCED). -/
def dropRef (s : State) (g id : Nat) (c : Cell) : State :=
  if c.typ = 1 then s
  else
    let k := key2 g id
    let n := s.fab.refs.at 0 k
    if n = 0 then
      let t := if s.isOn F.BM_EVT_DOUBLE_FREE [g] then s else s.wr R.BM_DFREE_CAP [g] (handle g id)
      ((t.inc R.BM_DFREE [g]).raise F.BM_EVT_DOUBLE_FREE [g]).countKind (128 + 8 * g + 5) 2 1
    else if 1 < n then { s with fab.refs := s.fab.refs.put 0 k (n - 1) }
    else ((s.freeCell g id).countKind (128 + 8 * g + 5) 1 1).sendNotices c

/-- One link of a lost column goes: it has no cell, and its last link sends the notices (R341, R350). Log 93 (DEDUCED). -/
def dropLost (s : State) (g id : Nat) (c : Cell) : State :=
  let k := key2 g id
  match s.fab.refs.at 0 k with
  | 0 => s
  | 1 => { s with fab.refs := s.fab.refs.erase k }.sendNotices c
  | n + 2 => { s with fab.refs := s.fab.refs.put 0 k (n + 1) }

/-- A link is taken out of its queue on Girth die `g`. -/
def unlink (g : Nat) (l : Link) (s : State) : State := if l.lost then s.dropLost g l.id l.cell else s.dropRef g l.id l.cell

/-- The cell of a column that is spilled gives up one reference while the link stays; the last frees the cell (R352). -/
def parkCell (s : State) (g id : Nat) : State :=
  let k := key2 g id
  if 1 < s.fab.refs.at 0 k then { s with fab.refs := s.fab.refs.put 0 k (s.fab.refs.at 0 k - 1) } else s.freeCell g id

/-- A spilled column as its page holds it: where a mirror link keeps the cell, the notices are that cell's (R350, R352). -/
def spilled (s : State) (g : Nat) (l : Link) : Link :=
  if 1 < s.fab.refs.at 0 (key2 g l.id) then
    { l with cell := { l.cell with ends := l.cell.ends.map fun m => { m with held := false } } }
  else l

/-! ## Frames lost in the fabric (R115, R351, R411) -/

/-- A frame that went through a deep queue has been released or discarded by its egress die (R351). Log 94 (DEDUCED). -/
def deepDone (s : State) (ukey : Nat) : State :=
  let st := s.fab.streams.at {} ukey
  { s with fab.streams := s.fab.streams.put {} ukey { st with deepOut := st.deepOut - 1 } }

/-- The name under which die `d` remembers a frame of a link kind that it has discarded before its last cell.
Log 98 (DEDUCED). -/
def deadId (d : Nat) (c : Cell) (m : Meta) : Nat × Nat × Nat := (4 * d + c.link, m.id)

/-- The egress die reports the release or the discard of a frame of a deep queue to the ingress slice (R351).
Log 94 (DEDUCED). -/
def deepOver (s : State) (c : Cell) : State := if c.link = 3 then s.deepDone c.unicast else s

/-- A frame is discarded on egress die `d`: charged, and released from its drain count unless copies of it remain (R115,
R411). -/
def lose (s : State) (d : Nat) (c : Cell) (m : Meta) : State :=
  ((s.tallyDrop d 2 m).refOut m).deepOver c

/-- A frame that starts in cell `c` on die `d` was cut off by the isolation of its ingress die: it is discarded here (R544). -/
def loseCut (s : State) (d : Nat) (c : Cell) (m : Meta) : State :=
  { s with fab.cut := removeOne (deadId d c m) s.fab.cut }.lose d c m

/-- The frames that end in a discarded cell, but for those discarded before, and those that start in it and were cut off. -/
def loseEnds (s : State) (d : Nat) (c : Cell) : State :=
  let t := c.ends.foldl (fun t m =>
    let i := deadId d c m
    if t.fab.dead.contains i then { t with fab.dead := removeOne i t.fab.dead } else t.lose d c m) s
  c.starts.foldl (fun t st => if t.fab.cut.contains (deadId d c st.m) then t.loseCut d c st.m else t) t

/-! ## Commit (R339, R341, R349) -/

/-- The strap keys into Girth die `g` from Skirt die `d`. -/
def strapsOf (s : State) (g d : Nat) : List Nat := (List.range s.strapsPer).map fun k => key3 d g k

/-- The straps into Girth die `g` that the commit order looks to: those of the live Skirt dies (R339). Log 211 (DEDUCED). -/
def strapsInto (s : State) (g : Nat) : List Nat := s.liveSkirts.flatMap (s.strapsOf g)

/-- One more than the stamp of the latest thing that strap `k` has delivered: what is stamped beyond the device's tick has not
been sent (R338, R339). -/
def delivered (s : State) (k : Nat) : Nat :=
  ((s.fab.strap.at [] k).filter fun c => decide (c.tick ≤ s.clock.tick)).foldl (fun n c => max n (c.tick + 1)) (s.fab.stamp.at 0 k)

/-- The cell to be committed next: the least (TICK, ING_SLICE) among the straps' heads, once every strap has delivered
something stamped later (R339). Log 211 (DEDUCED). -/
def nextCommit (s : State) (g : Nat) : Option (Nat × Cell) :=
  -- what an isolated die had sent is still committed in its turn (log 211 (DEDUCED))
  let heads := ((List.range 8).flatMap (s.strapsOf g)).filterMap fun k => (s.fab.strap.at [] k).head?.map fun c => (k, c)
  let least := heads.foldl (fun (a : Option (Nat × Cell)) h =>
    match a with
    | none => some h
    | some b => if h.2.tick < b.2.tick ∨ (h.2.tick = b.2.tick ∧ h.2.slice < b.2.slice) then some h else a) none
  least.filter fun h => decide (h.2.tick ≤ s.clock.tick) && (s.strapsInto g).all fun k => decide (h.2.tick + 1 < s.delivered k)

/-- The queues a column is linked into: queue and link kind (R339, R349). -/
def linksOf (c : Cell) : List (Nat × Nat) :=
  let base := if c.dies ≠ 0 then (setPositions c.dies 8).map fun x => (mcqId x c.cls, 1)
    else if c.deep then [(deepId c.group, 3)] else [(voqId c.port c.cls, 0)]
  base ++ c.mirQ.toList.map fun q => (q, 2)

/-- Queue links of Girth die `g` that are free, of 524,288 (R359). -/
def linksFree (s : State) (g : Nat) : Nat :=
  524288 - ((s.fab.queue.filter fun e => e.1 / 2 ^ 40 == g).map fun e => e.2.length).sum

/-- Girth die `g` cannot obtain a queue link: the die is faulted, once (R341). Log 228 (DEDUCED). -/
def noLink (s : State) (g : Nat) : State :=
  if (s.flt.reports.any fun r => r.die == 8 + g && r.dieWide) || (s.flt.iso.any fun e => e.1 == 8 + g) then s
  else s.report { die := 8 + g, unit := 9, cause := 9, dieWide := true }

/-- The links of a column that lead to an isolated egress die are not made: what ends in the column is discarded there (R116,
R544). -/
def loseLinks (s : State) (c : Cell) (ls : List (Nat × Nat)) : State :=
  let dead := ls.filter fun l => s.isolated (c.linkDie l.1)
  let t := dead.foldl (fun t l => t.loseEnds (c.linkDie l.1) { c with link := l.2 }) s
  if !dead.isEmpty ∧ dead.length = ls.length then t.sendNotices c else t

/-- The columns of queue `q` on die `g` that stand in cells and are bound for an isolated egress die go (R116, R544). -/
def purgeDead (s : State) (g q : Nat) : State :=
  let mine := fun (l : Link) => l.page.isNone && s.isolated (l.cell.linkDie q)
  let l := s.gq g q
  if l.any mine then
    (l.filter mine).foldl (fun (u : State) n => (u.loseEnds (n.cell.linkDie q) { n.cell with link := n.kind }).unlink g n)
      (s.setGq g q (l.filter fun n => !mine n))
  else s

/-- Commit one cell on Girth die `g`: `noCell` says that no cell can be had for it (R341). -/
def commit (s : State) (g : Nat) (c : Cell) (noCell : Bool) : State :=
  if c.gen ≠ s.get F.FP_PATTERN_GEN [] then s
  else
    let ls := (linksOf c).filter fun l => !s.isolated (c.linkDie l.1)
    let ls' := ls.take 15
    -- what was bound for an isolated egress die is discarded (R116, R544)
    let s := s.loseLinks c (linksOf c)
    let s := if ls.length = ls'.length then s else (s.inc R.BM_REF_LIMIT [g]).raise F.BM_EVT_REF_LIMIT [g]
    let idle := c.typ == 1
    let lost := !idle && (noCell || s.cellsOut g)
    let s := if idle then s.inc R.GF_IDLE_IN [g] else s.inc R.GF_CELLS_IN [g]
    let s := (s.countKind (128 + 8 * g + 5) 0 1).countKind (s.girthBlock g (c.slice / 4)) 1 1
    let s := if lost then s.report { die := 8 + g, unit := 8, cause := 9 } else s
    -- the capture copy of column 0 of a mirrored frame's first span is a reference too (R349, R379)
    let sess := s.get F.EQ_SESS_TYPE [c.slice / 4, c.mir]
    let cap := if c.mir ≠ 0 ∧ 2 ≤ sess ∧ c.col = 0 ∧ !lost then c.starts.head? else none
    let taken := cap.filter fun _ => !s.recordsFull
    let id := if idle || lost then s.bareId else s.nextCell g
    let s := if idle then { s with fab.nextId := s.fab.nextId + 1 }
      else if lost then { s with fab.nextId := s.fab.nextId + 1, fab.refs := s.fab.refs.put 0 (key2 g id) ls'.length }
      else s.takeCell g (ls'.length + taken.toList.length)
    -- a mirror copy that is not linked is a reference that has gone
    let s := if c.mirQ.isSome && !(ls'.any fun l => l.2 == 2) then (c.ends.filter (·.uid != 0)).foldl (fun t m => t.refOut m) s else s
    let s := ls'.foldl (fun t l => t.setGq g l.1 (t.gq g l.1 ++ [{ id := id, kind := l.2, at_ := t.clock.tick, lost := lost, cell := c }])) s
    match cap, taken with
    | some _, some st => { s with fab.captures := s.fab.captures ++ [(c.mir, some (g, id), c, st)] }
    | some st, none => s.dropRecord (s.captureRing (c.slice / 4) c.mir) st.m.tenant
    | none, _ => s

/-! ## Delivery (R343, R344, R376) -/

/-- The credit pool of a delivery: (port, egress die) or a multicast queue (R344). -/
def creditKey (g d k : Nat) : Nat := key3 g d k

/-- Die `g` holds a credit. -/
def hasCredit (s : State) (g d k : Nat) : Bool := decide (s.fab.spent.at 0 (creditKey g d k) < 16)

/-- Give a credit back (R345). -/
def backCredit (s : State) (g d k : Nat) : State :=
  { s with fab.spent := s.fab.spent.put 0 (creditKey g d k) (s.fab.spent.at 0 (creditKey g d k) - 1) }

/-- Deliver the head column of queue `q` on die `g` to receive queue `k` of egress die `d` (R343); a lost one goes as a poisoned
header, and is counted (R341). Log 94 (DEDUCED). -/
def deliver (s : State) (g q d k : Nat) : State :=
  match s.gq g q with
  | [] => s
  | l :: r =>
    let n := s.fab.ord.at 0 (key3 g q d)
    let bad := l.lost || l.cell.poison
    let c := { l.cell with link := l.kind, ord := n, qid := q, poison := bad, data := if l.lost then List.replicate 256 0 else l.cell.data }
    let rk := recvKey d g k
    let t := s.setGq g q r
    let t := { t with
      fab.ord := t.fab.ord.put 0 (key3 g q d) (n + 1), fab.recv := t.fab.recv.put [] rk (t.fab.recv.at [] rk ++ [c])
      fab.spent := t.fab.spent.put 0 (creditKey g d k) (t.fab.spent.at 0 (creditKey g d k) + 1) }
    let t := if l.lost then ((t.inc R.GF_COL_LOST [g]).raise F.GF_EVT_COL_LOST [g]).countKind (128 + 8 * g + 5) 5 1 else t
    let t := ((t.unlink g l).inc R.GF_CELLS_OUT [g]).countKind (128 + 8 * g + 7) 0 1
    (t.countKind (t.girthBlock g d) 0 1).countKind (t.strapBlock d g (c.span % t.strapsPer)) 1 1

/-- The egress die has signalled room (R373); key: port and class, or 512 + multicast queue. -/
def roomKey (port cls : Nat) : Nat := 8 * port + cls
def mcRoomKey (die cls : Nat) : Nat := 0x1000 + 8 * die + cls

/-- The head of a queue can be sent: a column on the die, not in a page. -/
def headReady (s : State) (g q : Nat) : Bool :=
  match s.gq g q with
  | [] => false
  | l :: _ => l.page.isNone

/-- Serve one port entry: classes in turn, then deep queues whose head is for the port (R343, R351). -/
def servePort (s : State) (g p : Nat) : State :=
  let d := p / 64
  let k := p % 64
  let r0 := s.fab.rr.at 0 (key2 g p)
  let order := (List.range 8).map fun i => (r0 + i) % 8
  let want := order.filter fun c => s.headReady g (voqId p c) && s.fab.noRoom.at 0 (roomKey p c) == 0
  let deepQ := ((s.fab.queue.filter fun e => decide (key2 g 0x4000 ≤ e.1) && decide (e.1 < key2 g 0x8000)).map fun e => e.1 - key2 g 0).find? fun q =>
    match s.gq g q with
    | l :: _ => l.page.isNone && l.cell.port == p && s.fab.noRoom.at 0 (roomKey p l.cell.cls) == 0
    | [] => false
  let blk := 128 + 8 * g + 7
  if want.isEmpty && deepQ.isNone then s.countKind blk 1 1
  else if !s.hasCredit g d k then s.countKind blk 2 1
  else match want, deepQ with
    | c :: _, _ => { s.deliver g (voqId p c) d k with fab.rr := s.fab.rr.put 0 (key2 g p) ((c + 1) % 8) }
    | [], some q => s.deliver g q d k
    | [], none => s

/-- Serve one multicast entry (R343). -/
def serveMc (s : State) (g d cls : Nat) : State :=
  let q := mcqId d cls
  let blk := 128 + 8 * g + 7
  if !s.headReady g q || s.fab.noRoom.at 0 (mcRoomKey d cls) != 0 then s.countKind blk 1 1
  else if !s.hasCredit g d (64 + cls) then s.countKind blk 2 1
  else s.deliver g q d (64 + cls)

/-- The calendar of an egress die (R342): each port's entries spread as evenly as the list allows, then in port order;
an entry of 64 or more is a multicast class. Log 91 (DESIGN CHOICE). -/
def buildCal (s : State) (d : Nat) : List Nat :=
  let ports := (List.range 64).filter fun k => s.isPort (64 * d + k)
  let per := (ports.map fun k => (k, max 1 (s.portSpeed (64 * d + k) / 100))) ++ (List.range 8).map fun c => (64 + c, 2)
  let slots := (per.map fun e => (List.range e.2).map fun i => ((2 * i + 1) * 1000000 / (2 * e.2), e.1)).flatten
  (slots.mergeSort fun a b => decide (a.1 < b.1) || (a.1 == b.1 && decide (a.2 ≤ b.2))).map (·.2)

end State

/-! ## Commands -/

/-- CELL_COMMIT: Girth die `g` commits the next received cell; `how.1` says that it can have no cell for it (R339, R341), and `how.2`
is what its check latches saw (R47). Log 228 (DEDUCED). -/
def execCellCommit (g : Nat) (how : Bool × Nat) (s : State) : Out :=
  done (fun s =>
    let (noCell, nm) := how
    if s.forwarding && s.live (8 + g) && s.fab.repatAt.isNone then
      let s := s.checkLatches (8 + g) nm
      match s.nextCommit g with
      | some (k, c) =>
        if s.linksFree g < (State.linksOf c).length then s.noLink g else
        { s with fab.strap := s.fab.strap.put [] k ((s.fab.strap.at [] k).drop 1), fab.stamp := s.fab.stamp.put 0 k (s.delivered k) }.commit
          g c noCell
      | none => s
    else s) s

/-- CALENDAR_ENTRY: Girth die `g` serves the next entry of egress die `e.1`'s calendar (R343). A rebuilt calendar takes
effect at the start of the list (R342). `e.2` is what the check latches saw (R47). -/
def execCalendarEntry (g : Nat) (e : Nat × Nat) (s : State) : Out :=
  done (fun s =>
    let (d, nm) := e
    if s.forwarding && s.live (8 + g) && s.live d && decide (d < 8) && s.fab.repatAt.isNone then
      let s := s.checkLatches (8 + g) nm
      let k := key2 g d
      let pos := s.fab.calPos.at 0 k
      let s := if pos = 0 then
          match s.fab.calNew.find? k with
          | some c => { s with fab.cal := s.fab.cal.put [] k c, fab.calNew := s.fab.calNew.erase k }
          | none => s
        else s
      let cal := s.fab.cal.at [] k
      match cal[pos]? with
      | none => s
      | some e =>
        let t := { s with fab.calPos := s.fab.calPos.put 0 k (if pos + 1 < cal.length then pos + 1 else 0) }
        if e < 64 then t.servePort g (64 * d + e) else t.serveMc g d (e - 64)
    else s) s

/-- CALENDAR_REBUILD: the Tree die writes egress die `d`'s calendar to every surviving Girth die (R342). -/
def execCalendarRebuild (d : Nat) (s : State) : Out :=
  done (fun s =>
    onlyIf (s.fab.calDue.contains d) (fun s =>
      let c := s.buildCal d
      let t := { s with fab.calDue := removeOne d s.fab.calDue }
      forEach t.liveGirths (fun g u => { u with fab.calNew := u.fab.calNew.put [] (key2 g d) c }) t) s) s

/-- QUEUE_REPORT: die `g` reports queue `q`, its port's sum and its free counts to every Skirt die (R364). -/
def execQueueReport (g q : Nat) (s : State) : Out :=
  done (fun s =>
    onlyIf (s.powered && s.live (8 + g)) (fun s =>
      let p := q / 8
      let out := s.pagesOut
      let sum := ((List.range 8).map fun c => (s.gq g (voqId p c)).length).sum
      let cells := s.fab.used.at 0 g + s.fab.retired.at 0 g
      let f := { s.fab with
        repDepth := s.fab.repDepth.put 0 (key2 g q) (s.gq g q).length
        repAvg := s.fab.repAvg.put 0 (key2 g q) (s.fab.avg.at 0 (key2 g q))
        repPort := if q < 0x1000 then s.fab.repPort.put 0 (key2 g p) sum else s.fab.repPort
        repUsed := s.fab.repUsed.put 0 g cells, repPages := s.fab.repPages.put 0 g out
        pendQ := s.fab.pendQ.keep fun k => k % 2 ^ 40 != q }
      { s with fab := f }.countKind (128 + 8 * g + 6) 0 1) s) s

/-- QUEUE_AVG_UPDATE: die `g` updates the averages of its VOQs and multicast queues, every 1 µs (R365). -/
def execQueueAvgUpdate (g : Nat) (s : State) : Out :=
  done (fun s =>
    onlyIf (s.powered && s.live (8 + g) && decide (1000 ≤ s.since (s.fab.avgAt.at 0 g))) (fun s =>
      let qs := (List.range 0x1000) ++ (List.range 64).map (0x1000 + ·)
      let step := fun (m : Map Nat) (q : Nat) =>
        let d := (s.gq g q).length
        let a := m.at 0 (key2 g q)
        let w := bits (s.rd R.QM_WEIGHT [g]) (4 * (q % 8) + 3) (4 * (q % 8))
        m.put 0 (key2 g q) (Int.ofNat a + Int.fdiv (Int.ofNat (256 * d) - Int.ofNat a) (2 ^ w)).toNat
      { s with fab.avg := qs.foldl step s.fab.avg, fab.avgAt := s.fab.avgAt.put 0 g s.clock.tick }) s) s

/-- RELEASE_NOTICE: the oldest notice for a port of die `d` arrives: its bytes are no longer held (R171, R350). -/
def execReleaseNotice (d : Nat) (s : State) : Out :=
  done (fun s =>
    match takeFirst (fun (n : Nat × Nat × Nat) => n.1 / 64 == d) s.fab.notices with
    | some (n, r) => { s with fab.notices := r }.setHeld n.1 n.2.1 (s.fcHeld n.1 n.2.1 - n.2.2)
    | none => s) s

/-- BUFFER_ALLOC: a buffer is taken from pool `n` or a fallback pool (R356). -/
def execBufferAlloc (n : Nat) (s : State) : Out :=
  done (fun s => onlyIf (s.powered && decide (4 ≤ n) && decide (n ≤ 8)) (fun s => (s.alloc n).2) s) s

/-- BUFFER_FREE: a buffer is freed, or a double free or a bad handle is counted (R357). -/
def execBufferFree (h : Nat) (s : State) : Out :=
  done (fun s => onlyIf s.powered (fun s => (s.freeBuffer h).2) s) s

/-- STRAP_CRC_ERROR: a strap's transfer fails its link CRC and is replayed; the counting blocks of both ends tell (R19).
`b` is the receiving end's block, `o` the sending end's. A strap that cannot complete the replay is a die fault.
Log 56 (DEDUCED). -/
def execStrapCrcError (b o : Nat) (replayed : Bool) (s : State) : Out :=
  done (fun s =>
    onlyIf (s.powered && [2, 3, 7, 8].contains (blockKind b) && [2, 3, 7, 8].contains (blockKind o)) (fun s =>
      if replayed then ((s.countKind b 2 1).countKind o 3 1).report { die := blockDie b, unit := 4, cause := 1 }
      else
        let x := blockDie b
        let y := blockDie o
        -- the far end: the Skirt or Girth die of a Tree strap, the Girth die of a Skirt–Girth strap (R544)
        let far := if max x y = 12 then min x y else max x y
        (s.countKind b 2 1).report { die := far, unit := 4, cause := 4, dieWide := true, d0 := min x y, d1 := max x y }) s) s

end Sys2Proof.Machine
end

