-- ==== Sys2Proof/Machine/Cells.lean ====
section
/-! DEFINITION. Cells, frame records and tail records in bits, as the straps, the cell stores and the deep pages hold them
(R332, R334, R335, R352). -/

namespace Sys2Proof.Machine

/-- Fields one after another, the highest first: each a value and its width. -/
def packFields (l : List (Nat × Nat)) : Nat := l.foldl (fun a f => a * 2 ^ f.2 + f.1 % 2 ^ f.2) 0

/-- A frame-start record of a header: VALID, OFF, LEN and BRAND (R332). -/
def startFields : Option Start → List (Nat × Nat)
  | some st => [(1, 1), (st.off, 8), (st.len, 14), (st.brand, 32)]
  | none => [(0, 55)]

/-- The 192 bits of a cell's header (R332). -/
def Cell.headerBits (c : Cell) : Nat :=
  packFields ([(c.typ, 2), (c.gen, 2), (c.slice, 5), (if c.typ = 2 then 0 else c.port, 9), (c.cls, 3), (c.span, 14), (c.col, 2),
    (c.tick, 15), (b2n c.tailRec.isSome, 1), (b2n c.own, 1), (b2n c.deep, 1), (c.group, 16)]
    ++ startFields c.starts[0]? ++ startFields c.starts[1]? ++ [(b2n c.poison, 1), (c.link, 2), (c.ord, 8)])

/-- The 256 bits of a frame record (R334). -/
def Meta.recordBits (m : Meta) : Nat :=
  let tai := m.t16 / 65536
  packFields [(m.epoch, 16), (m.tenant, 14), (m.subport, 16), (m.colour, 2), (m.pass, 2), (m.inPort, 9), (m.pri, 3),
    (tai / 1000000000, 48), (tai % 1000000000, 30), (m.t16, 16), (b2n m.ruleV, 1), (m.rule, 14), (m.ao, 17), (m.mirror, 4),
    (b2n m.unscanned, 1), (b2n m.osMulti, 1), (b2n m.sampled, 1), (b2n m.ct, 1), (m.exts.length, 4), (0, 56)]

/-- An extension record: the edit's place in the list and its immediate (R334). -/
def extBits (e : Nat × Nat) : Nat := e.1 % 16 * 2 ^ 252 + e.2 % 2 ^ 128

/-- A tail record: the Brand, the length and the receive error (R335). -/
def tailBits (t : Nat × Nat × Bool) : Nat := packFields [(t.1, 32), (t.2.1, 14), (b2n t.2.2, 1), (0, 209)]

/-- What the record lane carries beside a cell: its frame records, each with its extensions, and its tail record (R334,
R335). -/
def Cell.lane (c : Cell) : List Byte :=
  (c.starts.map fun st => leBytes st.m.recordBits 32 ++ (st.m.exts.map fun e => leBytes (extBits e) 32).flatten).flatten
    ++ (c.tailRec.toList.map fun t => leBytes (tailBits t) 32).flatten

/-- A column as a deep page holds it: header, payload, and records in 136 bytes (R352). -/
def Cell.columnBytes (c : Cell) : List Byte := beBytes c.headerBits 24 ++ Machine.slice c.data 0 256 ++ Machine.slice c.lane 0 136

/-- The first 12 bytes of a deep page: queue, columns, GEN, the next page and the check (R352). -/
def pageHead (word0 next : Nat) : List Byte :=
  let b := leBytes word0 4 ++ leBytes next 4
  b ++ leBytes (crc32c b) 4

end Sys2Proof.Machine
end

