-- ==== Sys2Proof/Machine/Memory.lean ====
section
/-! DEFINITION. The DDR5: its bytes, its errors, retraining, the patrol scrub and the retirement of pages (R502 to R509). -/

namespace Sys2Proof.Machine

namespace State

/-- Bytes of device memory in the device window (R503). -/
def ddrSize (s : State) : Nat := s.get F.DM_SIZE_VISIBLE_MIB [] * 2 ^ 20

/-- The channel of device offset `o` (R503). -/
def ddrChannel (s : State) (o : Nat) : Nat := o / 256 % max 1 s.variant.channels

/-- Its address in the channel, and its sub-channel (R503). -/
def ddrAddress (s : State) (o : Nat) : Nat := o / 256 / max 1 s.variant.channels * 256 + o % 256
def ddrSubChannel (o : Nat) : Nat := o / 64 % 2

/-- Every channel has been trained (R504). -/
def ddrTrained (s : State) : Bool :=
  s.variant.hasDdr && (List.range s.variant.channels).all fun c => s.isOn F.DM_CH_STAT_TRAINED [c]

/-- Read device memory. Log 11 (DESIGN CHOICE). -/
def ddrGet (s : State) (o n : Nat) : List Byte := s.ddr.data.run 0 o n

/-- Some burst of the `n` bytes at `o` has an uncorrectable error. -/
def ddrBad (s : State) (o n : Nat) : Bool := s.ddr.bad.any fun b => decide (b * 64 < o + n) && decide (o < b * 64 + 64)

/-- Write device memory; a burst that is wholly rewritten is good again. Log 163 (DEDUCED). -/
def ddrPut (s : State) (o : Nat) (bs : List Byte) : State :=
  { s with
    ddr.data := s.ddr.data.putAll 0 o bs
    ddr.bad := s.ddr.bad.filter fun b => !(decide (o ≤ b * 64) && decide (b * 64 + 64 ≤ o + bs.length)) }

/-- The channel that is being retrained: the lowest due one, under the claim of activity 3 (R505). Log 164 (DEDUCED). -/
def retraining (s : State) : Option Nat := if s.mayWork 3 12 then s.ddr.due.head? else none

/-- Accesses to offset `o` wait: the channels are not trained, its own is being retrained, or its page is being copied (R504,
R505, R508). Log 164 (DEDUCED). -/
def ddrWaits (s : State) (o : Nat) : Bool :=
  !s.ddrTrained || s.retraining == some (s.ddrChannel o) || s.ddr.copying.contains (o / 4096)

/-- An access to the `n` bytes at `o` waits. Log 164 (DEDUCED). -/
def ddrHeld (s : State) (o n : Nat) : Bool :=
  decide (0 < n) && (!s.ddrTrained || (s.ddr.copying.any fun p => decide (p * 4096 < o + n) && decide (o < p * 4096 + 4096))
    || s.retraining.any fun c =>
      (List.range (min s.variant.channels ((o + n - 1) / 256 - o / 256 + 1))).any fun i => s.ddrChannel (o + 256 * i) == c)

/-- What the code of a burst makes of the wrong bits among its 16 beats of 40 bits (R506): 0 none, 1 it corrects them, 2 it
detects them, 3 it promises neither. With x4 devices it corrects what lies in one device and detects what lies in two; with
x8 devices it corrects one bit of a beat and detects two. -/
def eccOf (x8 : Bool) (wrong : Nat) : Nat :=
  let beat := fun (i : Nat) => wrong / 2 ^ (40 * i) % 2 ^ 40
  let count := fun (f : Nat → Bool) (n : Nat) => ((List.range n).filter f).length
  let worst := if x8 then (List.range 16).foldl (fun a i => max a (count (fun k => bit (beat i) k) 40)) 0
    else count (fun d => (List.range 16).any fun i => beat i / 2 ^ (4 * d) % 16 != 0) 10
  min 3 worst

/-- A page falls due for retirement, once. -/
def pageDue (s : State) (p : Nat) : State :=
  if s.ddr.spareless.contains p then s else { s with ddr.retire := addOnce p s.ddr.retire }

/-- A read at offset `o` meets an uncorrectable error: counter, capture, event, and the page's history (R507, R508). -/
def ueNoted (s : State) (o : Nat) : State :=
  let c := s.ddrChannel o
  let t := ((s.inc R.DM_UE [c]).raise F.DM_EVT_UE []).countKind (160 + c) 3 1
  let t := if t.isOn F.DM_UE_CAP_HI_VALID [] then t
    else ((t.wr R.DM_UE_CAP_LO [] (o % 2 ^ 32)).set F.DM_UE_CAP_HI_OFFSET [] (o / 2 ^ 32)).set F.DM_UE_CAP_HI_VALID [] 1
  let p := o / 4096
  let first := t.ddr.ueAt.at 0 p
  if first ≠ 0 ∧ t.since (first - 1) < 86400000000000 then t.pageDue p
  else { t with ddr.ueAt := t.ddr.ueAt.put 0 p (t.clock.tick + 1) }

/-- The same, with its fault report (R541). -/
def ddrUe (s : State) (o : Nat) : State := (s.report { die := 12, unit := 10, cause := 2, d0 := o }).ueNoted o

/-- A read at offset `o` meets an error that is corrected, in what it returns and in memory: counter and the page's history
(R506, R508). -/
def ceNoted (s : State) (o : Nat) : State :=
  let c := s.ddrChannel o
  let p := o / 4096
  let t := (s.inc R.DM_CE [c]).countKind (160 + c) 2 1
  let l := t.clock.tick :: (t.ddr.ceAt.at [] p).filter fun k => decide (t.since k < 3600000000000)
  let t := { t with ddr.ceAt := t.ddr.ceAt.put [] p l }
  if t.get F.DM_RETIRE_CE_LIMIT [] < l.length then t.pageDue p else t

/-- The same, with its fault report. -/
def ddrCe (s : State) (o : Nat) : State := (s.report { die := 12, unit := 10, cause := 1, d0 := o }).ceNoted o

/-- Bytes of a buffer of a DDR5 pool (R355). -/
def poolBytes (n : Nat) : Nat := if n = 4 then 64 else if n = 5 then 256 else if n = 6 then 2048 else if n = 7 then 16384 else 65536

/-- Withdraw one buffer of a failing page: at once where it is free, else when it is freed (R509). Log 164 (DEDUCED). -/
def withdraw (h : Nat) (s : State) : State :=
  if s.pool.gone.contains h then s
  else
    let n := h / 2 ^ 28
    let i := h % 2 ^ 24
    let t := { s with pool.gone := h :: s.pool.gone }
    if s.pool.used.at 0 h ≠ 0 then t
    else
      let t := { t with
        pool.stack := t.pool.stack.put [] n ((t.pool.stack.at [] n).filter (· != i))
        pool.deepFree := if n = 7 then t.pool.deepFree.filter fun k => s.poolSize 7 + k != i else t.pool.deepFree }
      (t.inc R.DM_WITHDRAWN []).setPoolFree n (t.get F.SB_POOL_FREE_FREE [n] - 1) true

/-- The buffers of pools 6 to 8 that lie wholly or partly in page `p`. -/
def buffersIn (s : State) (p : Nat) : List Nat :=
  [6, 7, 8].flatMap fun n =>
    let base := s.rd R.SB_POOL_BASE [n] * 2 ^ 20
    let size := poolBytes n
    let lo := (p * 4096 - base) / size
    ((List.range (4096 / size + 2)).map (lo + ·)).filterMap fun i =>
      if i < s.get F.SB_POOL_CFG_COUNT [n] ∧ base + i * size < p * 4096 + 4096 ∧ p * 4096 < base + i * size + size then some (handle n i)
      else none

/-! ## Deep pages (R352) -/

/-- Where page `h` of pool 7 lies in device memory. -/
def pageAt (s : State) (h : Nat) : Nat := s.rd R.SB_POOL_BASE [7] * 2 ^ 20 + h % 2 ^ 24 * 16384

/-- Where column `i` of the page `h` of pool 7 lies in device memory. -/
def columnAt (s : State) (h i : Nat) : Nat := s.pageAt h + 0x2C0 + 0x1A0 * i

/-- A deep page is written whole: its first word, no next page, and its columns (R352). Log 226 (DEDUCED). -/
def writePage (s : State) (h word0 : Nat) (cols : List Cell) : State :=
  let o := s.pageAt h
  let d := (s.ddr.data.dropRange o (o + 16384)).putAll 0 o (pageHead word0 0xFFFFFFFF)
  { s with
    ddr.data := cols.zipIdx.foldl (fun m e => m.putAll 0 (o + 0x2C0 + 0x1A0 * e.2) e.1.columnBytes) d
    ddr.bad := s.ddr.bad.filter fun b => !(decide (o ≤ b * 64) && decide (b * 64 < o + 16384)) }

/-- Page `old` names page `h` as the next of its queue (R352). -/
def chainPage (s : State) (old h : Nat) : State := s.ddrPut (s.pageAt old) (pageHead (ofLe (s.ddrGet (s.pageAt old) 4)) h)

/-- The header of a page passes its check (R352). -/
def pageOk (s : State) (h : Nat) : Bool :=
  let o := s.pageAt h
  !s.ddrBad o 12 && ofLe (s.ddrGet (o + 8) 4) == crc32c (s.ddrGet o 8)

/-- Read the next page of a deep queue back into cells: their payloads are what device memory holds (R352). Log 226 (DEDUCED). `bad` says which columns, by place in the page, have an
uncorrectable error, and `hdrBad` that its header fails its check. A column that is read bad is poisoned, and the error is
one of device memory (R201, R507). -/
def fillPage (s : State) (g q : Nat) (bad : Nat) (hdrBad : Bool) : State :=
  match (s.gq g q).findSome? (·.page) with
  | none => s
  | some h =>
    let cols := (s.gq g q).filter fun l => l.page == some h
    let hit := fun (i : Nat) => bit bad i || s.ddrBad (s.columnAt h i) 0x1A0
    let fails := hdrBad || !s.pageOk h
    let back := fun (i : Nat) (c : Cell) =>
      { c with poison := c.poison || fails || hit i, data := s.ddrGet (s.columnAt h i + 24) c.data.length }
    -- a column for which no cell can be had is lost (R341)
    let fill := fun (u : State) (i : Nat) (l0 : Link) =>
      let l : Link := { l0 with page := none, cell := back i l0.cell }
      if l.cell.typ = 1 then (l, u)
      else if u.cellsOut g then
        ({ l with id := u.bareId, lost := true },
          { u with fab.refs := u.fab.refs.put 0 (key2 g u.bareId) 1, fab.nextId := u.fab.nextId + 1 }.report { die := 8 + g, unit := 8, cause := 9 })
      else ({ l with id := u.nextCell g }, u.takeCell g 1)
    let r := (s.gq g q).foldl (fun (a : Nat × List Link × State) l =>
      if l.page = some h then
        let x := fill a.2.2 a.1 l
        (a.1 + 1, a.2.1 ++ [x.1], x.2)
      else (a.1, a.2.1 ++ [l], a.2.2)) (0, [], s)
    let t := (((r.2.2.setGq g q r.2.1).freePage h).inc R.BM_FILLED [g] cols.length).countKind (128 + 8 * g + 5) 4 cols.length
    let t := t.countKind (128 + 8 * g + 4) 1 cols.length
    let t := if s.ddrBad (s.pageAt h) 12 then t.ddrUe (s.pageAt h) else t
    (forEach ((List.range cols.length).filter hit) (fun i u => u.ddrUe (u.columnAt h i)) t).purgeDead g q

/-- The next page of a deep queue cannot be read now (R504, R505, R508). -/
def frontHeld (s : State) (g q : Nat) : Bool :=
  ((s.gq g q).findSome? (·.page)).any fun h => s.ddrHeld (s.pageAt h) 16384

end State

/-! ## The commands -/

/-- The columns of deep queue `q` that a spill takes, each with its place: beyond the head, in cells, with no more than two
frame records and two extensions, at most 37 (R352). -/
def State.spillColumns (s : State) (g q : Nat) : List (Link × Nat) :=
  let fits := fun (k : Link) => decide (k.cell.starts.length ≤ 2)
    && decide (((k.cell.starts.map fun st => st.m.exts).flatten).length ≤ 2)
  (((s.gq g (deepId q)).zipIdx.drop (s.get F.BM_DEEP_HEAD_COLS [g])).filter fun e =>
    e.1.page.isNone && !e.1.lost && fits e.1).take 37

/-- DEEP_SPILL: columns beyond BM_DEEP_HEAD of deep queue `q` go to a page of the reserve, at most 37 in queue order; with
no page to be had they are lost (R341, R352). While its page's device memory cannot be reached, the spill waits (R504, R505,
R508). -/
def execDeepSpill (g q : Nat) (s : State) : Out :=
  done (fun s =>
    let l := s.gq g (deepId q)
    let cand := s.spillColumns g q
    if !(s.forwarding && s.live (8 + g) && s.variant.hasDdr) || cand.isEmpty then s
    else
      let ids := cand.map (·.2)
      let n := cand.length
      let moved := fun (e : Link × Nat) => { s.spilled g e.1 with id := s.bareId + e.2 }
      let t := cand.foldl (fun u e => if e.1.cell.typ = 1 then u else u.parkCell g e.1.id)
        { s with fab.nextId := s.fab.nextId + l.length }
      match t.takePage with
      | (some h, u) =>
        let last := (l.filterMap (·.page)).getLast?
        if u.ddrHeld (u.pageAt h) 16384 || last.any fun old => u.ddrHeld (u.pageAt old) 12 then s
        else
        let l' := l.zipIdx.map fun e => if ids.contains e.2 then { moved e with page := some h } else e.1
        let u := (last.elim u fun old => u.chainPage old h).writePage h
          (q + n * 2 ^ 14 + s.get F.FP_PATTERN_GEN [] * 2 ^ 20) (cand.map fun e => e.1.cell)
        ((u.setGq g (deepId q) l').inc R.BM_SPILLED [g] n).countKind (128 + 8 * g + 5) 3 n |>.countKind (128 + 8 * g + 4) 0 n
      | (none, t) =>
        let l' := l.zipIdx.map fun e => if ids.contains e.2 then { moved e with lost := true } else e.1
        let t := cand.foldl (fun (u : State) e =>
          if e.1.cell.typ = 1 then u else { u with fab.refs := u.fab.refs.put 0 (key2 g (moved e).id) 1 }) t
        (t.setGq g (deepId q) l').report { die := 8 + g, unit := 8, cause := 9 }) s

/-- DEEP_FILL: fewer than BM_DEEP_HEAD − 37 columns of the queue remain on the die: the next page is read back (R352). -/
def execDeepFill (g q bad : Nat) (hdrBad : Bool) (s : State) : Out :=
  done (fun s =>
    let here := ((s.gq g (deepId q)).filter fun l => l.page.isNone).length
    onlyIf (s.forwarding && s.live (8 + g) && decide (here < s.get F.BM_DEEP_HEAD_COLS [g] - 37) && !s.frontHeld g (deepId q))
      (fun s => s.fillPage g (deepId q) bad hdrBad) s) s

/-- GIRTH_QUEUE_VISIT: the queue manager of die `g` visits queue `q` and expedites its head column when it is older than
the residence limit; `bad` is what a page read for it finds (R376). -/
def execGirthQueueVisit (g q bad : Nat) (s : State) : Out :=
  done (fun s =>
    if s.forwarding && s.live (8 + g) && s.fab.repatAt.isNone then
      match s.gq g q with
      | [] => s
      | l :: _ =>
        if l.at_ + s.get F.MD_RESID_LIMIT_US [] * 1000 < s.clock.tick ∧ !(l.page.isSome && s.frontHeld g q) then
          let s := if l.page.isSome then s.fillPage g q bad false else s
          let d := if q < 0x4000 then qDie q else l.cell.port / 64
          let k := if 0x1000 ≤ q ∧ q < 0x4000 then 64 + (q - 0x1000) % 8 else if q < 0x1000 then q / 8 % 64 else l.cell.port % 64
          if s.hasCredit g d k then
            ((s.deliver g q d k).inc R.QM_EXPEDITED [g]).raise F.QM_EVT_EXPEDITE [g] |>.countKind (128 + 8 * g + 6) 1 1
          else s
        else s
    else s) s

/-- RETRAIN_DUE: channel `c`, whose DRAM temperature reads `temp`, falls due for retraining: by time or by temperature
(R505). -/
def execRetrainDue (c : Nat) (temp : Int) (s : State) : Out :=
  done (fun s =>
    onlyIf (s.running && decide (c < s.variant.channels) && s.isOn F.DM_CH_STAT_TRAINED [c]) (fun s =>
      let t := s.set F.DM_CH_STAT_TEMP [c] (unsigned 8 temp)
      let dt := (temp - t.ddr.trainTemp.at 0 c).natAbs
      let due := t.get F.DM_RETRAIN_INTERVAL_S [] * 1000000000 ≤ t.since (t.ddr.trainAt.at 0 c - 1)
        ∨ (t.get F.DM_RETRAIN_DTEMP [] ≤ dt ∧ !t.ddr.trainFailed.contains c)
      if due ∧ !t.ddr.due.contains c then
        { t with ddr.due := (List.range 8).filter fun k => k == c || t.ddr.due.contains k }.requestClaim 3 12
      else t) s) s

/-- RETRAIN_DONE: the retraining of a channel under its claim ends; with `fail` its settings are restored, and it is due again
at its next interval (R505). -/
def execRetrainDone (fail : Bool) (s : State) : Out :=
  done (fun s =>
    match s.retraining with
    | none => s
    | some c =>
      let t := { s with
        ddr.due := s.ddr.due.filter (· != c), ddr.trainAt := s.ddr.trainAt.put 0 c (s.clock.tick + 1)
        ddr.trainFailed := if fail then addOnce c s.ddr.trainFailed else s.ddr.trainFailed.filter (· != c)
        ddr.trainTemp := if fail then s.ddr.trainTemp else s.ddr.trainTemp.put 0 c (signed 8 (s.get F.DM_CH_STAT_TEMP [c])) }
      let t := if fail then (t.inc R.DM_RETRAIN_FAIL [c]).raise F.DM_EVT_RETRAIN_FAIL [] else t
      let t := t.releaseClaim 3 12
      if t.ddr.due.isEmpty then t else t.requestClaim 3 12) s

/-- The patrol scrub may read burst `b` now: it reads all of device memory in rising order, and begins a pass DM_SCRUB.HOURS
after the last began (R506). Log 163 (DEDUCED). -/
def State.scrubDue (s : State) (b : Nat) : Bool :=
  b == s.ddr.scrubNext && s.get F.DM_SCRUB_HOURS [] != 0 && (b != 0 || s.ddr.scrubFrom == 0
    || decide (s.get F.DM_SCRUB_HOURS [] * 3600000000000 ≤ s.since (s.ddr.scrubFrom - 1)))

/-- The patrol scrub has read the burst at offset `o`: the burst is counted, and the next one follows it (R506). -/
def State.scrubPast (s : State) (o : Nat) : State :=
  { s.countKind (160 + s.ddrChannel o) 0 1 with
    ddr.scrubNext := if (o / 64 + 1) * 64 < s.ddrSize then o / 64 + 1 else 0
    ddr.scrubFrom := if o / 64 = 0 then s.clock.tick + 1 else s.ddr.scrubFrom }

/-- DDR_PATROL_SCRUB: a patrol scrub burst reads the 64 bytes at offset `o`, the next of its pass, under a claim of activity 2
on the Tree die; it corrects an error, or meets an uncorrectable one (R506, R507). Log 163 (DEDUCED). -/
def execDdrPatrolScrub (o : Nat) (fixed bad : Bool) (s : State) : Out :=
  done (fun s =>
    onlyIf (s.powered && s.mayBorrow 2 12 && s.scrubDue (o / 64) && decide (o < s.ddrSize) && !s.ddrWaits o) (fun s =>
      let b := o / 64
      let t := s.scrubPast o
      if bad || s.ddr.bad.contains b then
        ({ t with ddr.bad := addOnce b t.ddr.bad }.ddrUe o).inc R.DM_UE_DROP []
      else if fixed then t.ddrCe o else t) s) s

/-- PAGE_RETIRE: the first page due for retirement is remapped to the lowest free spare, and its copy begins (R508); with no
spare free, the buffers that lie in it are withdrawn (R509). Log 164 (DEDUCED). -/
def execPageRetire (s : State) : Out :=
  done (fun s =>
    match s.ddr.retire with
    | [] => s
    | p :: r =>
      let t := { s with ddr.retire := r }
      match (List.range (t.get F.DM_SPARE_PAGES [])).find? fun k => !t.ddr.spares.contains k with
      | some k =>
        let t := { t with ddr.remap := t.ddr.remap.put 0 p (k + 1), ddr.spares := k :: t.ddr.spares
                          ddr.copying := t.ddr.copying ++ [p], ddr.ueAt := t.ddr.ueAt.erase p
                          ddr.ceAt := t.ddr.ceAt.erase p }
        let t := t.set F.DM_SPARE_FREE [] (t.get F.DM_SPARE_FREE [] - 1)
        let t := (t.inc R.DM_RETIRED []).raise F.DM_EVT_RETIRED []
        t.journal (t.entryNow 2 12 10 2 9 (p * 4096) k)
      | none =>
        let t := { t with ddr.spareless := p :: t.ddr.spareless }.raise F.DM_EVT_SPARE_EMPTY []
        forEach (t.buffersIn p) State.withdraw t) s

/-- RETIRE_COPY_DONE: the copy of the oldest page being moved ends; its accesses go to the spare (R508). -/
def execRetireCopyDone (s : State) : Out :=
  done (fun s => { s with ddr.copying := s.ddr.copying.tail }) s

end Sys2Proof.Machine
end

