-- ==== Sys2Proof/Machine/Curb.lean ====
section
/-! DEFINITION. Curb: the policers (R387 to R392). -/

namespace Sys2Proof.Machine

/-- inc(r) of R389 in units of 2^-32 byte a tick: round(r × 536.870912). -/
def rateInc (r : Nat) : Nat := roundDiv (r * 536870912) 1000000

/-- The selection entry's reserved bits and its range are good (R389); `sub` for the sub-port table. -/
def selValid (sub : Bool) (v : Nat) : Bool :=
  bits v 28 17 == 0 && (sub || bits v 30 29 == 0) && (!bit v 30 || decide (v % 2 ^ 17 ≤ 131064)) && decide (v < 2 ^ 32)

namespace State

/-- Fill a policer's buckets and zero its counters at a write (R392). -/
def resetPolicer (s : State) (d i e : Nat) : State :=
  { s with
    shp.tc := s.shp.tc.put 0 (key2 d i) (bits e 63 40 * 2 ^ 32)
    shp.te := s.shp.te.put 0 (key2 d i) (bits e 39 16 * 2 ^ 32)
    shp.polAt := s.shp.polAt.put 0 (key2 d i) s.clock.tick
    shp.polCnt := s.shp.polCnt.keep fun k => k / 4 != key2 d i }

/-- One stage (R390): the colour it gives a frame of `n` bytes with input colour `cin`. -/
def police (s : State) (d i n cin : Nat) : Nat × State :=
  let e := s.tab d .policer i
  if !bit e 7 then (cin, s)
  else
    let k := key2 d i
    let dt := s.clock.tick - s.shp.polAt.at 0 k
    let cbs := bits e 63 40 * 2 ^ 32
    let ebs := bits e 39 16 * 2 ^ 32
    let tcNew := s.shp.tc.at 0 k + rateInc (bits e 127 96) * dt
    let spill := if bit e 5 then tcNew - cbs else 0
    let tc := min cbs tcNew
    let te := min ebs (s.shp.te.at 0 k + rateInc (bits e 95 64) * dt + spill)
    let b := (max 1 (Int.ofNat n + signed 8 (bits e 15 8))).toNat * 2 ^ 32
    let c := if bit e 6 then cin else 0
    let out := if c = 0 ∧ b ≤ tc then 0 else if c ≠ 2 ∧ b ≤ te then 1 else 2
    let tc := if out = 0 then tc - b else tc
    let te := if out = 1 then te - b else te
    (out, { s with
      shp.tc := s.shp.tc.put 0 k tc, shp.te := s.shp.te.put 0 k te, shp.polAt := s.shp.polAt.put 0 k s.clock.tick
      shp.polCnt := s.shp.polCnt.put 0 (4 * k + out) (s.shp.polCnt.at 0 (4 * k + out) + 1) })

/-- Curb's colour for a frame of a first pass (R388), and its counts. Log 78 (DEDUCED). -/
def curb (s : State) (f : Frame) : Nat × State :=
  let d := f.m.slice / 4
  let sel := s.tab d .spSel f.m.subport
  let ten := s.tab d .tenSel f.m.tenant
  let dei := match s.outerTag d f.bytes with | some t => bit t 12 | none => false
  let c0 := if bit sel 29 && dei then 1 else 0
  let r := if s.get F.CB_CTRL_EN [d] = 0 then (c0, s)
    else
      let r1 := if bit sel 31 then s.police d (bits sel 16 0 + (if bit sel 30 then f.m.cls else 0)) f.m.len0 c0 else (c0, s)
      if bit ten 31 then r1.2.police d (bits ten 16 0) f.m.len0 r1.1 else r1
  let t := r.2.countKind (16 * d + 14) r.1 1 (some f.m.tenant)
  let t := match r.1 with
    | 0 => t.inc R.CB_GREEN [d]
    | 1 => t.inc R.CB_YELLOW [d]
    | _ => (t.inc R.CB_RED [d]).raise F.CB_EVT_RED [d]
  (r.1, t)

end State

end Sys2Proof.Machine
end

