-- ==== Sys2Proof/Machine/Slice.lean ====
section
/-! DEFINITION. The ingress slice: a pass from the parser entry to its end (R22 to R24, R33 to R35, R178, R218 to R223,
R228, R243 to R246, R251 to R258, R276 to R287, R296 to R301, R335, R536, R537). -/

namespace Sys2Proof.Machine

/-- The bytes of a pass trace (R538). -/
def PassTrace.bytes (t : PassTrace) : List Byte :=
  leBytes (t.stages + t.profile * 2 ^ 16 + b2n t.ruleV * 2 ^ 20) 4 ++ leBytes (t.rule + t.reason * 2 ^ 14) 4
    ++ leBytes (t.hits + t.plen * 2 ^ 8) 4 ++ leBytes t.exAo 4 ++ leBytes t.lpmAo 4 ++ leBytes t.osId 4
    ++ leBytes (t.ao + t.kind * 2 ^ 17 + t.edits * 2 ^ 20) 4
    ++ leBytes (t.awlFirst + t.awlCount * 2 ^ 16 + t.awlCause * 2 ^ 24) 4
    ++ leBytes (t.flowState + t.flowCause * 2 ^ 4) 4 ++ List.replicate 28 0

/-- How a frame's last pass ends, as the sample record tells it (R538). -/
structure SampleEnd where
  outcome : Nat
  reason : Nat := 0
  step : Nat := 0
  egr : Nat := 0
  group : Nat := 0
  qdepth : Nat := 0
  pool : Nat := 0
  deriving DecidableEq, Repr

/-- A sample record with SEQ, LOST and CHECK still zero (R538). -/
def sampleBytes (m : Meta) (e : SampleEnd) : List Byte :=
  let flags := b2n m.reinj + 2 * b2n m.unscanned + 4 * b2n m.osMulti + 8 * b2n m.ce + 16 * b2n m.asked
  leBytes (0x5352 + 2 ^ 16 + flags * 2 ^ 24) 4
    ++ leBytes (m.slice + m.inPort * 2 ^ 5 + m.trace.length * 2 ^ 14 + m.epoch * 2 ^ 16) 4
    ++ leBytes (m.tenant + m.subport * 2 ^ 16) 4 ++ leBytes (m.len0 + m.cls * 2 ^ 14 + m.colour * 2 ^ 17) 4
    ++ leBytes (e.outcome + e.reason * 2 ^ 4 + e.step * 2 ^ 10 + e.egr * 2 ^ 16) 4 ++ leBytes e.group 4
    ++ leBytes e.qdepth 4 ++ leBytes e.pool 4 ++ List.replicate 32 0
    ++ ((m.trace.take 3).map PassTrace.bytes).flatten ++ List.replicate (256 - 64 * min 3 m.trace.length) 0

/-- The first reason raised on a pass stands in its trace (R538). -/
def Pass.notes (p : Pass) (l : List Nat) : Pass := if p.tr.reason = 0 then { p with tr := { p.tr with reason := l.headD 0 } } else p

/-- Stages of a pass (R538). -/
def stage (i : Nat) (t : PassTrace) : PassTrace := { t with stages := t.stages ||| 2 ^ i }

namespace State

/-- Close a pass's trace on a tagged frame (R537). -/
def traced (p : Pass) : Meta := if p.f.m.sampled then { p.f.m with trace := p.f.m.trace ++ [p.tr] } else p.f.m

/-- The last pass of a tagged frame has ended: its record goes to the Tree die's queue of records (R537). -/
def sampleEnd (s : State) (m : Meta) (e : SampleEnd) : State :=
  if m.sampled then
    let t := s.treeTransfer (m.slice / 4) 0 (some m.tenant)
    if t.recordsFull then t.dropRecord t.sampleRing m.tenant else { t with sl.samples := t.sl.samples ++ [(sampleBytes m e, m.slice)] }
  else s

/-- Reason `r` is raised (R220). -/
def countReason (s : State) (d r : Nat) : State := s.inc R.CL_REASON_CNT [d, r]

/-- The pass ends in a discard charged in category `cat`. -/
def endDrop (s : State) (p : Pass) (cat reason step : Nat) : State :=
  (s.dropInSlice cat p.f.m).sampleEnd (traced p) { outcome := 3, reason := reason, step := step }

/-- Admission refuses the frame: what it tested stands in the sample record (R367, R369, R538). -/
def endRefused (s : State) (p : Pass) (cat : Nat) (e : SampleEnd) : State :=
  (s.dropInSlice cat p.f.m).sampleEnd (traced p) { e with outcome := 3 }

/-- The pass ends in a punt of reason `r`, if the punt policer passes it (R220, R221, R223). -/
def endPunt (s : State) (p : Pass) (r : Nat) : State :=
  let d := p.f.m.slice / 4
  let k := s.takeTokens (bktPunt d r) (s.rd R.CL_PUNT_RATE [d, r]) (s.get F.CL_PUNT_BURST_BURST [d, r]) 1
  if k.1 then
    let t := (k.2.freeHeld p.f.m).sampleEnd (traced p) { outcome := 4, reason := r }
    let t := t.treeTransfer d 0 (some p.f.m.tenant)
    let u : Punt :=
      { f := p.f, reason := r, kv := p.kv, awlRes := p.awlRes, awlList := p.awlList, flowRes := p.flowRes, die := d
        late := s.mode == .drain, awlV := bit p.tr.stages 7, flowV := bit p.tr.stages 8 }
    { t with sl.punts := t.sl.punts ++ [u] }
  else
    ((k.2.inc R.CL_PUNT_DROP [d, r]).raise F.CL_EVT_PUNT_DROP [d]).endDrop p 2 r 0

/-- A reason's action ends the pass. Log 81 (DEDUCED). -/
def endReason (s : State) (p : Pass) (r act : Nat) : State := if act = 1 then s.endDrop p 2 r 0 else s.endPunt p r

/-! ## Resolution (R277) -/

/-- The object a pass resolves, after ECMP (R280): its index. -/
def member (s : State) (d mkey ao : Nat) : Nat :=
  let o := s.tab d .ao ao
  if bits o 127 125 = 5 then bits o 124 108 + keyHash mkey % 65536 * (bits o 107 100 + 1) / 65536 else ao

/-- Send a resolved frame toward the fabric: admission, mirror, mark and cut (R367 to R372). -/
def toFabric (s : State) (p : Pass) (o : Nat) : State :=
  let m := p.f.m
  let sl := m.slice
  let d := sl / 4
  let n := p.f.bytes.length
  let sess := bits o 93 90
  let proto : Cell := { slice := sl, cls := m.cls }
  let mirrorTo := fun (k : Nat) => if s.get F.EQ_SESS_TYPE [d, k] = 1 ∧ k ≠ 0 then
      some (voqId (s.get F.EQ_SESS_PORT [d, k]) (s.get F.EQ_SESS_CLASS [d, k])) else none
  if s.fab.repatAt.isSome then (s.inc R.LC_REPAT_DROP [d]).endDrop p 2 0 0
  else
  let p := { p with tr := stage 11 p.tr }
  if bits o 127 125 = 1 then
    -- MULTICAST: an own-span frame of the slice's multicast stream (R337)
    let g := bits o 123 108
    let mask := bits (s.tab d .mcast g) 71 64 &&& s.liveMask
    let a := s.admitMulticast sl m.cls m.colour n mask
    let qd := s.viewQ sl (mcqId ((setPositions mask 8).headD 0) m.cls)
    if a.1 = 0 then (a.2.2.countMcCause d m.cls a.2.1).endRefused p 1 { outcome := 3, step := a.2.1, group := g, qdepth := qd }
    else
      let mir := a.2.2.grantMirror sl sess n
      let copy := (mirrorTo mir.1).isSome
      let sh := mir.2.shareFrame ((setPositions a.1 8).length + b2n copy) (traced p)
      let f := { p.f with m := { sh.1 with mirror := mir.1 } }
      let t := sh.2.cutFrame (streamKey 1 sl m.cls) { proto with typ := 2, own := true, group := g, dies := a.1, mirQ := mirrorTo mir.1 } true f
      t.sampleEnd (traced p) { outcome := 1, group := g, qdepth := qd }
  else
    let e := bits o 116 108
    let ukey := streamKey 0 sl (voqId e m.cls)
    let ust := s.fab.streams.at {} ukey
    -- behind a deep frame that is not yet released every frame goes to that frame's queue (R351)
    let deep := if 0 < ust.deepOut then some ust.deepQ else if bit o 94 then some m.tenant else none
    let own := sess != 0 || deep.isSome
    let a := s.admitUnicast sl e m.cls m.colour n own deep
    let ctOk := s.isOn F.PG_PORT_CTRL_CT_EN (pix e) && m.pass == 0 && !m.reinj && !p.awlEn && !p.stateful && deep.isNone
      && !s.queuePaused e m.cls && !s.isOn F.GA_CTRL_OPER_EN [e / 64, e % 64] && s.portSpeed e == s.portSpeed m.inPort
      && !s.streamBusy ukey
    let q := match deep with | some q => deepId q | none => voqId e m.cls
    let qd := if deep.isSome then s.maxRep s.fab.repDepth q else s.viewQ sl q
    if p.f.tail && !ctOk then s
    else if a.1 ≠ 0 then
      a.2.endRefused p (if a.1 = 1 then 2 else 1) { outcome := 3, step := a.1, egr := e, qdepth := qd, pool := s.viewP sl e }
    else
      let t := a.2.addPending sl q (s.cellsFor n own)
      let mir := t.grantMirror sl sess n
      let copy := (mirrorTo mir.1).isSome
      let proto := { proto with mirQ := mirrorTo mir.1 }
      let sh := if copy then mir.2.shareFrame 2 (traced p) else (traced p, mir.2)
      let f := { p.f with m := { sh.1 with mirror := mir.1, ct := p.f.tail } }
      let f := if deep.isSome then f else match s.ceMark sl e m.cls f with | some g => g | none => f
      let t := if f.m.ce then sh.2.inc R.EQ_ECN_MARKED [d, m.cls] else sh.2
      let t := match deep with
        | some q =>
          let us := { t.fab.streams.at {} ukey with deepOut := ust.deepOut + 1, deepQ := q }
          let u := { t with fab.streams := t.fab.streams.put {} ukey us }
          u.cutFrame (streamKey 2 sl q) { proto with port := e, own := true, deep := true, group := q } true f
        | none => t.cutFrame ukey { proto with port := e, own := own } own f
      let t := if p.f.tail then
          { t with port.ctTail := t.port.ctTail.put 0 m.inPort (ukey + 1), port.ctFrame := t.port.ctFrame.insert m.inPort f
                   port.ctHead := t.port.ctHead.insert m.inPort { proto with port := e, own := own, mir := mir.1 }
                   port.ctSeen := t.port.ctSeen.insert m.inPort p.f.bytes }
        else t
      let oc := if deep.isSome then 2 else 0
      t.sampleEnd f.m { outcome := oc, egr := e, qdepth := qd, pool := s.viewP sl e }

/-- Another pass (R34): apply the edits, count the pass and queue the frame, or discard it for want of room (R35). -/
def recirculate (s : State) (p : Pass) : State :=
  let m := traced p
  let sl := m.slice
  if 256 ≤ (s.sl.recirc.at [] sl).length then
    let t := { s.countIng sl 4 1 (some m.tenant) with sl.rcOvf := s.sl.rcOvf.put 0 sl (s.sl.rcOvf.at 0 sl + 1) }
    (t.dropInSlice 2 m).sampleEnd m { outcome := 5 }
  else
    let r := s.runEdits (sl / 4) m p.f.bytes p.f.brand
    let t := s.countSkips (sl / 4) r.skips
    let f := { p.f with bytes := r.bytes, brand := r.brand, m := { m with pass := m.pass + 1, resolved := false, exts := [], hdrs := [] } }
    { t with sl.recirc := t.sl.recirc.put [] sl (t.sl.recirc.at [] sl ++ [f]) }

/-- Step 7 of R23: resolution. Log 81 (DEDUCED), 83 (DEDUCED). -/
def resolve (s : State) (p : Pass) : State :=
  let m := p.f.m
  let d := m.slice / 4
  let s := if bit p.awlRes 21 then s.tallyAdd d (s.chargee m) tlyTrans 1 else s
  let te := s.tab d .tenant m.tenant
  let ao0 := p.result.getD 0
  let ao1 := if p.verdict = 2 then p.verdictAo else ao0
  let ao2 := if p.flowAct = 3 then p.flowAo else ao1
  let ao3 := if p.learn = 2 then bits te 35 19 else ao2
  let ao := s.member d p.f.m.mkey ao3
  let o := s.tab d .ao ao
  let kind := bits o 127 125
  let all := p.ruleEdits ++ s.objectEdits d o
  let noObj := p.miss && p.verdict != 2 && p.flowAct != 3 && p.learn != 2
  let ttl := !noObj && bit o 95 && bit p.kv 967
  let again := !noObj && kind == 4 && m.pass == 2
  let names := !noObj && kind == 3
  let tooLong := !noObj && decide (16 < all.length)
  let tr := stage 10 { p.tr with ao := if noObj then 0 else ao, kind := if noObj then 0 else kind, edits := min 16 (if noObj then p.ruleEdits else all).length }
  let cls := if !noObj && bit o 99 then bits o 98 96 else m.cls
  let s := if m.pass = 0 ∧ !m.reinj then s.tallyRebin m cls else s
  let m := { m with ao := ao, cls := cls, resolved := !noObj, exts := fixKeys p.kv all }
  let p := { p with tr := tr, f := { p.f with m := m } }
  -- the reasons raised by the end of steps 2 and 3 (R277), each counted whatever ends the pass (R220)
  let before := (if p.miss then [14] else []) ++ (if p.awlPunt then [17] else []) ++ (if p.flowPunt then [18] else [])
  let acted := before ++ (if p.flowAct = 2 then [18] else [])
  let raised := fun (l : List Nat) => l.foldl (fun u r => u.countReason d r) s
  if p.verdict = 1 ∨ p.flowAct = 1 then (raised before).endDrop (p.notes before) 2 0 0
  else if p.learn = 1 then (raised acted).endDrop (p.notes acted) 2 0 0
  else if !noObj && (s.tabBad d .ao ao3 || s.editsBad d m) then ((raised acted).inc R.XT_ECC_DROP [d]).endDrop (p.notes acted) 2 0 0
  else if !noObj ∧ kind = 2 then 
    let l := acted ++ if ttl then [11] else []
    (raised l).endDrop (p.notes l) 2 0 0
  else
    -- the reasons raised, in order, with their actions (R277)
    let rs := acted.map (·, 0) ++ (if ttl then [(11, s.reasonAct d 11 m.reinj)] else []) ++ (if again then [(15, 0)] else [])
      ++ (if names then [(bits o 113 108, 0)] else []) ++ (if tooLong then [(19, 0)] else [])
    let t := raised (rs.map (·.1))
    let p := p.notes (rs.map (·.1))
    match rs.find? fun r => r.2 != 2 with
    | some r => t.endReason p r.1 r.2
    | none => if kind = 4 then t.recirculate p else t.toFabric p o

/-! ## Holding for the flow unit and for Awl (R246, R257, R296, R300) -/

/-- A flow operation of the pass cannot be made: cause `c` (R300). -/
def flowFails (s : State) (p : Pass) (c : Nat) : Pass × State :=
  let t := s.inc R.FC_CAUSE [c]
  let t := if c = 1 then t.raise F.FC_EVT_FULL [] else if c = 3 then t.raise F.FC_EVT_TIMEOUT []
    else if c = 4 then t.raise F.FC_EVT_ECC [] else t
  let tr := { p.tr with flowCause := c }
  ({ p with flowRes := c * 2 ^ 57, flowPunt := s.isOn F.FC_PROF_A_FAIL_ACT [p.prof], tr := tr }, t)

/-- Step 6 of R23. -/
def afterAwl (s : State) (p : Pass) : State :=
  if !p.stateful then s.resolve p
  else
    let p := { p with tr := stage 8 p.tr }
    let sl := p.f.m.slice
    let c := if 128 ≤ (s.sl.flowQ.at [] sl).length then 2
      else if !s.isOn F.FC_CTRL_EN [] || !s.isOn F.FC_PROF_A_EN [p.prof] then 6 else 0
    if c ≠ 0 then
      let r := s.flowFails p c
      r.2.resolve r.1
    else
      let h : Held := { p := p, at_ := s.clock.tick }
      let t := (s.countIng sl 6 1 (some p.f.m.tenant)).treeTransfer (sl / 4) 0 (some p.f.m.tenant)
      { t with sl.flowQ := t.sl.flowQ.put [] sl (t.sl.flowQ.at [] sl ++ [h]) }

/-- A pass selects its set: SKIP, the window and UNSCAN_ACT are those of this moment (R244, R263). Log 150 (DEDUCED). -/
def askAwl (s : State) (p : Pass) : Pass :=
  let skip := s.get F.AW_SET_CFG_SKIP [p.awlSet]
  { p with
    tr := stage 7 p.tr
    awlSkip := skip
    awlLen := min (64 * s.get F.AW_SET_CFG_WIN64 [p.awlSet]) (p.f.bytes.length - p.q - skip)
    awlAct := s.isOn F.AW_SET_CFG_UNSCAN_ACT [p.awlSet]
    awlEcc := false }

/-- The frame is released unscanned with cause `c` (R257, R258). -/
def unscanned (s : State) (p : Pass) (c : Nat) : Pass × State :=
  let a := p.awlSet
  let t := s.inc (match c with
    | 1 => R.AW_UNSCAN_THROTTLE | 2 => R.AW_UNSCAN_QUEUE | 3 => R.AW_UNSCAN_TIMEOUT | 6 => R.AW_UNSCAN_TIMEOUT
    | _ => R.AW_UNSCAN_SET) [a]
  let t := if c = 3 then t.raise F.AW_EVT_SCAN_TIMEOUT [] else t
  let f := { p.f with m := { p.f.m with unscanned := true } }
  let tr := { p.tr with awlCause := c }
  let rec_ := 2 ^ 20 + c * 2 ^ 17 + a * 2 ^ 12 + p.awlLen
  ({ p with awlRes := rec_, awlPunt := p.awlAct, f := f, tr := tr },
    t.countKind 172 3 1 (some p.f.m.tenant))

/-- Awl's rate in bytes a second for a die (R255, R256). -/
def awlRate (s : State) (d : Nat) : Nat :=
  s.get F.AW_BUDGET_GBPS [d] * 125000000 * (4 - s.get F.AW_THERM_STEP []) / 4

/-- Step 5 of R23. -/
def afterLookups (s : State) (p : Pass) : State :=
  if !p.awlEn || s.variant == .e then s.afterAwl p
  else
    let p := s.askAwl p
    let sl := p.f.m.slice
    let len := p.awlLen
    if len = 0 then s.afterAwl { p with awlRes := p.awlSet * 2 ^ 12 }
    else
      let b := s.takeTokens (bktAwl (sl / 4)) (s.awlRate (sl / 4)) 65536 len
      let c := if !b.1 then 1 else if 128 ≤ (s.sl.awlQ.at [] sl).length then 2
        else if s.get F.AW_SET_CFG_STATE [p.awlSet] ≠ 2 then 4 else if !s.isOn F.AW_CTRL_EN [] then 5 else 0
      if c = 0 then
        let h : Held := { p := p, at_ := s.clock.tick }
        let t := (b.2.countIng sl 6 1 (some p.f.m.tenant)).treeTransfer (sl / 4) 0 (some p.f.m.tenant)
        { t with sl.awlQ := t.sl.awlQ.put [] sl (t.sl.awlQ.at [] sl ++ [h]) }
      else
        let r := s.unscanned p c
        r.2.afterAwl r.1

/-! ## Lookups and learning (R276, R286, R287) -/

/-- A tenant's learned entries have reached its limit (R289). -/
def tenantFull (s : State) (d tenant : Nat) : Bool :=
  let lim := bits (s.tab d .tenant tenant) 17 0
  lim != 0x3FFFF && decide (lim ≤ s.ts.tenantCnt.at 0 tenant)

/-- The source lookup and the ingress die's part of learning (R286, R287, R291). Log 152 (DEDUCED). -/
def learnCheck (s : State) (p : Pass) (te : Nat) : Pass × State :=
  let m := p.f.m
  let d := m.slice / 4
  let key := s.srcKey d p.prof p.kv te
  let met := (s.exFind d d key).filter fun e => bit e.2 31
  let ecc := met.any fun e => s.tabBad d .exact e.1
  let hit := if ecc then none else met
  let s := if ecc then s.inc R.XT_ECC_MISS [d] else s
  let p := { p with tr := stage 9 { p.tr with hits := p.tr.hits + (if hit.isSome then 128 else 0) } }
  let s := match hit with
    | some e => if bit e.2 29 then s.noteHit d e.1 key m.inPort m.tenant else s
    | none => s
  let base := s.get F.TS_LEARN_BASE_BASE []
  let move := match hit with
    | some e => bit e.2 30 && bits e.2 16 0 != base + m.inPort
    | none => false
  let want := m.pass == 0 && !m.reinj && bit te 18 && s.isOn F.TS_CTRL_LEARN_EN [] && s.mode == .run
    && s.get F.MD_UNIT_MODE_MODE [d] != 4 && (hit.isNone || move)
  if !want then (p, s)
  else if s.isOn F.TS_PCNT_AT_LIMIT [m.inPort] || s.tenantFull d m.tenant then
    ({ p with learn := if s.isOn F.TS_PLIM_LIMIT_ACT [m.inPort] then 2 else 1 }, s.inc R.XT_LIMIT_ACT [d])
  else if hit.isNone && (s.storePlace d .exact (s.exHash d key) exOvf exOvfN).isNone then
    ({ p with learn := 2 }, (s.inc R.XT_LEARN_FULL [d]).raise F.XT_EVT_LEARN_FULL [d])
  else if s.ts.asked.contains (d, key) then (p, s)
  else
    let t := ((s.inc R.XT_LEARN_REQ [d]).countKind (16 * d + 13) 7 1 (some m.tenant)).treeTransfer d 0 (some m.tenant)
    ({ p with f := { p.f with m := { m with asked := true } } },
      { t with ts.learn := t.ts.learn ++ [(key, m.tenant, m.inPort, d)], ts.asked := t.ts.asked ++ [(d, key)] })

/-- Step 4 of R23. -/
def lookups (s : State) (p : Pass) : State :=
  let m := p.f.m
  let d := m.slice / 4
  let pl := p.prof
  let te := s.tab d .tenant m.tenant
  if s.tabBad d .tenant m.tenant then (s.inc R.XT_ECC_DROP [d]).endDrop p 2 0 0
  else
    let blk := 16 * d + 13
    let who := some m.tenant
    -- exact store
    let exk := s.exKey d pl p.kv te
    let exh := (exk.bind fun k => s.exFind d d k).filter fun e => bit e.2 31
    let ecc := exh.any fun e => s.tabBad d .exact e.1
    let ex := if ecc then none else exh
    let s := if exk.isSome then s.countKind blk 0 1 who else s
    let s := if ecc then s.inc R.XT_ECC_MISS [d] else s
    let s := match ex, exk with
      | some e, some k =>
        let t := (s.inc R.XT_EX_HIT [d]).countKind blk 1 1 who
        if bit e.2 29 && !bit e.2 30 then t.noteHit d e.1 k m.inPort m.tenant else t
      | _, _ => s
    -- LPM
    let lpmOn := s.get F.XT_PLAN_A_LPM [d, pl] != 0
    let lpw : Option (Nat × Nat) × Nat := s.lpmLookup d pl p.kv te
    let lpm := lpw.1
    let s := if lpw.2 = 0 then s else s.inc R.XT_ECC_MISS [d] lpw.2
    let s := if lpmOn then s.countKind blk 2 1 who else s
    let s := if lpm.isSome then (s.inc R.LP_HIT [d]).countKind blk 3 1 who else s
    -- ordered store
    let osOn := s.isOn F.XT_PLAN_A_OS_EN [d, pl]
    let adm := if osOn then s.osAdmit m.slice else (true, s)
    let s := adm.2
    let skipped := osOn && !adm.1
    let osr := if osOn && adm.1 then s.osSearch d (s.osKey d pl p.kv te m.tenant) else none
    let s := if osOn && adm.1 then (s.inc R.OS_SEARCH [d]).countKind blk 4 1 who else s
    let s := if skipped then (s.inc R.OS_THROTTLED [d]).countKind blk 5 1 who else s
    let s := if osr.isSome then s.inc R.OS_HIT [d] else s
    let multi := osr.any fun e => e.2.2
    let s := if multi then s.inc R.OS_MULTI [d] else s
    let m := { m with osMulti := multi }
    let p := { p with f := { p.f with m := m } }
    let exAo := ex.map fun e => bits e.2 16 0
    let lpAo := lpm.map fun e => e.2
    let osA := osr.map fun e => osAo e.2.1
    let tr : PassTrace := { p.tr with
      stages := p.tr.stages + (if exk.isSome then 16 else 0) + (if lpmOn then 32 else 0) + (if osOn then 64 else 0)
      hits := b2n ex.isSome + 2 * b2n lpm.isSome + 4 * b2n osr.isSome + 8 * b2n multi
      plen := (lpm.map (·.1)).getD 0, exAo := exAo.getD 0, lpmAo := lpAo.getD 0
      osId := (osr.map fun e => osId e.2.1).getD 0 }
    let p := { p with tr := tr }
    if osr.any fun e => s.tabBad d .os e.1 then (s.inc R.OS_ECC_DROP [d]).endDrop p 2 0 0
    else if skipped && s.get F.OS_PLAN_C_SKIP_ACT [d, pl] == 1 then s.endDrop p 2 0 0
    else if skipped && s.get F.OS_PLAN_C_SKIP_ACT [d, pl] == 2 then (s.countReason d 14).endPunt (p.notes [14]) 14
    else
      let res := match s.get F.XT_PLAN_A_RES_ORDER [d, pl] with
        | 0 => osA <|> exAo <|> lpAo
        | 1 => exAo <|> lpAo <|> osA
        | _ => exAo <|> osA <|> lpAo
      let s := if res.isNone then s.inc R.XT_PLAN_MISS [d] else s
      let p := match res, s.get F.XT_PLAN_A_MISS_ACT [d, pl] with
        | some a, _ => { p with result := some a }
        | none, 0 => { p with miss := true }
        | none, 1 => { p with result := some (bits te 35 19) }
        | none, _ => { p with result := some (s.get F.XT_PLAN_C_MISS_AO [d, pl]) }
      let r := if s.isOn F.XT_PLAN_A_LEARN [d, pl] && m.pass == 0 && !m.reinj then s.learnCheck p te else (p, s)
      r.2.afterLookups r.1

/-! ## Parser, sub-port map, classifier and Curb -/

/-- The events of a first pass that came before its frame's tenant was fixed count for the tenant now (R531).
Log 188 (DEDUCED). -/
def countFirstLate (s : State) (m : Meta) (tenant : Nat) : State :=
  let s := (s.countIngLate m.slice 0 1 tenant).countIngLate m.slice (if m.reinj then 3 else 1) 1 tenant
  let s := if m.reinj then s else s.countIngLate m.slice 8 m.rxLen tenant
  if m.sampled then s.countIngLate m.slice 7 1 tenant else s

/-- Steps 2 and 3 of R23, on a frame whose sub-port is known. -/
def classify (s : State) (p : Pass) : State :=
  let m := p.f.m
  let d := m.slice / 4
  let s := s.inc R.CL_CLASSIFIED [d]
  let mkey := s.matchKey d m.epoch p.prof p.kv
  let w := s.winner d m.epoch p.prof mkey
  let p := { p with f := { p.f with m := { m with mkey := mkey } } }
  let s := if w.isNone then s.countReason d 13 else s
  let act := s.reasonAct d 13 m.reinj
  let first := m.pass == 0
  let tenant0 := if first then p.spTenant else m.tenant
  let cls0 := if first then p.defClass else m.cls
  let sub := s.tab d .spTab m.subport
  let lock := bit sub 45
  let (tenant, cls) := match w with
    | some r => (if bit r.2 58 && first && !lock then bits r.2 57 44 else tenant0, if bit r.2 43 then bits r.2 42 40 else cls0)
    | none => (tenant0, cls0)
  let s := if w.any fun r => bit r.2 58 && first && lock then s.inc R.CL_TENANT_LOCKED [d] else s
  let m := { p.f.m with tenant := tenant, cls := cls, ruleV := w.isSome, rule := (w.map (·.1)).getD 0 }
  let s := if first then s.countFirstLate m tenant else s
  let cin := first && !m.reinj
  let s := if cin then s.tallyIn m else s
  let m := { m with counted := m.counted || cin, inBank := if cin then s.tally.bank else m.inBank }
  let rsn := if p.tr.reason = 0 ∧ w.isNone then 13 else p.tr.reason
  let tr := stage 2 { p.tr with profile := p.prof, ruleV := w.isSome, rule := (w.map (·.1)).getD 0, reason := rsn }
  let p := { p with
    f := { p.f with m := m }, tr := tr
    ruleEdits := (w.map fun r => ruleEdits r.2).getD []
    stateful := w.any fun r => bit r.2 39
    awlEn := w.any fun r => bit r.2 38
    awlSet := (w.map fun r => bits r.2 37 34).getD 0 }
  if w.isNone ∧ act ≠ 2 then s.endReason p 13 act
  else if cin then
    let c := s.curb p.f
    let p := { p with f := { p.f with m := { m with colour := c.1 } }, tr := stage 3 p.tr }
    if c.1 = 2 then c.2.endDrop p 0 0 0 else c.2.lookups p
  else s.lookups p

/-- Fill in the sub-port fields of the key vector (R218). -/
def kvSub (kv sp tenant cls : Nat) : Nat := setBits (setBits (setBits kv 1014 999 sp) 998 985 tenant) 984 982 cls

/-- A pass from the parser entry (R23): the frame has its epoch, time and sampling tag. Log 223 (DEDUCED). -/
def runPass (s : State) (f : Frame) : State :=
  let d := f.m.slice / 4
  let w := s.parse f
  let s := s.inc R.PA_PARSED [d]
  let s := if w.overflow = 0 then s else (s.inc R.PA_EXTRACT_OVF [d] w.overflow).raise F.PA_EVT_EXTRACT_OVF [d]
  let s := w.reasons.foldl (fun t r => t.countReason d r) s
  let tr : PassTrace := stage 0 { reason := w.reasons.headD 0 }
  -- what an earlier pass's search found rides for that pass only (R317)
  let base : Pass := { f := { f with m := { f.m with hdrs := w.hdrs, osMulti := false } }, q := w.q, prof := w.prof, tr := tr }
  if f.m.pass ≠ 0 then
    let kv := kvSub w.kv f.m.subport f.m.tenant f.m.cls
    let p := { base with kv := kv, spTenant := f.m.tenant, defClass := f.m.cls }
    match w.halt with
    | some (r, a) => s.endReason p r a
    | none => s.classify p
  else
    let fate := if f.m.reinj then SpFate.takes f.m.subport false else s.mapSubport f w.vni
    let withSub := fun (sp : Nat) =>
      let e := s.tab d .spTab sp
      let m := { base.f.m with
        subport := sp, tenant := bits e 62 49, cls := bits e 48 46, counted := f.m.counted || !f.m.reinj }
      { base with
        f := { base.f with m := m }
        kv := kvSub w.kv sp (bits e 62 49) (bits e 48 46), spTenant := bits e 62 49, defClass := bits e 48 46
        tr := if f.m.reinj then tr else stage 1 tr }
    let inn := fun (t : State) (p : Pass) =>
      let t := t.countFirstLate p.f.m p.f.m.tenant
      if f.m.reinj then t else t.tallyIn p.f.m
    match fate with
    | .discard none => (s.inc R.SP_MISS (pix f.m.inPort)).endDrop base 2 0 0
    | .discard (some sp) =>
      let p := withSub sp
      match w.halt with
      | some (r, a) => (inn s p).endReason p r a
      | none => ((inn s p).inc R.SP_MISS (pix f.m.inPort)).endDrop p 2 0 0
    | .takes sp punt =>
      let p := (withSub sp).notes (if punt then [16] else [])
      -- reason 16 is raised, and counted, whatever ends the pass (R220)
      let s := if punt then s.countReason d 16 else s
      match w.halt with
      | some (r, a) => (inn s p).endReason p r a
      | none =>
        if punt then (inn s p).endPunt p 16
        else if bit (s.tab d .spTab sp) 44 then ((inn s p).inc R.SP_MISS (pix f.m.inPort)).endDrop p 2 0 0
        else s.classify { p with f := { p.f with m := { p.f.m with counted := f.m.counted } } }

/-- The epoch that a die stamps (R111, R112). -/
def stampEpochOf (s : State) (x : Nat) : Nat := s.get F.MD_UNIT_MODE_EPOCH [x]

/-- Stamp a first pass: epoch, time and the sampling tag (R22, R106, R222, R536). Log 78 (DEDUCED). -/
def stampFirst (s : State) (f : Frame) : Frame × State :=
  let sl := f.m.slice
  let e := s.stampEpochOf (sl / 4)
  let s := s.epochAdd e
  let t16 := if f.m.timeSrc then s.clock.tai * 65536 else f.m.t16
  let m := { f.m with epoch := e, live := true, t16 := t16 }
  if !s.isOn F.SM_CFG_EN [] then ({ f with m := m }, s)
  else
    let g0 := s.sl.smGen.at 0 sl
    let g := lfsrStep 0x80200003 (if g0 = 0 then 0x5A4D9840 + sl else g0)
    let s := { s with sl.smGen := s.sl.smGen.put 0 sl g }
    if g % 2 ^ s.get F.SM_CFG_K [] = 0 then
      let b := s.takeTokens (bktSample sl) (s.rd R.SM_RATE []) (s.get F.SM_BURST_BURST []) 1
      if b.1 then ({ f with m := { m with sampled := true } }, (b.2.inc R.SM_TAGGED []).countIng sl 7)
      else ({ f with m := m }, b.2.inc R.SM_RATE_DROP [])
    else ({ f with m := m }, s)

/-- A first pass of a frame from a port or of a reinjected frame. Log 79 (DEDUCED). -/
def firstPass (s : State) (f : Frame) : State :=
  let s := (s.countIng f.m.slice 0).countIng f.m.slice (if f.m.reinj then 3 else 1)
  let r := s.stampFirst f
  r.2.runPass r.1

/-- A recirculated frame re-enters the parser: poison and the recirculation check come first (R198, R199, R201).
Log 82 (DEDUCED). -/
def laterPass (s : State) (f : Frame) : State :=
  let d := f.m.slice / 4
  let s := (s.countIng f.m.slice 0 1 (some f.m.tenant)).countIng f.m.slice 2 1 (some f.m.tenant)
  let n := f.bytes.length
  if f.poison then ((s.brandFail d 1 0 f.m false 0 0 n).dropInSlice 2 f.m).sampleEnd f.m { outcome := 3 }
  else
    let c := crc32c f.bytes
    if c ≠ f.brand then ((s.brandFail d 5 0 f.m false f.brand c n).dropInSlice 2 f.m).sampleEnd f.m { outcome := 3 }
    else s.runPass f

end State

/-- The first pass of the head of port group `g`'s FIFO. A head whose tail is still arriving has work ready only when it is
cut through (R29, R178). Log 79 (DEDUCED). -/
def State.passFrom (s : State) (g : Nat) : Option State :=
  match s.port.fifo.at [] g with
  | f :: r =>
    let t := (s.setFifo g r).firstPass f
    if f.tail && t.port.ctTail.at 0 f.m.inPort == 0 then none else some t
  | [] => none

/-- INGRESS_PASS: a packet-pass slot of slice `sl` is granted (R43). A borrow slot of the claim of activity `act` goes
first; then a frame of the slice's port groups, `second` choosing between them; then reinjection; then recirculation.
`nm` is what its check latches saw (R47). Log 46 (DEDUCED), 79 (DEDUCED). -/
def execIngressPass (sl : Nat) (borrow : Option Nat) (second : Bool) (nm : Nat) (s : State) : Out :=
  done (fun s =>
    let d := sl / 4
    if !s.forwarding || !s.live d || !decide (sl < 32) || s.tack.edrain.any (fun e => e.macsStopped) then s
    else
      let s := s.checkLatches d nm
      let g0 := 8 * d + 2 * (sl % 4)
      let q0 := s.port.fifo.at [] g0
      let q1 := s.port.fifo.at [] (g0 + 1)
      let g := if (second && !q1.isEmpty) || q0.isEmpty then g0 + 1 else g0
      match borrow.filter fun a => s.mayTakeSlot a d (8 * d + sl % 4) with
      | some a => ((s.countIng sl 5).takeSlot a d (8 * d + sl % 4)).keepSlot a d
      | none =>
        match s.passFrom g <|> s.passFrom (2 * g0 + 1 - g), s.sl.reinj.at [] sl, s.sl.recirc.at [] sl with
        | some t, _, _ => t
        | none, f :: r, _ => { s with sl.reinj := s.sl.reinj.put [] sl r }.firstPass f
        | none, [], f :: r => { s with sl.recirc := s.sl.recirc.put [] sl r }.laterPass f
        | none, [], [] => s) s

namespace State

/-- The tail of the cut-through frame from port `p` has come: its last bytes and its tail record go into its stream, and
the cell that holds them is closed (R335). `fail` is what the MAC found wrong. Log 78 (DEDUCED). -/
def endCut (s : State) (p : Nat) (body : List Byte) (fail : Option RegSpec) : State :=
  match s.port.ctTail.at 0 p, s.port.ctFrame.find? p with
  | k + 1, some f =>
    let n := f.bytes.length + body.length
    let m := { f.m with rxLen := n + 4, len0 := n }
    -- the Brand of the frame as admitted, with the update that the CE mark of its head made (R194, R196)
    let seen := s.port.ctSeen.at f.bytes p
    let brand := brandSet (crc32c (seen ++ body)) n 0 seen f.bytes
    let proto := s.port.ctHead.at {} p
    let tail := (brand, n, fail.isSome)
    let t := s.setHeld p m.pri (s.fcHeld p m.pri + body.length)
    let t := State.appendBytes k proto (some m) (some tail) 70 body t
    let t := if body.isEmpty then
        -- nothing but the FCS was still to come: the record goes with the open cell, or with an empty one
        let st := t.fab.streams.at {} k
        let c := st.cur.getD { proto with typ := 0 }
        let c' := { c with ends := c.ends ++ [m], tailRec := some tail }
        let since := if st.cur.isNone && st.done.isEmpty then t.clock.tick else st.since
        { t with fab.streams := t.fab.streams.put {} k { st with cur := some c', since := since } }
      else t
    let t := if ((t.fab.streams.at {} k).cur.any fun c => c.tailRec.isSome) then t.closeCell k else t
    let t := if proto.own then t.sendSpan k else t
    let t := match fail with
      | some c => t.inc c (State.pix p)
      | none => t.countAdmitted p (n + 4)
    let t := t.tallyAdd (f.m.slice / 4) f.m.tenant (State.tlyOctIn (t.tallyBin f.m.tenant f.m.cls)) (n + 4 - f.m.rxLen)
    let t := { t with
      port.ctTail := t.port.ctTail.erase p, port.ctFrame := t.port.ctFrame.erase p, port.ctHead := t.port.ctHead.erase p
      port.ctSeen := t.port.ctSeen.erase p, port.rxBad := t.port.rxBad.erase p }
    t.cutBehind k
  | _, _ => s

/-- The tail `rest` of the frame whose head `f` stands in its group's FIFO comes, FCS included: it is tested as any other
frame (R178), and takes the room it needs (R172). Log 75 (DEDUCED). -/
def tailWaits (s : State) (p : Nat) (f : Frame) (rest : List Byte) (rxErr : Bool) : State :=
  let g := p / 8
  let body := rest.take (rest.length - 4)
  let bytes := f.bytes ++ body
  let drop := fun (c : RegSpec) =>
    ((s.setFifo g ((s.port.fifo.at [] g).filter fun q => !(q.m.inPort == p && q.tail))).freeHeld f.m).inc c (pix p)
  match s.macFail p (bytes.length + 4) (rxErr || ofLe (rest.drop (rest.length - 4)) != crc32 bytes) with
  | some c => drop c
  | none =>
    if 256 * 1024 < s.fifoBytes g + body.length then drop R.RX_OVERRUN
    else
      let m := { f.m with rxLen := bytes.length + 4, len0 := bytes.length }
      let f' := { f with m := m, bytes := bytes, brand := crc32c bytes, tail := false }
      let t := s.setFifo g ((s.port.fifo.at [] g).map fun q => if q.m.inPort == p && q.tail then f' else q)
      (t.setHeld p m.pri (t.fcHeld p m.pri + body.length)).countAdmitted p m.rxLen

/-- The tail of a frame that is being cut through comes: its FCS is tested over the bytes as they were received (R203,
R335). Log 78 (DEDUCED). -/
def tailFlows (s : State) (p : Nat) (f : Frame) (rest : List Byte) (rxErr : Bool) : State :=
  let body := rest.take (rest.length - 4)
  let bytes := s.port.ctSeen.at f.bytes p ++ body
  s.endCut p body (s.macFail p (bytes.length + 4) (rxErr || ofLe (rest.drop (rest.length - 4)) != crc32 bytes))

end State

/-- TAIL_RECORD: the rest of a frame whose head came early arrives at port `p`, FCS included (R29, R335); `rx` says whether
the PCS marked it, and the symbols in error of its codewords, as for FRAME_ADMIT. Log 78 (DEDUCED), 80 (DEDUCED), 85 (DEDUCED). -/
def execTailRecord (p : Nat) (rest : List Byte) (rx : Bool × List Nat) (s : State) : Out :=
  done (fun s =>
    let (rxErr, fec) := rx
    let s := if s.lineOpen p then s.countFec p fec else s
    if s.lineOpen p && s.loopback p == 2 then s.resend p rest
    else if rest.length < 4 then s
    else
      let bad := rxErr || s.fecFails p fec || s.port.rxBad.at 0 p != 0
      let take := fun (head : Nat) (k : State → State) =>
        if s.hears p fun b => b.drop head == rest then k ({ s with port.rxBad := s.port.rxBad.erase p }.unloop p) else s
      match (s.port.fifo.at [] (p / 8)).find? (fun f => f.m.inPort == p && f.tail), s.port.ctFrame.find? p with
      | some f, _ => take f.bytes.length fun t => t.tailWaits p f rest bad
      | none, some f => take f.bytes.length fun t => t.tailFlows p f rest bad
      | none, none => s) s

/-- PUNT_POLICER_WRITE: a write of RATE (`burst` false) or BURST fills the policer's bucket (R223, R241). -/
def execPuntPolicerWrite (d r : Nat) (burst : Bool) (v : Nat) (s : State) : Out :=
  done (fun s =>
    onlyIf (s.powered && s.live d && decide (d < 8) && decide (1 ≤ r) && decide (r ≤ 63) && !(decide (20 ≤ r) && decide (r ≤ 31)))
      (fun s =>
        if burst then
          if v % 65536 = 0 then s else (s.set F.CL_PUNT_BURST_BURST [d, r] v).fillBucket (bktPunt d r)
        else (s.wr R.CL_PUNT_RATE [d, r] (min v 200000000)).fillBucket (bktPunt d r)) s) s

end Sys2Proof.Machine
end

