-- ==== Sys2Proof/Machine/Egress.lean ====
section
/-! DEFINITION. The egress slice: queues and slots, Gait, Rein, the final check and the transmitting MAC (R28, R169,
R175 to R177, R179, R198 to R206, R362, R363, R373 to R375, R393 to R405, R410 to R412). -/

namespace Sys2Proof.Machine

/-- The key of what Lacing of die `d` holds of stream `st` in queue `q`. -/
def asmKey (d q st : Nat) : Nat := (d * 2 ^ 16 + q) * 2 ^ 80 + st

namespace State

/-! ## Queues and slots -/

/-- An egress queue. -/
def eq (s : State) (p c : Nat) : List EFrame := s.fab.egq.at [] (key2 p c)

/-- Replace an egress queue; the deficit of an empty queue is zero (R398). -/
def setEq (s : State) (p c : Nat) (l : List EFrame) : State :=
  let k := key2 p c
  let t := { s with fab.egq := s.fab.egq.put [] k l }
  if l.isEmpty then { t with shp.deficit := t.shp.deficit.erase k, shp.waited := t.shp.waited.erase k } else t

/-- Cells that Lacing of die `d` holds (R360). -/
def lacingCells (s : State) (d : Nat) : Nat :=
  ((s.fab.lace.filter fun e => e.1 / 2 ^ 40 == d).map fun e => (e.2.spans.map fun p => p.cells.length).sum).sum
    + ((s.fab.asm.filter fun e => e.1 / 2 ^ 96 == d).map fun e => match e.2.cur with | some f => if f.early then 0 else f.slots | none => 0).sum

/-- Cell slots in use on die `d` (R363). -/
def slotsUsed (s : State) (d : Nat) : Nat :=
  s.lacingCells d
    + ((s.fab.egq.filter fun e => e.1 / 2 ^ 46 == d).map fun e => (e.2.map EFrame.slots).sum).sum
    + ((s.fab.mc.filter fun e => e.1 / 2 ^ 40 == d).map fun e => e.2.2.1).sum
    + ((s.port.tx.filter fun e => e.1 / 64 == d).map fun e => e.2.e.slots).sum

/-- Show the free slots and the cells in Lacing. -/
def showSlots (d : Nat) (s : State) : State :=
  (s.set F.EQ_BUF_FREE [d] (32768 - s.slotsUsed d)).set F.LC_HELD_CELLS [d] (s.lacingCells d)

/-- A frame or copy has left the egress die: its drain count, its place in its stream and its share of a multicast frame
are released (R30, R32, R115). Log 99 (DEDUCED). -/
def leaveEgress (s : State) (d : Nat) (e : EFrame) : State :=
  match e.mc with
  | none => s.refOut e.m
  | some n =>
    -- the die's reference goes with its last member port
    let k := key2 d n
    let v := s.fab.mc.at (0, 0, 0) k
    if v.1 ≤ 1 then { s with fab.mc := s.fab.mc.erase k }.refOut e.m
    else { s with fab.mc := s.fab.mc.put (0, 0, 0) k (v.1 - 1, v.2) }

/-- A frame or copy for port `p` is discarded on its egress die, counted in `ctr` and charged in category `cat`.
Log 100 (DEDUCED). -/
def dropEgress (s : State) (p cat : Nat) (ctr : RegSpec) (e : EFrame) : State :=
  let d := p / 64
  ((s.inc ctr [d, p % 64]).tallyDrop d cat e.m).leaveEgress d e

/-- A frame whose object or edit list die `d` cannot read is discarded there (R294). -/
def dropEdits (s : State) (d : Nat) (e : EFrame) : State :=
  ((s.inc R.XT_ECC_DROP [d]).tallyDrop d 2 e.m).leaveEgress d e

/-- The frame's age exceeds the residence limit (R374). -/
def aged (s : State) (m : Meta) : Bool :=
  decide (m.t16 + s.get F.MD_RESID_LIMIT_US [] * 65536000 < s.clock.tai * 65536)

/-- A residence discard (R375). -/
def dropAged (s : State) (p : Nat) (e : EFrame) : State :=
  let t := (s.dropEgress p 1 R.EQ_RESID_DROP e).raise F.EQ_EVT_RESID_DROP [p / 64]
  t.countEgr (sliceOf p) 7 1 (some e.m.tenant)

/-- Wire length of `n` bytes without FCS (R394). Log 95 (DESIGN CHOICE). -/
def wireLen (n : Nat) : Nat := max 60 n + 24

/-- L_w of a frame (R394): that of its bytes, every edit taken to apply. A cut-through frame's is not known as it is queued. -/
def frameWire (s : State) (d : Nat) (e : EFrame) : Nat :=
  if e.whole then wireLen (s.editedLen d e.m e.bytes) else Config.ctWire s.free

/-- Put a frame at the tail of its egress queue. Log 95 (DESIGN CHOICE). -/
def enqueue (s : State) (p c : Nat) (e : EFrame) : State :=
  let lw := s.frameWire (p / 64) e
  let s := if e.whole then s else s.takeFree.2
  s.setEq p c (s.eq p c ++ [{ e with lw := lw }])

/-! ## Gait (R399 to R405) -/

/-- The entries of a port's list: gates and interval. -/
def gateEntries (s : State) (p : Nat) (t : Tbl) (len : Nat) : List (Nat × Nat) :=
  (List.range len).map fun i =>
    let e := s.tab (p / 64) t ((p % 64) * 1024 + i)
    (bits e 39 32, bits e 29 0)

/-- The segments of one cycle of a list: start, end and gates (R400). -/
def segmentsOf (cycle : Nat) (entries : List (Nat × Nat)) : List (Nat × Nat × Nat) :=
  let starts := entries.foldl (fun (a : Nat × List (Nat × Nat × Nat)) e => (a.1 + e.2, a.2 ++ [(a.1, a.1 + e.2, e.1)])) (0, [])
  let l := starts.2.filter fun x => decide (x.1 < cycle)
  match l.reverse with
  | [] => []
  | x :: r => (((x.1, cycle, x.2.2) :: r).reverse).map fun y => (y.1, min cycle y.2.1, y.2.2)

/-- The operating list of a port in segments, and its cycle. -/
def operList (s : State) (p : Nat) : List (Nat × Nat × Nat) × Nat :=
  let cycle := s.get F.GA_OPER_CYCLE_CYCLE (pix p)
  (segmentsOf cycle (s.gateEntries p .gaitOper (s.get F.GA_OPER_LEN_LEN (pix p))), cycle)

/-- Gates are in use on a port. -/
def gaitOn (s : State) (p : Nat) : Bool := s.isOn F.GA_CTRL_OPER_EN (pix p)

/-- The offset of TAI now in the operating cycle (R400). -/
def gateOffset (s : State) (p cycle : Nat) : Nat :=
  let sec := s.rd R.GA_OPER_BASE_SEC_LO (pix p) + s.get F.GA_OPER_BASE_SEC_HI_SEC (pix p) * 2 ^ 32
  let base := sec * 1000000000 + s.get F.GA_OPER_BASE_NS_NS (pix p)
  ((Int.ofNat s.clock.tai - Int.ofNat base) % Int.ofNat (max 1 cycle)).toNat

/-- How long gate `q` stays open from offset `o`: the lengths of the open segments from there, over two cycles. -/
def openRun (q o cycle : Nat) (segs : List (Nat × Nat × Nat)) : Nat :=
  let later := (segs.filter fun x => decide (o < x.2.1)).map fun x => (max o x.1, x.2)
  let next := segs.map fun x => (x.1 + cycle, x.2.1 + cycle, x.2.2)
  ((later ++ next).takeWhile fun x => bit x.2.2 q).foldl (fun a x => a + (x.2.1 - x.1)) 0

/-- The longest window of queue `q`; none when its gate never closes (R402). -/
def longestWindow (q cycle : Nat) (segs : List (Nat × Nat × Nat)) : Option Nat :=
  if segs.all fun x => bit x.2.2 q then none
  else some ((segs.map fun x => openRun q x.1 cycle segs).foldl max 0)

/-- W of R401 for a frame of `n` bytes as sent, FCS included. -/
def sendTime (s : State) (p n : Nat) : Nat := ceilDiv ((n + 8) * 8) (max 1 (s.portSpeed p))

/-- The armed takeover instant of a port, if it has one (R401, R403). -/
def armedInstant (s : State) (p : Nat) : Option Nat :=
  match s.modes.commit with
  | some c => if bit c.kinds 1 && s.isOn F.GA_CTRL_ARM (pix p) && !c.reached then some c.instant else none
  | none => none

/-- The frame may begin now (R401). -/
def windowOpen (s : State) (p q n : Nat) : Bool :=
  let w := s.sendTime p n
  let now := s.clock.tai
  let clear := match s.armedInstant p with
    | some t => !(decide (now < t) && decide (t < now + w))
    | none => true
  if !s.gaitOn p then clear
  else
    let l := s.operList p
    clear && (l.1.all (fun x => bit x.2.2 q) || decide (w ≤ openRun q (s.gateOffset p l.2) l.2 l.1))

/-- The frame never fits its queue's windows (R402). -/
def neverFits (s : State) (p q n : Nat) : Bool :=
  s.gaitOn p &&
    let l := s.operList p
    match longestWindow q l.2 l.1 with
    | some w => decide (w < s.sendTime p n)
    | none => false

/-- The gate of queue `q` of port `p` is closed now (R400). -/
def gateShut (s : State) (p q : Nat) : Bool :=
  s.gaitOn p &&
    let l := s.operList p
    let o := s.gateOffset p l.2
    match l.1.find? fun x => decide (o < x.2.1) with
    | some x => !bit x.2.2 q
    | none => false

/-- Show the gates and the entry in force (R409). -/
def showGates (s : State) (p : Nat) : State :=
  if s.gaitOn p then
    let l := s.operList p
    let o := s.gateOffset p l.2
    let i := (l.1.findIdx? fun x => decide (o < x.2.1)).getD 0
    (s.set F.GA_STAT_ENTRY (pix p) i).set F.GA_STAT_GATES (pix p) ((l.1[i]?).elim 0xFF (·.2.2))
  else (s.set F.GA_STAT_ENTRY (pix p) 0).set F.GA_STAT_GATES (pix p) 0xFF

/-- The pending list passes the check of R403. -/
def pendingOk (s : State) (p : Nat) : Bool :=
  let len := s.get F.GA_CTRL_PEND_LEN (pix p)
  let cyc := s.get F.GA_PEND_CYCLE_CYCLE (pix p)
  decide (1 ≤ len) && decide (len ≤ 1024) && decide (1000 ≤ cyc) && decide (cyc ≤ 1000000000)
    && (List.range len).all fun i =>
      let e := s.tab (p / 64) .gaitPend ((p % 64) * 1024 + i)
      bits e 63 40 == 0 && bits e 31 30 == 0 && decide (1 ≤ bits e 29 0) && decide (bits e 29 0 ≤ 1000000000)

/-- Show whether the pending list passes. -/
def showPending (s : State) (p : Nat) : State := s.set F.GA_STAT_PEND_OK (pix p) (b2n (s.pendingOk p))

/-- Ports of die `d` whose pending list is armed. -/
def armedPorts (s : State) (d : Nat) : List Nat :=
  ((List.range 64).map (64 * d + ·)).filter fun p => s.isOn F.GA_CTRL_ARM (pix p)

/-- Every armed list of die `d` passes its check (R403). -/
def gaitReady (s : State) (d : Nat) : Bool := (s.armedPorts d).all s.pendingOk

/-- The pairs of pending and operating registers. -/
def gaitPairs : List (RegSpec × RegSpec) :=
  [(R.GA_PEND_CYCLE, R.GA_OPER_CYCLE), (R.GA_PEND_BASE_SEC_LO, R.GA_OPER_BASE_SEC_LO),
   (R.GA_PEND_BASE_SEC_HI, R.GA_OPER_BASE_SEC_HI), (R.GA_PEND_BASE_NS, R.GA_OPER_BASE_NS)]

/-- One port's lists change places (R403). -/
def swapLists (p : Nat) (s : State) : State :=
  let x := pix p
  let d := p / 64
  let k := p % 64
  let swapReg := fun (t : State) (r : RegSpec × RegSpec) =>
    let a := t.rd r.1 x
    (t.wr r.1 x (t.rd r.2 x)).wr r.2 x a
  let t := gaitPairs.foldl swapReg s
  let en := s.get F.GA_CTRL_PEND_EN x
  let len := s.get F.GA_CTRL_PEND_LEN x
  let t := (t.set F.GA_CTRL_PEND_EN x (s.get F.GA_CTRL_OPER_EN x)).set F.GA_CTRL_PEND_LEN x (s.get F.GA_OPER_LEN_LEN x)
  let t := ((t.set F.GA_CTRL_OPER_EN x en).set F.GA_OPER_LEN_LEN x len).set F.GA_CTRL_ARM x 0
  let n := max len (s.get F.GA_OPER_LEN_LEN x)
  let t := (List.range n).foldl (fun (u : State) i =>
    let j := k * 1024 + i
    (u.setTab d .gaitPend j (s.tab d .gaitOper j)).setTab d .gaitOper j (s.tab d .gaitPend j)) t
  (t.showPending p).showGates p

/-- The length on the wire of the head frame, FCS and padding included, after its edits. -/
def sentLen (s : State) (d : Nat) (e : EFrame) : Nat :=
  if e.whole then max 60 (s.runEdits d e.m e.bytes e.brand).bytes.length + 4 else e.lw - 20

/-- Discard the heads of a queue that are aged or that never fit (R375, R402). Log 248 (DEDUCED). -/
def cleanHead (p c : Nat) : Nat → State → State
  | 0, s => s
  | fuel + 1, s =>
    match s.eq p c with
    | [] => s
    | e :: r =>
      let d := p / 64
      if s.aged e.m then
        let t := (s.setEq p c r).dropAged p e
        cleanHead p c fuel { t with shp.waited := t.shp.waited.erase (key2 p c) }
      else if s.neverFits p c (s.sentLen d e) then
        let t := ((s.setEq p c r).dropEgress p 1 R.GA_NEVER_FITS e).countKind (16 * d + 14) 6 1 (some e.m.tenant)
        cleanHead p c fuel { t with shp.waited := t.shp.waited.erase (key2 p c) }
      else s

/-- Test every head of a port (R402, at a takeover and before a selection). Log 96 (DEDUCED). -/
def cleanHeads (s : State) (p : Nat) : State :=
  forEach (List.range 8) (fun c t => cleanHead p c (t.eq p c).length t) s

/-- The takeover of die `d` at a commit instant (R403). -/
def gaitTakeover (s : State) (d : Nat) : State :=
  let l := s.armedPorts d
  if l.isEmpty then s
  else
    let t := (forEach l swapLists s).raise F.GA_EVT_TAKEOVER [d]
    (forEach l (fun p u => u.cleanHeads p) t).showSlots d

/-- A step of TAI: the frames now being sent have met it (R405). Log 167 (DEDUCED). -/
def markStepped (s : State) : State :=
  { s with port.tx := s.port.tx.map fun e => (e.1, { e.2 with stepped := true, overran := e.2.overran || s.gateShut e.1 e.2.cls }) }

/-! ## Shapers (R393 to R397) -/

/-- Bring shaper `i` of die `d` up to now: its bucket in 2^-32 byte (R395). -/
def shaperNow (s : State) (d i : Nat) : Int :=
  let e := s.tab d .shaper i
  let dt := s.clock.tick - s.shp.bktAt.at 0 (key2 d i)
  min (Int.ofNat (bits e 95 72 * 2 ^ 32)) (s.shp.bkt.at 0 (key2 d i) + Int.ofNat (rateInc (bits e 127 96) * dt))

/-- Shaper `i` is in use. -/
def shaperOn (s : State) (d i : Nat) : Bool := bit (s.tab d .shaper i) 47

/-- Store a bucket as updated now. -/
def setBucket (s : State) (d i : Nat) (b : Int) : State :=
  { s with shp.bkt := s.shp.bkt.put 0 (key2 d i) b, shp.bktAt := s.shp.bktAt.put 0 (key2 d i) s.clock.tick }

/-- A bucket has been held at its debt (R395). -/
def debtClamp (s : State) (d : Nat) (who : Option Nat := none) : State :=
  ((s.inc R.SC_DEBT_CLAMP [d]).raise F.SC_EVT_DEBT_CLAMP [d]).countKind (16 * d + 14) 5 1 who

/-- Charge `lw` bytes of a frame of tenant `who` to a shaper (R395). -/
def chargeShaper (d lw i : Nat) (s : State) (who : Option Nat := none) : State :=
  if s.shaperOn d i then
    let b := s.shaperNow d i - Int.ofNat (lw * 2 ^ 32)
    let lo := - Int.ofNat (bits (s.tab d .shaper i) 71 48 * 2 ^ 32)
    if b < lo then (s.setBucket d i lo).debtClamp d who else s.setBucket d i b
  else s

/-- A shaper write (R396). -/
def writeShaper (s : State) (d i v : Nat) : State :=
  let old := s.shaperOn d i
  let b := s.shaperNow d i
  let t := s.setTab d .shaper i v
  if !bit v 47 then t.setBucket d i 0
  else if !old then t.setBucket d i 0
  else
    let hi := Int.ofNat (bits v 95 72 * 2 ^ 32)
    let lo := - Int.ofNat (bits v 71 48 * 2 ^ 32)
    if b < lo then (t.setBucket d i lo).debtClamp d else t.setBucket d i (min hi b)

/-- The shaper of a frame's tenant group, if one applies (R393). -/
def groupShaper (s : State) (p : Nat) (e : EFrame) : Option Nat :=
  let g := s.tab (p / 64) .tgroup e.m.tenant
  if !e.mirror && bit g 15 && decide (bits g 9 0 < s.get F.SC_PORT_B_GRP_COUNT (pix p)) then
    some ((s.get F.SC_PORT_B_GRP_BASE (pix p) + bits g 9 0) % 65536)
  else none

/-- The port and class shapers that apply. -/
def plainShapers (s : State) (p c : Nat) : List Nat :=
  (if s.isOn F.SC_PORT_A_PSH_EN (pix p) then [s.get F.SC_PORT_A_PSH (pix p)] else [])
    ++ (if s.isOn F.SC_CLS_CSH_EN (pix p ++ [c]) then [s.get F.SC_CLS_CSH (pix p ++ [c])] else [])

/-- A shaper lets a frame go. -/
def shaperFree (s : State) (d i : Nat) : Bool := !s.shaperOn d i || decide (0 ≤ s.shaperNow d i)

/-- Bring a shaper that is tested up to now (R395). -/
def touchShaper (d i : Nat) (s : State) : State := if s.shaperOn d i then s.setBucket d i (s.shaperNow d i) else s

/-- The shapers that a selection of port `p` tests are brought up to now (R395, R397). -/
def touchShapers (s : State) (p : Nat) : State :=
  forEach (List.range 8) (fun c t =>
    match t.eq p c with
    | [] => t
    | e :: _ => forEach (t.plainShapers p c ++ (t.groupShaper p e).toList) (touchShaper (p / 64)) t) s

/-- Every condition of R397 but the group shaper holds for queue `c`. -/
def queueReady (s : State) (p c : Nat) : Bool :=
  match s.eq p c with
  | [] => false
  | e :: _ =>
    (e.whole || e.ct) && !s.queuePaused p c && s.windowOpen p c (s.sentLen (p / 64) e)
      && (s.plainShapers p c).all (s.shaperFree (p / 64))

/-- The group shaper of a queue's head lets it go. Log 104 (DEDUCED). -/
def groupReady (s : State) (p c : Nat) : Bool :=
  match s.eq p c with
  | [] => false
  | e :: _ => match s.groupShaper p e with | some i => s.shaperFree (p / 64) i | none => true

/-- The next class of `e` from a pointer, wrapping (R398). -/
def nextFrom (e : List Nat) (ptr : Nat) : Nat := ((e.filter fun c => decide (ptr ≤ c)) ++ e).headD 0

/-- The loop of R398 within one level: the queue to serve, with the deficits and the pointer as they become. -/
def roundRobin (s : State) (p lvl : Nat) (e : List Nat) : Nat → State → Option (Nat × State)
  | 0, _ => none
  | fuel + 1, t =>
    let q := nextFrom e (t.shp.ptr.at 0 (key2 p lvl))
    let k := key2 p q
    let need := match t.eq p q with | f :: _ => f.lw | [] => 0
    let have_ := t.shp.deficit.at 0 k
    if need ≤ have_ then some (q, { t with shp.deficit := t.shp.deficit.put 0 k (have_ - need) })
    else
      let add := t.get F.SC_CLS_WEIGHT (pix p ++ [q]) * 256
      roundRobin s p lvl e fuel
        { t with shp.deficit := t.shp.deficit.put 0 k (have_ + add), shp.ptr := t.shp.ptr.put 0 (key2 p lvl) ((q + 1) % 8) }

/-- One selection of R398: the queue chosen and the state after the deficits move. Log 104 (DEDUCED). -/
def selectQueue (s : State) (p : Nat) (ready : List Nat) : Option (Nat × State) :=
  match (List.range 8).find? fun l => ready.any fun c => s.get F.SC_CLS_LEVEL (pix p ++ [c]) == l with
  | none => none
  | some l => roundRobin s p l (ready.filter fun c => s.get F.SC_CLS_LEVEL (pix p ++ [c]) == l) 1024 s

/-! ## The final check and the MAC (R28, R169, R198 to R206) -/

/-- The intake check of a whole frame or copy for port `p` (R198, R206): the frame after it. A poisoned frame is not
checked, and a receive error comes before the check (R201, R204). Log 101 (DEDUCED), 245 (DESIGN CHOICE). -/
def intake (s : State) (p : Nat) (e : EFrame) : EFrame × State :=
  let d := p / 64
  let n := e.bytes.length
  if e.poison then ({ e with failed := true }, s.brandFail d 1 p e.m e.ct 0 0 n)
  else
    let hit := s.isOn F.BR_INJECT_GO [d] && s.get F.BR_INJECT_PORT [d] == p
    let brand := if hit then e.brand ^^^ 1 else e.brand
    let s := if hit then s.set F.BR_INJECT_GO [d] 0 else s
    let c := crc32c e.bytes
    if e.rxErr then ({ e with brand := brand, failed := true }, s.brandFail d 2 p e.m e.ct brand 0 n)
    else if c ≠ brand then ({ e with brand := brand, intakeBad := true, failed := true }, s.brandFail d 3 p e.m e.ct brand c n)
    else (e, s)

/-- The final check (R199): the bytes to send, whether the FCS is inverted, and the time requests; none for a frame that
its edits have made too long (R202). Log 101 (DEDUCED). -/
def finalCheck (s : State) (p : Nat) (e : EFrame) : Option (List Byte × Bool × List (Nat × Nat × Nat)) × State :=
  let d := p / 64
  let r := s.runEdits d e.m e.bytes e.brand
  let t := s.countSkips d r.skips
  if 16000 < r.bytes.length + 4 then (none, t)
  else if e.poison then
    -- one that was poisoned after its intake check is counted here (R204)
    (some (r.bytes, true, r.stamps), if e.failed then t else t.brandFail d 1 p e.m e.ct 0 0 e.bytes.length)
  else
    let t := (t.inc R.BR_CHECKED [d]).countEgr (sliceOf p) 3 1 (some e.m.tenant)
    let c := crc32c r.bytes
    if e.rxErr || e.intakeBad then (some (r.bytes, true, r.stamps), t)
    else if c ≠ r.brand then (some (r.bytes, true, r.stamps), t.brandFail d 4 p e.m e.ct r.brand c r.bytes.length)
    else (some (r.bytes, false, r.stamps), t)

/-- A frame whose edits made it longer than 16,000 bytes is discarded by the MAC (R169). Log 101 (DEDUCED). -/
def dropOversize (s : State) (p : Nat) (e : EFrame) : State := s.dropEgress p 2 R.TX_OVERSIZE e

/-- The one-step time fields and their UDP checksum (R176, R177, R578): `t16` is the egress time in 2^-16 ns. -/
def writeTime (t16 : Nat) (m : Meta) (bytes : List Byte) (r : Nat × Nat × Nat) : List Byte :=
  let n := if r.1 = 1 then 10 else 8
  let old := slice bytes r.2.1 n
  let ns := t16 / 65536
  let new := if r.1 = 1 then beBytes (ns / 1000000000) 6 ++ beBytes (ns % 1000000000) 4
    else beBytes ((Int.ofNat (ofBe old) + (Int.ofNat t16 - Int.ofNat m.t16)) % 2 ^ 64).toNat 8
  let out := overwrite bytes r.2.1 new
  if r.2.2 = 0 then out
  else
    let cs := r.2.2 - 1
    let udp := cs - 6
    let v := ofBe (slice bytes cs 2)
    if v = 0 then out
    else
      let ch := wordsChanged (bytes.drop udp) (out.drop udp) 3
      let w := ch.foldl (fun c x => csumStep c x.1 x.2) v
      overwrite out cs (beBytes (if w = 0 then 0xFFFF else w) 2)

/-- The port's MAC has sent a frame: what it put on the wire, counted and charged (R169, R175 to R177, R192, R204,
R410 to R412, R535). `cut` says that it ended a cut-through frame before its tail. -/
def sent (s : State) (p cls : Nat) (e : EFrame) (body : List Byte) (bad cut : Bool) (stamps : List (Nat × Nat × Nat))
    (cap16 : Nat) : State :=
  let d := p / 64
  let x := pix p
  let t16 := ((Int.ofNat cap16 + roundDivInt (signed 32 (s.rd R.PG_TS_TX_ADJ x) * 65536) 1000) % Int.ofNat (taiSpan * 65536)).toNat
  let timed := (stamps.filter fun r => r.1 != 3).foldl (writeTime t16 e.m) body
  let padded := timed ++ List.replicate (60 - timed.length) 0
  let fcs := crc32 padded
  let wire := padded ++ leBytes (if bad then fcs ^^^ 0xFFFFFFFF else fcs) 4
  let n := wire.length
  let t := { s with out.wire := lineFrame p wire (!cut) :: s.out.wire }.loopBack p wire
  let t := (stamps.filter fun r => r.1 == 3).foldl (fun u r => u.pushTxts p r.2.2 t16) t
  let t := t.countEgr (sliceOf p) 2 n (some e.m.tenant)
  let t := if e.m.sampled then t.countEgr (sliceOf p) 6 1 (some e.m.tenant) else t
  let t := if bad then (t.inc R.TX_STOMPED x).tallyDrop d 2 e.m
    else
      let t := ((t.inc R.TX_OK_FRAMES x).inc R.TX_OK_OCTETS x n).countEgr (sliceOf p) 1 1 (some e.m.tenant)
      let t := { t with ev.bwTx := t.ev.bwTx.put 0 p (t.ev.bwTx.at 0 p + n) }
      let who := t.chargee e.m
      let b := t.tallyBin who cls
      let t := (t.tallyAdd d who (tlyOut b) 1).tallyAdd d who (tlyOctOut b) n
      if e.mirror then t.tallyAdd d who (tlyMirror b) n else t
  t.leaveEgress d e

end State

/-! ## Commands -/

/-- Heads of port `p` that are aged or never fit are discarded, and one queue is selected; a head that its window does not
let begin waits once (R397 to R402), and a cut-through frame that is not selected at once waits to be whole (R398). -/
def State.offerPort (s : State) (p : Nat) : Option Nat × State :=
  let d := p / 64
  let s := (s.cleanHeads p).touchShapers p
  let classes := List.range 8
  let base := classes.filter (s.queueReady p)
  let held := base.filter fun c => !s.groupReady p c
  let ready := base.filter (s.groupReady p)
  let s := ((s.inc R.SC_GRP_HELD [d] held.length)).countKind (16 * d + 14) 4 held.length
  let s := classes.foldl (fun (t : State) c =>
    match t.eq p c with
    | e :: _ =>
      -- it would overrun its open window: a gate that is closed is no such wait
      if !t.gateShut p c && !t.windowOpen p c (t.sentLen d e) && t.shp.waited.at 0 (key2 p c) == 0 then
        let u := (t.inc R.GA_WAITED [d, p % 64]).countEgr (State.sliceOf p) 4 1 (some e.m.tenant)
        { u with shp.waited := u.shp.waited.put 0 (key2 p c) 1 }
      else t
    | [] => t) s
  let pick := s.selectQueue p ready
  let s := match pick with | some (_, t) => t | none => s
  (pick.map (·.1), classes.foldl (fun (t : State) c =>
    if pick.any (fun q => q.1 == c) then t
    else t.setEq p c ((t.eq p c).map fun e => if e.whole then e else { e with ct := false })) s)

/-- The frame `e` at the head of the selected queue, with `r` behind it, is charged to its shapers, and edited, checked and
handed to the MAC; a cut-through frame is edited as it goes (R28, R177, R199). -/
def State.handOver (s : State) (p c : Nat) (e : EFrame) (r : List EFrame) : State :=
  let d := p / 64
  let all := s.plainShapers p c ++ (s.groupShaper p e).toList
  let t := forEach all (fun i u => State.chargeShaper d e.lw i u (some e.m.tenant)) s
  let t := (t.inc R.SC_SELECTED [d]).countKind (16 * d + 14) 3 1 (some e.m.tenant)
  let t := t.setEq p c r
  let t := { t with shp.waited := t.shp.waited.erase (key2 p c) }
  let hand := fun (u : State) (x : TxFrame) => { u with port.tx := u.port.tx.insert p x }
  if s.editsBad d e.m then t.dropEdits d e
  else if e.whole then
    let f := t.finalCheck p { e with ct := false }
    match f.1 with
    | none => f.2.dropOversize p e
    | some (out, bad, stamps) =>
      hand f.2 { e := { e with ct := false }, cls := c, out := out, bad := bad, stamps := stamps }
  else hand t { e := e, cls := c, out := [] }

/-- REIN_SELECT: the MAC of port `p` can accept a frame: heads that are aged or never fit are discarded, one queue is
selected, its shapers are charged, and the frame is edited, checked and handed to the MAC (R28, R177, R199, R397 to
R402). `nm` is what its check latches saw (R47). Log 96 (DEDUCED). -/
def execReinSelect (p nm : Nat) (s : State) : Out :=
  done (fun s =>
    if !s.forwarding || !s.live (p / 64) || !s.linkUp p || (s.port.tx.find? p).isSome then s
    else
      let x := (s.checkLatches (p / 64) nm).offerPort p
      match x.1 with
      | none => x.2.showSlots (p / 64)
      | some c =>
        match x.2.eq p c with
        | [] => x.2
        | e :: r => (x.2.handOver p c e r).showSlots (p / 64)) s

/-- Port `p`'s MAC ends the frame `x` (R175, R179, R203, R405). -/
def State.endTx (s : State) (p back : Nat) (x : TxFrame) : State :=
  let d := p / 64
  let px := State.pix p
  let cap := s.clock.tai * 65536 - back
  let t := { s with port.tx := s.port.tx.erase p }
  let shut := x.overran || (x.stepped && s.gateShut p x.cls)
  let t := if shut then (t.inc R.GA_OVERRUN [d, p % 64]).raise F.GA_EVT_OVERRUN [d] else t
  let u := if !x.e.ct then t.sent p x.cls x.e x.out x.bad false x.stamps cap
    else if !x.e.whole then
      let r := t.runEdits d x.e.m x.e.bytes x.e.brand
      let u := ((t.inc R.TX_UNDERRUN px).raise F.PG_PORT_EVT_TX_UNDERRUN px).countSkips d r.skips
      let u := if x.e.poison && !x.e.failed then u.brandFail d 1 p x.e.m true 0 0 x.e.bytes.length else u
      u.sent p x.cls x.e r.bytes true true r.stamps cap
    else
      let i := t.intake p x.e
      let f := i.2.finalCheck p i.1
      match f.1 with
      | none => f.2.dropOversize p x.e
      | some (out, bad, stamps) => f.2.sent p x.cls i.1 out bad bad stamps cap
  u.showSlots d

/-- FRAME_TX_DONE: port `p`'s MAC ends the frame it is sending. `back` is how long ago its start crossed the reference
plane, in 2^-16 ns (R175). A cut-through frame is checked now; one whose tail has not come ends in an underrun (R179,
R203). A frame whose gate a step of TAI has closed before its end is an overrun (R405). -/
def execFrameTxDone (p back : Nat) (s : State) : Out :=
  done (fun s =>
    match s.port.tx.find? p with
    | none => s
    | some x => s.endTx p back x) s

/-- EGRESS_AGE_SWEEP: the queue manager visits egress queue `c` of port `p` and discards aged frames from its head
(R375). -/
def execEgressAgeSweep (p c : Nat) (s : State) : Out :=
  done (fun s =>
    onlyIf (s.forwarding && s.live (p / 64) && decide (c < 8)) (fun s =>
      let l := s.eq p c
      let old := l.takeWhile fun e => s.aged e.m
      let t := if old.isEmpty then s else { s with shp.waited := s.shp.waited.erase (key2 p c) }
      (forEach old (fun e t => t.dropAged p e) (t.setEq p c (l.drop old.length))).showSlots (p / 64)) s) s

/-- A gate boundary of port `p` has come: a frame that a step of TAI has met, and whose gate is closed now, overruns
(R405). -/
def State.markOverrun (s : State) (p : Nat) : State :=
  match s.port.tx.find? p with
  | some x => if x.stepped && s.gateShut p x.cls then { s with port.tx := s.port.tx.insert p { x with overran := true } } else s
  | none => s

/-- GATE_CHANGE: a gate boundary of port `p`'s operating list is reached (R400, R405). -/
def execGateChange (p : Nat) (s : State) : Out :=
  done (fun s =>
    onlyIf (s.powered && s.live (p / 64) && decide (p < 512) && s.variant != .e) (fun s => (s.markOverrun p).showGates p) s) s

/-- ROOM_SIGNAL: egress die `d` signals to the Girth dies whether it has room for class `c` of its port `k`, or for
multicast class `c` with `k` = 64 (R373, R377). -/
def execRoomSignal (d k c : Nat) (s : State) : Out :=
  done (fun s =>
    onlyIf (s.forwarding && s.live d && decide (d < 8) && decide (c < 8)) (fun s =>
      let free := decide (s.get F.EQ_BUF_RESV [d] ≤ 32768 - s.slotsUsed d)
      let room := s.get F.EQ_CFG_ROOM [d]
      if k = 64 then
        let n := ((s.fab.mc.filter fun e => e.1 / 2 ^ 40 == d && e.2.2.2 == c).map fun e => e.2.2.1).sum
        { s with fab.noRoom := s.fab.noRoom.put 0 (State.mcRoomKey d c) (b2n !(free && decide (n < room))) }
      else
        let p := 64 * d + k % 64
        let n := ((s.eq p c).map EFrame.slots).sum
        let open_ := free && decide (n < room) && s.fab.flushWait.at 0 p == 0
        { s with fab.noRoom := s.fab.noRoom.put 0 (State.roomKey p c) (b2n !open_) }) s) s

end Sys2Proof.Machine
end

