-- ==== Sys2Proof/Machine/Xlate.lean ====
section
/-! DEFINITION. Feature negotiation as the units see it, host memory, translation and page requests (R464, R465, R510 to
R516). -/

namespace Sys2Proof.Machine

namespace State

/-! ## Features (R5, R464, R465) -/

/-- The presence bits of R5. -/
def presence (s : State) : Nat :=
  (2 ^ s.variant.skirts - 1) + (2 ^ s.variant.girths - 1) * 2 ^ 8 + (if s.variant == .e then 0 else 0xF * 2 ^ 12)

/-- What the PF is offered: presence, and bits 16 to 28 less those withheld; AWL_SCAN needs bit 13 (R155, R465). -/
def offerPf (s : State) : Nat :=
  let f := (List.range 13).foldl (fun a i =>
    let b := 16 + i
    if bit s.load.withhold b || (b == 25 && s.variant == .e) then a else a + 2 ^ b) 0
  s.presence + f

/-- What function `fn` is offered (R465). -/
def offer (s : State) (fn : Nat) : Nat :=
  if fn = 0 then s.offerPf else s.presence + (bits s.offerPf 31 16 &&& s.get F.RC_FN_FEAT_MASK [fn]) * 2 ^ 16

/-! ## Translation (R511 to R514) -/

/-- The translation held for a page. -/
def tlbFind (s : State) (fn pas page : Nat) : Option TlbEntry :=
  s.xl.tlb.find? fun e => e.fn == fn && e.pas == pas && decide (e.base ≤ page) && decide (page < e.base + e.pages)

/-- How far `n` bytes from `va` can be moved: the bytes, then 0 for all of them, 1 for a page without a translation, 2
for a page whose translation does not permit the access. -/
def reach (fn pas : Nat) (write : Bool) : Nat → Nat → Nat → State → Nat × Nat × State
  | 0, _, _, s => (0, 0, s)
  | f + 1, va, n, s =>
    if n = 0 then (0, 0, s)
    else match s.tlbFind fn pas (va / 4096) with
      | none => (0, 1, s)
      | some e =>
        let t := ({ s with xl.tlb := e :: s.xl.tlb.erase e }.inc R.TR_TLB_HIT []).countKind 169 0 1
        if (if write then e.w else e.r) then
          let k := min n ((e.base + e.pages) * 4096 - va)
          let y := reach fn pas write f (va + k) (n - k) t
          (k + y.1, y.2)
        else (0, 2, t)

/-- A translation request is sent for the access, unless one is on its way (R512). Log 160 (DEDUCED). -/
def askTlb (s : State) (w : Wait) : State :=
  let same := s.xl.asked.any fun v => v.fn == w.fn && v.pas == w.pas && v.va / 4096 == w.va / 4096
  let t := if same then s else (s.inc R.TR_TLB_MISS []).countKind 169 1 1
  { t with xl.asked := addOnce w t.xl.asked }

/-- Page requests that may still be outstanding for a function (R514). Log 161 (DESIGN CHOICE). -/
def prqRoom (s : State) (fn : Nat) : Bool :=
  decide (s.xl.prq.length < 256) && decide ((s.xl.prq.filter fun r => r.fn == fn).length < s.xl.alloc.at 256 fn)

/-- A page request group index that is free: no request is outstanding under it, and no response to it is still to come
(R514). Log 161 (DESIGN CHOICE). -/
def freeGrp (s : State) : Nat :=
  let idle := (List.range 512).filter fun g => !s.xl.prq.any fun r => r.grp == g
  (idle.find? fun g => !s.xl.deadGrps.contains g).getD (idle.headD 0)

/-- The fault is one that the request is for (R514). -/
def PageReq.isFor (r : PageReq) (w : Wait) : Bool := r.fn == w.fn && r.pas == w.pas && r.page == w.va / 4096 && r.write == w.write

/-- A fault joins the request for its page, sends one, or waits for one to become free (R514). -/
def sendPrq (s : State) (w : Wait) : State :=
  if s.xl.prq.any (PageReq.isFor · w) then
    { s with xl.prq := s.xl.prq.map fun r => if PageReq.isFor r w then { r with waits := r.waits ++ [w] } else r }
  else if s.prqRoom w.fn then
    let r : PageReq := { grp := s.freeGrp, fn := w.fn, pas := w.pas, page := w.va / 4096, write := w.write, waits := [w], at_ := s.clock.tick }
    let t := (s.inc R.TR_PRI_REQ []).countKind 169 2 1
    { t with xl.prq := t.xl.prq ++ [r] }
  else { s with xl.priWait := s.xl.priWait ++ [w] }

/-- Somebody is parked on a page fault (R515 to R518). -/
def parked (s : State) (p : Who → Bool) : Bool :=
  (s.xl.prq.any fun r => r.waits.any fun w => p w.who) || s.xl.priWait.any fun w => p w.who

/-- The SQ is parked. -/
def sqParked (s : State) (q : Nat) : Bool :=
  s.parked fun w => match w with | .fetch p => p == q | .entry p _ => p == q | .rx p => p == q | _ => false

/-- Show in RC_SQ_STAT whether an SQ is parked. -/
def showPark (s : State) (w : Who) : State :=
  match w with
  | .fetch q | .entry q _ | .rx q => s.set F.RC_SQ_STAT_PARKED [q] (b2n (s.sqParked q))
  | _ => s

/-- An access faults: it is parked behind a page request, or it ends as XLATE (R511, R514). Log 162 (DEDUCED). -/
def pageFault (s : State) (w : Wait) : Bool × State :=
  if s.accepted w.fn 26 && s.accepted w.fn 27 && !bit s.xl.blocked w.fn && decide (w.tries < 3) then
    (false, ((s.sendPrq w).countKind 169 4 1).showPark w.who)
  else (true, (s.inc R.TR_XLATE_ERR []).raise F.TR_EVT_XLATE [])

/-- Forget every wait of those that `p` names; a request nobody waits for stays until its response, which is then
discarded (R519). -/
def dropWaits (s : State) (p : Who → Bool) : State :=
  let keep := fun (w : Wait) => !p w.who
  { s with
    xl.asked := s.xl.asked.filter keep
    xl.priWait := s.xl.priWait.filter keep
    xl.prq := s.xl.prq.map fun r => { r with waits := r.waits.filter keep } }

/-- The access waits already, for a translation or for a page. -/
def waiting (s : State) (w : Who) : Bool := (s.xl.asked.any fun v => v.who == w) || s.parked (· == w)

/-! ## Host memory (R510) -/

/-- The key of a byte of host memory. -/
def hkey (fn pas va : Nat) : Nat := (fn * 2 ^ 21 + pas) * 2 ^ 64 + va

/-- The PASID of a queue's register, as a key: one more than it, or 0 (R510). -/
def pasOf (w : Nat) : Nat := if bit w 31 then bits w 19 0 + 1 else 0

/-- Move up to `n` bytes at `va`: the bytes that can move, then 0 all, 1 the access waits, 2 XLATE. `ur` is the host's
answer to an untranslated read (R511). -/
def dmaSpan (who : Who) (fn pas : Nat) (write ur : Bool) (va n : Nat) (s : State) : Nat × Nat × State :=
  if !s.accepted fn 26 then
    if ur && !write then (0, 2, (s.inc R.TR_XLATE_ERR []).raise F.TR_EVT_XLATE []) else (n, 0, s)
  else
    let r := reach fn pas write (n / 4096 + 2) va n s
    let w : Wait := { who := who, fn := fn, pas := pas, va := va + r.1, write := write }
    match r.2.1 with
    | 0 => r
    | 1 => (r.1, 1, r.2.2.askTlb w)
    | _ => let f := r.2.2.pageFault w; (r.1, if f.1 then 2 else 1, f.2)

/-- Move the pieces of a scattered range in order. -/
def dmaPieces (who : Who) (fn pas : Nat) (write ur : Bool) : List (Nat × Nat) → State → Nat × Nat × State
  | [], s => (0, 0, s)
  | (a, n) :: r, s =>
    let x := dmaSpan who fn pas write ur a n s
    if x.2.1 ≠ 0 then x
    else
      let y := dmaPieces who fn pas write ur r x.2.2
      (n + y.1, y.2)

/-- The pieces of `n` bytes from offset `o` of a fragment table (R475). -/
def fragPieces : List (Nat × Nat) → Nat → Nat → List (Nat × Nat)
  | [], _, _ => []
  | (a, l) :: r, o, n =>
    if n = 0 then [] else if l ≤ o then fragPieces r (o - l) n
    else
      let k := min n (l - o)
      (a + o, k) :: fragPieces r 0 (n - k)

/-- Write bytes at the places of the pieces. -/
def hostPut (fn pas : Nat) : List (Nat × Nat) → List Byte → State → State
  | [], _, s => s
  | (a, n) :: r, bs, s => hostPut fn pas r (bs.drop n) { s with host := s.host.putAll 0 (hkey fn pas a) (bs.take n) }

/-- Read the bytes at the places of the pieces. Log 11 (DESIGN CHOICE). -/
def hostGet (s : State) (fn pas : Nat) (ps : List (Nat × Nat)) : List Byte := ps.flatMap fun p => s.host.run 0 (hkey fn pas p.1) p.2

/-- Write `bs` at offset `o` of a fragment table: how many bytes moved, and the outcome. -/
def dmaPut (s : State) (who : Who) (fn pas : Nat) (frags : List (Nat × Nat)) (o : Nat) (bs : List Byte) : Nat × Nat × State :=
  let x := dmaPieces who fn pas true false (fragPieces frags o bs.length) s
  (x.1, x.2.1, hostPut fn pas (fragPieces frags o x.1) (bs.take x.1) x.2.2)

/-- Read `n` bytes from offset `o` of a fragment table: the bytes moved, and the outcome. -/
def dmaGet (s : State) (who : Who) (fn pas : Nat) (frags : List (Nat × Nat)) (o n : Nat) (ur : Bool) : List Byte × Nat × State :=
  let x := dmaPieces who fn pas false ur (fragPieces frags o n) s
  (x.2.2.hostGet fn pas (fragPieces frags o x.1), x.2.1, x.2.2)

/-- A Stitcher reads `n` bytes of host memory at `va` for function 0: an untranslated read may meet an error of the host
(R511). Log 244 (DESIGN CHOICE). -/
def hostLoad (s : State) (who : Who) (pas va n : Nat) : List Byte × Nat × State :=
  if s.accepted 0 26 then s.dmaGet who 0 pas [(va, n)] 0 n false
  else
    let f := s.takeFree
    f.2.dmaGet who 0 pas [(va, n)] 0 n (Config.hostError f.1)

end State

end Sys2Proof.Machine
end

