-- ==== Sys2Proof/Machine/Ring.lean ====
section
/-! DEFINITION. The Ring Complex below its operations: MSI-X messages, event rings, completion queues, receive buffers,
the halt and the resets of its queues (R469 to R479, R482, R484, R488 to R493, R515 to R519, R524 to R527). -/

namespace Sys2Proof.Machine

/-- The capabilities that R461 names. -/
inductive PcieCap where
  | pasid | ats | pri | sriov | aer
  deriving DecidableEq, Repr

namespace State

/-! ## The endpoint and MSI-X (R461, R527) -/

/-- What the PF and each VF present (R461): vendor and device ID, class code, and the bytes of BAR0. -/
def vendorId : Nat := 0x1F6B
def deviceId (fn : Nat) : Nat := if fn = 0 then 0x9840 else 0x9841
def classCode : Nat := 0x020000
def barBytes : Nat := 2 ^ 26

/-- The VFs that SR-IOV offers at most (R461). -/
def maxVfs : Nat := 15

/-- A function presents a capability (R461). -/
def capability (fn : Nat) (c : PcieCap) : Bool :=
  match c with
  | .pasid | .ats | .pri => true
  | .sriov | .aer => fn == 0

/-- MSI-X vectors of a function (R461). -/
def vectors (fn : Nat) : Nat := if fn = 0 then 2048 else 64

/-- A message on a vector: sent, or pending while the vector or the function is masked. -/
def msix (s : State) (fn vec : Nat) : State :=
  let k := key2 fn vec
  if s.ev.fnOpen.at 0 fn = 1 ∧ s.ev.vecOpen.at 0 k = 1 then
    { s with out.msix := (fn, vec) :: s.out.msix, ev.pba := s.ev.pba.erase k }.countKind 168 5 1
  else { s with ev.pba := s.ev.pba.put 0 k 1 }

/-! ## Serving (R463, R492) -/

/-- The Ring Complex has halted. -/
def rcHalted (s : State) : Bool := s.isOn F.RC_STAT_HALTED []

/-- Queues are served. -/
def ringUp (s : State) : Bool :=
  !s.rcHalted && !s.modes.inReset && (match s.mode with | .run | .drain | .halt => true | _ => false)

/-! ## Indices (R470, R471) -/

/-- The entries between two indices of a ring of 2^n. -/
def ringCount (n tail head : Nat) : Nat := (tail + 2 ^ (n + 1) - head % 2 ^ (n + 1)) % 2 ^ (n + 1)

/-- The index after `i`. -/
def ringNext (n i : Nat) : Nat := (i + 1) % 2 ^ (n + 1)

/-- The valid O of index `i`. -/
def ringO (n i : Nat) : Nat := b2n (!bit i n)

def sqLog (s : State) (q : Nat) : Nat := s.get F.RC_SQ_CFG_LOG2 [q]
def sqHead (s : State) (q : Nat) : Nat := s.get F.RC_SQ_STAT_HEAD [q]
def sqTail (s : State) (q : Nat) : Nat := s.get F.RC_SQ_TAIL_TAIL [q]
def sqBase (s : State) (q : Nat) : Nat := s.rd R.RC_SQ_BASE_LO [q] + s.rd R.RC_SQ_BASE_HI [q] * 2 ^ 32
def sqFn (s : State) (q : Nat) : Nat := s.get F.RC_SQ_CFG_FN [q]
def sqPas (s : State) (q : Nat) : Nat := pasOf (s.rd R.RC_SQ_PASID [q])
def cqLog (s : State) (c : Nat) : Nat := s.get F.RC_CQ_CFG_LOG2 [c]
def cqTail (s : State) (c : Nat) : Nat := s.get F.RC_CQ_STAT_TAIL [c]
def cqHead (s : State) (c : Nat) : Nat := s.get F.RC_CQ_HEAD_HEAD [c]
def erLog (s : State) (r : Nat) : Nat := s.get F.RC_ER_CFG_LOG2 [r]

/-- Used slots of a CQ. -/
def cqUsed (s : State) (c : Nat) : Nat := ringCount (s.cqLog c) (s.cqTail c) (s.cqHead c)

/-- The CQ is full (R470). -/
def cqFull (s : State) (c : Nat) : Bool := decide (2 ^ s.cqLog c ≤ s.cqUsed c)

/-- Held completions of a CQ. -/
def cqHold (s : State) (c : Nat) : List Compl := s.rc.hold.at [] c

/-- Entries taken that have not produced their completion (R478). -/
def cqBusy (s : State) (c : Nat) : Nat :=
  (s.rc.jobs.filter fun j => j.cq == c).length + (s.rc.comp.filter fun k => k.cq == c && !k.fence).length
    + (s.rc.bufs.map fun (e : Nat × List RxBuf) => (e.2.filter fun b => b.cq == c).length).sum

/-- The start rule of a CQ (R478). -/
def mayStart (s : State) (c : Nat) : Bool :=
  !s.cqFull c && (s.cqHold c).isEmpty && decide (s.cqBusy c < 2 ^ s.cqLog c - s.cqUsed c + 8)

/-- Set the hold of a CQ. Log 148 (DEDUCED). -/
def setHold (s : State) (c : Nat) (l : List Compl) : State :=
  { s with rc.hold := s.rc.hold.put [] c l }.set F.RC_CQ_STAT_HOLD [c] l.length

/-- IDLE of an SQ (R489): no started entry remains and no completion of it waits. Log 147 (DEDUCED). -/
def showIdle (s : State) (q : Nat) : State :=
  let idle := (s.rc.jobs.all fun j => j.q != q) && (s.rc.bufs.at [] q).isEmpty
    && (s.rc.comp.all fun k => k.sq != q || k.fence) && (s.rc.hold.all fun e => e.2.all fun k => k.sq != q)
  if q < 2048 then s.set F.RC_SQ_STAT_IDLE [q] (b2n idle) else s

/-! ## Completions (R477 to R479) -/

/-- The 32 bytes of a completion with ownership bit `o` (R477). -/
def complBytes (k : Compl) (o : Nat) : List Byte :=
  leBytes (k.sq + b2n k.fence * 2 ^ 11 + k.slot * 2 ^ 16) 4 ++ leBytes (k.status + k.op * 2 ^ 16 + o * 2 ^ 31) 4
    ++ leBytes k.cookie 8 ++ leBytes k.r0 8 ++ leBytes k.r1 8

/-- An MSI-X message of a CQ that has new entries (R479). -/
def cqMessage (s : State) (c : Nat) : State :=
  { s with rc.cqNew := s.rc.cqNew.erase c, rc.cqFirst := s.rc.cqFirst.erase c }.msix (s.get F.RC_CQ_CFG_FN [c]) (s.get F.RC_CQ_CFG_VECTOR [c])

/-- An entry has been written: the tail, coalescing and the full state (R473, R478, R479). -/
def cqWritten (s : State) (c : Nat) (k : Compl) : State :=
  let n := s.rc.cqNew.at 0 c + 1
  let s := s.set F.RC_CQ_STAT_TAIL [c] (ringNext (s.cqLog c) (s.cqTail c))
  let s := if k.fence then s else s.inc R.RC_DONE []
  let s := s.countKind 168 1 1
  let s := if s.isOn F.RC_CQ_CFG_IRQ_EN [c] then
      let t := { s with rc.cqNew := s.rc.cqNew.put 0 c n, rc.cqFirst := if n = 1 then s.rc.cqFirst.insert c s.clock.tick else s.rc.cqFirst }
      if max 1 (s.get F.RC_CQ_COAL_CNT [c]) ≤ n then t.cqMessage c else t
    else s
  if s.cqFull c then
    ((s.level F.RC_CQ_STAT_FULL [c] (0x800 + c) true).raise F.RC_EVT_CQ_FULL []).inc R.RC_CQ_STALL []
  else s

/-- Try to write one completion: true when it is written (R517). -/
def cqWrite (s : State) (c : Nat) (k : Compl) : Bool × State :=
  let i := s.cqTail c
  let base := s.rd R.RC_CQ_BASE_LO [c] + s.rd R.RC_CQ_BASE_HI [c] * 2 ^ 32
  let va := base + 32 * (i % 2 ^ s.cqLog c)
  let bs := complBytes k (ringO (s.cqLog c) i)
  let x := s.dmaPut (.cq c) (s.get F.RC_CQ_CFG_FN [c]) (pasOf (s.rd R.RC_CQ_PASID [c])) [(va, 32)] 0 bs
  if x.2.1 = 0 then (true, x.2.2.cqWritten c k)
  else if x.2.1 = 1 then (false, x.2.2)
  else (false, { x.2.2 with xl.stuck := addOnce c x.2.2.xl.stuck })

/-- Write held completions while the CQ has room, in order (R478). Log 148 (DEDUCED). -/
def drainHold (c : Nat) : List Compl → State → State
  | [], s => s.setHold c []
  | k :: r, s =>
    if s.cqFull c then s.setHold c (k :: r)
    else
      let x := s.cqWrite c k
      if x.1 then (drainHold c r x.2).showIdle k.sq else x.2.setHold c (k :: r)

/-- A completion reaches its CQ: written, or held behind a full, parked or stuck one (R478, R517). Log 148 (DEDUCED). -/
def putCompletion (s : State) (k : Compl) : State :=
  let c := k.cq
  if s.cqFull c || !(s.cqHold c).isEmpty || s.waiting (.cq c) || s.xl.stuck.contains c then s.setHold c (s.cqHold c ++ [k])
  else
    let x := s.cqWrite c k
    if x.1 then x.2 else x.2.setHold c [k]

/-- The completion of an entry, unless NOCQE suppresses it (R474, R477) or its function has been reset (R493). -/
def emit (s : State) (q idx ent cq status r0 r1 : Nat) : State :=
  if bit ent 11 && status == 0 || decide (2048 ≤ q) then s
  else
    let k : Compl := { cq := cq, sq := q, slot := idx % 2 ^ s.sqLog q, status := status, op := bits ent 7 0, cookie := bits ent 127 64, r0 := r0, r1 := r1 }
    { s with rc.comp := s.rc.comp ++ [k] }

/-- A started entry completes. -/
def finishJob (s : State) (j : Job) (status r0 r1 : Nat) : State :=
  let t := { s with rc.jobs := s.rc.jobs.filter fun k => !(k.q == j.q && k.idx == j.idx) }
  ((t.dropWaits fun w => w == .entry j.q j.idx).emit j.q j.idx j.ent j.cq status r0 r1).showIdle j.q

/-- Replace a started entry's record. -/
def setJob (s : State) (j : Job) : State :=
  { s with rc.jobs := s.rc.jobs.map fun k => if k.q == j.q && k.idx == j.idx then j else k }

/-! ## Retire fences (R482) -/

/-- Object `ao` has been reclaimed: its fence falls due, or is lost with a disabled CQ (R117, R482). -/
def fenceDue (s : State) (ao : Nat) : State :=
  match s.rc.fences.find? fun f => f.ao == ao && !f.due with
  | none => s
  | some f =>
    let rest := removeOne f s.rc.fences
    if s.isOn F.RC_CQ_CFG_EN [f.c.cq] then { s with rc.fences := rest ++ [{ f with due := true }] }
    else { s with rc.fences := rest }.inc R.RC_FENCE_LOST []

/-! ## Receive buffers (R484, R516) -/

/-- The frontmost buffer of a receive queue completes. -/
def closeBuf (s : State) (q status hi r1 : Nat) : State :=
  match s.rc.bufs.at [] q with
  | [] => s
  | b :: r =>
    let t := { s with rc.bufs := s.rc.bufs.put [] q r }
    (t.emit q b.idx b.ent b.cq status (b.used + b.recs % 2 ^ 16 * 2 ^ 32 + hi * 2 ^ 48) r1).showIdle q

/-- A record of a receive queue is lost for want of a buffer (R484): a Tally record waits, a punt is charged. -/
def rxLost (s : State) (q : Nat) (r : RxRec) : State :=
  match s.get F.RC_SQ_CFG_TYPE [q] with
  | 4 => { s with tally.again := s.tally.again ++ [(r.bytes, r.trailer)] }
  | typ =>
    let t := (s.inc R.RC_RX_DROP []).raise F.RC_EVT_RX_DROP []
    let t := match r.frame with
      | some m => t.tallyDrop (m.slice / 4) 2 m
      | none => t
    if typ = 5 then { t with fab.capLost := t.fab.capLost.put 0 (q + 1) (t.fab.capLost.at 0 (q + 1) + 1) } else t

/-- A Tally record has been written (R421, R428). Log 168 (DEDUCED), 169 (DEDUCED). -/
def tallyWrote (s : State) (trailer : Bool) : State :=
  let t := (s.inc R.TL_RECORDS []).countKind 175 0 1
  if trailer then t.raise F.TL_EVT_SET_DONE [] else t

/-- Write the records that wait for a receive queue's buffers, in order, until one waits for a page. -/
def rxRun (q : Nat) : Nat → State → State
  | 0, s => s
  | f + 1, s =>
    match s.rc.recs.at [] q, s.rc.bufs.at [] q with
    | [], _ => s
    | r :: rs, [] => rxRun q f ({ s with rc.recs := s.rc.recs.put [] q rs }.rxLost q r)
    | r :: rs, b :: bs =>
      if s.waiting (.rx q) || !s.ringUp then s
      else
        let punt := s.get F.RC_SQ_CFG_TYPE [q] == 3
        let size := if punt then min r.bytes.length b.len else r.bytes.length
        if b.len < b.used + size then rxRun q f (s.closeBuf q 0 0 0)
        else
          let x := s.dmaPut (.rx q) b.fn b.pas b.frags (b.used + r.moved) ((r.bytes.take size).drop r.moved)
          let t := x.2.2
          if x.2.1 = 0 then
            let b' := { b with used := b.used + size, recs := b.recs + 1, at_ := if b.recs = 0 then t.clock.tick else b.at_ }
            let t := { t with rc.recs := t.rc.recs.put [] q rs, rc.bufs := t.rc.bufs.put [] q (b' :: bs) }.countKind 168 3 1 (r.who <|> r.frame.map fun (m : Meta) => m.tenant)
            let t := if s.get F.RC_SQ_CFG_TYPE [q] = 4 then t.tallyWrote r.trailer else t
            let short := size < r.bytes.length
            let t := if punt || r.trailer then
                t.closeBuf q (if short then 0x1B else 0) (if short then r.bytes.length else 0) (b2n r.trailer)
              else t
            rxRun q f t
          else if x.2.1 = 1 then { t with rc.recs := t.rc.recs.put [] q ({ r with moved := r.moved + x.1 } :: rs) }
          else
            let t := { t with rc.recs := t.rc.recs.put [] q rs }
            rxRun q f ((t.closeBuf q 0x1C 0 0).rxLost q { r with moved := 0 })

/-- Buffers `bs` can take records of the given sizes in order; a punt takes a buffer of its own. -/
def rxFits (punt : Bool) : Nat → List RxBuf → List Nat → Bool
  | 0, _, _ => false
  | _ + 1, _, [] => true
  | _ + 1, [], _ :: _ => false
  | f + 1, b :: bs, n :: ns =>
    if punt then rxFits punt f bs ns
    else if b.used + n ≤ b.len then rxFits punt f ({ b with used := b.used + n } :: bs) ns
    else rxFits punt f bs (n :: ns)

/-- Ring `q` is an enabled receive queue of a type, and its buffers can take a record of `n` bytes; one that is parked
takes none (R484, R516). -/
def rxTakes (s : State) (q typ n : Nat) : Bool :=
  let recs := (s.rc.recs.at [] q).map (·.bytes.length) ++ [n]
  let bufs := s.rc.bufs.at [] q
  s.ringUp && decide (q < 2048) && s.isOn F.RC_SQ_CFG_EN [q] && s.get F.RC_SQ_CFG_TYPE [q] == typ && !s.sqParked q
    && rxFits (typ == 3) (recs.length + bufs.length + 1) bufs recs

/-- Run a receive queue's records. -/
def rxGo (s : State) (q : Nat) : State := rxRun q ((s.rc.recs.at [] q).length + (s.rc.bufs.at [] q).length + 1) s

/-- Give a record to a receive queue that takes it. -/
def rxGive (s : State) (q : Nat) (r : RxRec) : State :=
  { s with rc.recs := s.rc.recs.put [] q (s.rc.recs.at [] q ++ [r]) }.rxGo q

/-- Ring `q` does not take a record of `n` bytes: where the record does not fit a partly filled buffer and no other is posted,
that buffer completes (R484). -/
def rxFull (s : State) (q typ n : Nat) : State :=
  let open_ := s.ringUp && decide (q < 2048) && s.isOn F.RC_SQ_CFG_EN [q] && s.get F.RC_SQ_CFG_TYPE [q] == typ && !s.sqParked q
  match s.rc.recs.at [] q, s.rc.bufs.at [] q with
  | [], [b] => if open_ && decide (0 < b.recs) && decide (b.len < b.used + n) then s.closeBuf q 0 0 0 else s
  | _, _ => s

/-- A learn notice for the ring RC_LEARN.RING (R290, R484, R486). -/
def learnNotice (s : State) (kind port old seq key : Nat) : State :=
  if s.isOn F.TS_CTRL_NOTIFY [] && s.isOn F.RC_LEARN_EN [] then
    let bs := leBytes (kind + port * 4 + old * 2 ^ 11) 4 ++ leBytes seq 4 ++ leBytes s.clock.sec 8 ++ leBytes s.clock.ns 4
      ++ leBytes 0 12 ++ leBytes key 20 ++ leBytes 0 12
    let q := s.get F.RC_LEARN_RING []
    if s.rxTakes q 6 64 then s.rxGive q { bytes := bs }
    else ((s.rxFull q 6 64).inc R.RC_RX_DROP []).raise F.RC_EVT_RX_DROP []
  else s

/-! ## Event rings and deliveries (R488, R524 to R527) -/

/-- A delivery cannot be made (R525). Log 149 (DEDUCED). -/
def evLost (s : State) : State := s.wr R.EV_LOST [] (satAdd 0xFFFFFFFF (s.rd R.EV_LOST []) 1)

/-- An event for ring `r` is lost (R488, R490). -/
def erLost (s : State) (r : Nat) : State := s.wr R.RC_ER_LOST [r] (satAdd 0xFFFFFFFF (s.rd R.RC_ER_LOST [r]) 1)

/-- Deliver a source into event ring `r`; false while its page waits for a translation (R488, R517, R526). Log 149 (DEDUCED). -/
def erDeliver (s : State) (r src value : Nat) : Bool × State :=
  if !s.isOn F.RC_ER_CFG_EN [r] then (true, s.evLost.erLost r)
  else if !s.ringUp then (true, s.evLost)
  else
    let n := s.erLog r
    let tail := s.get F.RC_ER_STAT_TAIL [r]
    let head := s.get F.RC_ER_HEAD_HEAD [r]
    if 2 ^ n ≤ ringCount n tail head then (true, (s.erLost r).level F.RC_ER_STAT_FULL [r] (0x500 + r) true)
    else if s.parked (· == .er r) then (true, s.erLost r)
    else
      let seq := s.ev.erSeq.at 0 r
      let w := src + value * 2 ^ 32 + s.clock.tick % 2 ^ 48 * 2 ^ 64 + seq % 2 ^ 15 * 2 ^ 112 + ringO n tail * 2 ^ 127
      let base := s.rd R.RC_ER_BASE_LO [r] + s.rd R.RC_ER_BASE_HI [r] * 2 ^ 32
      let x := s.dmaPut (.er r) (s.get F.RC_ER_CFG_FN [r]) (pasOf (s.rd R.RC_ER_PASID [r])) [(base + 16 * (tail % 2 ^ n), 16)] 0 (leBytes w 16)
      let t := x.2.2
      if x.2.1 = 0 then
        let t := { t with ev.erSeq := t.ev.erSeq.put 0 r (seq + 1) }.set F.RC_ER_STAT_TAIL [r] (ringNext n tail)
        let t := t.countKind 168 4 1
        (true, if ringCount n tail head == 0 && t.isOn F.RC_ER_CFG_IRQ_EN [r] then t.msix (t.get F.RC_ER_CFG_FN [r]) (t.get F.RC_ER_CFG_VECTOR [r]) else t)
      else if x.2.1 = 1 ∧ !t.parked (· == .er r) then (false, t)
      else (true, t.erLost r)

/-- Deliver source `src`; false while it must wait for a translation. Log 149 (DEDUCED). -/
def deliverEvent (s : State) (src : Nat) : Bool × State :=
  let fn := s.get F.EV_SRC_FN [src]
  let tgt := s.get F.EV_SRC_TARGET [src]
  let owner := if 0x800 ≤ src then s.get F.RC_CQ_CFG_FN [src - 0x800]
    else if 0x500 ≤ src ∧ src < 0x540 then s.get F.RC_ER_CFG_FN [src - 0x500] else 0
  let value := if 0x800 ≤ src ∨ (0x500 ≤ src ∧ src < 0x540) then 1 else match sourceReg src with
    | some (r, ix) => s.rd r ix
    | none => 0
  if !s.sourceOn src then (true, s)
  else if s.rcHalted || (fn != 0 && owner != fn) then (true, s.evLost)
  else if s.get F.EV_SRC_DEST [src] = 1 then s.erDeliver (tgt % 64) src value
  else (true, s.msix fn tgt)

/-! ## The halt and the resets of queues (R489, R491 to R493, R519) -/

/-- Drop the parks of the Ring Complex: no SQ shows as parked (R519). -/
def dropRingParks (s : State) : State :=
  let t := s.dropWaits fun w => match w with | .thread _ _ => false | .tag _ _ => false | _ => true
  forEach ((List.range 2048).filter fun q => t.isOn F.RC_SQ_STAT_PARKED [q]) (fun q u => u.set F.RC_SQ_STAT_PARKED [q] 0) t

/-- A malformation halts the Ring Complex (R491, R492). `idx` is the entry's index and `ent` its 64 bytes.
Log 52 (DESIGN CHOICE). -/
def ringHalt (s : State) (reason fn q idx ent : Nat) : State :=
  if s.rcHalted then s
  else
    let t := s.wr R.RC_STAT [] (2 ^ 31 + reason * 2 ^ 24 + fn * 2 ^ 20 + q)
    let t := t.set F.RC_HALT_IDX_INDEX [] idx
    let t := forEach (List.range 16) (fun i u => u.wr R.RC_HALT_DESC [i] (bits ent (32 * i + 31) (32 * i))) t
    let t := if t.isOn F.RC_CTRL_HALT_IRQ_EN [] then t.msix 0 (t.get F.RC_CTRL_HALT_VEC []) else t
    let t := (t.raise F.RC_EVT_HALT []).report { die := 12, unit := 14, cause := 0xA, d0 := q, d1 := reason }
    let rc := { t.rc with jobs := [], comp := [], hold := [], fetched := [], recs := [], fences := t.rc.fences.filter fun f => !f.due }
    { t with rc := rc, xl.stuck := [] }.dropRingParks

/-- A register of the blocks that a host-plane reset resets (R119, R495, R496, R520, R539). Log 50 (DEDUCED). -/
def hostPlaneReg (a : Nat) : Bool :=
  decide (a < 0x1000) || (decide (0x80000 ≤ a) && decide (a < 0x90000)) || (decide (0x100000 ≤ a) && decide (a < 0x300000))

/-- The ordered-store operations that wait for entries of the given queues go on without them: nobody is answered (R492,
R493). -/
def osOrphan (s : State) (mine : Nat → Bool) : State :=
  let cut := fun (w : OsWait) => match w.ref with
    | .entry q _ => if mine q then { w with ref := .entry 2048 0 } else w
    | _ => w
  { s with osp.waiting := s.osp.waiting.map cut }

/-- The Ring Complex, translation, event delivery and PCIe configuration are reset (R119, R493, R527). -/
def ringReset (s : State) : State :=
  let s := s.osOrphan fun _ => true
  let t := { s with regs := s.regs.keep (fun a => !hostPlaneReg a), ctrs := s.ctrs.keep (fun a => !hostPlaneReg a) }
  let t := { t with rc := { punts := [] }, ev.due := [], ev.vecOpen := [], ev.fnOpen := [], ev.pba := [], ev.erSeq := [] }
  let t := { t with xl.tlb := [], xl.blocked := 0, xl.alloc := [], xl.stuck := [], xl.invals := 0 }
  t.dropRingParks

/-- The queues of VF `f` are reset by its function-level reset (R493). Log 230 (DEDUCED). -/
def vfReset (s : State) (f : Nat) : State :=
  let sqs := (List.range 2048).filter fun q => s.sqFn q == f
  let cqs := (List.range 2048).filter fun c => s.get F.RC_CQ_CFG_FN [c] == f
  let ers := (List.range 64).filter fun r => s.get F.RC_ER_CFG_FN [r] == f
  let mine := fun (w : Who) => match w with
    | .fetch q | .entry q _ | .rx q => sqs.contains q
    | .cq c => cqs.contains c
    | .er r => ers.contains r
    | _ => false
  let t := (s.dropWaits mine).osOrphan sqs.contains
  let rc := t.rc
  let rc := { rc with
    jobs := rc.jobs.filter fun j => !sqs.contains j.q, comp := rc.comp.filter fun k => !sqs.contains k.sq && !cqs.contains k.cq
    hold := rc.hold.keep fun c => !cqs.contains c, fetched := rc.fetched.keep fun k => !sqs.contains (k / 2 ^ 40)
    bufs := rc.bufs.keep fun q => !sqs.contains q, recs := rc.recs.keep fun q => !sqs.contains q
    fences := rc.fences.filter fun e => !cqs.contains e.c.cq, cqNew := rc.cqNew.keep fun c => !cqs.contains c
    cqFirst := rc.cqFirst.keep fun c => !cqs.contains c, vfCtl := rc.vfCtl.erase f, vfAcc := rc.vfAcc.keep fun k => k / 8 != f }
  let t := { t with rc := rc, xl.stuck := t.xl.stuck.filter fun c => !cqs.contains c }
  let t := forEach sqs (fun q u => (((u.set F.RC_SQ_CFG_EN [q] 0).set F.RC_SQ_STAT_HEAD [q] 0).set F.RC_SQ_STAT_PARKED [q] 0).set F.RC_SQ_TAIL_TAIL [q] 0 |>.set F.RC_SQ_STAT_IDLE [q] 1) t
  let t := forEach cqs (fun c u => (((u.set F.RC_CQ_CFG_EN [c] 0).set F.RC_CQ_HEAD_HEAD [c] 0).set F.RC_CQ_STAT_TAIL [c] 0).set F.RC_CQ_STAT_HOLD [c] 0 |>.set F.RC_CQ_STAT_FULL [c] 0) t
  let t := forEach ers (fun r u => ((u.set F.RC_ER_CFG_EN [r] 0).set F.RC_ER_HEAD_HEAD [r] 0).set F.RC_ER_STAT_TAIL [r] 0 |>.set F.RC_ER_STAT_FULL [r] 0) t
  t.set F.RC_FN_STAT_DRIVER_OK [f] 0

end State

end Sys2Proof.Machine
end

