-- ==== Sys2Proof/Machine/Sequencer.lean ====
section
/-! DEFINITION. The table sequencer, learning and ageing on the Tree die, reloads of table entries and the reclaiming of
action objects (R117, R281, R284 to R294, R328). -/

namespace Sys2Proof.Machine

/-- The tables by number. -/
def Tbl.all : List Tbl :=
  [.spMap, .spTab, .tenant, .exact, .lpm, .root, .ao, .elist, .mcast, .os, .flowMask, .flowTrans, .flowAct, .node, .trans,
   .extract, .prof0, .prof1, .rule0, .rule1, .tmpl0, .tmpl1, .policer, .spSel, .tenSel, .shaper, .tgroup, .gaitOper,
   .gaitPend, .binMap, .starts, .lpWord, .vrfDef]

/-- The sequenced write of a hit filter's clear (R292), and of an Awl attribute entry (R252). -/
def tblFilter : Nat := 63
def tblAttr : Nat := 62

/-- The form in which die `d` stores an entry: a multicast group keeps its LOCAL members, DIE_MASK and PRUNE (R348). -/
def dieForm (t : Tbl) (d v : Nat) : Nat :=
  match t with
  | .mcast =>
    let mask := (List.range 8).foldl (fun a x => if bits v (64 * x + 63) (64 * x) = 0 then a else a + 2 ^ x) 0
    bits v (64 * d + 63) (64 * d) + mask * 2 ^ 64 + b2n (bit v 512) * 2 ^ 72
  | _ => v

/-- The rule bank that a table belongs to (R224). -/
def bankOf (t : Tbl) : Option Nat :=
  match t with
  | .prof0 | .rule0 | .tmpl0 => some 0
  | .prof1 | .rule1 | .tmpl1 => some 1
  | _ => none

namespace State

/-! ## The sequence (R284) -/

/-- The Skirt die whose seeds and settings the Tree die goes by: the lowest live one. -/
def seedDie (s : State) : Nat := s.liveSkirts.headD 0

/-- Writes that every live Skirt die has applied. -/
def appliedAll (s : State) : Nat := s.liveSkirts.foldl (fun a d => min a (s.ts.applied.at 0 d)) s.ts.issued

/-- Show TS_SEQ and forget the writes that every live die has applied. -/
def trimLog (s : State) : State :=
  let n := s.appliedAll
  { s with ts.log := s.ts.log.filter fun e => decide (n < e.1) }.wr R.TS_SEQ [] (n % 2 ^ 32)

/-- The Tree die's own copy takes a write. -/
def copyWrite (s : State) (w : SeqWrite) : State :=
  if w.tbl = tblFilter then s
  else if w.tbl = tblAttr then { s with awl.attr := s.awl.attr.put 0 w.idx w.val }
  else match Tbl.all[w.tbl]? with
    | some t => s.setTab 12 t w.idx w.val
    | none => s

/-- Place a write in the sequence (R284). -/
def issue (s : State) (w : SeqWrite) : State :=
  let n := s.ts.issued + 1
  let t := s.copyWrite w
  ({ t with ts.issued := n, ts.log := t.ts.log ++ [(n, w)] }.countKind 174 0 1).trimLog

/-- Place several writes in order. -/
def issueAll (s : State) (ws : List SeqWrite) : State := ws.foldl issue s

/-- The tables that Skirt dies hold a replica of. Log 63 (DEDUCED). -/
def onSkirts (t : Tbl) : Bool :=
  match t with
  | .flowMask | .flowTrans | .flowAct | .binMap => false
  | _ => true

/-- Die `d` applies a write, one whole entry; a bad entry written is good again. -/
def applyOn' (s : State) (d : Nat) (w : SeqWrite) : State :=
  if w.tbl = tblFilter then { s with ts.filter := s.ts.filter.erase (key2 d w.idx) }
  else match Tbl.all[w.tbl]? with
    | some t =>
      if onSkirts t then
        let u := s.setTab d t w.idx (dieForm t d w.val)
        let u := if w.move then u.inc R.OS_MOVES [d] else u
        let u := match bankOf t with | some b => { u with ts.digested := u.ts.digested.put 0 (key2 d b) 1 } | none => u
        { u with badTabs := u.badTabs.filter fun k => k != tkey d t w.idx }
      else s
    | none => s

/-- Die `d` applies its next write. -/
def applyNext (s : State) (d : Nat) : State :=
  let n := s.ts.applied.at 0 d + 1
  match s.ts.log.find? fun e => e.1 == n with
  | none => s
  | some e =>
    let t := s.applyOn' d e.2
    ({ t with ts.applied := t.ts.applied.put 0 d n }.countKind (16 * d + 13) 6 1 |>.treeTransfer d 1).trimLog

/-- Entries whose table writes have been applied by every die complete (R284, R477). -/
def finishSeq (s : State) : State :=
  let n := s.appliedAll
  forEach (s.rc.jobs.filter fun j => j.stage == 1 && decide (j.r1 ≤ n)) (fun j t => t.finishJob j 0 j.r0 (j.r1 % 2 ^ 32)) s

/-! ## Learn counts (R289) -/

/-- Bring a port's AT_LIMIT flag into line; the first setting raises LIMIT_REACHED. -/
def showLimit (s : State) (p : Nat) : State :=
  let lim := s.get F.TS_PLIM_LIMIT [p]
  let at_ := lim != 0x3FFFF && decide (lim ≤ s.get F.TS_PCNT_COUNT [p])
  let t := s.set F.TS_PCNT_AT_LIMIT [p] (b2n at_)
  if at_ && !s.isOn F.TS_PCNT_AT_LIMIT [p] then t.raise F.TS_EVT_LIMIT_REACHED [] else t

/-- Change a port's count. -/
def portLearned (s : State) (p n : Nat) : State := (s.set F.TS_PCNT_COUNT [p] n).showLimit p

/-- Change a tenant's count. -/
def tenantLearned (s : State) (w n : Nat) : State :=
  let lim := bits (s.tab 12 .tenant w) 17 0
  let t := { s with ts.tenantCnt := s.ts.tenantCnt.put 0 w n }
  if lim ≠ 0x3FFFF ∧ s.ts.tenantCnt.at 0 w < lim ∧ lim ≤ n then t.raise F.TS_EVT_LIMIT_REACHED [] else t

/-- The entry at a slot leaves the learn counts. -/
def unlearn (s : State) (slot : Nat) : State :=
  match s.ts.owner.find? slot with
  | none => s
  | some (w, p) =>
    let t := { s with ts.owner := s.ts.owner.erase slot }
    (t.portLearned p (t.get F.TS_PCNT_COUNT [p] - 1)).tenantLearned w (t.ts.tenantCnt.at 0 w - 1)

/-- A slot is learned for a tenant and port; its source was seen just now. -/
def ownSlot (s : State) (slot w p : Nat) : State :=
  let t := { s with ts.owner := s.ts.owner.insert slot (w, p), ts.periodHit := s.ts.periodHit.put 0 slot 1 }
  (t.portLearned p (t.get F.TS_PCNT_COUNT [p] + 1)).tenantLearned w (t.ts.tenantCnt.at 0 w + 1)

/-- A learned entry moves to port `p`: one off its old port, one on its new; its tenant's count stands (R289). -/
def moveSlot (s : State) (slot w old p : Nat) : State :=
  let t := { s with ts.owner := s.ts.owner.insert slot (w, p), ts.periodHit := s.ts.periodHit.put 0 slot 1 }
  let t := t.portLearned old (t.get F.TS_PCNT_COUNT [old] - 1)
  t.portLearned p (t.get F.TS_PCNT_COUNT [p] + 1)

/-- A port's learned entries have reached its limit. -/
def portFull (s : State) (p : Nat) : Bool :=
  let lim := s.get F.TS_PLIM_LIMIT [p]
  lim != 0x3FFFF && decide (lim ≤ s.get F.TS_PCNT_COUNT [p])

/-- A tenant's learned entries have reached its limit, by the Tree die's copy. -/
def tenantAtLimit (s : State) (w : Nat) : Bool :=
  let lim := bits (s.tab 12 .tenant w) 17 0
  lim != 0x3FFFF && decide (lim ≤ s.ts.tenantCnt.at 0 w)

/-- A learned entry (R269, R288). -/
def learnedEntry (key ao : Nat) : Nat := key * 2 ^ 32 + 2 ^ 31 + 2 ^ 30 + 2 ^ 29 + ao

/-- The Tree die handles a learn request (R288). Log 152 (DEDUCED). -/
def learnOne (s : State) (key tenant port : Nat) : State :=
  let ao := s.get F.TS_LEARN_BASE_BASE [] + port
  let rate := s.takeTokens bktLearn 50000000 1 1
  if !rate.1 then (rate.2.inc R.TS_LEARN_DROP []).raise F.TS_EVT_LEARN_DROP []
  else match s.exFind 12 s.seedDie key with
    | some (slot, v) =>
      if bits v 16 0 = ao ∨ !bit v 30 then s
      else if s.portFull port then s.inc R.TS_LIMIT_LATE []
      else
        let own := (s.ts.owner.find? slot).getD (tenant, bits v 16 0 - s.get F.TS_LEARN_BASE_BASE [])
        let t := rate.2.moveSlot slot own.1 own.2 port
        let t := t.issue { tbl := Tbl.exact.num, idx := slot, val := learnedEntry key ao }
        ((t.inc R.TS_MOVED []).countKind 174 2 1).learnNotice 1 port own.2 (t.ts.issued % 2 ^ 32) key
    | none =>
      if s.portFull port || s.tenantAtLimit tenant then s.inc R.TS_LIMIT_LATE []
      else match s.storePlace 12 .exact (s.exHash s.seedDie key) exOvf exOvfN with
        | none => (s.inc R.TS_FAIL_LATE []).raise F.TS_EVT_FAIL_LATE []
        | some slot =>
          let t := rate.2.ownSlot slot tenant port
          let t := t.issue { tbl := Tbl.exact.num, idx := slot, val := learnedEntry key ao }
          ((t.inc R.TS_LEARNED []).countKind 174 1 1).learnNotice 0 port 0 (t.ts.issued % 2 ^ 32) key

/-! ## Objects (R117, R281) -/

/-- The objects bound to epoch `e` are reclaimed, and their fences fall due. -/
def reclaim (s : State) (e : Nat) : State :=
  let gone := (s.ts.aoState.filter fun a => a.2 == 2 + e).map (·.1)
  forEach gone (fun a t => t.fenceDue a) { s with ts.aoState := s.ts.aoState.filter fun a => a.2 != 2 + e }

/-- The object is LIVE. -/
def aoLive (s : State) (a : Nat) : Bool := s.ts.aoState.at 0 a == 1

end State

/-! ## The commands -/

/-- LEARN_REQUEST: the oldest learn request reaches the Tree die (R288). Learning stops outside RUN (R104).
Log 152 (DEDUCED). -/
def execLearnRequest (s : State) : Out :=
  done (fun s =>
    match s.ts.learn with
    | [] => s
    | (key, tenant, port, d) :: r =>
      let t := { s with ts.learn := r, ts.asked := removeOne (d, key) s.ts.asked }
      if t.running && t.live d then t.learnOne key tenant port else t) s

/-- HIT_NOTICE: the oldest hit notice reaches the Tree die: it counts for the period it belongs to, or, when its entry is
gone, it becomes a learn request (R292, R293). Log 153 (DEDUCED). -/
def execHitNotice (s : State) : Out :=
  done (fun s =>
    match s.ts.hits with
    | [] => s
    | (slot, key, port, tenant, n) :: r =>
      let t := { s with ts.hits := r }
      let v := t.tab 12 .exact slot
      if v ≠ 0 ∧ v / 2 ^ 32 = key then
        let mark := fun (a : AgeVisit) => if a.slot ≠ slot then a else if n < a.m then { a with hit := true } else { a with hitNew := true }
        let closed := t.ts.visits.any fun a => a.slot == slot && decide (n < a.m)
        { t with ts.visits := t.ts.visits.map mark
                 ts.periodHit := if closed then t.ts.periodHit else t.ts.periodHit.put 0 slot 1 }
      else if t.running then (t.inc R.TS_RELEARN []).learnOne key tenant port
      else t) s

/-- AGER_VISIT: the ager visits the entry at `slot` and closes its hit period with a filter clear (R292). -/
def execAgerVisit (slot : Nat) (s : State) : Out :=
  done (fun s =>
    let v := s.tab 12 .exact slot
    onlyIf (s.running && s.isOn F.TS_CTRL_AGE_EN [] && v != 0 && bit v 29 && !s.ts.visits.any (fun a => a.slot == slot)
        && (s.ts.visitAt.at 0 slot == 0 || decide (s.get F.TS_AGE_AGE_S [] * 1000000000 ≤ s.since (s.ts.visitAt.at 0 slot - 1))))
      (fun s =>
        let a : AgeVisit := { slot := slot, key := v / 2 ^ 32, m := s.ts.issued + 1, hit := s.ts.periodHit.at 0 slot == 1 }
        let t := s.issue { tbl := tblFilter, idx := slot, val := 0 }
        { t with ts.visits := t.ts.visits ++ [a], ts.periodHit := t.ts.periodHit.erase slot
                 ts.visitAt := t.ts.visitAt.put 0 slot (t.clock.tick + 1) }) s) s

/-- AGE_DECIDE: every die has applied the filter clear of the entry at `slot`: it stays, or its delete is placed in the
sequence unless a notice of the new period has come (R292, R293). -/
def execAgeDecide (slot : Nat) (s : State) : Out :=
  done (fun s =>
    match takeFirst (fun (a : AgeVisit) => a.slot == slot && decide (a.m ≤ s.appliedAll)) s.ts.visits with
    | none => s
    | some (a, r) =>
      let v := s.tab 12 .exact slot
      let t := { s with ts.visits := r }
      if v = 0 ∨ v / 2 ^ 32 ≠ a.key ∨ !bit v 29 ∨ a.hit ∨ !s.running then t
      else if a.hitNew then t.inc R.TS_AGE_CANCEL []
      else
        let port := ((t.ts.owner.find? slot).map (·.2)).getD 0
        let t := (t.unlearn slot).issue { tbl := Tbl.exact.num, idx := slot, val := 0 }
        ((t.inc R.TS_AGED []).countKind 174 3 1).learnNotice 2 port 0 (t.ts.issued % 2 ^ 32) a.key) s

/-- SEQ_WRITE_APPLY: Skirt die `d` applies its next sequenced write (R284). -/
def execSeqWriteApply (d : Nat) (s : State) : Out :=
  done (fun s => onlyIf (decide (d < 8) && s.live d && s.powered) (fun s => (s.applyNext d).finishSeq) s) s

/-- ENTRY_RELOAD: the oldest entry with an uncorrectable error, its fault reported, is reloaded, from the lowest other live Skirt die, or for
the ordered store from the Tree die's copy as it stands at the die's place in the sequence (R294, R328). Log 157 (DEDUCED). -/
def execEntryReload (s : State) : Out :=
  done (fun s =>
    match s.badTabs with
    | [] => s
    | k :: r =>
      let x := k / 2 ^ 200 / 64
      let n := k / 2 ^ 200 % 64
      let i := k % 2 ^ 200
      match Tbl.all[n]? with
      | none => { s with badTabs := r }
      | some t =>
        let src := if t = Tbl.os then some x else s.liveSkirts.find? fun y => y != x
        match src with
        | none => s
        | some y =>
          if s.flt.reports.any fun f => f.die == x && f.cause == 2 then s else
          let v := if t = Tbl.mcast then setBits (s.tab y t i) 63 0 (bits (s.tab 12 t i) (64 * x + 63) (64 * x)) else s.tab y t i
          ({ s with badTabs := r }.setTab x t i v).recovered x (if t = Tbl.os then 6 else 5) 2) s

end Sys2Proof.Machine
end

