-- ==== Sys2Proof/Machine/Flow.lean ====
section
/-! DEFINITION. Flow contexts (R295 to R303). -/

namespace Sys2Proof.Machine

namespace State

/-- The flow mask of profile `p`, chunk c0 most significant (R296, R304). -/
def flowMaskOf (s : State) (p : Nat) : Nat := (List.range 10).foldl (fun a k => a * 2 ^ 32 + s.tab 12 .flowMask (16 * p + k)) 0

/-- The flow key of a pass (R296). -/
def flowKeyOf (s : State) (p : Pass) : Nat :=
  p.f.m.tenant * 2 ^ 324 + p.prof * 2 ^ 320 + (p.f.m.mkey &&& s.flowMaskOf p.prof)

/-- Bucket-index bits of the context store (R296). -/
def flowBits (s : State) : Nat := match s.variant with | .x => 19 | .t => 18 | .e => 14

/-- Contexts in a bucket, or ways of a set (R295, R296). -/
def flowWays (s : State) : Nat := if s.variant == .e then 16 else 8

/-- The two hashes of a flow key. -/
def flowHash (s : State) (key : Nat) : Nat × Nat := hashPair (s.rd R.FC_SEED0 []) (s.rd R.FC_SEED1 []) (leBytes key 48) s.flowBits

/-- The places of a bucket. -/
def flowSlots (s : State) (b : Nat) : List Nat := (List.range s.flowWays).map (s.flowWays * b + ·)

/-- The index of the context with a key. -/
def flowFind (s : State) (key : Nat) : Option Nat :=
  let h := s.flowHash key
  let near := if s.variant == .e then s.flowSlots h.1 else s.flowSlots h.1 ++ s.flowSlots h.2
  near.find? fun i => (s.flow.ctx.find? i).any fun c => c.key == key

/-- The place of a new context: the bucket with more free entries, H0 on a tie; on the E its set only (R296). -/
def flowPlace (s : State) (key : Nat) : Option Nat :=
  let h := s.flowHash key
  let free := fun b => (s.flowSlots b).filter fun i => (s.flow.ctx.find? i).isNone
  if s.variant == .e then (free h.1).head?
  else if (free h.1).length < (free h.2).length then (free h.2).head? else (free h.1).head?

/-- Contexts the store can hold (R295). -/
def flowCap (s : State) : Nat := match s.variant with | .x => 4194304 | .t => 2097152 | .e => 262144

/-- One operation reaches a context through the cache; true when it must read DDR5 (R295). -/
def flowTouch (s : State) (key : Nat) (idx : Option Nat) (who : Option Nat := none) : State :=
  let set := (hashPair (s.rd R.FC_SEED0 []) (s.rd R.FC_SEED1 []) (leBytes key 48) 14).1
  let l := s.flow.cache.at [] set
  let s := (s.inc R.FC_OPS []).countKind 173 0 1 who
  let miss := s.variant != .e && !(idx.any l.contains)
  let s := if miss then (s.inc R.FC_CACHE_MISS []).countKind 173 1 1 who else s
  match idx with
  | some i => if s.variant == .e then s else { s with flow.cache := s.flow.cache.put [] set ((i :: l.erase i).take 16) }
  | none => s

/-- A new context is in the cache (R295). -/
def flowCached (s : State) (key i : Nat) : State :=
  let set := (hashPair (s.rd R.FC_SEED0 []) (s.rd R.FC_SEED1 []) (leBytes key 48) 14).1
  if s.variant == .e then s else { s with flow.cache := s.flow.cache.put [] set ((i :: (s.flow.cache.at [] set).erase i).take 16) }

/-- Delete a context; it leaves the cache. -/
def flowDrop (s : State) (i : Nat) : State :=
  { s with flow.cache := s.flow.cache.filterMap fun e => if e.2 = [i] then none else some (e.1, e.2.erase i), flow.ctx := s.flow.ctx.erase i, flow.bad := s.flow.bad.filter (· != i), flow.told := s.flow.told.filter (· != i), flow.read := s.flow.read.erase i }

/-- The TCP event of a pass (R299). -/
def flowEvent (s : State) (p : Pass) : Nat :=
  let o := s.get F.FC_PROF_A_FLAGS_OFF [p.prof]
  let fl := kvField p.kv o 8
  if o = 0x3FF ∨ fl = 0 then 0
  else if bit fl 2 then 4
  else if bit fl 1 ∧ bit fl 4 then 2
  else if bit fl 1 then 1
  else if bit fl 0 then 3
  else 5

/-- Apply the operation of a pass to a context that is there (R298). -/
def flowApply (s : State) (p : Pass) (i : Nat) (c : Flow) (created : Bool) : Pass × State :=
  let st := bits (s.tab 12 .flowTrans (16 * p.prof + c.state)) (4 * s.flowEvent p + 3) (4 * s.flowEvent p)
  let c := { c with
    state := st, pkts := (c.pkts + 1) % 2 ^ 64, octets := (c.octets + p.f.bytes.length) % 2 ^ 64
    lastSec := s.clock.sec, lastNs := s.clock.ns }
  let a := s.tab 12 .flowAct (16 * p.prof + st)
  let tr := { p.tr with flowState := st, hits := p.tr.hits + 32 + (if created then 64 else 0) }
  ({ p with flowRes := st * 2 ^ 60 + b2n created * 2 ^ 56 + i * 2 ^ 32, flowAct := bits a 31 30, flowAo := bits a 16 0, tr := tr },
    { s with flow.ctx := s.flow.ctx.insert i c })

/-- A context with an uncorrectable error is deleted, and the fault is contained (R300); one that a report has told of is not
reported again. Log 218 (DEDUCED), 242 (DESIGN CHOICE). -/
def flowLost (s : State) (i : Nat) : State :=
  let t := s.flowDrop i
  if s.flow.told.contains i then t else (t.count 173 3 1).report { die := 12, unit := 12, cause := 2, d0 := i }

/-- The operation of a pass (R298, R300). -/
def flowOp (s : State) (p : Pass) : Pass × State :=
  let key := s.flowKeyOf p
  let f := s.flowFind key
  let s := s.flowTouch key f (some p.f.m.tenant)
  match f with
  | some i =>
    if s.flow.bad.contains i then (s.flowLost i).flowFails p 4
    else match s.flow.ctx.find? i with
      | some c => s.flowApply p i c false
      | none => s.flowFails p 5
  | none =>
    if !s.isOn F.FC_PROF_A_CREATE [p.prof] then s.flowFails p 5
    else match s.flowPlace key with
      | none => s.flowFails p 1
      | some i =>
        let c : Flow := { key := key, state := s.get F.FC_PROF_A_INIT_STATE [p.prof], firstSec := s.clock.sec }
        let t := (s.inc R.FC_CREATED []).countKind 173 2 1 (some p.f.m.tenant)
        let t := if t.isOn F.FC_PROF_A_COUNT_NEW [p.prof] then t.tallyAdd 12 (t.chargee p.f.m) tlySessions 1 else t
        let t := t.flowCached key i
        t.flowApply p i c true

/-- The 128 bytes of a context as a number (R297). -/
def flowBytes (c : Flow) : Nat :=
  c.key + (1 + c.state * 16) * 2 ^ 384 + c.pkts * 2 ^ 448 + c.octets * 2 ^ 512 + c.firstSec * 2 ^ 576 + c.lastSec * 2 ^ 640
    + c.lastNs * 2 ^ 704 + c.user * 2 ^ 768

/-- The host, microcode or the ager reaches the context with a key: one pipeline operation, whose uncorrectable error counts
as cause 4 does for a frame (R300, R302, R303). Log 218 (DEDUCED). -/
def flowRead (s : State) (key : Nat) : Option Flow × State :=
  let f := s.flowFind key
  let t := s.flowTouch key f
  match f.filter fun i => s.flow.bad.contains i with
  | some i => (none, ((t.flowLost i).inc R.FC_CAUSE [4]).raise F.FC_EVT_ECC [])
  | none => (f.bind fun i => s.flow.ctx.find? i, t)

/-- Replace the context with a key (R303). -/
def flowWrite (s : State) (key : Nat) (g : Flow → Flow) : State :=
  match s.flowFind key with
  | some i => match s.flow.ctx.find? i with
    | some c => { s with flow.ctx := s.flow.ctx.insert i (g c) }
    | none => s
  | none => s

end State

/-- FLOW_OP: the pipeline applies the next operation of ingress slice `op.1`: one whose frame has timed out comes first
(R298, R300). `op.2` is what its check latches saw (R47). -/
def execFlowOp (op : Nat × Nat) (s : State) : Out :=
  done (fun s =>
    let (sl, nm) := op
    if !s.forwarding || !s.live 12 then s
    else
      let s := s.checkLatches 12 nm
      match takeFirst (fun (p : Pass) => p.f.m.slice == sl) s.flow.late with
      | some (p, r) => ({ s with flow.late := r }.flowOp p).2
      | none =>
        match (s.sl.flowQ.at [] sl).findIdx? fun h => !h.ready with
        | none => s
        | some i =>
          match (s.sl.flowQ.at [] sl)[i]? with
          | none => s
          | some h =>
            let x := s.flowOp h.p
            { x.2 with sl.flowQ := x.2.sl.flowQ.put [] sl (modifyAt (fun k => { k with p := x.1, ready := true }) i (x.2.sl.flowQ.at [] sl)) }) s

/-- FLOW_RESULT: the result of the oldest frame that slice `sl` holds returns within FC_TIMEOUT, and its pass goes on (R300). -/
def execFlowResult (sl : Nat) (s : State) : Out :=
  done (fun s =>
    match s.sl.flowQ.at [] sl with
    | h :: r =>
      onlyIf (h.ready && s.forwarding && decide (s.since h.at_ ≤ s.get F.FC_TIMEOUT_US [] * 1000))
        (fun s => ({ s with sl.flowQ := s.sl.flowQ.put [] sl r }.treeTransfer (sl / 4) 1 (some h.p.f.m.tenant)).resolve h.p) s
    | [] => s) s

/-- FLOW_TIMEOUT: the oldest frame held by slice `sl` has had no result for FC_TIMEOUT: cause TIMEOUT (R300). -/
def execFlowTimeout (sl : Nat) (s : State) : Out :=
  done (fun s =>
    match s.sl.flowQ.at [] sl with
    | h :: r =>
      onlyIf (s.forwarding && decide (s.get F.FC_TIMEOUT_US [] * 1000 < s.since h.at_)) (fun s =>
        let t := { s with sl.flowQ := s.sl.flowQ.put [] sl r, flow.late := if h.ready then s.flow.late else s.flow.late ++ [h.p] }
        let tr := { h.p.tr with hits := h.p.tr.hits % 32 + h.p.tr.hits / 128 * 128, flowState := 0 }
        let x := t.flowFails { h.p with flowAct := 0, flowAo := 0, tr := tr } 3
        x.2.resolve x.1) s
    | [] => s) s

/-- FLOW_AGER_VISIT: the ager visits context `i`: it reads an idle one, and the delete that follows, an operation of the
pipeline, does nothing when another has come between (R302). Log 218 (DEDUCED). -/
def execFlowAgerVisit (i : Nat) (s : State) : Out :=
  done (fun s =>
    match s.flow.ctx.find? i with
    | none => s
    | some c =>
      match s.flow.read.find? i with
      | some (a, b) =>
        let x := { s with flow.read := s.flow.read.erase i }.flowRead c.key
        let t := x.2
        if x.1.isSome ∧ c.lastSec = a ∧ c.lastNs = b then ((t.flowDrop i).inc R.FC_AGED []).countKind 173 3 1 else t
      | none =>
        let idle := s.get F.FC_PROF_B_IDLE_S [bits c.key 323 320]
        onlyIf (s.running && idle != 0 && decide (c.lastSec + idle ≤ s.clock.sec)) (fun s =>
          { s with flow.read := s.flow.read.insert i (c.lastSec, c.lastNs) }) s) s

end Sys2Proof.Machine
end

