-- ==== Sys2Proof/Machine/Lpm.lean ====
section
/-! DEFINITION. The LPM's prefix lists on the Tree die, and the root, slot and default writes that an insert or a delete
places in the sequence (R270 to R275). -/

namespace Sys2Proof.Machine

namespace State

/-- What an entry of the prefix list says: family, VRF, length and leading address bits. -/
def lpmParts (i : Nat) : Nat × Nat × Nat × Nat := (i / 2 ^ 85, i / 2 ^ 71 % 2 ^ 14, i / 2 ^ 64 % 2 ^ 7, i % 2 ^ 64)

/-- The prefix of a record: its place in the list, or none for a bad prefix (R274, R304). Log 154 (DEDUCED). -/
def lpmRecord (v : Nat) : Option Nat :=
  let fam := b2n (bit v 30)
  let len := bits v 38 32
  let addr := bits v 255 128
  if lpmWidth fam < len then none
  else some (lpmIdx fam (bits v 29 16) len (if fam = 0 then addr % 2 ^ 32 else addr / 2 ^ 64))

/-- Reserved bits of a record (R304). -/
def lpmReserved (v : Nat) : Bool :=
  bits v 15 0 != 0 || bit v 31 || bits v 63 39 != 0 || bits v 127 81 != 0 || (!bit v 30 && bits v 255 160 != 0)

/-- Prefixes and nodes that a die holds of a family (R270, R274). -/
def lpmMost (fam : Nat) : Nat := if fam = 0 then 1048576 else 393216
def lpmPool (fam : Nat) : Nat := if fam = 0 then 262144 else 65536

/-- A RESULT slot word, a CHILD slot word and a valid default word (R272). -/
def resultWord (len ao : Nat) : Nat := 2 ^ 30 + len * 2 ^ 23 + ao
def childWord (node : Nat) : Nat := 2 ^ 31 + node
def defaultWord (len ao : Nat) : Nat := 2 ^ 31 + len * 2 ^ 23 + ao

/-- The slot word that gives what a default word gives, and the default word that gives what a slot word gives. -/
def slotOfDefault (w : Nat) : Nat := if bit w 31 then resultWord (wordLen w) (wordAo w) else 0
def defaultOfSlot (w : Nat) : Nat := if slotType w = 1 then defaultWord (wordLen w) (wordAo w) else 0

/-- The slots of a level of depth `dep` and stride `st` that a prefix of length `len` covers: the first, and how many
(R273). -/
def levelSlots (fam len addr dep st : Nat) : List Nat :=
  let k := addr >>> (lpmWidth fam - dep - st) % 2 ^ st
  if dep + st ≤ len then [k] else (List.range (2 ^ (dep + st - len))).map (k + ·)

/-! ## What a die holds (R307) -/

/-- Prefixes of a family that die `x` holds. -/
def prefixCount (s : State) (x fam : Nat) : Nat := ((s.tabList x .lpm).filter fun e => (lpmParts e.1).1 == fam).length

/-- The nodes of a family that a root entry or a slot of die `x` points to: those in use. -/
def lpmNodes (s : State) (x fam : Nat) : List Nat :=
  let kids := fun (l : List Nat) => (l.filter fun w => slotType w == 2).map slotTarget
  kids (((s.tabList x .root).filter fun e => bit e.2 62 == (fam == 1)).map fun e => e.2 % 2 ^ 32)
    ++ kids (((s.tabList x .lpWord).filter fun e => e.1 % 512 < 256 && e.1 / 2 ^ 27 == fam).map fun e => e.2)

/-- A root entry, a word of a node in use or a VRF default of the Tree die's copy names object `a` (R282). -/
def lpmNames (s : State) (a : Nat) : Bool :=
  let inUse := (s.lpmNodes 12 0).map (lpWordIdx 0 · 0 / 512) ++ (s.lpmNodes 12 1).map (lpWordIdx 1 · 0 / 512)
  ((s.tabList 12 .root).any fun e => slotType (e.2 % 2 ^ 32) == 1 && wordAo e.2 == a)
    || ((s.tabList 12 .lpWord).any fun e => inUse.contains (e.1 / 512) && wordAo e.2 == a
      && (if e.1 % 512 < 256 then slotType e.2 == 1 else bit e.2 31))
    || ((s.tabList 12 .vrfDef).any fun e => wordAo e.2 == a)

/-! ## Nodes of the pool (R270, R275) -/

/-- The lowest `m` nodes of a family that are neither in use nor freed within the last 10 µs; none when the pool has
fewer. Log 216 (DESIGN CHOICE). -/
def lpmFree (s : State) (fam m : Nat) : Option (List Nat) :=
  let used := s.lpmNodes 12 fam
  let held := s.ts.freed.filter fun e => decide (s.since e.2 < 10000)
  let l := ((List.range (min (lpmPool fam) (used.length + held.length + m))).filter fun n =>
    !used.contains n && !held.any fun e => e.1 == key2 fam n).take m
  if l.length = m then some l else none

/-- A node is freed: it is held back for 10 µs (R275). Log 216 (DESIGN CHOICE). -/
def lpmRelease (s : State) (fam node : Nat) : State :=
  let held : Map Nat := s.ts.freed.filter fun e => decide (s.since e.2 < 10000)
  { s with ts.freed := held.insert (key2 fam node) s.clock.tick }

/-- Place a write of a node's word in the sequence; a word that stays as it is needs none. -/
def lpmPut (s : State) (fam node k w : Nat) : State :=
  let i := lpWordIdx fam node k
  if s.tab 12 .lpWord i = w then s else s.issue { tbl := Tbl.lpWord.num, idx := i, val := w }

/-- Write a new node completely: its default and every slot (R275). -/
def lpmNode (s : State) (fam node st df : Nat) (slots : List (Nat × Nat)) : State :=
  (List.range (2 ^ st)).foldl (fun t k => t.lpmPut fam node k (((slots.find? fun e => e.1 == k).map (·.2)).getD 0))
    (s.lpmPut fam node 256 df)

/-- Write the new nodes `nodes` down to a prefix's level, the lowest first (R275); the top one has default `df`. -/
def lpmChain (fam len addr ao : Nat) : List (Nat × Nat) → List Nat → Nat → State → State
  | (dep, st) :: r, n :: ns, df, s =>
    let ks := levelSlots fam len addr dep st
    if len ≤ dep + st then s.lpmNode fam n st df (ks.map fun k => (k, resultWord len ao))
    else (lpmChain fam len addr ao r ns 0 s).lpmNode fam n st df (ks.map fun k => (k, childWord (ns.headD 0)))
  | _, _, _, s => s

/-- Hang a chain of new nodes below a slot that holds `w` (R273): what the slot then holds, or none when the pool has too
few nodes (R274). -/
def lpmGrow (s : State) (fam len addr ao w : Nat) (levels : List (Nat × Nat)) : Option (Nat × State) :=
  (s.lpmFree fam ((levels.filter fun l => decide (l.1 < len)).length)).map fun ns =>
    (childWord (ns.headD 0), lpmChain fam len addr ao levels ns (defaultOfSlot w) s)

/-! ## Inserts (R273, R274) -/

/-- A covered slot that holds `w` takes the prefix, unless a longer one has it: what the slot then holds; below a CHILD the
default takes it. -/
def lpmTake (s : State) (fam len ao w : Nat) : Nat × State :=
  if slotType w = 2 then
    let df := s.tab 12 .lpWord (lpWordIdx fam (slotTarget w) 256)
    (w, if bit df 31 && decide (len < wordLen df) then s else s.lpmPut fam (slotTarget w) 256 (defaultWord len ao))
  else (if slotType w = 1 ∧ len < wordLen w then w else resultWord len ao, s)

/-- Insert a prefix below an existing node. -/
def lpmFill (fam len addr ao : Nat) : List (Nat × Nat) → Nat → State → Option State
  | [], _, s => some s
  | (dep, st) :: r, node, s =>
    let ks := levelSlots fam len addr dep st
    if len ≤ dep + st then
      some (forEach ks (fun k t =>
        let x := t.lpmTake fam len ao (t.tab 12 .lpWord (lpWordIdx fam node k))
        x.2.lpmPut fam node k x.1) s)
    else
      let k := ks.headD 0
      let w := s.tab 12 .lpWord (lpWordIdx fam node k)
      if slotType w = 2 then lpmFill fam len addr ao r (slotTarget w) s
      else (s.lpmGrow fam len addr ao w r).map fun x => x.2.lpmPut fam node k x.1

/-- The word that the Tree die's copy holds for a root key: EMPTY where there is none. -/
def rootWord (s : State) (k : Nat) : Nat := ((s.rootFind 12 s.seedDie k).map fun e => e.2 % 2 ^ 32).getD 0

/-- Write a root entry, an EMPTY one out of the store; none when the store has no room (R270, R274). -/
def rootPut (s : State) (k w : Nat) : Option State :=
  let put := fun (i : Nat) => if w = 0 then s.issue { tbl := Tbl.root.num, idx := i, val := 0 }
    else s.issue { tbl := Tbl.root.num, idx := i, val := k * 2 ^ 32 + w }
  match s.rootFind 12 s.seedDie k with
  | some e => some (if e.2 % 2 ^ 32 = w then s else put e.1)
  | none => if w = 0 then some s else (s.storePlace 12 .root (s.rootHash s.seedDie k) rootOvf rootOvfN).map put

/-- The writes of an insert, in the order of R275; none when they do not fit (R274). -/
def lpmWrites (s : State) (fam vrf len addr ao : Nat) : Option State :=
  let key := fun (t : Nat) => rootKey fam vrf t
  if len = 0 then some (s.issue { tbl := Tbl.vrfDef.num, idx := vrfIdx fam vrf, val := defaultWord 0 ao })
  else if len ≤ 16 then
    (levelSlots fam len addr 0 16).foldl (fun o t => o.bind fun u =>
      let x := u.lpmTake fam len ao (u.rootWord (key t))
      x.2.rootPut (key t) x.1) (some s)
  else
    let t := addr >>> (lpmWidth fam - 16)
    let w := s.rootWord (key t)
    if slotType w = 2 then lpmFill fam len addr ao (lpmLevels fam) (slotTarget w) s
    else (s.lpmGrow fam len addr ao w (lpmLevels fam)).bind fun x => x.2.rootPut (key t) x.1

/-- Insert a prefix (R274); the last write is that of the prefix lists. Log 154 (DEDUCED). -/
def lpmPlace (s : State) (i ao : Nat) : Option State :=
  let (fam, vrf, len, addr) := lpmParts i
  if s.tab 12 .lpm i = 0 ∧ lpmMost fam ≤ s.prefixCount 12 fam then none
  else (s.lpmWrites fam vrf len addr ao).map fun t => t.issue { tbl := Tbl.lpm.num, idx := i, val := ao + 2 ^ 20 }

/-! ## Deletes (R273, R275) -/

/-- The longest prefix of the list shorter than `len` and longer than `lo` that covers an address: length and object. -/
def lpmCover (s : State) (fam vrf addr lo : Nat) : Nat → Option (Nat × Nat)
  | 0 => none
  | n + 1 =>
    let v := s.tab 12 .lpm (lpmIdx fam vrf n addr)
    if n ≤ lo then none else if v ≠ 0 then some (n, v % 2 ^ 17) else lpmCover s fam vrf addr lo n

/-- A covered slot that holds `w` loses the prefix of length `len`, and takes `by_` in its place: what the slot then
holds. -/
def lpmLose (s : State) (fam len w : Nat) (by_ : Option (Nat × Nat)) : Nat × State :=
  if slotType w = 2 then
    let df := s.tab 12 .lpWord (lpWordIdx fam (slotTarget w) 256)
    let new := (by_.map fun b => defaultWord b.1 b.2).getD 0
    (w, if bit df 31 && wordLen df == len then s.lpmPut fam (slotTarget w) 256 new else s)
  else if slotType w = 1 ∧ wordLen w = len then ((by_.map fun b => resultWord b.1 b.2).getD 0, s)
  else (w, s)

/-- The node has nothing but its default. -/
def lpmBare (s : State) (fam node : Nat) : Bool :=
  !(s.tabList 12 .lpWord).any fun e => e.1 / 512 == lpWordIdx fam node 0 / 512 && decide (e.1 % 512 < 256)

/-- A CHILD slot word once its node's contents have changed: a bare node is freed, its default moves back. -/
def lpmFold (s : State) (fam w : Nat) : Nat × Option Nat :=
  if slotType w = 2 && s.lpmBare fam (slotTarget w) then
    (slotOfDefault (s.tab 12 .lpWord (lpWordIdx fam (slotTarget w) 256)), some (slotTarget w))
  else (w, none)

/-- Free the node that a write has unlinked. -/
def lpmDone (s : State) (fam : Nat) (gone : Option Nat) : State :=
  match gone with | some n => s.lpmRelease fam n | none => s

/-- Delete a prefix below an existing node. -/
def lpmDrain (fam vrf len addr : Nat) : List (Nat × Nat) → Nat → State → State
  | [], _, s => s
  | (dep, st) :: r, node, s =>
    let ks := levelSlots fam len addr dep st
    if len ≤ dep + st then
      let by_ := s.lpmCover fam vrf addr dep len
      forEach ks (fun k t =>
        let x := t.lpmLose fam len (t.tab 12 .lpWord (lpWordIdx fam node k)) by_
        x.2.lpmPut fam node k x.1) s
    else
      let k := ks.headD 0
      let w := s.tab 12 .lpWord (lpWordIdx fam node k)
      if slotType w = 2 then
        let t := lpmDrain fam vrf len addr r (slotTarget w) s
        let x := t.lpmFold fam w
        (t.lpmPut fam node k x.1).lpmDone fam x.2
      else s

/-- The writes of a delete, in the order of R275. -/
def lpmClears (s : State) (fam vrf len addr : Nat) : State :=
  let key := fun (t : Nat) => rootKey fam vrf t
  let put := fun (t : Nat) (w : Nat) (u : State) => (u.rootPut (key t) w).getD u
  if len = 0 then s.issue { tbl := Tbl.vrfDef.num, idx := vrfIdx fam vrf, val := 0 }
  else if len ≤ 16 then
    let by_ := s.lpmCover fam vrf addr 0 len
    forEach (levelSlots fam len addr 0 16) (fun t u =>
      let x := u.lpmLose fam len (u.rootWord (key t)) by_
      put t x.1 x.2) s
  else
    let t := addr >>> (lpmWidth fam - 16)
    let w := s.rootWord (key t)
    if slotType w = 2 then
      let u := lpmDrain fam vrf len addr (lpmLevels fam) (slotTarget w) s
      let x := u.lpmFold fam w
      (put t x.1 u).lpmDone fam x.2
    else s

/-- Delete a prefix of the list; the last write is that of the prefix lists. Log 154 (DEDUCED). -/
def lpmRemove (s : State) (i : Nat) : State :=
  let (fam, vrf, len, addr) := lpmParts i
  (s.lpmClears fam vrf len addr).issue { tbl := Tbl.lpm.num, idx := i, val := 0 }

end State

end Sys2Proof.Machine
end

