-- ==== Sys2Proof/Machine/OrdStore.lean ====
section
/-! DEFINITION. The ordered rule store's planner on the Tree die: operations, placement, moves, compaction and the
temperature throttle (R313 to R326). -/

namespace Sys2Proof.Machine

namespace State

/-- Entries of the store. -/
def osSize : Nat := 65536

/-- The Tree die's copy: index and entry of the valid entries, rising. -/
def osValid (s : State) : List (Nat × Nat) := (s.tabList 12 .os).filter fun e => bit e.2 63

/-- The index of the entry with an ID. -/
def osById (s : State) (id : Nat) : Option Nat := ((s.osValid).find? fun e => osId e.2 == id).map (·.1)

/-- The lowest ID that no valid entry holds (R314). -/
def osFreeId (s : State) : Nat :=
  let ids := (s.osValid).map fun e => osId e.2
  ((List.range (ids.length + 1)).find? fun i => !ids.contains i).getD 0

/-- Fields that a write gives: VALUE AND MASK, MASK, PRIO and AO, with VALID and an ID (R313, R314). Log 155 (DEDUCED). -/
def osForm (v id : Nat) : Nat :=
  let mask := bits v 543 64
  (bits v 1023 544 &&& mask) * 2 ^ 544 + mask * 2 ^ 64 + 2 ^ 63 + osPrio v * 2 ^ 46 + id * 2 ^ 30 + osAo v

/-- A written entry has a nonzero reserved bit (R313). -/
def osReserved (v : Nat) : Bool := bit v 62 || bits v 29 17 != 0

/-- A write of entry `i`. -/
def osWrite (i v : Nat) : SeqWrite := { tbl := Tbl.os.num, idx := i, val := v }

/-- An entry with VALID clear. -/
def osCleared (v : Nat) : Nat := if bit v 63 then v - 2 ^ 63 else v

/-- The three writes of a move (R320). -/
def osMove (s : State) (src dst : Nat) : State :=
  let e := s.tab 12 .os src
  s.issueAll [osWrite dst (osCleared e), osWrite dst e, { osWrite src (osCleared e) with move := true }]

/-- The nearest free index below `i`, with the moves needed, and the nearest at or above (R319). -/
def freeBelow (s : State) : Nat → Nat → Option (Nat × Nat)
  | 0, _ => none
  | i + 1, n => if bit (s.tab 12 .os i) 63 then freeBelow s i (n + 1) else some (i, n)
def freeAbove (s : State) (i : Nat) : Nat → Nat → Option (Nat × Nat)
  | 0, _ => none
  | f + 1, n => if bit (s.tab 12 .os (i + n)) 63 then freeAbove s i f (n + 1) else some (i + n, n)

/-- Place an entry under R319: none when its chain would be longer than CHAIN_MAX. -/
def osPlace (s : State) (e : Nat) : Option State :=
  let p := osPrio e
  let l := s.osValid
  let lo := ((l.filter fun x => decide (osPrio x.2 ≤ p)).getLast?.map fun x => x.1 + 1).getD 0
  let top := ((l.find? fun x => decide (p < osPrio x.2)).map (·.1)).getD osSize
  if lo < top then some (s.issue (osWrite lo e))
  else
    let dn := s.freeBelow lo 0
    let up := s.freeAbove lo (osSize - lo) 0
    let max := s.get F.OS_CFG_CHAIN_MAX [s.seedDie]
    let low := match dn, up with
      | some d, some u => decide (d.2 < u.2)
      | some _, none => true
      | none, _ => false
    match low, dn, up with
    | true, some (fd, n), _ =>
      if n ≤ max then
        let t := (List.range n).foldl (fun u k => u.osMove (fd + 1 + k) (fd + k)) s
        some (t.issue (osWrite (lo - 1) e))
      else none
    | false, _, some (fu, n) =>
      if n ≤ max then
        let t := (List.range n).foldl (fun u k => u.osMove (fu - 1 - k) (fu - k)) s
        some (t.issue (osWrite lo e))
      else none
    | _, _, _ => none

/-- Carry out an ordered-store operation: none when it must wait for a compaction, else its status and RESULT0, with its
writes in the sequence (R318). -/
def osDo (s : State) (kind id v : Nat) : Option (Nat × Nat × State) :=
  let full := decide (osSize ≤ (s.osValid).length)
  match kind with
  | 0 =>
    if full then some (0x0C, 0, s)
    else
      let n := s.osFreeId
      (s.osPlace (osForm v n)).map fun t => (0, n, t)
  | _ =>
    match s.osById id with
    | none => some (0x0E, 0, s)
    | some i =>
      let old := s.tab 12 .os i
      match kind with
      | 1 => some (0, 0, s.issue (osWrite i (osCleared old)))
      | 2 => some (0, 0, s.issue (osWrite i (setBits old 16 0 (osAo v))))
      | _ =>
        if full then some (0x0C, 0, s)
        else
          let e := osForm v id
          (s.osPlace e).map fun t =>
            -- the old form may have moved in the chain; the new one was written last
            let at_ := ((t.ts.log.getLast?).map fun w => w.2.idx).getD i
            match (t.osValid).find? fun x => osId x.2 == id && x.1 != at_ with
            | some x => (0, 0, t.issue (osWrite x.1 (osCleared x.2)))
            | none => (0, 0, t)

/-! ## Waiting and compaction (R321 to R325) -/

/-- The spacing H: a change of OS_CFG.SPACING applies at the next compaction (R321, R330). Log 224 (DEDUCED). -/
def osH (s : State) : Nat := s.osp.spacing

/-- The layout about to be made goes by the present OS_CFG.SPACING. Log 224 (DEDUCED). -/
def osSpace (s : State) : State := { s with osp.spacing := s.get F.OS_CFG_SPACING [s.seedDie] }

/-- Segments of the store. -/
def osSegs (s : State) : Nat := ceilDiv osSize s.osH

/-- Segments without a free entry on die `x` (R321). -/
def osHoleless (s : State) (x : Nat) : Nat :=
  let h := s.osH
  let cnt := (s.tabList x .os).foldl (fun (m : Map Nat) e => if bit e.2 63 then m.put 0 (e.1 / h) (m.at 0 (e.1 / h) + 1) else m) []
  (cnt.filter fun e => decide (min h (osSize - e.1 * h) ≤ e.2)).length

/-- Index `i` is a hole of the compaction layout with `f` free entries. -/
def osHole (s : State) (f i : Nat) : Bool :=
  let h := s.osH
  let n := s.osSegs
  let k := i / h
  decide (i = min (k * h + h - 1) (osSize - 1)) && decide (k * f / n < (k + 1) * f / n)

/-- The indexes of the compaction layout for entries at the indexes `l`, from index `i` on: source and destination. -/
def osTargets (s : State) (f : Nat) : List Nat → Nat → List (Nat × Nat)
  | [], _ => []
  | x :: r, i =>
    let j := if s.osHole f i then i + 1 else i
    (x, j) :: osTargets s f r (j + 1)

/-- The moves of a compaction, in the order of R322. -/
def osMoveList (s : State) : List (Nat × Nat) :=
  let l := (s.osValid).map (·.1)
  let m := s.osTargets (osSize - l.length) l 0
  (m.filter fun e => decide (e.2 < e.1)) ++ (m.filter fun e => decide (e.1 < e.2)).reverse

/-- Show WRITES_HELD: while a compaction is in progress (R324). Log 225 (DEDUCED). -/
def showHeld (s : State) : State := forEach s.liveSkirts (fun d t => t.set F.OS_STAT_WRITES_HELD [d] (b2n s.osp.busy)) s

/-- An operation waits; an insert or a rewrite that waits under R319 raises INSERT_WAIT. Log 155 (DEDUCED). -/
def osWait (s : State) (w : OsWait) (chain : Bool) : State :=
  let t := { s with osp.waiting := s.osp.waiting ++ [w] }
  let t := if chain then forEach t.liveSkirts (fun d u => u.raise F.OS_EVT_INSERT_WAIT [d]) t else t
  (t.showHeld).countKind 174 4 1

/-- One move on one die's replica: an error of the entry moves with it (R328). -/
def osMoveOn (s : State) (x src dst : Nat) : State :=
  let from_ := tkey x .os src
  let into := tkey x .os dst
  let t := (s.setTab x .os dst (s.tab x .os src)).setTab x .os src (osCleared (s.tab x .os src))
  { t with badTabs := (s.badTabs.filter (· != into)).map fun k => if k = from_ then into else k }

/-- Make the replica of die `x` hold the layout `l`; its moves are counted, and an entry written is good (R328). -/
def osMatch (s : State) (x : Nat) (l : List (Nat × Nat)) : State :=
  let differ := (l.filter fun e => bit e.2 63 && s.tab x .os e.1 != e.2).length
  let t := forEach (s.tabList x .os) (fun e u => u.setTab x .os e.1 0) s
  let t := forEach l (fun e u => u.setTab x .os e.1 e.2) t
  let lo := tkeyLo x .os
  let changed := fun (k : Nat) => decide (lo ≤ k) && decide (k < lo + 2 ^ 200) && s.tab x .os (k - lo) != t.tab x .os (k - lo)
  { t with badTabs := t.badTabs.filter fun k => !changed k }.inc R.OS_MOVES [x] differ

/-- A compaction stops at a safe point: every die and the Tree die's copy are made to match the layout of the lowest live
die (R325). -/
def osStop (s : State) (again : Bool) : State :=
  if s.osp.busy then
    let l := s.tabList s.seedDie .os
    let t := forEach (s.liveSkirts.filter (· != s.seedDie)) (fun d u => u.osMatch d l) s
    let t := forEach (t.tabList 12 .os) (fun e u => u.setTab 12 .os e.1 0) t
    let t := forEach l (fun e u => u.setTab 12 .os e.1 e.2) t
    let t := forEach t.liveSkirts (fun d u => (u.releaseClaim 4 d).set F.OS_STAT_COMPACTING [d] 0) t
    { t with osp.busy := false, osp.moves := [], osp.again := again }.showHeld
  else s

/-- A compaction is abandoned with the device's service (R64, R78). -/
def abandonCompaction (s : State) : State := s.osStop false

/-! ## The throttle steps of R256 and R326 -/

/-- The highest step whose threshold a temperature in units of 0.125 °C reaches: 95, 100 and 103 °C. -/
def thermStep (t : Int) : Nat := if 824 ≤ t then 3 else if 800 ≤ t then 2 else if 760 ≤ t then 1 else 0

/-- The threshold of a step. -/
def thermAt (step : Nat) : Int := ([0, 760, 800, 824] : List Int).getD step 0

/-- The next step and the run of cool evaluations: up at once, down by one after 10 that are more than 2 °C below. -/
def thermNext (step cool : Nat) (t : Int) : Nat × Nat :=
  if step < thermStep t then (thermStep t, 0)
  else if step ≠ 0 ∧ t < thermAt step - 16 then (if cool = 9 then (step - 1, 0) else (step, cool + 1))
  else (step, 0)

/-- A millisecond has passed since unit `x` last set its throttle step (R256, R326). -/
def throttleDue (s : State) (x : Nat) : Bool := s.osp.evalAt.at 0 x == 0 || decide (1000000 ≤ s.since (s.osp.evalAt.at 0 x - 1))

/-- Unit `x` sets its throttle step now. -/
def throttleRead (s : State) (x : Nat) : State := { s with osp.evalAt := s.osp.evalAt.put 0 x (s.clock.tick + 1) }

end State

/-- COMPACTION_START: an insert waits, too many segments are holeless, the driver asks, or a stopped compaction is to go
on: the Tree die plans the list and sends it to every live Skirt die, which claims (R322, R323, R325). Log 48 (DEDUCED). -/
def execCompactionStart (s : State) : Out :=
  done (fun s =>
    let asked := s.liveSkirts.any fun d => s.isOn F.OS_CTRL_COMPACT [d]
    let low := decide (s.get F.OS_CFG_LOW_PCT [s.seedDie] * s.osSegs < 100 * s.osHoleless 12)
    let settled := s.ts.log.all fun e => e.2.tbl != Tbl.os.num
    onlyIf (s.running && !s.osp.busy && settled && s.isOn F.PT_CTRL_CLAIMS_EN [] && (asked || low || s.osp.again || !s.osp.waiting.isEmpty))
      (fun s =>
        let s := s.osSpace
        let l := s.osMoveList
        let start := fun (d : Nat) (u : State) =>
          if l.isEmpty then u else ({ u with osp.moves := u.osp.moves.put [] d l }.set F.OS_STAT_COMPACTING [d] 1).requestClaim 4 d
        let t := forEach s.liveSkirts start s
        { t with osp.busy := true, osp.again := false, osp.moves := t.osp.moves.put [] 12 l }.showHeld) s) s

/-- COMPACTION_MOVE: the move engine of die `d` makes the next move of its list, with four borrow slots that its claim has
taken at the die's ingress slices (R320, R323). Log 46 (DEDUCED). -/
def execCompactionMove (d : Nat) (s : State) : Out :=
  done (fun s =>
    match s.osp.moves.at [] d with
    | [] => s
    | (src, dst) :: r =>
      onlyIf (s.osp.busy && decide (d < 8) && s.live d && s.mayWork 4 d && decide (4 ≤ s.pace.slots.at 0 d)) (fun s =>
        let t := { s.osMoveOn d src dst with
          osp.moves := s.osp.moves.put [] d r, pace.slots := s.pace.slots.put 0 d (s.pace.slots.at 0 d - 4) }.inc R.OS_MOVES [d]
        if r.isEmpty then (t.releaseClaim 4 d).set F.OS_STAT_COMPACTING [d] 0 else t) s) s

/-- OS_THROTTLE_EVAL: every 1 ms Skirt die `d` reads its hottest junction temperature, in units of 0.125 °C, and sets its
throttle step (R326). -/
def execOsThrottleEval (d : Nat) (temp : Int) (s : State) : Out :=
  done (fun s =>
    onlyIf (s.powered && s.live d && decide (d < 8) && s.throttleDue d) (fun s =>
      let s := s.throttleRead d
      let step := s.get F.OS_THERM_STEP [d]
      let n := State.thermNext step (s.osp.cool.at 0 d) temp
      let t := ({ s with osp.cool := s.osp.cool.put 0 d n.2 }.set F.OS_THERM_TEMP [d] (unsigned 16 temp)).set F.OS_THERM_STEP [d] n.1
      if n.1 = step then t
      else (forEach (List.range 4) (fun i u => u.fillBucket (bktOs (4 * d + i))) t).raise F.OS_EVT_THROTTLE_CHANGE [d]) s) s

end Sys2Proof.Machine
end

