-- ==== Sys2Proof/Machine/Tables.lean ====
section
/-! DEFINITION. The table operations: what READ, WRITE, INSERT and DELETE do to each table, and with which status
(R186, R187, R225 to R238, R267 to R282, R299, R304, R314, R318, R389, R395, R399, R406, R426, R480 to R483). -/

namespace Sys2Proof.Machine

/-- A table operation (R480): 1 READ, 2 WRITE, 3 INSERT, 4 DELETE; the entry as one little-endian number. -/
structure TOp where
  op : Nat
  tbl : Nat
  sub : Nat := 0
  die : Nat := 0xFF
  arg : Nat := 0
  data : Nat := 0
  deriving DecidableEq, Repr

/-- How an operation ends: at once with a status and RESULT0; when every die has applied its writes; or it waits. -/
inductive TAns where
  | now (status r0 : Nat)
  | seq (r0 : Nat)
  | wait
  deriving DecidableEq, Repr

/-- The size of a table's entries in bytes; 0 for an undefined table (R481). -/
def entrySize (t : Nat) : Nat :=
  ([0, 10, 8, 8, 280, 8, 96, 24, 32, 16, 192, 128, 68, 4, 128, 64, 16, 4, 4, 16, 2, 8, 8, 24, 4, 4] : List Nat).getD t 0

/-- The operation is listed for the table (R481). -/
def opListed (op t : Nat) : Bool :=
  if t = 0 ∨ 25 < t then false
  else if op = 1 then true
  else if t = 1 ∨ t = 7 ∨ t = 8 then op == 3 || op == 4
  else if t = 9 then op == 2 || op == 4
  else if t = 11 then op == 2 || op == 3 || op == 4
  else if t = 14 then op == 2 || op == 4
  else op == 2

/-- The class of a table (R481). -/
def tableClass (t : Nat) : Nat :=
  ([0, 1, 1, 2, 3, 3, 3, 4, 4, 4, 4, 4, 4, 5, 6, 6, 7, 7, 7, 7, 7, 7, 8, 9, 9, 9] : List Nat).getD t 0

/-- Tables that carry a DIE (R481). -/
def hasDieField (t : Nat) : Bool := decide (16 ≤ t) && decide (t ≤ 21)

/-- Entries addressed by ARG; 0 where the table has another address (R481). -/
def argLimit (t : Nat) : Nat :=
  ([0, 0, 65536, 16384, 16384, 16, 256, 0, 0, 131072, 16384, 0, 65536, 4096, 0, 0, 131072, 65536, 16384, 65536, 16384, 1024,
    16384, 0, 0, 131072] : List Nat).getD t 0

/-- Only edits 0 to EDIT_CNT − 1 of a rule are kept (R226). -/
def ruleForm (v : Nat) : Nat := v % 2 ^ (704 + 192 * min 8 (bits v 33 30))

/-- A rule with its edits is valid (R229). Log 67 (DEDUCED). -/
def ruleValid (v : Nat) : Bool :=
  decide (bits v 33 30 ≤ 8) && bits v 29 0 == 0
    && (List.range (min 8 (bits v 33 30))).all fun i => editValid (bits v (704 + 192 * i + 191) (704 + 192 * i))

/-- All eight edits of a list are valid (R229, R278). -/
def listValid (v : Nat) : Bool := (List.range 8).all fun i => editValid (bits v (192 * i + 191) (192 * i))

/-- A template is valid (R232). Log 159 (DEDUCED). -/
def templateValid (v : Nat) : Bool :=
  let byte := fun (o : Nat) => bits v (8 * o + 7) (8 * o)
  let len := byte 0x40 % 128
  decide (1 ≤ len) && decide (len ≤ 64) && decide (byte 0x40 < 128)
    && ((List.range 4).all fun i => byte (0x41 + 2 * i) % 16 == 0)
    && ((List.range 4).all fun j =>
      let f := bits v (8 * (0x4D + 3 * j) + 23) (8 * (0x4D + 3 * j))
      let typ := bits f 23 22
      typ == 0 || (decide (bits f 21 16 + 2 ≤ len) && (typ != 2 || decide (bits f 15 8 + 20 ≤ len))))
    && v >>> (8 * 0x59) == 0

/-- A policer entry has no reserved bit set (R389). -/
def policerValid (v : Nat) : Bool := bits v 4 0 == 0

/-- A flow-profile record is well-formed (R299, R304). -/
def flowRecValid (v : Nat) : Bool :=
  let part := bits v 39 32
  let data := v >>> 64
  v % 2 ^ 32 < 16 && bits v 63 40 == 0
    && (if part < 10 then decide (data < 2 ^ 32)
      else if part < 18 then decide (data < 2 ^ 64)
      else decide (part < 20) && decide (data < 2 ^ 256) && (List.range 8).all fun i => bits data (32 * i + 29) (32 * i + 17) == 0)

/-- A dispatch entry of opcode `n` is as R450 asks: its other bits are zero, and a valid one lies in its opcode's region.
Log 159 (DEDUCED). -/
def dispatchOk (n v : Nat) : Bool :=
  decide (v < 2 ^ 17) && (!bit v 16 || decide (0xC0 ≤ n) == decide (0xC000 ≤ bits v 15 0))

/-- A microword that is not written: SEQ 7 FAULT with UIMM 0x00FD, and its parity (R149). Microwords are held as their
difference from it. -/
def emptyMicroword : Nat := 7 * 2 ^ 125 + 0x00FD * 2 ^ 60 + 2 ^ 129 + 2 ^ 131

/-- The bits of a sub-port map key that R185 shows as zero are zero, and it is a VLAN key or a VNI key. Log 159 (DEDUCED). -/
def mapKeyOk (k : Nat) : Bool :=
  match bits k 63 62 with
  | 0 => bits k 61 61 == 0 && bits k 27 0 == 0
  | 1 | 2 => (bit k 61 || bits k 60 52 == 0) && bits k 51 24 == 0
  | _ => false

/-- The bits of a context that R297 shows as zero are zero. Log 159 (DEDUCED). -/
def contextOk (v : Nat) : Bool := bits v 383 338 == 0 && bits v 387 385 == 0 && bits v 447 392 == 0 && bits v 767 736 == 0

/-- The sequenced form of a change of a flow context: it takes its place in the sequence, and no Skirt die holds a replica of
it (R284, R303, R481). -/
def tblFlow : Nat := 61

namespace State

/-! ## Rule banks (R118, R236 to R238) -/

/-- The bank of the current epoch. -/
def activeBank (s : State) : Nat := s.epoch % 2

/-- The bank accepts no rule writes (R118): it is active, or the epoch that last used it has not drained. -/
def bankHeld (s : State) (b : Nat) : Bool :=
  (match s.mode with | .run | .drain | .halt => true | _ => false)
    && (b == s.activeBank || s.get F.MD_DRAIN_CNT_COUNT [b] != 0)

/-- The digest of bank `b` as die `x` holds it (R238). -/
def bankDigest (s : State) (x b : Nat) : Nat :=
  let v := crcSparse 280 16384 (s.tabList x (ruleTbl b)) 0 0xFFFFFFFF
  let v := crcSparse 8 16 (s.tabList x (profTbl b)) 0 v
  crcSparse 96 256 (s.tabList x (tmplTbl b)) 0 v ^^^ 0xFFFFFFFF

/-- A Skirt die's standby bank has the digest that the Tree die keeps (R238). -/
def bankReady (s : State) (x : Nat) : Bool :=
  let b := 1 - s.activeBank
  decide (8 ≤ x) || s.bankDigest x b == s.bankDigest 12 b

/-- Valid rules of a bank with AWL_EN naming set `a` (R261, R263). -/
def setRefs (s : State) (b a : Nat) : Nat :=
  ((s.tabList 12 (ruleTbl b)).filter fun r => bit r.2 703 && bit r.2 38 && bits r.2 37 34 == a).length

/-- A whole-entry write of the table sequence. -/
def seqOne (s : State) (t : Tbl) (i v : Nat) : TAns × State := (.seq 0, s.issue { tbl := t.num, idx := i, val := v })

/-! ## References to objects and lists (R282) -/

/-- Some entry names object `a`. Entries never written name object 0. Log 158 (DEDUCED). -/
def aoReferenced (s : State) (a : Nat) : Bool :=
  let tl := fun (t : Tbl) => s.tabList 12 t
  ((tl .exact).any fun e => bits e.2 16 0 == a) || s.lpmNames a
    || ((tl .os).any fun e => bit e.2 63 && osAo e.2 == a)
    || (s.awl.attr.any fun e => bits e.2 29 28 == 2 && bits e.2 23 0 == a)
    || ((tl .tenant).any fun e => bits e.2 35 19 == a) || (a == 0 && decide ((tl .tenant).length < 16384))
    || ((List.range 8).any fun d => s.variant.hasDie d && (List.range 16).any fun p => s.get F.XT_PLAN_C_MISS_AO [d, p] == a)
    || ((tl .flowAct).any fun e => bits e.2 16 0 == a) || (a == 0 && decide ((tl .flowAct).length < 256))
    || (s.ts.aoState.any fun e =>
      let o := s.tab 12 .ao e.1
      bits o 127 125 == 5 && decide (bits o 124 108 ≤ a) && decide (a ≤ bits o 124 108 + bits o 107 100))

/-- A LIVE or RETIRED object uses list `l` (R282). -/
def listNamed (s : State) (l : Nat) : Bool :=
  s.ts.aoState.any fun e => bits (s.tab 12 .ao e.1) 75 72 != 0 && bits (s.tab 12 .ao e.1) 89 76 == l

/-- An object is valid (R278, R281). -/
def objectValid (s : State) (o : Nat) : Bool :=
  let kind := bits o 127 125
  let target := bits o 124 108
  decide (kind ≤ 5) && bits o 71 0 == 0 && decide (bits o 75 72 ≤ 8)
    && (match kind with
      | 0 => decide (target < 512)
      | 1 => decide (target < 65536)
      | 3 => decide (32 ≤ target) && decide (target ≤ 63)
      | 5 => (List.range (bits o 107 100 + 1)).all fun i =>
          s.aoLive (target + i) && bits (s.tab 12 .ao (target + i)) 127 125 != 5
      | _ => target == 0)

/-! ## The LPM (R270 to R275) -/

/-- Insert a prefix (R274). Log 154 (DEDUCED). -/
def lpmInsert (s : State) (i ao : Nat) : TAns × State :=
  match s.lpmPlace i ao with
  | some t => (.seq 0, t)
  | none => (.now 0x0D 0, s)

/-- Delete a prefix that is held. Log 154 (DEDUCED). -/
def lpmDelete (s : State) (i : Nat) : TAns × State :=
  if s.tab 12 .lpm i = 0 then (.now 0x0E 0, s) else (.seq 0, s.lpmRemove i)

/-! ## Inserts and deletes of keyed stores (R186, R268, R269) -/

/-- Insert a sub-port map entry. -/
def mapInsert (s : State) (key sp : Nat) : TAns × State :=
  match s.spFind 12 s.seedDie key with
  | some e => s.seqOne .spMap e.1 (spEntry key sp)
  | none =>
    match s.storePlace 12 .spMap (s.spHash s.seedDie key) spOvf spOvfN with
    | some i => s.seqOne .spMap i (spEntry key sp)
    | none => (.now 0x0B 0, forEach s.liveSkirts (fun d t => t.raise F.PG_SP_EVT_MAP_FULL [d]) s)

/-- Insert an exact-store entry as the host writes it: LEARNED is cleared (R269). -/
def exactInsert (s : State) (v : Nat) : TAns × State :=
  let e := setBits v 30 30 0
  let key := v / 2 ^ 32
  let put := fun (t : State) (i : Nat) => ({ t with ts.periodHit := t.ts.periodHit.put 0 i 1 }).seqOne .exact i e
  match s.exFind 12 s.seedDie key with
  | some x => put (s.unlearn x.1) x.1
  | none =>
    match s.storePlace 12 .exact (s.exHash s.seedDie key) exOvf exOvfN with
    | some i => put s i
    | none => (.now 0x0C 0, s)

/-! ## The operations -/

/-- The present dies that an operation on a table with DIE reaches, or the status that refuses it: a pending Gait entry is one
die's (R481). Log 138 (DEDUCED). -/
def opDies (s : State) (tbl die : Nat) : Nat ⊕ List Nat :=
  if die = 0xFF then (if tbl = 21 then .inl 0x0E else .inr s.liveSkirts)
  else if s.isolated die then .inl 0x05
  else .inr [die]

/-- The unit that a table operation names is absent: the Awl or Gait of the UB9840-E, or a Skirt die that this
variant lacks (R8, R481, R501). -/
def unitAbsent (s : State) (o : TOp) : Bool :=
  (s.variant == .e && (o.tbl == 13 || o.tbl == 21 || (o.tbl == 4 && o.op == 2 && bit o.data 38)
    || (o.tbl == 9 && o.op == 2 && bit o.data 94)))
  || (hasDieField o.tbl && o.die != 0xFF && (decide (8 ≤ o.die) || !s.variant.hasDie o.die))

/-- The index of a pending Gait entry: ARG in the list of port SUB. -/
def gaitIdx (o : TOp) : Nat := o.sub * 1024 + o.arg

/-- READ (R480): the status and the entry. Log 138 (DEDUCED). -/
def tableRead (s : State) (o : TOp) : Nat × Nat × State :=
  let one := fun (t : Tbl) => (0, s.tab 12 t o.arg, s)
  let key := o.data
  let die := fun (f : Nat → Nat) => match s.opDies o.tbl o.die with
    | .inl e => (e, 0, s)
    | .inr ds => (0, f (ds.headD 0), s)
  if 0 < argLimit o.tbl ∧ argLimit o.tbl ≤ o.arg then (0x0E, 0, s)
  else match o.tbl with
  | 1 => match s.spFind 12 s.seedDie (key % 2 ^ 64) with
    | some e => (0, key % 2 ^ 64 + e.2 / 2 % 2 ^ 16 * 2 ^ 64, s)
    | none => (0x0E, 0, s)
  | 2 => one .spTab
  | 3 => one .tenant
  | 4 => one (ruleTbl o.sub)
  | 5 => one (profTbl o.sub)
  | 6 => one (tmplTbl o.sub)
  | 7 => match s.exFind 12 s.seedDie (key / 2 ^ 32 % 2 ^ 160) with
    | some e => (0, e.2, s)
    | none => (0x0E, 0, s)
  | 8 => match lpmRecord key with
    | none => (0x0A, 0, s)
    | some i => if s.tab 12 .lpm i = 0 then (0x0E, 0, s) else (0, setBits key 80 64 (s.tab 12 .lpm i % 2 ^ 17), s)
  | 9 => one .ao
  | 10 => one .elist
  | 11 => match s.osById o.arg with
    | some i => (0, s.tab 12 .os i, s)
    | none => (0x0E, 0, s)
  | 12 => one .mcast
  | 13 => (0, s.awl.attr.at 0 (o.sub * 4096 + o.arg), s)
  | 14 => match s.flowRead (key % 2 ^ 384) with
    | (some c, t) => (0, flowBytes c, t)
    | (none, t) => (0x0E, 0, t)
  | 15 =>
    let p := key % 16
    let part := bits key 39 32
    let row := fun (t : Tbl) (b n : Nat) => ((List.range n).map fun i => s.tab 12 t (16 * p + b + i) * 2 ^ (32 * i)).sum
    let data := if part < 10 then row .flowMask part 1 else if part < 18 then row .flowTrans (2 * (part - 10)) 2
      else row .flowAct (8 * (part - 18)) 8
    if 20 ≤ part then (0x08, 0, s) else (0, key % 2 ^ 64 + data * 2 ^ 64, s)
  | 16 => die fun d => s.tab d .policer o.arg
  | 17 => die fun d => s.tab d .spSel o.arg
  | 18 => die fun d => s.tab d .tenSel o.arg
  | 19 => die fun d => s.tab d .shaper o.arg
  | 20 => die fun d => s.tab d .tgroup o.arg
  | 21 => die fun d => s.tab d .gaitPend (gaitIdx o)
  | 22 => (0, o.arg + ((s.tally.defsNext.find? o.arg).getD (s.tab 12 .binMap o.arg) ^^^ 0xF0010000) % 2 ^ 32, s)
  | 23 => (0, s.st.copy.at 0 (key2 23 o.arg) ^^^ emptyMicroword, s)
  | _ => (0, s.st.copy.at 0 (key2 o.tbl o.arg), s)

/-- Write on each named die at once: class 7 tables (R396, R481). -/
def onDies (s : State) (die : Nat) (f : Nat → State → State) : TAns × State :=
  match s.opDies 0 die with
  | .inl e => (.now e 0, s)
  | .inr ds => (.now 0 0, forEach ds f s)

/-- A WRITE of a rule, a profile or a template (R229, R232, R236, R261). Log 159 (DEDUCED). -/
def bankWrite (s : State) (o : TOp) : TAns × State :=
  if s.bankHeld o.sub then (.now 0x06 0, s)
  else match o.tbl with
  | 4 =>
    -- R229 names BAD_RULE for the edits; a reserved bit of the rule itself is R483's
    if bits o.data 29 0 ≠ 0 then (.now 0x08 0, s)
    else if !ruleValid o.data then (.now 0x07 0, s)
    else if bit o.data 38 && s.get F.AW_SET_CFG_STATE [bits o.data 37 34] != 2 then (.now 0x15 0, s)
    else s.seqOne (ruleTbl o.sub) o.arg (ruleForm o.data)
  | 5 => if 2 ^ 50 ≤ o.data then (.now 0x08 0, s) else s.seqOne (profTbl o.sub) o.arg o.data
  | _ => if !templateValid o.data then (.now 0x08 0, s) else s.seqOne (tmplTbl o.sub) o.arg o.data

/-- Write a part of a flow profile (R299, R304). -/
def flowProfileWrite (s : State) (v : Nat) : TAns × State :=
  if !flowRecValid v then (.now 0x08 0, s)
  else
    let p := v % 16
    let part := bits v 39 32
    let data := v >>> 64
    let w := fun (t : Tbl) (b n : Nat) => (List.range n).map fun i =>
      ({ tbl := t.num, idx := 16 * p + b + i, val := bits data (32 * i + 31) (32 * i) } : SeqWrite)
    let ws := if part < 10 then w .flowMask part 1 else if part < 18 then w .flowTrans (2 * (part - 10)) 2
      else w .flowAct (8 * (part - 18)) 8
    (.seq 0, s.issueAll ws)

/-- WRITE (R480, R481, R483). Log 159 (DEDUCED). -/
def tableWrite (s : State) (o : TOp) : TAns × State :=
  let bad := fun (e : Nat) => (TAns.now e 0, s)
  if 0 < argLimit o.tbl ∧ argLimit o.tbl ≤ o.arg then bad 0x0E
  else match o.tbl with
  | 2 => if bits o.data 43 0 ≠ 0 then bad 0x08 else s.seqOne .spTab o.arg o.data
  | 3 =>
    let was := s.tenantAtLimit o.arg
    let r := s.seqOne .tenant o.arg o.data
    (r.1, if !was && r.2.tenantAtLimit o.arg then r.2.raise F.TS_EVT_LIMIT_REACHED [] else r.2)
  | 4 | 5 | 6 => s.bankWrite o
  | 9 =>
    if s.ts.aoState.at 0 o.arg ≠ 0 then bad 0x0F
    else if !s.objectValid o.data then bad 0x09
    else
      let r := s.seqOne .ao o.arg o.data
      (r.1, { r.2 with ts.aoState := r.2.ts.aoState.put 0 o.arg 1 })
  | 10 => if s.listNamed o.arg then bad 0x11 else if !listValid o.data then bad 0x07 else s.seqOne .elist o.arg o.data
  | 12 => if o.data / 2 ^ 513 ≠ 0 then bad 0x08 else s.seqOne .mcast o.arg o.data
  | 13 =>
    if bits o.data 29 28 = 3 ∨ bits o.data 27 24 ≠ 0 then bad 0x07
    else (.seq 0, s.issue { tbl := tblAttr, idx := o.sub * 4096 + o.arg, val := o.data })
  | 14 =>
    if !contextOk o.data then bad 0x08
    else match s.flowRead (o.data % 2 ^ 384) with
      | (none, t) => (.now 0x0E 0, t)
      | (some _, t) =>
        (.seq 0, (t.flowWrite (o.data % 2 ^ 384) fun c => { c with user := bits o.data 1023 768 }).issue { tbl := tblFlow, idx := 0, val := 0 })
  | 15 => s.flowProfileWrite o.data
  | 16 => if !policerValid o.data then bad 0x08 else s.onDies o.die fun d t => (t.setTab d .policer o.arg o.data).resetPolicer d o.arg o.data
  | 17 => if !selValid true o.data then bad 0x08 else s.onDies o.die fun d t => t.setTab d .spSel o.arg o.data
  | 18 => if !selValid false o.data then bad 0x08 else s.onDies o.die fun d t => t.setTab d .tenSel o.arg o.data
  | 19 => if bits o.data 46 0 ≠ 0 then bad 0x08 else s.onDies o.die fun d t => t.writeShaper d o.arg o.data
  | 20 => if bits o.data 14 10 ≠ 0 then bad 0x08 else s.onDies o.die fun d t => t.setTab d .tgroup o.arg o.data
  | 21 =>
    if bits o.data 61 40 ≠ 0 ∨ bits o.data 31 30 ≠ 0 then bad 0x08
    else match s.opDies 21 o.die with
      | .inl e => bad e
      | .inr ds =>
        let d := ds.headD 0
        if s.isOn F.GA_CTRL_ARM [d, o.sub] then (.now 0x16 0, s.raise F.GA_EVT_PEND_REFUSED [d])
        else (.now 0 0, (s.setTab d .gaitPend (gaitIdx o) o.data).showPending (64 * d + o.sub))
  | 22 =>
    if bits o.data 13 0 ≠ o.arg ∨ bits o.data 15 14 ≠ 0 ∨ bits o.data 23 18 ≠ 0 ∨ bits o.data 63 32 ≠ 0 then bad 0x08
    else (.now 0 0, { s with tally.defsNext := s.tally.defsNext.insert o.arg ((o.data % 2 ^ 32 - o.arg) ^^^ 0xF0010000) })
  | 23 =>
    if o.arg < 0xC000 ∨ 0xFFFF < o.arg then bad 0x0E else if 2 ^ 132 ≤ o.data ∨ bits o.data 38 0 ≠ 0 then bad 0x08
    else (.now 0 0, { s with st.copy := s.st.copy.put 0 (key2 23 o.arg) (o.data ^^^ emptyMicroword) })
  | 24 =>
    if o.arg < 0xC0 ∨ 0xFF < o.arg then bad 0x0E else if !dispatchOk o.arg o.data then bad 0x08
    else (.now 0 0, { s with st.copy := s.st.copy.put 0 (key2 24 o.arg) o.data })
  | _ => (.now 0 0, { s with st.copy := s.st.copy.put 0 (key2 25 o.arg) o.data })

/-- An ordered-store operation: carried out, or waiting on the Tree die (R318, R319, R324). Log 155 (DEDUCED). -/
def osAsk (s : State) (who : Who) (kind id v : Nat) : TAns × State :=
  let w : OsWait := { ref := who, kind := kind, id := id, val := v, at_ := s.clock.tick }
  if s.osp.busy then (.wait, s.osWait w false)
  else match s.osDo kind id v with
    | none => (.wait, s.osWait w true)
    | some (0, r0, t) => (.seq r0, t)
    | some (st, _, t) => (.now st 0, t)

/-- INSERT (R480). -/
def tableInsert (s : State) (who : Who) (o : TOp) : TAns × State :=
  match o.tbl with
  | 1 => if !mapKeyOk (o.data % 2 ^ 64) then (.now 0x08 0, s) else s.mapInsert (o.data % 2 ^ 64) (bits o.data 79 64)
  | 7 => if bits o.data 28 17 ≠ 0 then (.now 0x08 0, s) else s.exactInsert o.data
  | 8 =>
    if lpmReserved o.data then (.now 0x08 0, s)
    else match lpmRecord o.data with
      | none => (.now 0x0A 0, s)
      | some i => s.lpmInsert i (bits o.data 80 64)
  | _ => if osReserved o.data then (.now 0x08 0, s) else s.osAsk who 0 0 o.data

/-- WRITE with the ordered store's two forms: an AO-only repoint, or a rewrite (R318, R480). -/
def tableWriteAs (s : State) (who : Who) (o : TOp) : TAns × State :=
  if o.tbl = 11 then
    if osReserved o.data then (.now 0x08 0, s) else s.osAsk who (if bit o.sub 0 then 2 else 3) o.arg o.data
  else s.tableWrite o

/-- Retire an object: RETIRED, bound to the current epoch (R117, R281). Log 158 (DEDUCED). -/
def retire (s : State) (a : Nat) : TAns × State :=
  match s.ts.aoState.at 0 a with
  | 0 => (.now 0x0E 0, s)
  | 1 =>
    if s.aoReferenced a then (.now 0x10 0, s)
    else
      let r := s.seqOne .ao a (s.tab 12 .ao a)
      (r.1, { r.2 with ts.aoState := r.2.ts.aoState.put 0 a (2 + s.epoch) })
  | _ => (.now 0x0F 0, s)

/-- DELETE (R480). -/
def tableDelete (s : State) (who : Who) (o : TOp) : TAns × State :=
  match o.tbl with
  | 1 => match s.spFind 12 s.seedDie (o.data % 2 ^ 64) with
    | some e => s.seqOne .spMap e.1 0
    | none => (.now 0x0E 0, s)
  | 7 => match s.exFind 12 s.seedDie (o.data / 2 ^ 32 % 2 ^ 160) with
    | some e => (s.unlearn e.1).seqOne .exact e.1 0
    | none => (.now 0x0E 0, s)
  | 8 => match lpmRecord o.data with
    | some i => s.lpmDelete i
    | none => (.now 0x0A 0, s)
  | 9 => if 131072 ≤ o.arg then (.now 0x0E 0, s) else s.retire o.arg
  | 11 => s.osAsk who 1 o.arg 0
  | _ => match s.flowRead (o.data % 2 ^ 384) with
    | (none, t) => (.now 0x0E 0, t)
    | (some _, t) => match t.flowFind (o.data % 2 ^ 384) with
      | some i => (.seq 0, (t.flowDrop i).issue { tbl := tblFlow, idx := i, val := 0 })
      | none => (.now 0x0E 0, t)

/-- A table operation other than READ. -/
def tableOp (s : State) (who : Who) (o : TOp) : TAns × State :=
  if s.unitAbsent o then (.now 0x01 0, s)
  else if o.op = 2 then s.tableWriteAs who o
  else if o.op = 3 then s.tableInsert who o
  else s.tableDelete who o

/-- BANK_COPY (R237): the active bank's rules, profiles and templates into the standby bank of every live Skirt die. -/
def bankCopy (s : State) : TAns × State :=
  let a := s.activeBank
  let b := 1 - a
  if s.bankHeld b then (.now 0x06 0, s)
  else
    let one := fun (src dst : Tbl) =>
      let new := s.tabList 12 src
      let old := (s.tabList 12 dst).filter fun e => !new.any fun n => n.1 == e.1
      (old.map fun e => ({ tbl := dst.num, idx := e.1, val := 0 } : SeqWrite))
        ++ new.map fun e => ({ tbl := dst.num, idx := e.1, val := e.2 } : SeqWrite)
    (.seq 0, s.issueAll (one (ruleTbl a) (ruleTbl b) ++ one (profTbl a) (profTbl b) ++ one (tmplTbl a) (tmplTbl b)))

end State

end Sys2Proof.Machine
end

