-- ==== Sys2Proof/Machine/Awl.lean ====
section
/-! DEFINITION. Awl: scans and their results, the throttle, the sets in the store, and the scrub bursts of table and
automata memories (R243 to R262, R294, R328). -/

namespace Sys2Proof.Machine

/-- Insert a match in order of its end, then of its pattern (R248). -/
def insertMatch (x : Nat × Nat) : List (Nat × Nat) → List (Nat × Nat)
  | [] => [x]
  | y :: r => if x.1 < y.1 ∨ (x.1 = y.1 ∧ x.2 < y.2) then x :: y :: r else y :: insertMatch x r

/-- What a scan finds (R248): the result record, the match list, and the first member with a verdict. -/
structure ScanRes where
  record : Nat
  list : List Nat
  verdict : Nat := 0
  ao : Nat := 0
  count : Nat := 0
  deriving DecidableEq, Repr

/-- The header of a set's payload (R260). -/
structure SetHead where
  patterns : Nat
  base : Nat
  blocks : Nat
  cfg : Nat
  crc : Nat
  deriving DecidableEq, Repr

/-- Read a set's payload header; none when it breaks the layout (R260). -/
def setHead (bs : List Byte) : Option SetHead :=
  let w := fun (o : Nat) => ofLe (slice bs o 4)
  let n := w 4 / 65536
  let okCfg := bits (w 0x10) 31 29 == 0 && bits (w 0x10) 27 24 == 0 && bits (w 0x10) 15 6 == 0
  if w 0 = 0x41574C53 ∧ w 4 % 65536 = 1 ∧ 1 ≤ n ∧ n ≤ 4096 ∧ w 8 < 512 ∧ 1 ≤ w 0xC ∧ w 0xC ≤ 512 ∧ okCfg
      ∧ (slice bs 0x18 0x28).all (· == 0) ∧ (0x40 + 4 * n + 63) / 64 * 64 ≤ bs.length
      ∧ bs.length - (0x40 + 4 * n + 63) / 64 * 64 ≤ w 0xC * 65536 then
    some { patterns := n, base := w 8, blocks := w 0xC, cfg := w 0x10, crc := w 0x14 }
  else none

/-- The automaton image of a payload. -/
def setImage (bs : List Byte) (h : SetHead) : List Byte := bs.drop ((0x40 + 4 * h.patterns + 63) / 64 * 64)

/-- The end e(p) of pattern `p`: the smallest e with w[s..e] in its language for some s ≤ e, s = 0 where it is anchored
(R248). Log 151 (DESIGN CHOICE). -/
def patternEnd (img : List Byte) (p : Nat) (w : List Byte) : Option Nat :=
  (List.range w.length).find? fun e =>
    (List.range (if Config.awlAnchored img p then 1 else e + 1)).any fun b => Config.awlMatches img p (slice w b (e + 1 - b))

namespace State

/-- Scan a window against set `a` (R248, R250); `q` is the frame offset of its first byte. Log 151 (DESIGN CHOICE). -/
def awlScan (s : State) (a : Nat) (window : List Byte) (q : Nat) : ScanRes :=
  let img := s.awl.image.at [] a
  let pats := (s.awl.attr.filter fun e => e.1 / 4096 == a && bit e.2 31).map fun e => e.1 % 4096
  let found := pats.foldl (fun l p => match patternEnd img p window with
    | some e => insertMatch (e, p) l
    | none => l) []
  let attr := fun (p : Nat) => s.awl.attr.at 0 (a * 4096 + p)
  let id := fun (p : Nat) => a * 2 ^ 12 + p
  let v := found.find? fun m => bits (attr m.2) 29 28 != 0
  let n := found.length
  let rec_ := ((found.head?.map fun m => id m.2).getD 0) * 2 ^ 48 + ((v.map fun m => id m.2).getD 0) * 2 ^ 32
    + min 255 n * 2 ^ 24 + b2n (decide (2 ≤ n)) * 2 ^ 23 + b2n (decide (16 < n)) * 2 ^ 22
    + b2n (found.any fun m => bit (attr m.2) 30) * 2 ^ 21 + b2n v.isSome * 2 ^ 16 + a * 2 ^ 12 + window.length
  { record := rec_, list := (found.take 16).map fun m => id m.2 * 2 ^ 16 + (q + m.1) % 2 ^ 12
    verdict := (v.map fun m => bits (attr m.2) 29 28).getD 0, ao := (v.map fun m => bits (attr m.2) 23 0).getD 0, count := n }

/-- Count a completed scan (R264, R530). -/
def countScan (s : State) (a n count : Nat) (who : Option Nat) : State :=
  let t := ((s.inc R.AW_SCANNED [a]).inc R.AW_BYTES [a] n).countKind 172 0 1 who
  let t := t.countKind 172 1 n who
  let t := if 1 ≤ count then (t.inc R.AW_MATCHED [a]).countKind 172 2 1 who else t
  if 2 ≤ count then t.inc R.AW_MULTI [a] else t

/-- The window bytes of a pass (R244). -/
def windowOf (p : Pass) : List Byte :=
  (p.f.bytes.drop (p.q + p.awlSkip)).take p.awlLen

/-! ## The store (R259 to R262) -/

def setState (s : State) (a : Nat) : Nat := s.get F.AW_SET_CFG_STATE [a]
def setBase (s : State) (a : Nat) : Nat := s.get F.AW_SET_BASE_BLOCK [a]
def setLen (s : State) (a : Nat) : Nat := s.get F.AW_SET_LEN_BLOCKS [a]

/-- Blocks held by no slot (R263). -/
def awlFree (s : State) : Nat := 512 - ((List.range 16).map fun a => if s.setState a = 0 then 0 else s.setLen a).sum

/-- The set whose run holds block `b`. -/
def setOfBlock (s : State) (b : Nat) : Option Nat :=
  (List.range 16).find? fun a => s.setState a != 0 && decide (s.setBase a ≤ b) && decide (b < s.setBase a + s.setLen a)

/-- The run of blocks overlaps that of another slot. -/
def setOverlaps (s : State) (a base n : Nat) : Bool :=
  (List.range 16).any fun b => b != a && s.setState b != 0 && decide (base < s.setBase b + s.setLen b) && decide (s.setBase b < base + n)

/-- A scan of set `a` is in flight (R261). -/
def scanInFlight (s : State) (a : Nat) : Bool :=
  (s.sl.awlQ.any fun e => e.2.any fun h => !h.ready && h.p.awlSet == a) || s.awl.late.any fun p => p.awlSet == a

/-- The set may be written (R261). -/
def setInUse (s : State) (a : Nat) : Bool := s.setRefs 0 a != 0 || s.setRefs 1 a != 0 || s.scanInFlight a

/-- Put a payload into slot `a`, with its registers and attributes; the slot takes state `st`. -/
def putSet (s : State) (a : Nat) (bs : List Byte) (h : SetHead) (st : Nat) : State :=
  let cfg := bits h.cfg 28 28 * 2 ^ 28 + bits h.cfg 23 16 * 2 ^ 16 + clamp 1 32 (bits h.cfg 5 0)
  let t := (s.wr R.AW_SET_CFG [a] (st * 2 ^ 29 + cfg)).set F.AW_SET_BASE_BLOCK [a] h.base
  let t := ((t.set F.AW_SET_LEN_BLOCKS [a] h.blocks).set F.AW_SET_INFO_PATTERNS [a] h.patterns).wr R.AW_SET_CRC [a] h.crc
  let attr := t.awl.attr.dropRange (a * 4096) (a * 4096 + 4096)
  let attr := (List.range h.patterns).foldl (fun (m : Map Nat) i => m.put 0 (a * 4096 + i) (ofLe (slice bs (0x40 + 4 * i) 4))) attr
  let bad := t.awl.badBlock.filter fun b => !(decide (h.base ≤ b) && decide (b < h.base + h.blocks))
  { t with awl.attr := attr, awl.image := t.awl.image.insert a (setImage bs h), awl.badBlock := bad }

/-- The device offset of set `a`'s shadow, in the top 32 MiB of visible device memory (R262). -/
def shadowOff (s : State) (a : Nat) : Nat := s.ddrSize - 2 ^ 25 + 65536 * s.setBase a

/-- A set is copied to its shadow (R262). -/
def shadowSet (s : State) (a : Nat) : State := s.ddrPut (s.shadowOff a) (s.awl.image.at [] a)

/-- Slot `a` is empty. -/
def unloadSet (s : State) (a : Nat) : State :=
  let t := (((s.wr R.AW_SET_CFG [a] R.AW_SET_CFG.rst).wr R.AW_SET_BASE [a] 0).wr R.AW_SET_LEN [a] 0).wr R.AW_SET_INFO [a] 0
  { t.wr R.AW_SET_CRC [a] 0 with
    awl.attr := t.awl.attr.dropRange (a * 4096) (a * 4096 + 4096), awl.image := t.awl.image.erase a }

/-- Section 0x0070 loads set `a` (R260): none when the payload is rejected. -/
def loadSet (s : State) (a : Nat) (bs : List Byte) : Option State :=
  match setHead bs with
  | none => none
  | some h =>
    if 16 ≤ a ∨ 512 < h.base + h.blocks ∨ s.setOverlaps a h.base h.blocks ∨ crc32c (setImage bs h) ≠ h.crc then none
    else some ((s.putSet a bs h 2).shadowSet a)

/-- An uncorrectable error in block `b` of set `a`: FAULT, then RELOADING, unless the block failed within the last second or
the set is in FAULT already (R262). A set in LOADING has no shadow yet and stays in FAULT. Log 150 (DEDUCED). -/
def setFault (s : State) (a b : Nat) : State :=
  let again := s.awl.errAt.at 0 b != 0 && decide (s.since (s.awl.errAt.at 0 b - 1) < 1000000000)
  let stays := again || s.setState a == 1 || s.setState a == 3
  let t := (s.set F.AW_SET_CFG_STATE [a] (if stays then 3 else 4)).raise F.AW_EVT_SET_FAULT []
  { t with awl.errAt := t.awl.errAt.put 0 b (t.clock.tick + 1), awl.badBlock := addOnce b t.awl.badBlock }

/-- A scan of a frame or the scrub meets the error, and reports it (R262). Log 150 (DEDUCED). -/
def setFails (s : State) (a b : Nat) : State := (s.setFault a b).report { die := 12, unit := 11, cause := 2, d0 := b, d1 := a }

/-- The result of a held pass's scan, and what the Tree die counts. Log 150 (DEDUCED). -/
def scanPass (s : State) (p : Pass) : Pass × State :=
  let a := p.awlSet
  let w := windowOf p
  let r := s.awlScan a w (p.q + p.awlSkip)
  let tr := { p.tr with
    hits := p.tr.hits + (if 1 ≤ r.count then 16 else 0), awlFirst := r.record / 2 ^ 48, awlCount := min 255 r.count }
  ({ p with awlRes := r.record, awlList := r.list, verdict := r.verdict, verdictAo := r.ao, tr := tr },
    s.countScan a w.length r.count (some p.f.m.tenant))

end State

/-! ## The commands -/

/-- AWL_SCAN: Awl makes the next scan of slice `sl` (R248); `bad` names a block in which the scan meets an uncorrectable
error (R262). A scan whose frame has timed out is made and its result discarded (R257). A set that is no longer LOADED is
not scanned (R259). Log 150 (DEDUCED). -/
def execAwlScan (sl : Nat) (bad : Option Nat) (s : State) : Out :=
  done (fun s =>
    if !s.forwarding || s.variant == .e || !s.live 12 then s
    else
      let meet := fun (t : State) (a : Nat) =>
        match bad.filter fun b => s.setOfBlock b == some a with | some b => t.setFails a b | none => t
      match takeFirst (fun (p : Pass) => p.f.m.slice == sl) s.awl.late with
      | some (p, r) =>
        let t := meet { s with awl.late := r } p.awlSet
        if t.setState p.awlSet = 2 then (t.scanPass p).2 else t
      | none =>
        match (s.sl.awlQ.at [] sl).findIdx? fun h => !h.ready with
        | none => s
        | some i =>
          match (s.sl.awlQ.at [] sl)[i]? with
          | none => s
          | some h =>
            let t := meet s h.p.awlSet
            let x := if t.setState h.p.awlSet = 2 then t.scanPass h.p else ({ h.p with awlEcc := true }, t)
            { x.2 with sl.awlQ := x.2.sl.awlQ.put [] sl (modifyAt (fun k => { k with p := x.1, ready := true }) i (x.2.sl.awlQ.at [] sl)) }) s

/-- AWL_RESULT: the result of the oldest frame that slice `sl` holds returns within AW_TIMEOUT of its request, and its pass
goes on, unscanned with cause 6 where the scan met an error (R246, R257). Log 150 (DEDUCED). -/
def execAwlResult (sl : Nat) (s : State) : Out :=
  done (fun s =>
    match s.sl.awlQ.at [] sl with
    | h :: r =>
      onlyIf (h.ready && s.forwarding && decide (s.since h.at_ ≤ s.get F.AW_TIMEOUT_US [] * 1000)) (fun s =>
        let t := { s with sl.awlQ := s.sl.awlQ.put [] sl r }.treeTransfer (sl / 4) 1 (some h.p.f.m.tenant)
        let x := if h.p.awlEcc then t.unscanned h.p 6 else (h.p, t)
        x.2.afterAwl x.1) s
    | [] => s) s

/-- AWL_TIMEOUT: the oldest frame held by slice `sl` has had no result for AW_TIMEOUT: it goes on unscanned (R257).
Log 150 (DEDUCED). -/
def execAwlTimeout (sl : Nat) (s : State) : Out :=
  done (fun s =>
    match s.sl.awlQ.at [] sl with
    | h :: r =>
      onlyIf (s.forwarding && decide (s.get F.AW_TIMEOUT_US [] * 1000 < s.since h.at_)) (fun s =>
        let t := { s with sl.awlQ := s.sl.awlQ.put [] sl r, awl.late := if h.ready then s.awl.late else s.awl.late ++ [h.p] }
        let hits := h.p.tr.hits - (if 1 ≤ h.p.tr.awlCount then 16 else 0)
        let tr := { h.p.tr with hits := hits, awlFirst := 0, awlCount := 0 }
        let x := t.unscanned { h.p with verdict := 0, verdictAo := 0, awlList := [], tr := tr } 3
        x.2.afterAwl x.1) s
    | [] => s) s

/-- AWL_THROTTLE_EVAL: every 1 ms Awl reads the Tree die's temperature, in units of 0.125 °C, and sets its throttle step (R256). -/
def execAwlThrottleEval (temp : Int) (s : State) : Out :=
  done (fun s =>
    onlyIf (s.powered && s.variant != .e && s.throttleDue 12) (fun s =>
      let s := s.throttleRead 12
      let step := s.get F.AW_THERM_STEP []
      let n := State.thermNext step s.osp.coolAwl temp
      let t := ({ s with osp.coolAwl := n.2 }.set F.AW_THERM_TEMP [] (unsigned 16 temp)).set F.AW_THERM_STEP [] n.1
      if n.1 = step then t else t.raise F.AW_EVT_THROTTLE_CHANGE []) s) s

/-- AWL_BUDGET_WRITE: a write of AW_BUDGET_d sets the budget, clamped, and fills the bucket (R255, R263). -/
def execAwlBudgetWrite (d v : Nat) (s : State) : Out :=
  done (fun s =>
    onlyIf (s.powered && s.live 12 && decide (d < 8) && s.variant.hasDie d && s.variant != .e) (fun s =>
      (s.set F.AW_BUDGET_GBPS [d] (min 600 (v % 1024))).fillBucket (bktAwl d)) s) s

/-- AWL_SET_RELOADED: the copy of set `a` back from its shadow in device memory ends (R262); with `bad`, or where a burst of
the shadow is bad, its read had an uncorrectable error, and the set stays in FAULT (R507). -/
def execAwlSetReloaded (a : Nat) (bad : Bool) (s : State) : Out :=
  done (fun s =>
    onlyIf (decide (a < 16) && s.setState a == 4 && !s.ddrHeld (s.shadowOff a) (s.awl.image.at [] a).length) (fun s =>
      let off := s.shadowOff a
      let size := (s.awl.image.at [] a).length
      if bad || s.ddrBad off size then (s.ddrUe off).set F.AW_SET_CFG_STATE [a] 3
      else
        let base := s.setBase a
        let n := s.setLen a
        let t := { s with
          awl.image := s.awl.image.insert a (s.ddrGet off size)
          awl.badBlock := s.awl.badBlock.filter fun b => !(decide (base ≤ b) && decide (b < base + n)) }
        ((t.set F.AW_SET_CFG_STATE [a] 2).raise F.AW_EVT_SET_RELOADED []).recovered 12 11 2) s) s

/-- SCRUB_BURST: a burst under a claim of activity 2 on die `x` reads entry `i` of table `tbl`, or on the Tree die block `i`
of the automata store; it corrects `fixed` errors in place and with `bad` meets an uncorrectable one (R262, R294, R328). -/
def execScrubBurst (x tbl i fixed : Nat) (bad : Bool) (s : State) : Out :=
  done (fun s =>
    if !s.mayBorrow 2 x || !s.live x then s
    else if x = 12 then
      if s.variant == .e then s
      else
        let t := s.count 172 2 fixed
        let t := { t with flt.reports := t.flt.reports ++ List.replicate fixed { die := 12, unit := 11, cause := 1, d0 := i } }
        match if bad then t.setOfBlock i else none with
        | some a => (t.count 172 3 1).setFails a i
        | none => t
    else match Tbl.all[tbl]? with
      | none => s
      | some tb =>
        if x < 8 ∧ State.scrubbed tb then
          let unit := if tb = .os then 6 else 5
          let t := s.count (16 * x + 13) 2 fixed
          let t := { t with flt.reports := t.flt.reports ++ List.replicate fixed { die := x, unit := unit, cause := 1, d0 := i } }
          if bad && !t.tabBad x tb i then
            ((t.count (16 * x + 13) 3 1).tabFails x tb i).report { die := x, unit := unit, cause := 2, d0 := i }
          else t
        else s) s

end Sys2Proof.Machine
end

