-- ==== Sys2Proof/Machine/Tally.lean ====
section
/-! DEFINITION. Tally: minutes, cuts, sets and their records, and the commit block (R410 to R426). -/

namespace Sys2Proof.Machine

/-- The fields of a tenant record, by their low bit, width and counters that they sum (R420). -/
def tallyFields : List (Nat × Nat × List Nat) :=
  [(160, 44, [0]), (204, 52, [2]), (256, 44, [4]), (300, 52, [6]), (352, 44, [1]), (396, 52, [3]), (448, 44, [5]), (492, 52, [7]),
   (544, 44, [10]), (588, 52, [13]), (640, 44, [11]), (684, 52, [14]), (736, 44, [12]), (780, 52, [15]), (832, 40, [16]),
   (872, 44, [17]), (916, 52, [8, 9])]

/-- FLAGS of a record, as bits of the record (R420). -/
def tlyShort : Nat := 0
def tlyFlush : Nat := 1
def tlyUntrusted : Nat := 2
def tlyStepped : Nat := 3
def tlyAfterLoad : Nat := 4
def tlyMissing : Nat := 5

/-- A record with its CHECK (R420). -/
def recBytes (v : Nat) : List Byte :=
  let b := leBytes v 124
  b ++ leBytes (crc32c b) 4

/-- The parts that all records of a set share (R420, R421). -/
def TallySet.common (t : TallySet) (typ : Nat) : Nat :=
  typ + 2 ^ 16 + t.flags * 2 ^ 20 + t.minute % 2 ^ 48 * 2 ^ 48 + t.startMs % 2 ^ 16 * 2 ^ 96 + t.endMs % 2 ^ 16 * 2 ^ 112
    + t.seq % 2 ^ 32 * 2 ^ 128

/-- A counter of a tenant in a set. -/
def TallySet.sum (t : TallySet) (w c : Nat) : Nat := t.sums.at 0 (w * 32 + c)

/-- The record of tenant `w`, without CHECK (R420). -/
def TallySet.record (t : TallySet) (w : Nat) : Nat :=
  t.common (if t.kind = 1 then 0x5449 else 0x544D) + w * 2 ^ 28
    + (tallyFields.map fun f => (f.2.2.map (t.sum w)).sum % 2 ^ f.2.1 * 2 ^ f.1).sum

/-- The sum of some counters over all tenants. -/
def TallySet.total (t : TallySet) (cs : List Nat) : Nat := ((t.sums.filter fun e => cs.contains (e.1 % 32)).map (·.2)).sum

/-- The trailer, without CHECK (R421); `div` says that it is itself diverted. -/
def TallySet.trailerRec (t : TallySet) (div : Bool) : Nat :=
  t.common 0x5453 + t.kind * 2 ^ 28 + t.records * 2 ^ 160 + (t.diverted + b2n div) * 2 ^ 192 + t.discarded * 2 ^ 224
    + t.mask * 2 ^ 256 + t.total [2, 3] % 2 ^ 52 * 2 ^ 264 + t.total [6, 7] % 2 ^ 52 * 2 ^ 316

/-- The first interim instant after `now`, or the end where none is left (R413). Log 27 (DEDUCED). -/
def interimAfter (base step fin now : Nat) : Nat :=
  let n := if step = 0 then fin else base + ((now - base) / step + 1) * step
  min n fin

namespace State

/-! ## Minutes (R413, R422) -/

/-- The count of ns that a minute's cuts fall by. Log 167 (DEDUCED). -/
def tallyNow (s : State) : Nat := if s.tally.byTick then s.clock.tick else s.clock.tai

/-- MINUTE_SEC of the minute that contains a TAI second (R413). -/
def minuteOf (s : State) (sec : Nat) : Nat := s.tally.offset + (sec - s.tally.offset) / 60 * 60

/-- A minute begins now, with flags; it counts from now (R422). Log 167 (DEDUCED). -/
def beginMinute (s : State) (flags : Nat) : State :=
  let m := s.minuteOf s.clock.sec
  let tick := !s.timeValid
  let base := if tick then s.clock.tick else m * 1000000000
  let now := if tick then s.clock.tick else s.clock.tai
  let fin := base + 60000000000
  { s with
    tally.on := true, tally.minute := m, tally.startMs := (s.clock.tai - m * 1000000000) / 1000000
    tally.flags := flags ||| (if tick then 2 ^ tlyUntrusted else 0), tally.base := base, tally.minuteEnd := fin, tally.byTick := tick
    tally.nextInterim := interimAfter base (s.tally.interim * 1000000000) fin now }

/-- Settings and definitions written since take effect at a boundary (R422, R426). -/
def tallySettle (s : State) : State :=
  let t := forEach s.tally.defsNext (fun (e : Nat × Nat) u => u.setTab 12 .binMap e.1 e.2) s
  { t with
    tally.defsNext := [], tally.offset := t.get F.TL_TIME_OFFSET_S [], tally.interim := t.get F.TL_TIME_INTERIM_S [] }.set
      F.TL_STAT_TIME_PEND [] 0

/-! ## The commit block (R424, R425) -/

/-- MINUTE_SEC of the oldest minute whose set is not complete. -/
def openSec (s : State) : Nat := ((s.tally.sets.find? fun t => t.kind != 1).map (·.minute)).getD s.tally.minute

/-- The Tree die rewrites the commit block. Log 171 (DEDUCED). -/
def tallyCommit (s : State) : State :=
  let done := s.rd R.TL_COMMIT_SEC_LO [] + s.get F.TL_COMMIT_SEC_HI_SEC [] * 2 ^ 32
  let head := leBytes 0x544C4342 4 ++ leBytes (1 + s.tally.offset * 2 ^ 16 + s.tally.interim * 2 ^ 24) 4 ++ leBytes done 8
    ++ leBytes (s.rd R.TL_SEQ []) 4 ++ leBytes s.tally.interimSeq 4 ++ leBytes s.tally.interimSec 8 ++ leBytes s.openSec 8
  s.retWrite 0x2000 (head ++ leBytes (crc32c head) 4)

/-- The commit block in retention memory passes its check. Log 171 (DEDUCED). -/
def commitGood (s : State) : Bool :=
  ofLe (s.retRead 0x2000 4) == 0x544C4342 && ofLe (s.retRead 0x2004 2) == 1 && ofLe (s.retRead 0x2028 4) == crc32c (s.retRead 0x2000 0x28)

/-- What the loss marker takes from the commit block: OPEN_SEC; and INTERIM_SEQ with INTERIM_SEC (R425). -/
def tallyMinuteSec (s : State) : Nat := ofLe (s.retRead 0x2020 6)
def tallyLastInterim (s : State) : Nat × Nat := (ofLe (s.retRead 0x2014 4), ofLe (s.retRead 0x2018 6))

/-- Octets in and out of die `d` since OPEN_SEC (R425, R427). -/
def tallyDieOctets (s : State) (d : Nat) : Nat × Nat :=
  let mine := (s.tally.live ++ s.tally.frozen.flatMap (·.2)).filter fun e => e.1 / 2 ^ 40 == d
  let sum := fun (a b : Nat) => ((mine.filter fun e => e.1 % 32 == a || e.1 % 32 == b).map (·.2)).sum
  (sum 2 3, sum 6 7)

/-! ## Cuts (R414, R415, R423) -/

/-- The sums over the present, non-isolated dies, by tenant and counter (R414). -/
def tallySums (s : State) : Map Nat :=
  s.tally.live.foldl (fun (m : Map Nat) e =>
    if s.live (e.1 / 2 ^ 40) then m.put 0 (e.1 % 2 ^ 40) (m.at 0 (e.1 % 2 ^ 40) + e.2) else m) []

/-- The tenants whose records a set holds (R416). -/
def tallyTenants (s : State) (sums : Map Nat) : List Nat :=
  let busy := sums.foldl (fun (m : Map Nat) e => m.put 0 (e.1 / 32) 1) []
  (List.range 16384).filter fun w =>
    let d := s.tallyDef w
    bit d 16 && (!bit d 17 || busy.at 0 w == 1)

/-- END_MS of a cut made now: ms after MINUTE_SEC, rounded down; where it does not fit the field the spec states no value
(R420). Log 166 (DESIGN CHOICE). -/
def tallyEndMs (s : State) : Nat × State :=
  let ms := if s.tally.byTick then s.tally.startMs + (s.clock.tick - s.tally.base) / 1000000
    else (s.clock.tai - s.tally.minute * 1000000000) / 1000000
  if ms < 2 ^ 16 then (ms, s) else let f := s.takeFree; (Config.tallyMs f.1 % 2 ^ 16, f.2)

/-- Make a set (R416): the kind, more flags and END_MS. -/
def tallySetOf (s : State) (kind flags endMs : Nat) : TallySet :=
  let sums := s.tallySums
  let missing := (List.range 8).any fun d => s.variant.hasDie d && s.isolated d
  { kind := kind, flags := s.tally.flags ||| flags ||| (if missing then 2 ^ tlyMissing else 0), minute := s.tally.minute
    startMs := s.tally.startMs, endMs := endMs, seq := s.rd R.TL_SEQ [], sums := sums
    mask := (s.liveSkirts.map (2 ^ ·)).sum, todo := s.tallyTenants sums, cutAt := s.clock.tick, cutSec := s.clock.sec, bank := s.tally.bank }

/-- A set joins those to be written. -/
def tallyQueue (s : State) (t : TallySet) : State :=
  ({ s with tally.sets := s.tally.sets ++ [t] }.wr R.TL_SEQ [] ((s.rd R.TL_SEQ [] + 1) % 2 ^ 32)).set F.TL_STAT_WRITING [] 1

/-- The active banks are frozen and counting goes on in the others (R414). -/
def swapBanks (s : State) : State :=
  let t := forEach s.liveSkirts (fun d u => u.set F.TY_STAT_ACTIVE [d] (1 - u.get F.TY_STAT_ACTIVE [d])) s
  { t with tally.live := [], tally.bank := s.tally.bank + 1, tally.frozen := s.tally.frozen ++ [(s.tally.bank, s.tally.live)] }

/-- The minute in progress is cut (R414). Log 167 (DEDUCED). -/
def cutMinute (s : State) (kind flags endMs : Nat) : State := (s.tallyQueue (s.tallySetOf kind flags endMs)).swapBanks

/-- The journal entry of the minute's discards, on the E (R418). Log 170 (DEDUCED). -/
def tallyLostEntry (s : State) : State :=
  if s.tally.lostMinute = 0 then s
  else { s.journal (s.entryNow 0 12 21 0xF 0 0 0 s.tally.lostMinute) with tally.lostMinute := 0 }

/-- A minute boundary: the minute is cut, and the next one follows it (R413, R422). Log 168 (DEDUCED). -/
def cutBoundary (s : State) : State :=
  let end_ := if s.tally.byTick then s.tallyEndMs else ((s.tally.minuteEnd - s.tally.minute * 1000000000) / 1000000, s)
  let s := end_.2
  let old := s.tally.offset
  let fin := s.tally.minuteEnd
  let t := ((s.cutMinute 0 0 end_.1).tallyLostEntry).tallySettle
  let t := if t.tally.byTick then t.beginMinute 0
    else
      let sec := fin / 1000000000
      let fin' := if t.tally.offset = old then sec + 60 else t.minuteOf sec + 60
      { t with
        tally.minute := sec, tally.startMs := 0, tally.flags := if fin' < sec + 60 then 2 ^ tlyShort else 0, tally.base := fin
        tally.minuteEnd := fin' * 1000000000
        tally.nextInterim := interimAfter fin (t.tally.interim * 1000000000) (fin' * 1000000000) t.clock.tai }
  t.tallyCommit

/-- An interim cut is taken now (R415). Log 168 (DEDUCED). -/
def takeInterim (s : State) : State :=
  let e := s.tallyEndMs
  (e.2.tallyQueue (e.2.tallySetOf 1 0 e.1)).tallyCommit

/-- So many interim cuts wait, as TL_STAT shows (R417, R428). Log 168 (DEDUCED). -/
def deferTo (s : State) (n : Nat) : State := { s with tally.deferred := n }.set F.TL_STAT_DEFERRED [] (b2n (n != 0))

/-- An interim cut falls: it is taken, or deferred while a set is being written (R417). Log 168 (DEDUCED). -/
def interimFalls (s : State) : State :=
  if s.tally.sets.isEmpty then s.takeInterim
  else ((s.deferTo (s.tally.deferred + 1)).inc R.TL_DEFERRED []).raise F.TL_EVT_DEFERRED []

/-- An interim instant is reached (R413, R417). -/
def cutInterim (s : State) : State :=
  { s with
    tally.nextInterim := interimAfter s.tally.base (s.tally.interim * 1000000000) s.tally.minuteEnd s.tallyNow }.interimFalls

/-- The flush set of an orderly DRAIN (R423). -/
def tallyCutFlush (s : State) : State :=
  if s.tally.on then
    let e := s.tallyEndMs
    ({ e.2.cutMinute 2 (2 ^ tlyFlush + 2 ^ tlyShort) e.1 with tally.on := false }.deferTo 0).tallyCommit
  else s

/-- The flush set is complete (R105). -/
def tallyFlushed (s : State) : Bool := !s.tally.on && s.tally.sets.isEmpty

/-- Entry into RUN: the banks are empty, SEQ goes on from the commit block, and the first minute begins (R422, R424).
Log 171 (DEDUCED). -/
def tallyStart (s : State) : State :=
  let g := s.commitGood
  let f := fun (a n : Nat) => if g then ofLe (s.retRead a n) else 0
  let t := s.tallySettle
  let t := { t with
    tally.live := [], tally.bank := t.tally.bank + 1, tally.frozen := [], tally.sets := [], tally.again := []
    tally.stopped := false
    tally.interimSeq := f 0x2014 4, tally.interimSec := f 0x2018 6 }
  let t := ((t.wr R.TL_SEQ [] (f 0x2010 4)).wr R.TL_COMMIT_SEC_LO [] (f 0x2008 4)).set F.TL_COMMIT_SEC_HI_SEC [] (f 0x200C 2)
  (t.beginMinute (2 ^ tlyShort + 2 ^ tlyAfterLoad)).tallyCommit

/-- Entry into HALT: writing stops, and records not written are lost (R103, R423); what the minute had discarded is
journalled (R418). Log 170 (DEDUCED). -/
def tallyHalt (s : State) : State :=
  ({ s.tallyLostEntry with tally.on := false, tally.sets := [], tally.again := [] }.set F.TL_STAT_WRITING [] 0).deferTo 0

/-- An emergency DRAIN freezes the banks (R78). -/
def tallyFreezeBanks (s : State) : State := { s with tally.stopped := true }

/-- A forward step past the end of the minute has jumped an interim instant (R413, R422). -/
def interimJumped (s : State) : Bool :=
  decide (s.tally.nextInterim < s.tally.minuteEnd)
    || (decide (s.tally.interim < 60) && decide (s.tally.minuteEnd + s.tally.interim * 1000000000 ≤ s.clock.tai))

/-- A step of TAI, from `old`, has been applied (R422). Log 168 (DEDUCED). -/
def tallyStep (s : State) (old : Nat) : State :=
  if !s.tally.on then s
  else if s.tally.byTick then
    if s.timeValid then
      let e := s.tallyEndMs
      (((e.2.cutMinute 0 (2 ^ tlyShort) e.1).tallyLostEntry.tallySettle).beginMinute (2 ^ tlyShort)).tallyCommit
    else s
  else if s.tally.minuteEnd ≤ s.clock.tai then
    let t := (((s.cutMinute 0 (2 ^ tlyStepped) 60000).tallyLostEntry.tallySettle).beginMinute
      (2 ^ tlyShort + 2 ^ tlyStepped)).tallyCommit
    if s.interimJumped then t.interimFalls else t
  else if s.clock.tai < old then { s with tally.flags := s.tally.flags ||| 2 ^ tlyStepped }
  else s

/-! ## Writing a set (R416 to R419) -/

/-- Change the set that is being written. -/
def setHeadSet (s : State) (f : TallySet → TallySet) : State := { s with tally.sets := modifyAt f 0 s.tally.sets }

/-- A record is discarded (R418). Log 169 (DEDUCED). -/
def tallyDiscard (s : State) : State :=
  let t := s.setHeadSet fun t => { t with discarded := t.discarded + 1 }
  let t := if t.variant == .e then { t with tally.lostMinute := t.tally.lostMinute + 1 } else t
  (t.inc R.TL_DISCARDED []).raise F.TL_EVT_DISCARDED []

/-- A record goes to the DDR5 log, or is discarded (R418, R419): without a section 0x0003 the DDR5 is never trained and
nothing can be written to it (R504). Log 169 (DEDUCED). -/
def tallyLog (s : State) (v : Nat) (trailer divert : Bool) : State :=
  let n := s.get F.TL_LOG_CFG_LOG2 []
  let p := s.get F.TL_LOG_PROD_INDEX []
  let c := s.get F.TL_LOG_CONS_INDEX []
  if !s.ddrTrained || !s.isOn F.TL_LOG_CFG_EN [] || p == (c + 2 ^ n) % 2 ^ (n + 1) then s.tallyDiscard
  else
    let v := if divert then v ||| 2 ^ 26 else v
    let t := s.ddrPut (s.rd R.TL_LOG_BASE [] * 2 ^ 20 + 128 * (p % 2 ^ n)) (recBytes v)
    let t := t.set F.TL_LOG_PROD_INDEX [] ((p + 1) % 2 ^ (n + 1))
    let t := if divert then
        ((t.setHeadSet fun u => { u with diverted := u.diverted + 1 }).inc R.TL_DIVERTED []).raise F.TL_EVT_DIVERTED []
      else t
    t.tallyWrote trailer

/-- The host Tally ring is to take the records: DEST, DRIVER_OK and the Ring Complex allow it (R418). -/
def tallyToHost (s : State) : Bool := s.get F.TL_CTRL_DEST [] == 1 && s.driverOk 0 && !s.rcHalted

/-- The place of the log's next record cannot be reached now (R505, R508). -/
def logHeld (s : State) : Bool :=
  let n := s.get F.TL_LOG_CFG_LOG2 []
  let p := s.get F.TL_LOG_PROD_INDEX []
  s.ddrTrained && s.isOn F.TL_LOG_CFG_EN [] && p != (s.get F.TL_LOG_CONS_INDEX [] + 2 ^ n) % 2 ^ (n + 1)
    && s.ddrHeld (s.rd R.TL_LOG_BASE [] * 2 ^ 20 + 128 * (p % 2 ^ n)) 128

/-- Place one record: whether it has gone, or waits for the host ring or for device memory. `late` says that 1 s has passed since the set's cut
(R418). -/
def tallyPlace (s : State) (v : Nat) (trailer late : Bool) : Bool × State :=
  if s.get F.TL_CTRL_DEST [] = 2 then (true, s.tallyDiscard)
  else if s.tallyToHost then
    let q := s.get F.TL_RING_RING []
    if late then (if s.logHeld then (false, s) else (true, s.tallyLog v trailer true))
    else if s.rxTakes q 4 128 then (true, s.rxGive q { bytes := recBytes v, trailer := trailer })
    else (false, s.rxFull q 4 128)
  else if s.logHeld then (false, s)
  else (true, s.tallyLog v trailer false)

/-- What the host ring has not accepted 1 s after the cut comes back to go to the log, oldest first (R418).
Log 169 (DEDUCED). -/
def takeBack (s : State) : State :=
  let q := s.get F.TL_RING_RING []
  if s.get F.RC_SQ_CFG_TYPE [q] = 4 then
    { s with rc.recs := s.rc.recs.erase q
             tally.again := ((s.rc.recs.at [] q).map fun r => (r.bytes, r.trailer)) ++ s.tally.again }
  else s

/-- Write the records of the first set as far as they can go (R416). -/
def tallyWrite : Nat → State → State
  | 0, s => s
  | f + 1, s =>
    match s.tally.sets with
    | [] => s
    | t :: _ =>
      let late := decide (1000000000 ≤ s.since t.cutAt)
      let div := late && s.tallyToHost
      match s.tally.again, t.todo with
      | (bs, tr) :: r, _ =>
        -- a trailer counts what has been diverted and discarded when it is written
        let v := if tr then t.trailerRec div else ofLe (bs.take 124)
        let p := { s with tally.again := r }.tallyPlace v tr late
        if p.1 then tallyWrite f p.2 else { p.2 with tally.again := s.tally.again }
      | [], w :: ws =>
        let p := (s.setHeadSet fun u => { u with todo := ws, records := u.records + 1 }).tallyPlace (t.record w) false late
        if p.1 then tallyWrite f p.2 else { p.2 with tally.sets := s.tally.sets }
      | [], [] =>
        if t.trailer then s
        else
          let p := (s.setHeadSet fun u => { u with trailer := true }).tallyPlace (t.trailerRec div) true late
          if p.1 then tallyWrite f p.2 else { p.2 with tally.sets := s.tally.sets }

/-- Records of one set, its trailer and those given back. -/
def tallyFuel (s : State) : Nat := 16386 + s.tally.again.length

/-- The Tree die writes what it can of the set in progress (R416, R418). Log 169 (DEDUCED). -/
def tallyRun (s : State) : State :=
  let late := s.tally.sets.head?.any fun t => decide (1000000000 ≤ s.since t.cutAt)
  let t := if late then s.takeBack else s
  tallyWrite t.tallyFuel t

/-- Every record of the first set has been written or has gone nowhere. Log 169 (DEDUCED). -/
def setWritten (s : State) : Bool :=
  match s.tally.sets with
  | [] => false
  | t :: _ => t.todo.isEmpty && t.trailer && s.tally.again.isEmpty && (s.rc.recs.at [] (s.get F.TL_RING_RING [])).isEmpty

/-- The first set is complete (R416, R417, R424): an interim cut that waited is taken. -/
def setComplete (s : State) : State :=
  match s.tally.sets with
  | [] => s
  | t :: r =>
    let u := ({ s with tally.sets := r }.inc R.TL_SETS []).countKind 175 1 1
    let u := if t.kind = 1 then { u with tally.interimSeq := t.seq, tally.interimSec := t.cutSec }
      else (u.wr R.TL_COMMIT_SEC_LO [] (t.minute % 2 ^ 32)).set F.TL_COMMIT_SEC_HI_SEC [] (t.minute / 2 ^ 32)
    let u := if t.kind = 1 then u else { u with tally.frozen := u.tally.frozen.filter fun e => e.1 != t.bank }
    let u := if t.kind = 2 then u.tallyLostEntry else u
    let u := if r.isEmpty then u.set F.TL_STAT_WRITING [] 0 else u
    if r.isEmpty && u.tally.deferred != 0 && u.tally.on then (u.deferTo (u.tally.deferred - 1)).takeInterim
    else u.tallyCommit

/-- Both epoch drain counters are zero (R105). -/
def drained (s : State) : Bool := s.get F.MD_DRAIN_CNT_COUNT [0] == 0 && s.get F.MD_DRAIN_CNT_COUNT [1] == 0

/-- Tally emits records (R100). -/
def tallyUp (s : State) : Bool := s.forwarding && !s.tally.stopped

end State

/-! ## The commands -/

/-- TALLY_CUT: a minute boundary or an interim instant is reached, or an orderly DRAIN finds both epoch drain counters zero
(R413, R415, R417, R423). -/
def execTallyCut (s : State) : Out :=
  done (fun s =>
    if !s.tallyUp || !s.tally.on then s
    else if s.mode == .drain && s.modes.odrain.isSome && s.drained then s.tallyCutFlush
    else if s.tally.minuteEnd ≤ s.tallyNow then s.cutBoundary
    else if s.tally.nextInterim ≤ s.tallyNow then s.cutInterim
    else s) s

/-- TALLY_SET_DONE: the Tree die writes the records of the oldest set, its trailer last; when the trailer is written the set
is complete (R414, R416, R417). -/
def execTallySetDone (s : State) : Out :=
  done (fun s => onlyIf s.tallyUp (fun s =>
    let t := s.tallyRun
    if t.setWritten then t.setComplete else t) s) s

/-- TALLY_DIVERT: 1 s has passed since the set's cut: the records that the host ring has not accepted go to the log (R418). -/
def execTallyDivert (s : State) : Out :=
  done (fun s =>
    match s.tally.sets with
    | t :: _ => onlyIf (s.tallyUp && decide (1000000000 ≤ s.since t.cutAt)) State.tallyRun s
    | [] => s) s

/-- TALLY_TIME_WRITE: a write of TL_TIME, clamped; it takes effect at the next minute boundary (R422, R428). -/
def execTallyTimeWrite (v : Nat) (s : State) : Out :=
  done (fun s =>
    onlyIf (s.powered && s.live 12) (fun s =>
      let t := (s.set F.TL_TIME_INTERIM_S [] (clamp 1 60 (bits v 21 16))).set F.TL_TIME_OFFSET_S [] (min 59 (bits v 5 0))
      if t.tally.on then t.set F.TL_STAT_TIME_PEND [] 1 else t) s) s

/-- A write of TL_LOG_CFG: ignored while EN is 1; setting EN zeroes the indices (R381, R419). -/
def State.writeLogCfg (s : State) (v : Nat) : State :=
  if s.isOn F.TL_LOG_CFG_EN [] || s.variant == .e then s
  else
    let t := (s.set F.TL_LOG_CFG_LOG2 [] (clamp 10 24 (bits v 4 0))).set F.TL_LOG_CFG_EN [] (bits v 31 31)
    if bit v 31 then (t.set F.TL_LOG_PROD_INDEX [] 0).set F.TL_LOG_CONS_INDEX [] 0 else t

/-- TALLY_LOG_ENABLE: a write of TL_LOG_CFG that sets EN (R419). -/
def execTallyLogEnable (v : Nat) (s : State) : Out :=
  done (fun s => onlyIf (s.powered && s.live 12) (fun s => s.writeLogCfg (setBit v 31 true)) s) s

end Sys2Proof.Machine
end

