-- ==== Sys2Proof/Machine/Capture.lean ====
section
/-! DEFINITION. Capture and sample records, and the capture rings (R379 to R382, R537, R538). -/

namespace Sys2Proof.Machine

/-- A capture record with SEQ, LOST and CHECK still zero (R380): the session, the frame's start, its length as far as it is
known, its bytes captured, and whether it has more. Log 236 (DEDUCED). -/
def captureBytes (sess : Nat) (m : Meta) (st : Start) (len : Nat) (data : List Byte) (more : Bool) : List Byte :=
  let flags := b2n more + 2 * b2n m.unscanned + 4 * b2n m.osMulti + 8 * b2n st.poison + 16 * b2n m.ce
  let tai := m.t16 / 2 ^ 16
  leBytes (0x4350 + 2 ^ 16 + flags * 2 ^ 24) 4 ++ leBytes (sess + data.length * 2 ^ 8) 4
    ++ leBytes (len + m.epoch * 2 ^ 16) 4
    ++ leBytes (m.inPort + m.cls * 2 ^ 9 + m.colour * 2 ^ 12 + m.pass * 2 ^ 14 + m.tenant * 2 ^ 16) 4
    ++ leBytes (tai / 1000000000) 8 ++ leBytes (tai % 1000000000) 4 ++ leBytes (m.t16 % 2 ^ 16 + m.subport * 2 ^ 16) 4
    ++ leBytes m.ao 4 ++ leBytes st.brand 4 ++ List.replicate 24 0 ++ (data ++ List.replicate (256 - data.length) 0)

/-- A record with its SEQ and LOST at offset `o`, and its CHECK, over the data too for a sample record (R380, R538). -/
def sealRecord (bs : List Byte) (o seq lost : Nat) (all : Bool) : List Byte :=
  let bs := overwrite bs o (leBytes seq 4 ++ leBytes lost 4)
  let head := bs.take 0x3C
  head ++ leBytes (crc32c (if all then head ++ bs.drop 0x40 else head)) 4 ++ bs.drop 0x40

namespace State

/-- A record has been taken by ring `k`. -/
def capTook (s : State) (k : Nat) : State :=
  { s with fab.capSeq := s.fab.capSeq.put 0 k ((s.fab.capSeq.at 0 k + 1) % 2 ^ 32), fab.capLost := s.fab.capLost.erase k }.inc R.CP_RECORDS []

/-- Write a record to the DDR5 ring or to a host ring: true when it is written (R381, R382). Log 172 (DEDUCED). -/
def capWrite (s : State) (bs : List Byte) (o : Nat) (all : Bool) (ring : Option Nat) (who : Nat) : Bool × State :=
  let k := (ring.map (· + 1)).getD 0
  let rec_ := sealRecord bs o (s.fab.capSeq.at 0 k) (s.fab.capLost.at 0 k) all
  match ring with
  | none =>
    let n := s.get F.CP_DDR_CFG_LOG2 []
    let p := s.get F.CP_DDR_PROD_INDEX []
    if s.variant == .e || !s.isOn F.CP_DDR_CFG_EN [] then (false, s.capDrop 0 who)
    else if p = (s.get F.CP_DDR_CONS_INDEX [] + 2 ^ n) % 2 ^ (n + 1) then
      (false, ((s.capDrop 0 who).inc R.CP_DROP_FULL []).raise F.CP_EVT_RING_FULL [])
    else
      let t := s.ddrPut (s.rd R.CP_DDR_BASE [] * 2 ^ 20 + 512 * (p % 2 ^ n)) (rec_ ++ List.replicate 192 0)
      (true, (t.set F.CP_DDR_PROD_INDEX [] ((p + 1) % 2 ^ (n + 1))).capTook 0)
  | some q =>
    if !s.driverOk 0 || s.rcHalted then
      (false, ((s.capDrop k who).inc R.CP_DROP_NOHOST []).raise F.CP_EVT_NOHOST [])
    else if s.rxTakes q 5 320 then (true, (s.capTook k).rxGive q { bytes := rec_, who := some who })
    else (false, (((s.rxFull q 5 320).capDrop k who).inc R.RC_RX_DROP []).raise F.RC_EVT_RX_DROP [])

/-- A record for the DDR5 ring waits: its place cannot be reached now (R504, R505, R508). -/
def capHeld (s : State) : Bool :=
  let n := s.get F.CP_DDR_CFG_LOG2 []
  let p := s.get F.CP_DDR_PROD_INDEX []
  s.variant.hasDdr && s.isOn F.CP_DDR_CFG_EN [] && p != (s.get F.CP_DDR_CONS_INDEX [] + 2 ^ n) % 2 ^ (n + 1)
    && s.ddrHeld (s.rd R.CP_DDR_BASE [] * 2 ^ 20 + 512 * (p % 2 ^ n)) 512

/-- Setting CP_DDR_CFG.EN; a write while EN is 1 is ignored (R381). -/
def writeCapCfg (s : State) (v : Nat) : State :=
  if s.isOn F.CP_DDR_CFG_EN [] || s.variant == .e then s
  else
    let t := (s.set F.CP_DDR_CFG_LOG2 [] (clamp 8 20 (bits v 4 0))).set F.CP_DDR_CFG_EN [] (bits v 31 31)
    if bit v 31 then
      { (t.set F.CP_DDR_PROD_INDEX [] 0).set F.CP_DDR_CONS_INDEX [] 0 with fab.capSeq := t.fab.capSeq.erase 0 }
    else t

end State

/-! ## The commands -/

/-- CAPTURE_RECORD: the Tree die builds the record of the oldest capture copy and writes it to its session's ring; the
octets it holds are counted for the tenant, and its reference to the cell goes (R349, R379 to R382, R410). The length of a
cut-through frame is that of its tail record, where the cell has it (R335). Log 236 (DEDUCED). -/
def execCaptureRecord (s : State) : Out :=
  done (fun s =>
    onlyIf s.powered (fun s =>
      match s.fab.captures with
      | [] => s
      | (sess, at_, c, st) :: r =>
        let t := { s with fab.captures := r }
        let t := match at_ with | some a => t.dropRef a.1 a.2 c | none => t
        let d := c.slice / 4
        let who := st.m.tenant
        let pays := t.chargee st.m
        let known := if st.len ≠ 0 then some st.len else c.tailRec.map fun e => e.2.1
        let data := (c.data.drop st.off).take (min (t.get F.EQ_SESS_CAP_LEN [d, sess]) (known.getD 256))
        let more := match known with | some n => decide (data.length < n) | none => true
        let ring := if t.get F.EQ_SESS_TYPE [d, sess] = 3 then some (t.get F.EQ_SESS_RING_HOST_RING [d, sess]) else none
        if ring.isNone && t.capHeld then s else
        let w := t.capWrite (captureBytes sess st.m st (known.getD 0) data more) 0x28 false ring who
        if w.1 then
          (w.2.tallyAdd 12 pays (State.tlyMirror (w.2.tallyBin pays st.m.cls)) data.length).countKind 175 2 1 (some who)
        else w.2) s) s

/-- SAMPLE_RECORD: the oldest sample record reaches the Tree die and is written to its ring (R537, R538). -/
def execSampleRecord (s : State) : Out :=
  done (fun s =>
    onlyIf s.powered (fun s =>
      match s.sl.samples with
      | [] => s
      | (bs, _) :: r =>
        let t := { s with sl.samples := r }
        let who := ofLe (slice bs 8 2) % 2 ^ 14
        let ring := if t.isOn F.SM_CFG_DEST [] then some (t.get F.SM_RING_RING []) else none
        if ring.isNone && t.capHeld then s else
        let w := t.capWrite bs 0x20 true ring who
        if w.1 then w.2.countKind 175 3 1 (some who) else w.2) s) s

/-- CAPTURE_RING_ENABLE: a write of CP_DDR_CFG that sets EN zeroes PROD, CONS and SEQ (R381). -/
def execCaptureRingEnable (v : Nat) (s : State) : Out :=
  done (fun s => onlyIf (s.powered && s.live 12) (fun s => s.writeCapCfg (setBit v 31 true)) s) s

end Sys2Proof.Machine
end

