-- ==== Sys2Proof/Machine/Flash.lean ====
section
/-! DEFINITION. The external flash: its layout, the slots, and the PB flash and fuse operations (R125 to R131, R158 to
R160). -/

namespace Sys2Proof.Machine

/-- The 64 bytes of a plan record (R92): 60 bytes and their CRC-32C. Trims stand as signed steps from the factory setting.
Log 36 (DESIGN CHOICE). -/
def PlanRec.bytes (p : PlanRec) : List Byte :=
  let head := leBytes p.stamp 4 ++ leBytes (min p.eq (2 ^ 64 - 1)) 8 ++ leBytes p.time 4 ++ leBytes p.wear 1 ++ leBytes p.state 1
    ++ leBytes p.vfloor 2 ++ leBytes p.reserve 2 ++ leBytes p.years 2 ++ leBytes p.floor 2 ++ leBytes p.sNum 2 ++ leBytes p.sDen 1
    ++ leBytes 0 3 ++ (List.range trimGroups).map fun g => BitVec.ofNat 8 (min 255 (max 65408 (p.trims.getD g 65536) - 65408))
  head ++ leBytes (crc32c head) 4

namespace State

/-! ## The device and its layout (R125, R126) -/

/-- Bytes of the flash. -/
def flashRead (s : State) (a n : Nat) : List Byte := s.flash.cells.run 0xFF a n

/-- Program bytes: programming only clears bits (an erased byte is 0xFF, R130). Log 33 (PRESUMED). -/
def flashProgram (s : State) (a : Nat) (bs : List Byte) : State :=
  { s with flash.cells := s.flash.cells.putAll 0xFF a (List.zipWith (fun o n => o &&& n) (s.flashRead a bs.length) bs) }

/-- Erase the 64 KiB sector that holds address `a`. Log 33 (PRESUMED). -/
def flashErase (s : State) (a : Nat) : State :=
  { s with flash.cells := s.flash.cells.dropRange (a / 65536 * 65536) (a / 65536 * 65536 + 65536) }

/-- The retention copy area (R126). Log 31 (DEDUCED). -/
def copyAreaAt (_ : State) : Nat := 0x40000

/-- The slot length L (R126). Log 34 (PRESUMED). -/
def slotLen (s : State) : Nat := (s.flash.size - 0x100000) / 2

/-- The container of a slot (R126). -/
def slotAt (s : State) (slot : Nat) : Nat := 0x100000 + slot * s.slotLen

/-- The commit block of a slot (R126). -/
def blockAt (slot : Nat) : Nat := slot * 0x10000

/-- A little-endian field of the flash. -/
def flashGet (s : State) (a n : Nat) : Nat := ofLe (s.flashRead a n)

/-- A slot is valid (R130). -/
def slotValid (s : State) (slot : Nat) : Bool :=
  let b := blockAt slot
  let len := s.flashGet (b + 0xC) 4
  s.flashGet b 4 == 0x53424B43 && s.flashGet (b + 4) 2 == 1 && s.flashGet (b + 0x40) 4 == crc32c (s.flashRead b 0x40)
    && s.flashGet (b + 0x100) 4 == 0x434F4D54 && decide (0x200 ≤ len) && decide (len ≤ s.slotLen)

/-- The image sequence number of a slot. -/
def slotSeq (s : State) (slot : Nat) : Nat := s.flashGet (blockAt slot + 8) 4

/-- Show the slots' sequence numbers and validity (R160). -/
def showImages (s : State) : State :=
  (((s.wr R.PB_SEQ_A [] (s.slotSeq 0)).wr R.PB_SEQ_B [] (s.slotSeq 1)).set F.PB_ATTEMPTS_VALID_A [] (b2n (s.slotValid 0))).set
    F.PB_ATTEMPTS_VALID_B [] (b2n (s.slotValid 1))

/-! ## Which writes are refused (R158) -/

/-- Address `a` lies in the running slot, the wear-record area, the retention copy area or the reserved area. -/
def flashProtected (s : State) (a : Nat) : Bool :=
  let run := s.get F.PB_STATUS_ACTIVE []
  let base := s.slotAt run
  (decide (blockAt run ≤ a) && decide (a < blockAt run + 0x10000)) || (decide (0x20000 ≤ a) && decide (a < 0x100000))
    || (decide (base ≤ a) && decide (a < base + s.slotLen)) || decide (s.flash.size ≤ a)

/-- The host may use the flash: once the device has been in RUN (R128, R158). Log 35 (DEDUCED). -/
def flashOpen (s : State) : Bool :=
  !s.modes.inReset && s.tack.edrain.isNone && (match s.mode with | .run | .drain | .halt => true | _ => false)

/-- A commit names the first page of a slot's commit block (R159). -/
def commitPage (a : Nat) : Bool := a == 0 || a == 0x10000

/-- A flash operation (0 read, 1 program, 2 erase, 3 commit) at page address `a` is refused (R158). -/
def flashRefused (s : State) (op a : Nat) : Bool :=
  !s.flashOpen || (op != 0 && s.flashProtected a) || (op == 3 && !commitPage a)
    || (op == 2 && s.flashProtected (a / 65536 * 65536))

/-- The first page of a commit block reads back as programmed, with a correct CHECK (R159). -/
def pageGood (s : State) (a : Nat) (block : List Byte) : Bool :=
  s.flashGet (a + 0x40) 4 == crc32c (s.flashRead a 0x40) && s.flashRead a 256 == block.take 256

/-- The 512-byte buffer PB_FLASH_DATA. -/
def flashBuffer (s : State) : List Byte :=
  (List.range 128).flatMap fun i => leBytes (s.rd R.PB_FLASH_DATA [i]) 4

/-- Op 3: program the first page and check it; then the marker page, and zero the slot's attempts (R159). -/
def flashCommit (s : State) (a : Nat) (block : List Byte) : State × Bool :=
  let t := s.flashProgram a (block.take 256)
  if t.pageGood a block then
    let u := t.flashProgram (a + 0x100) ((block.drop 256).take 256)
    ((u.setAttempts (a / 0x10000) 0).showImages, true)
  else (t, false)

/-- The page at `a`, which was being programmed, is left undefined (R159). Log 187 (DESIGN CHOICE). -/
def tearPage (s : State) (a : Nat) : State :=
  { s with flash.cells := s.flash.cells.putAll 0xFF a ((List.range 256).map fun i => Config.freeByte (s.free + i)), free := s.free + 256 }

/-- An operation under way stops at once (R159): the page being programmed is left undefined, in a commit the first page or,
once that is programmed and good, the marker page; an erase that is stopped leaves its sector as it was. Log 187 (DESIGN CHOICE). -/
def flashAbort (s : State) : State :=
  match s.load.flashOp with
  | none => s
  | some (op, a) =>
    let t := { s with load.flashOp := none }
    if op = 1 then t.tearPage a
    else if op = 3 then
      let block := t.flashBuffer
      let late := t.takeFree
      let u := late.2.flashProgram a (block.take 256)
      if (Config.freeByte late.1).toNat % 2 = 1 ∧ u.pageGood a block then u.tearPage (a + 0x100) else late.2.tearPage a
    else t

/-- Start an operation of PB_FLASH_CMD (R160). -/
def flashStart (s : State) (op : Nat) : State :=
  let a := s.get F.PB_FLASH_ADDR_PAGE [] * 256
  let t := s.set F.PB_FLASH_CMD_OP [] op
  if t.isOn F.PB_FLASH_CMD_GO [] then t
  else if t.flashRefused op a then t.set F.PB_FLASH_CMD_REFUSED [] 1
  else { t.set F.PB_FLASH_CMD_GO [] 1 with load.flashOp := some (op, a) }

/-! ## A load attempt given up (R113) -/

/-- The loader abandons the attempt: the slot's attempt count returns to what it was (R113). -/
def abandonAttempt (s : State) : State :=
  match s.load.phase with
  | .idle => s
  | _ => { s.setAttempts s.load.slot s.load.before with load := { s.load with phase := .idle } }

/-! ## Patina's records (R56, R127) -/

/-- The record that 64 bytes hold, if their check is good. Log 36 (DESIGN CHOICE). -/
def planOf (bs : List Byte) : Option PlanRec :=
  let at_ := fun (o n : Nat) => ofLe ((bs.drop o).take n)
  if at_ 60 4 = crc32c (bs.take 60) then
    some { stamp := at_ 0 4, eq := at_ 4 8, time := at_ 12 4, wear := at_ 16 1, state := at_ 17 1, vfloor := at_ 18 2, reserve := at_ 20 2,
           years := at_ 22 2, floor := at_ 24 2, sNum := at_ 26 2, sDen := at_ 28 1,
           trims := ((bs.drop 32).take trimGroups).map fun b => b.toNat + 65408 }
  else none

/-- The place of die `x`'s record in retention memory (R92). -/
def planAt (x : Nat) : Nat := 0x3000 + 0x40 * x

/-- Wear sector `k` (R126). A set is its sequence number, the thirteen records and a CRC-32C over both (R127). Log 36 (DESIGN CHOICE). -/
def wearAt (k : Nat) : Nat := 0x20000 + 0x10000 * k

/-- The set in wear sector `k` has a good CRC (R127). -/
def setGood (s : State) (k : Nat) : Bool := s.flashGet (wearAt k + 836) 4 == crc32c (s.flashRead (wearAt k) 836)

/-- The wear sector with the newer set whose CRC is good (R127). -/
def newerSet (s : State) : Option Nat :=
  let d := (s.flashGet (wearAt 1) 4 + 2 ^ 32 - s.flashGet (wearAt 0) 4) % 2 ^ 32
  if s.setGood 1 && (!s.setGood 0 || (decide (1 ≤ d) && decide (d < 2 ^ 31))) then some 1
  else if s.setGood 0 then some 0 else none

/-- The 64 bytes that a wear set, if there is one, holds for die `x`; an erased record has no good check. -/
def setRecord (s : State) (set : Option Nat) (x : Nat) : List Byte :=
  match set with
  | some k => s.flashRead (wearAt k + 4 + 64 * x) 64
  | none => List.replicate 64 0xFF

/-- The newer of a die's two records, if either is good (R56). -/
def newestPlan (s : State) (set : Option Nat) (x : Nat) : Option PlanRec :=
  match planOf (s.retRead (planAt x) 64), planOf (s.setRecord set x) with
  | none, q => q
  | p, none => p
  | some p, some q => if (q.stamp + 2 ^ 32 - p.stamp) % 2 ^ 32 - 1 < 2 ^ 31 ∧ q.stamp ≠ p.stamp then some q else some p

/-- Patina writes the newest set with the record of die `x` replaced to the wear sector that does not hold it (R127).
Log 36 (DESIGN CHOICE). -/
def writeSet (s : State) (seq x : Nat) (rec : List Byte) : State :=
  let set := s.newerSet
  let a := wearAt (if set = some 0 then 1 else 0)
  let body := leBytes seq 4 ++ (List.range 13).flatMap fun y => if y = x then rec else s.setRecord set y
  (s.flashErase a).flashProgram a (body ++ leBytes (crc32c body) 4)

/-- The sequence number after every one in use: of the newer set, and of the retention records. -/
def nextStamp (s : State) : Nat :=
  let set := match s.newerSet with | some k => s.flashGet (wearAt k) 4 | none => 0
  let ret := ((List.range 13).filterMap fun x => planOf (s.retRead (planAt x) 64)).foldl (fun a p => max a p.stamp) 0
  (max set ret + 1) % 2 ^ 32

/-- Patina is writing: host flash operations wait (R127). -/
def patinaWrites (s : State) : Bool := decide (s.clock.tick < s.pace.saveEnd)

/-- A record in retention memory that has been written and fails its check costs its region, and is journalled (R93). -/
def checkPlans (s : State) (x : Nat) : State :=
  let bs := s.retRead (planAt x) 64
  if (planOf bs).isNone && bs.any (· != 0) then
    (s.loseRegion (planAt x)).journal (s.entryNow 2 0xFF 18 2 0 (planAt x))
  else s

/-- During LOAD Patina takes the newer record of each die, or the factory plan and a re-plan soon after RUN (R56). The wear of
the last plan is the record's where nothing newer is known of it. Log 234 (DESIGN CHOICE). -/
def loadPlan (set : Option Nat) (x : Nat) (s : State) : State :=
  let s := s.checkPlans x
  match s.newestPlan set x with
  | some p =>
    let t := (((s.set F.PT_VCORE_VFLOOR [x] p.vfloor).set F.PT_RESERVE_STATE [x] p.state).set F.PT_RESERVE_RESERVE_MV [x] p.reserve).set
      F.PT_RESERVE_YEARS [x] p.years
    let t := (t.wr R.PT_PLANTIME [x] p.time).set F.PT_WEAR_WEAR_MV [x] p.wear
    let t := { t with pace.eq := t.pace.eq.put 0 x p.eq
                      pace.planWear := if (t.pace.planWear.find? x).isSome then t.pace.planWear else t.pace.planWear.put 0 x p.wear
                      pace.planF := t.pace.planF.put 0 x p.floor,
                      pace.sNum := t.pace.sNum.put 0 x p.sNum, pace.sDen := t.pace.sDen.put 0 x p.sDen,
                      pace.trim := p.trims.zipIdx.foldl (fun (m : Map Nat) (e : Nat × Nat) => m.put 65536 (key2 x e.2) e.1) t.pace.trim }
    t.wr R.PT_EQH [x] (min (2 ^ 32 - 1) (p.eq / (36 * 1000000000)))
  | none =>
    { s.set F.PT_VCORE_VFLOOR [x] (Config.factoryFloor x) with
      pace.mustPlan := setBit s.pace.mustPlan x true, pace.rebuild := setBit s.pace.rebuild x true }

end State

/-! ## The commands -/

/-- FLASH_READ_PAGE: op 0 of PB_FLASH_CMD (R160). -/
def execFlashReadPage (s : State) : Out := done (fun s => onlyIf s.powered (fun s => s.flashStart 0) s) s

/-- FLASH_PROGRAM_PAGE: op 1 (R158, R160). -/
def execFlashProgramPage (s : State) : Out := done (fun s => onlyIf s.powered (fun s => s.flashStart 1) s) s

/-- FLASH_ERASE_SECTOR: op 2 (R158, R160). -/
def execFlashEraseSector (s : State) : Out := done (fun s => onlyIf s.powered (fun s => s.flashStart 2) s) s

/-- FLASH_COMMIT: op 3 (R159, R160). -/
def execFlashCommit (s : State) : Out := done (fun s => onlyIf s.powered (fun s => s.flashStart 3) s) s

/-- FLASH_OP_DONE: the operation under way ends, which waits while Patina is writing; GO reads 0 and FLASH_DONE is raised
(R127, R159, R160). -/
def execFlashOpDone (s : State) : Out :=
  done (fun s =>
    match if s.patinaWrites then none else s.load.flashOp with
    | none => s
    | some (op, a) =>
      let t := { s.set F.PB_FLASH_CMD_GO [] 0 with load.flashOp := none }
      let buf := s.flashBuffer
      let r : State × Bool :=
        if op = 0 then
          ((leWords (t.flashGet a 256) 64).zipIdx.foldl (fun (u : State) (e : Word × Nat) => u.wr R.PB_FLASH_DATA [e.2] e.1.toNat) t, true)
        else if op = 1 then
          let u := t.flashProgram a (buf.take 256)
          (u, u.flashRead a 256 == buf.take 256)
        else if op = 2 then (t.flashErase a, true)
        else t.flashCommit a buf
      let u := if r.2 then r.1 else r.1.set F.PB_FLASH_CMD_ERROR [] 1
      u.raise F.PB_EVT_FLASH_DONE []) s

/-- PB_FUSE_PROG is honoured: in RUN, once feature FUSE_PROG has been accepted (R160, R465). -/
def State.fuseOpen (s : State) : Bool := s.running && s.accepted 0 24

/-- A fuse operation of PB_FUSE_PROG; `ok` says that the fuses verified (R160). -/
def State.fuseOp (s : State) (slot op : Nat) (ok : Bool) (f : State → State) : State :=
  if s.fuseOpen then
    let t := (s.set F.PB_FUSE_PROG_SLOT [] slot).set F.PB_FUSE_PROG_OP [] op
    if ok then f t else t.set F.PB_FUSE_PROG_ERROR [] 1
  else s

/-- FUSE_KEY_PROGRAM: a key slot takes its hash from the first 48 bytes of PB_FLASH_DATA; a programmed slot fails. -/
def execFuseKeyProgram (slot : Nat) (ok : Bool) (s : State) : Out :=
  done (fun s =>
    let k := slot % 4
    s.fuseOp k 1 (ok && !bit (s.get F.PB_FUSE_KEYS_PROGRAMMED []) k) (fun s =>
      { s.set F.PB_FUSE_KEYS_PROGRAMMED [] (s.get F.PB_FUSE_KEYS_PROGRAMMED [] + 2 ^ k) with
        fuse.hash := s.fuse.hash.put 0 k (ofBe (s.flashBuffer.take 48)) })) s

/-- FUSE_KEY_REVOKE: a key slot is revoked. -/
def execFuseKeyRevoke (slot : Nat) (ok : Bool) (s : State) : Out :=
  done (fun s =>
    let k := slot % 4
    s.fuseOp k 2 ok (fun s => s.set F.PB_FUSE_KEYS_REVOKED [] (setBit (s.get F.PB_FUSE_KEYS_REVOKED []) k true))) s

/-- FUSE_SECVER_RAISE: the minimum security version rises by one, up to 64. -/
def execFuseSecverRaise (ok : Bool) (s : State) : Out :=
  done (fun s =>
    s.fuseOp (s.get F.PB_FUSE_PROG_SLOT []) 3 (ok && decide (s.get F.PB_FUSE_SECVER_MIN [] < 64)) (fun s =>
      s.set F.PB_FUSE_SECVER_MIN [] (s.get F.PB_FUSE_SECVER_MIN [] + 1))) s

/-- PLAN_RECORD_SAVE: Patina writes the record of die `d.1` to retention memory and to the wear sector that does not hold
the newer set, which takes `d.2` µs, at most 50 ms (R56, R127). Log 36 (DESIGN CHOICE). -/
def execPlanRecordSave (d : Nat × Nat) (s : State) : Out :=
  done (fun s =>
    let (x, us) := d
    onlyIf (s.powered && s.live x && bit s.pace.saveDue x && !s.patinaWrites && decide (us ≤ 50000)) (fun s =>
      let stamp := s.nextStamp
      let p : PlanRec :=
        { stamp := stamp, eq := s.pace.eq.at 0 x, wear := s.get F.PT_WEAR_WEAR_MV [x], vfloor := s.get F.PT_VCORE_VFLOOR [x],
          trims := (List.range trimGroups).map fun g => s.pace.trim.at 65536 (key2 x g),
          sNum := s.pace.sNum.at 0 x, sDen := s.pace.sDen.at 0 x, reserve := s.get F.PT_RESERVE_RESERVE_MV [x],
          state := s.get F.PT_RESERVE_STATE [x], years := s.get F.PT_RESERVE_YEARS [x], time := s.rd R.PT_PLANTIME [x],
          floor := s.pace.planF.at 0 x }
      let t := { s with pace.saveDue := setBit s.pace.saveDue x false, pace.saveSec := s.pace.saveSec.put 0 x 0,
                        pace.saveEnd := s.clock.tick + us * 1000 }
      (t.retWrite (State.planAt x) p.bytes).writeSet stamp x p.bytes) s) s

namespace State

/-- The word of the load report at PB_RPT_ADDR, whose layout is not stated; the address advances (R160).
Log 37 (DESIGN CHOICE). -/
def reportRead (s : State) : State :=
  let a := s.get F.PB_RPT_ADDR_WORD []
  let w := Config.reportWord (s.load.report.map fun e => [e.typ, e.die, e.inst, e.status, e.us])
    ([s.load.imageId, s.load.seq, s.load.slot, s.get F.PB_STATUS_FAIL [], s.load.skipped, s.load.tries]
      ++ s.load.ended.flatMap fun e => [e.1, e.2]) a
  let word := if a < 8 + 4 * s.load.report.length then w else 0
  { s.set F.PB_RPT_ADDR_WORD [] ((a + 1) % 2 ^ 14) with out := { s.out with readData := word % 2 ^ 32 } }

end State

/-- REPORT_DATA_READ: a read of PB_RPT_DATA (R160). -/
def execReportDataRead (s : State) : Out := done (fun s => onlyIf s.powered (fun s => s.reportRead) s) s

end Sys2Proof.Machine
end

