-- ==== Sys2Proof/Machine/Command.lean ====
section
/-! DEFINITION. The operations of a TABLE queue, of microcode's TOP and of the injections: their descriptors, who may ask
for them, and what they do (R474, R476, R480, R481, R483, R487, R491, R501). -/

namespace Sys2Proof.Machine

/-! ## Fields of a 64-byte descriptor (R474, R480) -/

def entOp (e : Nat) : Nat := bits e 7 0
def entInd (e : Nat) : Bool := bit e 9
def entCount (e : Nat) : Nat := bits e 28 16
def entDie (e : Nat) : Nat := bits e 39 32
def entAddr (e : Nat) : Nat := bits e 191 128
def entLen (e : Nat) : Nat := bits e 223 192
def entArg (e : Nat) : Nat := bits e 255 224
def entTbl (e : Nat) : Nat := bits e 263 256
def entSub (e : Nat) : Nat := bits e 271 264

/-- The 24 bytes of PARAM that can hold an entry. -/
def entInline (e : Nat) : Nat := bits e 511 320

/-- The operation reads or writes one table. -/
def opHasTable (op : Nat) : Bool := decide (1 ≤ op) && decide (op ≤ 4)

/-- Tables that carry their key inside the entry (R481). -/
def keyedTable (t : Nat) : Bool := t == 1 || t == 7 || t == 8 || t == 14 || t == 15

/-- The operation comes with an entry: every write and insert, and a delete or a read by key. -/
def opHasEntry (op t : Nat) : Bool :=
  op == 2 || op == 3 || ((op == 1 || op == 4) && keyedTable t)

/-- The entry travels in PARAM (R476). Log 139 (DEDUCED). -/
def entryInline (op t : Nat) : Bool := opHasEntry op t && decide (entrySize t ≤ 24)

/-- Data that the operation reads: 0 none, 1 of a fixed size, 2 of a size of its own. Log 139 (DEDUCED). -/
def opReads (e : Nat) : Nat :=
  let op := entOp e
  if opHasTable op then (if opHasEntry op (entTbl e) && !entryInline op (entTbl e) then 1 else 0)
  else if op = 6 ∨ op = 8 ∨ op = 0x40 then 2
  else if op = 9 then (if entSub e = 1 ∨ entSub e = 3 then 2 else 0)
  else 0

/-- The operation writes data into its fragments. -/
def opWrites (e : Nat) : Bool := entOp e == 1 || (entOp e == 9 && entSub e == 0) || entOp e == 0x20

/-- The operation has data, so IND is set (R476). -/
def opHasData (e : Nat) : Bool := opReads e != 0 || opWrites e

/-- LEN is a size that the operation requires (R480, R484, R487). -/
def lenOk (typ : Nat) (e : Nat) : Bool :=
  let n := entLen e
  let op := entOp e
  if !opHasData e then n == 0
  else if opHasTable op then n == entrySize (entTbl e)
  else if op = 8 then decide (1 ≤ n) && decide (n ≤ 2048)
  else if op = 9 then (if entSub e = 3 then n == 512 else decide (1 ≤ n) && decide (n ≤ 65536) && n % 256 == 0)
  else if op = 0x20 then
    (if typ = 3 then decide (256 ≤ n) else if typ = 4 then n % 128 == 0 && n != 0 else if typ = 5 then n % 320 == 0 && n != 0
      else n % 64 == 0 && n != 0)
  else n != 0

/-- Bits of PARAM that the operation uses. -/
def paramMask (e : Nat) : Nat :=
  let op := entOp e
  let t := entTbl e
  let sub := 0xFF * 2 ^ 8
  if opHasTable op then
    let s := if t = 4 ∨ t = 5 ∨ t = 6 ∨ t = 13 ∨ t = 21 then sub else if t = 11 ∧ op = 2 then 2 ^ 8 else 0
    0xFF + s + (if entryInline op t then (2 ^ (8 * entrySize t) - 1) * 2 ^ 64 else 0)
  else if op = 6 ∨ op = 7 ∨ op = 9 then sub
  else if op = 8 then sub + (2 ^ 64 - 1) * 2 ^ 64
  else if op = 0x40 then
    0xFF + (2 ^ 28 - 1) * 2 ^ 32 + (2 ^ 48 - 1) * 2 ^ 64 + (2 ^ 30 - 1) * 2 ^ 128 + 0xFFFF * 2 ^ 160
  else 0

/-- The operation is valid for a queue of the type (R467, R480, R481). Log 140 (DEDUCED). -/
def opValid (typ e : Nat) : Bool :=
  let op := entOp e
  if typ = 1 then
    if opHasTable op then opListed op (entTbl e)
    else if op = 9 then decide (entSub e ≤ 3) else decide (5 ≤ op) && decide (op ≤ 10)
  else if typ = 2 then op == 0x40
  else decide (3 ≤ typ) && decide (typ ≤ 6) && op == 0x20

/-- A malformation of an entry that its 64 bytes show, by REASON (R491). Log 137 (DESIGN CHOICE), 138 (DEDUCED). -/
def malformed (typ e : Nat) : Option Nat :=
  let p := bits e 511 256
  let rx := entOp e == 0x20
  if !opValid typ e then some 1
  else if bits e 15 12 ≠ 0 ∨ bits e 31 29 ≠ 0 ∨ bits e 63 40 ≠ 0 ∨ p - (p &&& paramMask e) ≠ 0 ∨ (rx ∧ entArg e ≠ 0) then some 2
  else if entInd e ≠ opHasData e then some 3
  else if entInd e ∧ (entCount e = 0 ∨ 4096 < entCount e) then some 3
  else if !entInd e ∧ (entCount e ≠ 0 ∨ entAddr e ≠ 0 ∨ entLen e ≠ 0) then some 3
  else if !lenOk typ e then some 4
  else if (entInd e ∧ entAddr e % 16 ≠ 0) ∨ (entOp e = 8 ∧ bits e 383 320 % 64 ≠ 0) then some 5
  else if (12 < entDie e ∧ entDie e ≠ 0xFF) ∨ (entDie e ≠ 0xFF ∧ !(opHasTable (entOp e) && hasDieField (entTbl e))) then some 9
  else none

/-- A malformation of a fragment table, by REASON (R475, R491): 16-byte entries as numbers. Log 137 (DESIGN CHOICE). -/
def fragFault (len : Nat) (fs : List Nat) : Option Nat :=
  if fs.any fun f => bits f 127 88 != 0 then some 2
  else if (fs.map fun f => bits f 87 64).sum ≠ len then some 4
  else if fs.any fun f => bits f 87 64 == 0 then some 6
  else none

/-- The fragments of a table's bytes. -/
def fragWords (bs : List Byte) : Nat → List Nat
  | 0 => []
  | n + 1 => ofLe (bs.take 16) :: fragWords (bs.drop 16) n

/-- The operation as a table operation: its entry from PARAM or from the data. Log 139 (DEDUCED). -/
def entTOp (e : Nat) (data : List Byte) : TOp :=
  let t := entTbl e
  { op := entOp e, tbl := t, sub := entSub e, die := entDie e, arg := entArg e
    data := if entryInline (entOp e) t then entInline e % 2 ^ (8 * entrySize t) else ofLe data }

/-- The class of an operation (R481). -/
def opClass (e : Nat) : Nat :=
  let op := entOp e
  if op = 1 then 0 else if opHasTable op then tableClass (entTbl e)
  else if op = 5 then 3 else if 6 ≤ op ∧ op ≤ 8 then 5 else if op = 9 then 10 else 11

/-- How an operation ends: at once, with a status, RESULT0 and the bytes it gives out; when every die has applied its
writes; in the ordered store's queue; or not yet, because the flash is busy. -/
inductive OpAns where
  | now (status r0 : Nat) (out : List Byte)
  | seq (r0 : Nat)
  | wait
  | busy
  deriving DecidableEq, Repr

namespace State

/-- The tenants that an operation names (R501). Log 140 (DEDUCED). -/
def opTenants (s : State) (e : Nat) (data : List Byte) : List Nat :=
  let o := entTOp e data
  if opHasTable o.op then
    if o.tbl = 3 ∨ o.tbl = 18 ∨ o.tbl = 20 ∨ o.tbl = 22 then [o.arg]
    else if o.tbl = 2 then [bits (if o.op = 1 then s.tab 12 .spTab o.arg else o.data) 62 49]
    else if o.tbl = 14 then [bits o.data 337 324]
    else []
  else if o.op = 0x40 then [bits (s.tab 12 .spTab (bits e 303 288)) 62 49]
  else []

/-- Function `fn` may not ask for the operation (R501). NOP names no class and is always permitted; an entry whose function has
been reset was permitted before (R493). -/
def notPermitted (s : State) (fn e : Nat) (data : List Byte) : Bool :=
  fn != 0 && decide (fn < 16) &&
    ((entOp e != 0x0A && !bit (s.get F.RC_FN_OPS_CLASSES [fn]) (opClass e))
      || (s.opTenants e data).any fun t =>
        let base := s.get F.RC_FN_TEN_BASE [fn]
        decide (t < base) || decide (base + s.get F.RC_FN_TEN_COUNT [fn] ≤ t))

/-- The feature bit an operation needs (R465). Log 143 (DEDUCED). -/
def opFeature (e : Nat) : Option Nat :=
  let op := entOp e
  if 2 ≤ op ∧ op ≤ 4 ∧ 23 ≤ entTbl e then some 22
  else if 2 ≤ op ∧ op ≤ 5 then some 21
  else if 6 ≤ op ∧ op ≤ 8 then some 25
  else if op = 9 ∧ entSub e ≠ 0 then some 23
  else none

/-- The features an operation of function `fn` needs have been accepted (R466): a write of microcode needs both bits; those of
an entry whose function has been reset were (R493). Log 143 (DEDUCED). -/
def featureOn (s : State) (fn e : Nat) : Bool :=
  decide (16 ≤ fn) || match opFeature e with
  | none => true
  | some 22 => s.accepted fn 22 && s.accepted fn 21
  | some b => s.accepted fn b

/-- The status with which an operation of a queue ends before it is looked at: absent unit, permission, feature, mode
(R463, R466, R501). Log 136 (DEDUCED). -/
def opBarred (s : State) (fn e : Nat) (data : List Byte) : Option Nat :=
  let op := entOp e
  let o := entTOp e data
  let absent := if opHasTable op then s.unitAbsent o else s.variant == .e && decide (6 ≤ op) && decide (op ≤ 8)
  let writes := (decide (2 ≤ op) && decide (op ≤ 7)) || op == 0x40
  if absent then some 1
  else if s.notPermitted fn e data then some 2
  else if !s.featureOn fn e then some 3
  else if writes && s.mode == .halt then some 4
  else none

/-! ## Awl sets (R261) -/

/-- Why a set write is refused before its data is read. -/
def setRefused (s : State) (a : Nat) : Option Nat := if 16 ≤ a then some 0x0E else if s.setInUse a then some 0x13 else none

/-- SET_WRITE with its data; the slot takes LOADING, or keeps state `old` when the payload is refused. -/
def setWrite (s : State) (a old : Nat) (data : List Byte) : Nat × State :=
  let back := s.set F.AW_SET_CFG_STATE [a] old
  match setHead data with
  | none => (0x08, back)
  | some h =>
    if 512 < h.base + h.blocks then (0x08, back)
    else if s.setOverlaps a h.base h.blocks then (0x14, back)
    else (0, s.putSet a data h 1)

/-- SET_VALIDATE: the image's CRC makes the slot LOADED, and its shadow is made (R261, R262). -/
def setValidate (s : State) (a : Nat) : Nat × State :=
  if 16 ≤ a then (0x0E, s)
  else if s.setState a ≠ 1 then (0x15, s)
  else if crc32c (s.awl.image.at [] a) ≠ s.rd R.AW_SET_CRC [a] then (0x08, s)
  else (0, (s.set F.AW_SET_CFG_STATE [a] 2).shadowSet a)

/-- SCAN of a window with q + SKIP = 0 (R480): the result record and the 64 bytes of the match list. One that meets an
uncorrectable error ends with cause 6 (R262). Log 242 (DESIGN CHOICE). -/
def scanData (s : State) (a : Nat) (data : List Byte) : OpAns × State :=
  if a < 16 ∧ s.awl.opBad.contains a then
    (.now 0 (2 ^ 20 + 6 * 2 ^ 17 + a * 2 ^ 12 + data.length) (List.replicate 64 0), { s with awl.opBad := s.awl.opBad.filter (· != a) })
  else if 16 ≤ a ∨ s.setState a ≠ 2 then (.now 0x15 0 [], s)
  else
    let r := s.awlScan a data 0
    let list := r.list.flatMap fun m => leBytes m 4
    (.now 0 r.record (slice list 0 64), s.countScan a data.length r.count none)

/-! ## Flash in bulk (R158, R159, R480) -/

/-- FLASH operation `op` at page `p` with data, of `n` bytes for a read. Log 145 (DEDUCED). -/
def flashBulk (s : State) (op p n : Nat) (data : List Byte) : OpAns × State :=
  let a := p * 256
  let pages := if op = 2 ∨ op = 3 then [a] else (List.range (n / 256)).map fun i => a + 256 * i
  if s.load.flashOp.isSome || s.patinaWrites || s.tack.copy == .writing then (.busy, s)
  else if pages.any fun x => s.flashRefused op x then (.now 0x17 0 [], s)
  else if op = 0 then (.now 0 n (s.flashRead a n), s)
  else if op = 1 then
    let t := s.flashProgram a data
    (.now (if t.flashRead a n = data then 0 else 0x18) 0 [], t)
  else if op = 2 then (.now 0 0 [], s.flashErase a)
  else
    let r := s.flashCommit a data
    (.now (if r.2 then 0 else 0x18) 0 [], r.1)

/-! ## The operations -/

/-- A bank, a set or a port that SUB names and that does not exist. Log 140 (DEDUCED). -/
def subBad (o : TOp) : Bool :=
  ((o.tbl == 4 || o.tbl == 5 || o.tbl == 6) && decide (2 ≤ o.sub)) || (o.tbl == 13 && decide (16 ≤ o.sub))
    || (o.tbl == 21 && decide (64 ≤ o.sub))

/-- Carry out an operation of a TABLE queue; `who` waits for its answer, and `old` is the state of the set that a SET_WRITE
found. Log 143 (DEDUCED). -/
def opRun (s : State) (who : Who) (e : Nat) (data : List Byte) (old : Nat) : OpAns × State :=
  let o := entTOp e data
  let ans := fun (r : TAns × State) =>
    ((match r.1 with | .now st r0 => OpAns.now st r0 [] | .seq r0 => .seq r0 | .wait => .wait), r.2)
  match o.op with
  | 1 =>
    if subBad o then (.now 0x0E 0 [], s)
    else
      let r := s.tableRead o
      if r.1 = 0 then (.now 0 (entrySize o.tbl) (leBytes r.2.1 (entrySize o.tbl)), r.2.2) else (.now r.1 0 [], r.2.2)
  | 2 | 3 | 4 =>
    if subBad o then (.now 0x0E 0 [], s)
    else
      let r := ans (s.tableOp who o)
      -- a write of the control store's or program memory's Tree copy waits for a Stitcher reset (R455)
      match r.1 with
      | .now 0 _ _ => if 23 ≤ o.tbl then (r.1, r.2.set F.ST_UCODE_STAT_PENDING [] 1) else r
      | _ => r
  | 5 => ans s.bankCopy
  | 6 => let r := s.setWrite o.sub old data; (.now r.1 0 [], r.2)
  | 7 => let r := s.setValidate o.sub; (.now r.1 0 [], r.2)
  | 8 => s.scanData o.sub data
  | 9 => s.flashBulk o.sub o.arg (entLen e) data
  | _ => (.now 0 0 [], s)

/-! ## Reinjection (R444, R487) -/

/-- A frame asks for the reinjection queue of a slice: 0 accepted, 1 FULL, 2 BAD. Log 107 (DEDUCED). -/
def reinject (s : State) (m : Meta) (bytes : List Byte) : Nat × State :=
  let d := m.slice / 4
  -- an orderly DRAIN that has come to its end takes no more (R104)
  let full := !s.forwarding || s.modes.odrain.any (·.ended) || decide (64 ≤ (s.sl.reinj.at [] m.slice).length)
  if !s.live d || 8 ≤ d || 2 ≤ m.colour || bytes.length < 60 || 15996 < bytes.length then (2, s)
  else if full then (1, s)
  else
    let f : Frame := { m := { m with reinj := true, len0 := bytes.length }, bytes := bytes, brand := crc32c bytes }
    (0, { s with sl.reinj := s.sl.reinj.put [] m.slice (s.sl.reinj.at [] m.slice ++ [f]) }.treeTransfer d 1)

end State

end Sys2Proof.Machine
end

