-- ==== Sys2Proof/Machine/RingOps.lean ====
section
/-! DEFINITION. The commands of the Ring Complex: negotiation, queues and doorbells, entries, table operations, receive
buffers, injections and completions (R464 to R493, R515 to R517). -/

namespace Sys2Proof.Machine

namespace State

/-! ## Queues (R467 to R473, R489, R490) -/

/-- The function's queues of a type can be enabled (R465, R467). -/
def typeAccepted (s : State) (fn typ : Nat) : Bool :=
  if typ = 1 then true
  else match typ with
    | 2 => s.accepted fn 20
    | 3 => s.accepted fn 16
    | 4 => s.accepted fn 17
    | 5 => s.accepted fn 18
    | 6 => s.accepted fn 19
    | _ => false

/-- The LOG2 of a ring is 4 to 16 (R467). -/
def logOk (n : Nat) : Bool := decide (4 ≤ n) && decide (n ≤ 16)

/-- The Ring Complex answers register writes: the dies are powered. -/
def ringPowered (s : State) : Bool := s.powered && s.live 12

/-- Enable SQ `q` by a write of `v` (R469); EN leaves IDLE as started entries tell. Log 141 (DEDUCED). -/
def enableSq (s : State) (by_ q v : Nat) : State :=
  let fn := if by_ = 0 then bits v 21 18 else s.sqFn q
  let c := bits v 10 0
  let ok := s.driverOk fn && s.typeAccepted fn (bits v 30 27) && logOk (bits v 26 22) && s.isOn F.RC_CQ_CFG_EN [c]
    && s.get F.RC_CQ_CFG_FN [c] == fn
  if ok then (s.wr R.RC_SQ_CFG [q] (setBits (v &&& R.RC_SQ_CFG.rw) 21 18 fn)).showIdle q
  else s.set F.RC_SQ_STAT_CFG_REFUSED [q] 1

/-- A CQ's or an event ring's configuration may be enabled (R469). -/
def ringCfgOk (s : State) (fn v : Nat) : Bool :=
  s.driverOk fn && logOk (bits v 29 25) && (!bit v 30 || decide (bits v 10 0 < vectors fn))

/-- Enable CQ `c`. Log 141 (DEDUCED). -/
def enableCq (s : State) (by_ c v : Nat) : State :=
  let fn := if by_ = 0 then bits v 24 21 else s.get F.RC_CQ_CFG_FN [c]
  if s.ringCfgOk fn v then s.wr R.RC_CQ_CFG [c] (setBits (v &&& R.RC_CQ_CFG.rw) 24 21 fn)
  else s.set F.RC_CQ_STAT_CFG_REFUSED [c] 1

/-- Enable event ring `r`. Log 141 (DEDUCED). -/
def enableEr (s : State) (by_ r v : Nat) : State :=
  let fn := if by_ = 0 then bits v 24 21 else s.get F.RC_ER_CFG_FN [r]
  if s.ringCfgOk fn v then s.wr R.RC_ER_CFG [r] (setBits (v &&& R.RC_ER_CFG.rw) 24 21 fn)
  else s.set F.RC_ER_STAT_CFG_REFUSED [r] 1

/-- Function `fn` sees the registers of a queue that belongs to `own` (R462, R468). -/
def seesQueue (fn own : Nat) : Bool := fn == 0 || fn == own

/-- A write of a queue's configuration that sets EN (R469): kind 0 SQ, 1 CQ, 2 event ring. A queue that is enabled
already keeps its settings. Log 141 (DEDUCED). -/
def enableQueue (s : State) (kind fn q v : Nat) : State :=
  match kind with
  | 0 =>
    if 2048 ≤ q ∨ !seesQueue fn (s.sqFn q) then s
    else if s.isOn F.RC_SQ_CFG_EN [q] then
      if v &&& R.RC_SQ_CFG.rw = s.rd R.RC_SQ_CFG [q] then s else s.set F.RC_SQ_STAT_CFG_REFUSED [q] 1
    else s.enableSq fn q v
  | 1 =>
    if 2048 ≤ q ∨ !seesQueue fn (s.get F.RC_CQ_CFG_FN [q]) then s
    else if s.isOn F.RC_CQ_CFG_EN [q] then
      if v &&& R.RC_CQ_CFG.rw = s.rd R.RC_CQ_CFG [q] then s else s.set F.RC_CQ_STAT_CFG_REFUSED [q] 1
    else s.enableCq fn q v
  | _ =>
    if 64 ≤ q ∨ !seesQueue fn (s.get F.RC_ER_CFG_FN [q]) then s
    else if s.isOn F.RC_ER_CFG_EN [q] then
      if v &&& R.RC_ER_CFG.rw = s.rd R.RC_ER_CFG [q] then s else s.set F.RC_ER_STAT_CFG_REFUSED [q] 1
    else s.enableEr fn q v

/-- EN is cleared on an SQ (R489, R519): a partly filled buffer completes, the others are handed back with HEAD at the first
of them, and a parked entry ends ABORTED. Log 142 (DEDUCED). -/
def disableSq (s : State) (q : Nat) : State :=
  if !s.isOn F.RC_SQ_CFG_EN [q] then s
  else
    let s := s.set F.RC_SQ_CFG_EN [q] 0
    let parked := s.rc.jobs.filter fun j => j.q == q && s.parked (· == Who.entry q j.idx)
    let s := forEach parked (fun j t => t.finishJob j 0x1D 0 0) s
    let lost := s.rc.recs.at [] q
    -- the buffer is parked, or a record has been written into it in part: it ends ABORTED (R519)
    let halfWay := s.parked (· == Who.rx q) || lost.head?.any fun r => r.moved != 0
    let s := { s with rc.recs := s.rc.recs.erase q }
    let s := s.dropWaits fun w => w == .rx q || w == .fetch q
    let s := match s.rc.bufs.at [] q with
      | b :: _ => if halfWay then s.closeBuf q 0x1D 0 0 else if 0 < b.recs then s.closeBuf q 0 0 0 else s
      | [] => s
    let s := forEach lost (fun r t => t.rxLost q { r with moved := 0 }) s
    -- receive entries that hold nothing are not taken after all
    let rx := (s.rc.jobs.filter fun j => j.q == q && entOp j.ent == 0x20).map (·.idx)
    let first := ((s.rc.bufs.at [] q).map (·.idx) ++ rx).head?
    let rc := { s.rc with
      bufs := s.rc.bufs.erase q, fetched := s.rc.fetched.keep fun k => k / 2 ^ 40 != q
      jobs := s.rc.jobs.filter fun j => !(j.q == q && entOp j.ent == 0x20) }
    let s := { s with rc := rc }.set F.RC_SQ_STAT_PARKED [q] 0
    let s := match first with | some i => s.set F.RC_SQ_STAT_HEAD [q] i | none => s
    s.showIdle q

/-- EN is cleared on a CQ: refused while a bound SQ is enabled or not IDLE (R490); its fences are lost, those not yet due too
(R482). Log 142 (DEDUCED). -/
def disableCq (s : State) (c : Nat) : State :=
  if !s.isOn F.RC_CQ_CFG_EN [c] then s
  else if (List.range 2048).any fun q => s.get F.RC_SQ_CFG_CQ [q] == c && (s.isOn F.RC_SQ_CFG_EN [q] || !s.isOn F.RC_SQ_STAT_IDLE [q]) then
    s.set F.RC_CQ_STAT_CFG_REFUSED [c] 1
  else
    let lost := (s.rc.fences.filter fun f => f.c.cq == c).length
    let rc := { s.rc with
      fences := s.rc.fences.filter fun f => f.c.cq != c
      cqNew := s.rc.cqNew.erase c, cqFirst := s.rc.cqFirst.erase c }
    ({ s with rc := rc, xl.stuck := s.xl.stuck.filter (· != c) }.set F.RC_CQ_CFG_EN [c] 0).inc R.RC_FENCE_LOST [] lost

/-- The entry at the head of an SQ is taken (R472, R473, R478). -/
def takeEntry (s : State) (q : Nat) : State :=
  let n := s.sqLog q
  let idx := s.sqHead q
  let c := s.get F.RC_SQ_CFG_CQ [q]
  match s.rc.fetched.find? (key2 q idx) with
  | none => s
  | some (ent, covered) =>
    if ringCount n (s.sqTail q) idx = 0 then s
    else if b2n (bit ent 8) ≠ ringO n idx then
      if covered then s.ringHalt 7 (s.sqFn q) q idx ent
      else ({ s with rc.fetched := s.rc.fetched.erase (key2 q idx) }.inc R.RC_REFETCH []).countKind 168 2 1
    else
      let busy := s.rc.jobs.any fun j => j.q == q
      if s.sqParked q || !s.mayStart c || (bit ent 10 && (busy || !(s.rc.bufs.at [] q).isEmpty)) then s
      else match malformed (s.get F.RC_SQ_CFG_TYPE [q]) ent with
        | some r => s.ringHalt r (s.sqFn q) q idx ent
        | none =>
          let j : Job := { q := q, idx := idx, ent := ent, cq := c, fn := s.sqFn q, pas := s.sqPas q, at_ := s.clock.tick }
          let rc := { s.rc with fetched := s.rc.fetched.erase (key2 q idx), jobs := s.rc.jobs ++ [j] }
          (({ s with rc := rc }.set F.RC_SQ_STAT_HEAD [q] (ringNext n idx)).countKind 168 0 1).showIdle q

/-- Fetch entry `i` beyond the head of an SQ: up to 16 beyond the tail, within the ring (R472, R515). Log 144 (DEDUCED). -/
def fetchEntry (s : State) (q i : Nat) (ur : Bool) : State :=
  let n := s.sqLog q
  let cnt := ringCount n (s.sqTail q) (s.sqHead q)
  let idx := (s.sqHead q + i) % 2 ^ (n + 1)
  if 2 ^ n ≤ i ∨ cnt + 16 ≤ i ∨ (s.rc.fetched.find? (key2 q idx)).isSome ∨ s.waiting (.fetch q) then s
  else
    let va := s.sqBase q + 64 * (idx % 2 ^ n)
    let x := s.dmaGet (.fetch q) (s.sqFn q) (s.sqPas q) [(va, 64)] 0 64 ur
    if x.2.1 = 0 then { x.2.2 with rc.fetched := x.2.2.rc.fetched.insert (key2 q idx) (ofLe x.1, decide (i < cnt)) } else x.2.2

/-! ## Entries that have been taken (R474 to R483, R515) -/

/-- The job of an SQ entry, when its own operation is `op` and nothing holds it. -/
def jobOf (s : State) (q i : Nat) (op : Nat → Bool) : Option Job :=
  if s.ringUp then (s.rc.jobs.find? fun j => j.q == q && j.idx == i && op j.ent).filter fun _ => !s.waiting (.entry q i)
  else none

/-- Bring in a job's fragment table, then its data; go on with `k` when all of it is here, or with `xl` on a translation
error (R475, R515). -/
def withData (s : State) (j : Job) (ur : Bool) (xl : State → Job → State) (k : Job → State → State) : State :=
  let who := Who.entry j.q j.idx
  let data := fun (t : State) (j : Job) (fr : List (Nat × Nat)) =>
    if opReads j.ent = 0 ∨ entLen j.ent ≤ j.got.length then k j (t.setJob j)
    else
      let x := t.dmaGet who j.fn j.pas fr j.got.length (entLen j.ent - j.got.length) ur
      let j := { j with got := j.got ++ x.1 }
      if x.2.1 = 0 then k j (x.2.2.setJob j) else if x.2.1 = 1 then x.2.2.setJob j else xl x.2.2 j
  if !entInd j.ent then k j s
  else match j.frags with
    | some fr => data s j fr
    | none =>
      let n := entCount j.ent
      let x := s.dmaGet who j.fn j.pas [(entAddr j.ent, 16 * n)] 0 (16 * n) ur
      if x.2.1 = 1 then x.2.2
      else if x.2.1 ≠ 0 then xl x.2.2 j
      else
        let fs := fragWords x.1 n
        match fragFault (entLen j.ent) fs with
        | some r => x.2.2.ringHalt r j.fn j.q j.idx j.ent
        | none =>
          let fr := fs.map fun f => (bits f 63 0, bits f 87 64)
          data x.2.2 { j with frags := some fr } fr

/-- A job ends as XLATE. Log 144 (DEDUCED). -/
def failXlate (s : State) (j : Job) : State := s.finishJob j 0x1C 0 0

/-- Write out what a job gives, then complete it (R515): a scan's list goes to its own address. -/
def giveOut (s : State) (j : Job) : State :=
  let fr := if entOp j.ent = 8 then [(bits j.ent 383 320, 64)] else j.frags.getD []
  let x := s.dmaPut (.entry j.q j.idx) j.fn j.pas fr j.moved (j.put.drop j.moved)
  let j := { j with moved := j.moved + x.1 }
  if x.2.1 = 0 then x.2.2.finishJob j j.status j.r0 j.r1
  else if x.2.1 = 1 then x.2.2.setJob j
  else x.2.2.failXlate j

/-- The answer of an operation reaches its job. -/
def jobAns (s : State) (j : Job) (a : OpAns) : State :=
  match a with
  | .now st r0 [] => s.finishJob j st r0 0
  | .now st r0 out => let j := { j with put := out, stage := 2, status := st, r0 := r0 }; (s.setJob j).giveOut j
  | .seq r0 =>
    let j := { j with stage := 1, r0 := r0, r1 := s.ts.issued }
    if s.ts.issued ≤ s.appliedAll then s.finishJob j 0 r0 (s.ts.issued % 2 ^ 32) else s.setJob j
  | .wait => s.setJob { j with stage := 3 }
  | .busy => s

/-- An object's retire fence is laid (R482). -/
def layFence (s : State) (j : Job) (a : OpAns) : State :=
  match a with
  | .seq _ =>
    if entOp j.ent = 4 ∧ entTbl j.ent = 9 ∧ j.q < 2048 then
      let k : Compl := { cq := j.cq, sq := j.q, slot := j.idx % 2 ^ s.sqLog j.q, fence := true, op := 4
                         cookie := bits j.ent 127 64, r0 := entArg j.ent }
      { s with rc.fences := s.rc.fences ++ [{ ao := entArg j.ent, c := k }] }
    else s
  | _ => s

/-- The operation changes tables (R480). -/
def changesTables (e : Nat) : Bool := decide (2 ≤ entOp e) && decide (entOp e ≤ 5)

/-- An earlier entry of the same SQ that changes tables has not entered the sequence yet: the writes of one SQ are applied in
index order (R477). -/
def afterWrite (s : State) (j : Job) : Bool :=
  changesTables j.ent && (s.rc.jobs.takeWhile fun k => !(k.q == j.q && k.idx == j.idx)).any fun k =>
    k.q == j.q && changesTables k.ent && (k.stage == 0 || k.stage == 3)

/-- One step of the job of entry `i` of SQ `q`: `is` says which descriptors the command is for, `ur` that the host answers
an untranslated read with an error (R511). -/
def runJob (q i : Nat) (ur : Bool) (is : Nat → Bool) (s : State) : State :=
  match s.jobOf q i is with
  | none => s
  | some j =>
    if j.stage = 2 then s.giveOut j
    else if j.stage = 1 ∨ j.stage = 3 then s
    else if s.afterWrite j then s
    else
      -- an absent unit has no other effect; what else the data names is looked at when it is here
      match (s.opBarred j.fn j.ent []).filter fun st => st == 1 || opReads j.ent == 0 with
      | some st => s.finishJob j st 0 0
      | none => s.withData j ur failXlate fun j t =>
        match t.opBarred j.fn j.ent j.got with
        | some st => t.finishJob j st 0 0
        | none =>
          let r := t.opRun (.entry j.q j.idx) j.ent j.got 0
          (r.2.layFence j r.1).jobAns j r.1

/-- The TABLE operation is `op`. -/
def isOp (op e : Nat) : Bool := entOp e == op

/-- The FLASH operation has the given SUB; the oldest flash entry goes first (R480). Log 145 (DEDUCED). -/
def flashTurn (s : State) (q i : Nat) : Bool :=
  match s.rc.jobs.find? fun j => entOp j.ent == 9 && j.stage != 2 with
  | some j => (j.q == q && j.idx == i) || s.rc.jobs.any fun j => j.q == q && j.idx == i && j.stage == 2
  | none => true

/-- SET_WRITE, which holds its slot in LOADING while its data comes (R261): the job keeps the slot's old state. -/
def runSetWrite (q i : Nat) (ur : Bool) (s : State) : State :=
  match s.jobOf q i (isOp 6) with
  | none => s
  | some j =>
    let a := entSub j.ent
    let fin := fun (t : State) (j : Job) =>
      let r := t.setWrite a j.status j.got
      r.2.finishJob j r.1 0 0
    let start : Option Nat := if j.stage = 0 then (s.opBarred j.fn j.ent j.got <|> s.setRefused a) else none
    match start with
    | some st => s.finishJob j st 0 0
    | none =>
      let j := if j.stage = 0 then { j with stage := 5, status := s.setState a } else j
      let s := (s.set F.AW_SET_CFG_STATE [a] 1).setJob j
      if s.mode = .halt then (s.set F.AW_SET_CFG_STATE [a] j.status).finishJob j 4 0 0
      else
        s.withData j ur (fun t j => (t.set F.AW_SET_CFG_STATE [a] j.status).failXlate j) fun j t => fin t j

/-- Post a receive buffer (R484): entries of one queue are posted in index order. -/
def postBuffer (q i : Nat) (ur : Bool) (s : State) : State :=
  match s.jobOf q i (isOp 0x20) with
  | none => s
  | some j =>
    if (s.rc.jobs.find? fun k => k.q == q) ≠ some j then s
    else s.withData j ur failXlate fun j t =>
      let b : RxBuf := { idx := j.idx, ent := j.ent, cq := j.cq, fn := j.fn, pas := j.pas, frags := j.frags.getD [], len := entLen j.ent }
      let rc := { t.rc with
        jobs := t.rc.jobs.filter fun k => !(k.q == q && k.idx == i), bufs := t.rc.bufs.put [] q (t.rc.bufs.at [] q ++ [b]) }
      { t with rc := rc }.showIdle q

/-- The metadata of an injected frame (R487). It has been counted in, as a frame that came at its port has (R24, R188).
Log 223 (DEDUCED). -/
def injectMeta (e : Nat) : Meta :=
  { counted := true, rxLen := entLen e + 4, inPort := bits e 312 304, slice := bits e 260 256, t16 := (bits e 367 320 * 1000000000 + bits e 413 384) * 65536 + bits e 431 416
    subport := bits e 303 288, colour := bits e 263 262, pri := bits e 315 313, timeSrc := bit e 261 }

/-- INJECT (R487): with room the frame goes in; else the entry waits. Log 107 (DEDUCED). -/
def runInject (q i : Nat) (ur : Bool) (s : State) : State :=
  match s.jobOf q i (isOp 0x40) with
  | none => s
  | some j =>
    let bad := entLen j.ent < 60 ∨ 15996 < entLen j.ent
    let first : Option Nat := s.opBarred j.fn j.ent [] <|> (if bad then some 0x1A else none)
    match first with
    | some st => s.finishJob j st 0 0
    | none => s.withData j ur failXlate fun j t =>
      let r := t.reinject (injectMeta j.ent) j.got
      match r.1 with
      | 0 => r.2.finishJob j 0 0 0
      | 1 => if j.stage = 4 then t else t.setJob { j with stage := 4, at_ := t.clock.tick }
      | _ => t.finishJob j 0x1A 0 0

/-- The place of the next entry that goes on without its queue. -/
def orphanIdx (s : State) : Nat := 1 + (s.rc.jobs.filter (·.q == 2048)).foldl (fun a k => max a k.idx) 0

/-- The entry goes on inside the device, with no queue and no function: nobody is answered (R493). Log 230 (DEDUCED). -/
def orphan (j : Job) (s : State) : State :=
  let n := s.orphanIdx
  let mine := fun (k : Job) => k.q == j.q && k.idx == j.idx
  let ref := fun (w : OsWait) => if w.ref = .entry j.q j.idx then { w with ref := .entry 2048 n } else w
  { s with
    rc.jobs := s.rc.jobs.map fun k => if mine k then { k with q := 2048, idx := n, cq := 2048, fn := 16 } else k
    osp.waiting := s.osp.waiting.map ref }

/-- What becomes of an entry in flight when its function is reset: it completes inside the device where nothing is to come
from the host or go there; else it is dropped, and a SET_WRITE gives its slot its old state back (R493).
Log 230 (DEDUCED). -/
def flrJob (j : Job) (s : State) : State :=
  let drop := fun (t : State) => { t with rc.jobs := t.rc.jobs.filter fun k => !(k.q == j.q && k.idx == j.idx) }
  let here := opReads j.ent == 0 || j.frags.isSome && decide (entLen j.ent ≤ j.got.length)
  if j.stage = 5 then drop (s.set F.AW_SET_CFG_STATE [entSub j.ent] j.status)
  else if j.stage = 3 ∨ j.stage = 4 then s.orphan j
  else if j.stage ≠ 0 ∨ opWrites j.ent ∨ !here then drop s
  else
    match s.opBarred j.fn j.ent j.got with
    | some _ => drop s
    | none =>
      let t := s.orphan j
      if entOp j.ent = 9 ∧ !t.flashTurn 2048 s.orphanIdx then t else runJob 2048 s.orphanIdx false (fun _ => true) t

/-- The entries in flight of VF `f`, in the order they were taken. Log 230 (DEDUCED). -/
def flrJobs (s : State) (f : Nat) : State := forEach (s.rc.jobs.filter fun j => decide (j.q < 2048) && s.sqFn j.q == f) flrJob s

/-! ## Completions (R477 to R482) -/

/-- The next completion of CQ `c` is written or held; else a due fence is written when the start rule allows it. -/
def writeCompletion (s : State) (c : Nat) : State :=
  match takeFirst (fun (k : Compl) => k.cq == c) s.rc.comp with
  | some (k, r) => ({ s with rc.comp := r }.putCompletion k).showIdle k.sq
  | none =>
    match takeFirst (fun (f : Fence) => f.due && f.c.cq == c) s.rc.fences with
    | some (f, r) => if s.mayStart c then { s with rc.fences := r }.putCompletion f.c else s
    | none => s

/-- The host moves the head of CQ `c` to `v` (R473, R478, R517). -/
def moveCqHead (s : State) (c v : Nat) : State :=
  let n := s.cqLog c
  let v := v % 2 ^ (n + 1)
  if s.cqUsed c < ringCount n v (s.cqHead c) then s.ringHalt 8 (s.get F.RC_CQ_CFG_FN [c]) c v 0
  else
    let t := s.set F.RC_CQ_HEAD_HEAD [c] v
    let t := if t.cqFull c then t else t.level F.RC_CQ_STAT_FULL [c] (0x800 + c) false
    let t := { t with xl.stuck := t.xl.stuck.filter (· != c) }
    if t.waiting (.cq c) then t else drainHold c (t.cqHold c) t

end State

/-! ## Commands: negotiation and queues -/

/-- DRIVER_OK: function `fn` writes FEAT_CTRL.DRIVER_OK (R464). -/
def execDriverOk (fn : Nat) (s : State) : Out :=
  done (fun s =>
    onlyIf (s.ringPowered && (fn == 0 || decide (fn ≤ s.rc.vfs)) && !s.driverOk fn) (fun s =>
      let offered := fun (w : Nat) => if w = 0 then s.offer fn else 0
      let bad := (List.range 8).find? fun w => s.acceptWord fn w - (s.acceptWord fn w &&& offered w) != 0
      if fn = 0 then
        match bad with
        | some w => (s.set F.FEAT_CTRL_REFUSED [] 1).set F.FEAT_CTRL_BAD_WORD [] w
        | none => s.set F.FEAT_CTRL_DRIVER_OK [] 1
      else
        let old := s.rc.vfCtl.at 0 fn
        match bad with
        | some w => { s with rc.vfCtl := s.rc.vfCtl.put 0 fn (setBits (setBit old 30 true) 2 0 w) }
        | none => { s with rc.vfCtl := s.rc.vfCtl.put 0 fn (setBit old 31 true) }.set F.RC_FN_STAT_DRIVER_OK [fn] 1) s) s

/-- QUEUE_ENABLE: function `fn` writes `v`, with EN set, into the configuration of a queue (R469): kind 0 SQ, 1 CQ, 2 event
ring. -/
def execQueueEnable (kind fn q v : Nat) (s : State) : Out :=
  done (fun s => onlyIf (s.ringPowered && bit v 31) (fun s => s.enableQueue kind fn q v) s) s

/-- SQ_DISABLE: EN is cleared on SQ `q` (R489). Log 144 (DEDUCED). -/
def execSqDisable (q : Nat) (s : State) : Out :=
  done (fun s => onlyIf (s.ringPowered && decide (q < 2048)) (fun s => s.disableSq q) s) s

/-- CQ_DISABLE: EN is cleared on CQ `c` (R490). -/
def execCqDisable (c : Nat) (s : State) : Out :=
  done (fun s => onlyIf (s.ringPowered && decide (c < 2048)) (fun s => s.disableCq c) s) s

/-- ER_DISABLE: EN is cleared on event ring `r`, at once (R490). -/
def execErDisable (r : Nat) (s : State) : Out :=
  done (fun s => onlyIf (s.ringPowered && decide (r < 64)) (fun s => s.set F.RC_ER_CFG_EN [r] 0) s) s

/-- SQ_DOORBELL: the host writes tail `v` of SQ `q` (R472). Doorbells written in LOAD are recorded (R463). Log 146 (DEDUCED). -/
def execSqDoorbell (q v : Nat) (s : State) : Out :=
  done (fun s =>
    onlyIf (s.ringPowered && decide (q < 2048) && s.isOn F.RC_SQ_CFG_EN [q] && !s.rcHalted) (fun s =>
      let n := s.sqLog q
      let v := v % 2 ^ (n + 1)
      if 2 ^ n < State.ringCount n v (s.sqHead q) then s.ringHalt 8 (s.sqFn q) q v 0 else s.set F.RC_SQ_TAIL_TAIL [q] v) s) s

/-- SQ_ENTRY_FETCH: the device fetches the entry `i` places beyond the head of SQ `q`, unless it holds it, and takes the
entry at the head when it may (R472, R473). -/
def execSqEntryFetch (q i : Nat) (ur : Bool) (s : State) : Out :=
  done (fun s =>
    onlyIf (s.ringUp && decide (q < 2048) && s.isOn F.RC_SQ_CFG_EN [q] && !s.sqParked q)
      (fun s => (s.fetchEntry q i ur).takeEntry q) s) s

/-- CQ_DOORBELL: the host writes head `v` of CQ `c` (R473). Log 146 (DEDUCED). -/
def execCqDoorbell (c v : Nat) (s : State) : Out :=
  done (fun s =>
    onlyIf (s.ringPowered && decide (c < 2048) && s.isOn F.RC_CQ_CFG_EN [c] && !s.rcHalted) (fun s => s.moveCqHead c v) s) s

/-- ER_HEAD_WRITE: the host writes head `v` of event ring `r` (R473). -/
def execErHeadWrite (r v : Nat) (s : State) : Out :=
  done (fun s =>
    onlyIf (s.ringPowered && decide (r < 64)) (fun s =>
      let t := s.set F.RC_ER_HEAD_HEAD [r] (v % 2 ^ (s.erLog r + 1))
      let full := decide (2 ^ t.erLog r ≤ State.ringCount (t.erLog r) (t.get F.RC_ER_STAT_TAIL [r]) (t.get F.RC_ER_HEAD_HEAD [r]))
      if full then t else t.level F.RC_ER_STAT_FULL [r] (0x500 + r) false) s) s

/-- COMPLETION_WRITE: the oldest completion for CQ `c` is written or held, or a due fence is written (R477, R478, R482). -/
def execCompletionWrite (c : Nat) (s : State) : Out :=
  done (fun s => onlyIf s.ringUp (fun s => s.writeCompletion c) s) s

/-- CQ_COAL_TIMER: COAL.US has passed since the first entry of CQ `c` that no message has told of (R479). -/
def execCqCoalTimer (c : Nat) (s : State) : Out :=
  done (fun s =>
    match s.rc.cqFirst.find? c with
    | some t0 => onlyIf (s.ringUp && decide (s.get F.RC_CQ_COAL_US [c] * 1000 ≤ s.since t0)) (fun s => s.cqMessage c) s
    | none => s) s

/-! ## Commands: table operations. `q` and `i` name the entry, by SQ and index; `ur` is the host's answer to a read. -/

/-- TABLE_READ (R480). -/
def execTableRead (q i : Nat) (ur : Bool) (s : State) : Out := done (fun s => s.runJob q i ur (State.isOp 1)) s

/-- TABLE_WRITE (R480). -/
def execTableWrite (q i : Nat) (ur : Bool) (s : State) : Out := done (fun s => s.runJob q i ur (State.isOp 2)) s

/-- TABLE_INSERT (R480). -/
def execTableInsert (q i : Nat) (ur : Bool) (s : State) : Out := done (fun s => s.runJob q i ur (State.isOp 3)) s

/-- TABLE_DELETE (R480). -/
def execTableDelete (q i : Nat) (ur : Bool) (s : State) : Out := done (fun s => s.runJob q i ur (State.isOp 4)) s

/-- BANK_COPY (R237). -/
def execBankCopy (q i : Nat) (ur : Bool) (s : State) : Out := done (fun s => s.runJob q i ur (State.isOp 5)) s

/-- SET_WRITE (R261). -/
def execSetWrite (q i : Nat) (ur : Bool) (s : State) : Out := done (fun s => s.runSetWrite q i ur) s

/-- SET_VALIDATE (R261). -/
def execSetValidate (q i : Nat) (ur : Bool) (s : State) : Out := done (fun s => s.runJob q i ur (State.isOp 7)) s

/-- SCAN (R480). -/
def execScan (q i : Nat) (ur : Bool) (s : State) : Out := done (fun s => s.runJob q i ur (State.isOp 8)) s

/-- RING_FLASH_READ (R480). -/
def execRingFlashRead (q i : Nat) (ur : Bool) (s : State) : Out :=
  done (fun s => onlyIf (s.flashTurn q i) (fun s => s.runJob q i ur fun e => State.isOp 9 e && entSub e == 0) s) s

/-- RING_FLASH_PROGRAM (R158, R480). -/
def execRingFlashProgram (q i : Nat) (ur : Bool) (s : State) : Out :=
  done (fun s => onlyIf (s.flashTurn q i) (fun s => s.runJob q i ur fun e => State.isOp 9 e && entSub e == 1) s) s

/-- RING_FLASH_ERASE (R158, R480). -/
def execRingFlashErase (q i : Nat) (ur : Bool) (s : State) : Out :=
  done (fun s => onlyIf (s.flashTurn q i) (fun s => s.runJob q i ur fun e => State.isOp 9 e && entSub e == 2) s) s

/-- RING_FLASH_COMMIT (R159, R480). -/
def execRingFlashCommit (q i : Nat) (ur : Bool) (s : State) : Out :=
  done (fun s => onlyIf (s.flashTurn q i) (fun s => s.runJob q i ur fun e => State.isOp 9 e && entSub e == 3) s) s

/-- RING_NOP: completes when started (R480). -/
def execRingNop (q i : Nat) (ur : Bool) (s : State) : Out := done (fun s => s.runJob q i ur (State.isOp 10)) s

/-! ## Commands: receive buffers and injections -/

/-- RX_BUF: the fragment table of a receive entry is read and its buffer posted (R484). -/
def execRxBuf (q i : Nat) (ur : Bool) (s : State) : Out := done (fun s => s.postBuffer q i ur) s

/-- RX_FLUSH_TIMER: RC_RX_FLUSH.US has passed since the first record of the buffer being filled (R484). -/
def execRxFlushTimer (q : Nat) (s : State) : Out :=
  done (fun s =>
    match s.rc.bufs.at [] q with
    | b :: _ =>
      onlyIf (s.ringUp && decide (0 < b.recs) && s.get F.RC_SQ_CFG_TYPE [q] != 3 && !s.sqParked q
        && decide (s.get F.RC_RX_FLUSH_US [] * 1000 ≤ s.since b.at_)) (fun s => s.closeBuf q 0 0 0) s
    | [] => s) s

/-- INJECT (R487). -/
def execInject (q i : Nat) (ur : Bool) (s : State) : Out := done (fun s => s.runInject q i ur) s

/-- INJECT_FULL_TIMEOUT: the reinjection queue has stayed full for 100 µs (R487). -/
def execInjectFullTimeout (q i : Nat) (s : State) : Out :=
  done (fun s =>
    match s.jobOf q i (State.isOp 0x40) with
    | some j => onlyIf (j.stage == 4 && decide (100000 ≤ s.since j.at_)) (fun s => s.finishJob j 0x19 0 0) s
    | none => s) s

/-- SRIOV_ENABLE: the host sets VF Enable for `n` VFs, up to 15, in the SR-IOV capability, once the PF has accepted
bit 28; with 0 it clears it (R461, R465). -/
def execSriovEnable (n : Nat) (s : State) : Out :=
  done (fun s => onlyIf (s.ringPowered && (s.accepted 0 28 || n == 0) && decide (n ≤ State.maxVfs)) (fun s => { s with rc.vfs := n }) s) s

/-- VF_FLR: function-level reset of VF `f` (R493). -/
def execVfFlr (f : Nat) (s : State) : Out :=
  done (fun s => onlyIf (s.ringPowered && decide (1 ≤ f) && decide (f ≤ s.rc.vfs)) (fun s => (s.flrJobs f).vfReset f) s) s

end Sys2Proof.Machine
end

