-- ==== Sys2Proof/Machine/Events.lean ====
section
/-! DEFINITION. Event routing and deliveries, the counting blocks' commands and port bandwidth (R522 to R535). -/

namespace Sys2Proof.Machine

namespace State

/-- The full source of a queue of function `fn`: the only sources a VF may be named for (R468, R524). -/
def fullSourceOf (s : State) (src fn : Nat) : Bool :=
  if 0x800 ≤ src ∧ src < 0x1000 then s.get F.RC_CQ_CFG_FN [src - 0x800] == fn
  else decide (0x500 ≤ src) && decide (src < 0x540) && s.get F.RC_ER_CFG_FN [src - 0x500] == fn

/-- A write of EV_SRC_s that sets EN is ignored in these cases (R524). Log 173 (DEDUCED). -/
def routeRefused (s : State) (src v : Nat) : Bool :=
  let fn := bits v 29 26
  let target := bits v 10 0
  bit v 31 && ((fn != 0 && !s.fullSourceOf src fn)
    || (!bit v 30 && decide (vectors fn ≤ target))
    || (bit v 30 && s.get F.RC_ER_CFG_FN [target % 64] != fn))

/-- A write of EV_SRC_s; EN set on a pending source makes a delivery fall due (R524, R525). Log 173 (DEDUCED). -/
def writeRoute (s : State) (src v : Nat) : State :=
  if s.routeRefused src v then s.raise F.EV_STAT_CFG_REFUSED []
  else
    let rises := bit v 31 && !s.sourceOn src && s.sourcePending src
    let t := s.wr R.EV_SRC [src] (v &&& R.EV_SRC.rw)
    if rises then t.due src else t

/-- Pending messages of function `fn` that no mask holds back are sent, one for each vector (R527). -/
def sendUnmasked (s : State) (fn : Nat) : State :=
  forEach ((List.range (vectors fn)).filter fun v => s.ev.pba.at 0 (key2 fn v) == 1 && s.ev.vecOpen.at 0 (key2 fn v) == 1)
    (fun v t => t.msix fn v) s

/-- The host opens or masks a vector, or the whole function. Log 13 (PRESUMED). -/
def setMask (s : State) (fn : Nat) (vec : Option Nat) (isOpen : Bool) : State :=
  match vec with
  | some v => { s with ev.vecOpen := s.ev.vecOpen.put 0 (key2 fn v) (b2n isOpen) }
  | none => { s with ev.fnOpen := s.ev.fnOpen.put 0 fn (b2n isOpen) }

/-! ## Reading a counter (R532 to R534) -/

/-- The latch of function `fn` for block `b`, on the register page or the user page. Log 176 (DEDUCED). -/
def latchKey (fn : Nat) (user : Bool) (b : Nat) : Nat := (b2n user * 16 + fn) * 256 + b

/-- The registers of block `b` answer: its unit is present and its die is not isolated (R6, R528, R544). -/
def blockLive (s : State) (b : Nat) : Bool := s.variant.hasBlock b && s.live (blockDie b)

/-- Function `fn` sees the registers of block `b` on this page (R462, R534). -/
def seesBlock (s : State) (fn : Nat) (user : Bool) (b : Nat) : Bool :=
  s.blockLive b && (if user then s.isOn F.PC_CTRL_USER [b] else fn == 0)

/-- Function `fn` sees counter `n` there: the PF every one, a VF one whose tenants are all its own (R534). -/
def seesCounter (s : State) (fn : Nat) (user : Bool) (b n : Nat) : Bool :=
  s.seesBlock fn user b && (fn == 0 ||
    (s.isOn F.PC_SEL_TFILT [b, n] && decide (s.get F.RC_FN_TEN_BASE [fn] ≤ s.get F.PC_TWIN_BASE [b])
      && decide (s.get F.PC_TWIN_BASE [b] + s.get F.PC_TWIN_COUNT [b] ≤ s.get F.RC_FN_TEN_BASE [fn] + s.get F.RC_FN_TEN_COUNT [fn])))

/-- A word is given to a reader. -/
def answer (s : State) (v : Nat) : State := { s with out.readData := v }

/-- A read of PC_CNT_n_LO: the low word, and the latches of its page and function (R532, R533). -/
def readCounter (s : State) (fn : Nat) (user : Bool) (b n : Nat) : State :=
  if !s.seesCounter fn user b n then s.answer 0
  else
    let k := latchKey fn user b
    let x := s.sampleOf b n
    let v := x.1
    let hi := v / 2 ^ 32 + s.clock.tick % 2 ^ 16 * 2 ^ 16
    let snap := n + b2n (s.ev.cleared.contains (k * 8 + n)) * 2 ^ 30 + b2n x.2 * 2 ^ 31
    let ev := { s.ev with
      cntHi := s.ev.cntHi.put 0 (k * 8 + n) hi, snap := s.ev.snap.put 0 k snap, cleared := removeOne (k * 8 + n) s.ev.cleared }
    { s with ev := ev }.answer (v % 2 ^ 32)

/-- A read of PC_TICK_LO latches the high word of its page and function (R532). -/
def readTickLo (s : State) (fn : Nat) (user : Bool) (b : Nat) : State :=
  if !s.seesBlock fn user b then s.answer 0
  else
    let v := s.blockTicks b % 2 ^ 64
    { s with ev.tickHi := s.ev.tickHi.put 0 (latchKey fn user b) (v / 2 ^ 32) }.answer (v % 2 ^ 32)

/-! ## Control of a block (R529, R533) -/

/-- The events of the present tick that counter `n` of block `b` counts under its number: those that came before the write of
PC_SEL_n count too (R533). -/
def countsOfTick (s : State) (b n : Nat) : Nat :=
  let ev := s.get F.PC_SEL_EVNUM [b, n]
  if ev = 1 then b2n (s.blockRuns b && decide (0 < s.clock.tick) && s.tenantCounts b n none)
  else ((s.nowLog.events.filter fun e => e.1 == b && e.2.1 == ev && s.tenantCounts b n e.2.2.2).map fun e => e.2.2.1).sum

/-- A write of PC_SEL_n: the counter is cleared and counts under the new number; every latch learns of it (R530, R533). -/
def selectCounter (s : State) (b n v : Nat) : State :=
  let ev := bits v 11 0
  let t := s.wr R.PC_SEL [b, n] (b2n (bit v 31) * 2 ^ 31 + b2n (!eventDefined (blockKind b) ev) * 2 ^ 30 + ev)
  let keys := (List.range 32).map fun i => (i * 256 + b) * 8 + n
  let rest := t.ev.onTick.filter (· != (b, n))
  { t with
    ev.cnt := t.ev.cnt.put 0 (key2 b n) (t.countsOfTick b n)
    ev.now := { t.nowLog with pre := t.nowLog.pre.insert (key2 b n) (0, (t.sampleOf b n).2) }
    ev.cleared := keys.foldl (fun l k => addOnce k l) t.ev.cleared
    ev.onTick := if ev = 1 then rest ++ [(b, n)] else rest }

/-- Every block's tick count is brought up to now. -/
def settleAll (s : State) : State := forEach (List.range 176) (fun b t => if t.variant.hasBlock b then t.settleBlock b else t) s

/-- A write of PC_FREEZE: the blocks of the named dies stop, the others run on (R529). -/
def freeze (s : State) (v : Nat) : State :=
  let m := bits v 12 0
  (s.settleAll.set F.PC_FREEZE_DIES [] m).set F.PC_FREEZE_APPLIED [] (b2n (m != 0))

/-- A write of PC_CTRL: EN starts or stops the block (R529). -/
def writeBlockCtrl (s : State) (b v : Nat) : State := (s.settleBlock b).wr R.PC_CTRL [b] (v &&& R.PC_CTRL.rw)

/-! ## Port bandwidth (R535) -/

/-- One port at the end of a full window of `win` µs. Log 174 (DEDUCED). -/
def bandwidth (win p : Nat) (s : State) : State :=
  let up := s.linkUp p
  let rate := fun (m : Map Nat) => if up then m.at 0 p * 8 / win else 0
  let rx := rate s.ev.bwRx
  let tx := rate s.ev.bwTx
  let t := (s.set F.PC_BW_RX_MBPS [p] rx).set F.PC_BW_RX_VALID [p] 1
  let t := (t.set F.PC_BW_TX_MBPS [p] tx).set F.PC_BW_TX_VALID [p] 1
  (t.set F.PC_BW_PEAK_RX [p] (max (t.get F.PC_BW_PEAK_RX [p]) (rx / 32))).set F.PC_BW_PEAK_TX [p]
    (max (t.get F.PC_BW_PEAK_TX [p]) (tx / 32))

/-- A write of WIN_US: clamped, and VALID clears on every port (R535). Log 174 (DEDUCED). -/
def writeWindow (s : State) (v : Nat) : State :=
  let t := s.set F.PC_BW_WIN_WIN_US [] (clamp 1 1000000 (bits v 19 0))
  let t := forEach (List.range 512) (fun p u => (u.set F.PC_BW_RX_VALID [p] 0).set F.PC_BW_TX_VALID [p] 0) t
  { t with ev.bwFull := false }

end State

/-! ## The commands -/

/-- EVENT_SOURCE_WRITE: the PF writes `v` into EV_SRC of source `src` (R524). -/
def execEventSourceWrite (src v : Nat) (s : State) : Out :=
  done (fun s => onlyIf (s.ringPowered && decide (src < 0x1000)) (fun s => s.writeRoute src v) s) s

/-- EVENT_DELIVER: an enabled source with a delivery due makes it, unless it must wait for a translation (R525). -/
def execEventDeliver (src : Nat) (s : State) : Out :=
  done (fun s => onlyIf (s.ringPowered && s.ev.due.contains src) (fun s =>
    let x := s.deliverEvent src
    if x.1 then { x.2 with ev.due := removeOne src x.2.ev.due } else x.2) s) s

/-- MSIX_UNMASK: the host opens (or masks) vector `vec` of function `fn`, or the function; what was pending there is sent
once (R527). -/
def execMsixUnmask (fn : Nat) (vec : Option Nat) (isOpen : Bool) (s : State) : Out :=
  done (fun s => onlyIf (s.ringPowered && (fn == 0 || decide (fn ≤ s.rc.vfs)) && vec.all fun v => decide (v < State.vectors fn)) (fun s =>
    let t := s.setMask fn vec isOpen
    if isOpen && t.ev.fnOpen.at 0 fn == 1 then t.sendUnmasked fn else t) s) s

/-- COUNTER_READ: function `fn` reads PC_CNT_n_LO of block `b` on its register page or its user page (R532, R534). -/
def execCounterRead (fn : Nat) (user : Bool) (b n : Nat) (s : State) : Out :=
  done (fun s => onlyIf (s.ringPowered && (fn == 0 || decide (fn ≤ s.rc.vfs)) && decide (b < 176) && decide (n < 8)) (fun s => s.readCounter fn user b n) s) s

/-- COUNTER_SELECT: the PF writes `v` into PC_SEL_n of block `b` (R533). -/
def execCounterSelect (b n v : Nat) (s : State) : Out :=
  done (fun s => onlyIf (s.ringPowered && s.blockLive b && decide (n < 8)) (fun s => s.selectCounter b n v) s) s

/-- COUNTER_FREEZE: the PF writes `v` into PC_FREEZE (R529). -/
def execCounterFreeze (v : Nat) (s : State) : Out := done (fun s => onlyIf s.ringPowered (fun s => s.freeze v) s) s

/-- BW_WINDOW: a bandwidth window ends at a tick that is a multiple of WIN_US × 1,000 (R535). -/
def execBwWindow (s : State) : Out :=
  done (fun s =>
    let win := s.get F.PC_BW_WIN_WIN_US []
    onlyIf (s.ringPowered && s.clock.tick % (win * 1000) == 0 && s.ev.bwAt != s.clock.tick + 1) (fun s =>
      let t := if s.ev.bwFull then forEach ((List.range (64 * s.variant.skirts)).filter s.isPort) (State.bandwidth win) s else s
      { t with ev.bwRx := [], ev.bwTx := [], ev.bwFull := true, ev.bwAt := t.clock.tick + 1 }) s) s

/-- BW_WINDOW_WRITE: the PF writes PC_BW_WIN (R535). -/
def execBwWindowWrite (v : Nat) (s : State) : Out := done (fun s => onlyIf s.ringPowered (fun s => s.writeWindow v) s) s

end Sys2Proof.Machine
end

