-- ==== Sys2Proof/Machine/Flags.lean ====
section
/-! DEFINITION. The arithmetic of the Stitchers and what it leaves in FLAGS (R429, R437). -/

namespace Sys2Proof.Machine

/-- The low 64 bits. -/
def w64 (v : Nat) : Nat := v % 2 ^ 64

/-- The low `n` bits of `v`, sign-extended to 64 (R435). -/
def sext (n v : Nat) : Nat := if v % 2 ^ n < 2 ^ (n - 1) then v % 2 ^ n else v % 2 ^ n + 2 ^ 64 - 2 ^ n

/-- The bits of FLAGS (R429). -/
def flagZ : Nat := 0
def flagN : Nat := 1
def flagC : Nat := 2
def flagV : Nat := 3
def flagOk : Nat := 4
def flagTo : Nat := 5
def flagExc : Nat := 6
def flagDlv : Nat := 7

/-- The bytes of a 64-bit value in the opposite order. -/
def byteSwap (v : Nat) : Nat := ofLe (leBytes v 8).reverse

/-- Leading zeros of a 64-bit value. -/
def leadingZeros (v : Nat) : Nat := if v = 0 then 64 else 63 - Nat.log2 v

/-- Arithmetic shift right of a 64-bit value. -/
def shiftRightSigned (v n : Nat) : Nat :=
  if bit v 63 then (v >>> n) + (2 ^ 64 - 2 ^ (64 - n)) else v >>> n

/-- Operation `op` of opcodes 0x01 to 0x0E on two 64-bit values (R437). -/
def aluResult (op a b : Nat) : Nat :=
  let sh := b % 64
  match op with
  | 1 => w64 (a + b)
  | 2 => w64 (a + 2 ^ 64 - b)
  | 3 => a &&& b
  | 4 => a ||| b
  | 5 => a ^^^ b
  | 6 => w64 (a <<< sh)
  | 7 => a >>> sh
  | 8 => shiftRightSigned a sh
  | 9 => w64 (a * b)
  | 10 => min a b
  | 11 => max a b
  | 12 => byteSwap a
  | 13 => leadingZeros a
  | _ => popcount a 64

/-- C after the operation: the carry of ADD, the implementation's convention for SUB, clear otherwise.
Log 108 (DESIGN CHOICE). -/
def aluCarry (op a b : Nat) : Bool :=
  match op with
  | 1 => decide (2 ^ 64 ≤ a + b)
  | 2 => Config.subCarry a b
  | _ => false

/-- V after the operation: signed overflow of ADD and SUB, clear otherwise. -/
def aluOverflow (op a b : Nat) : Bool :=
  let r := aluResult op a b
  match op with
  | 1 => bit a 63 == bit b 63 && bit r 63 != bit a 63
  | 2 => bit a 63 != bit b 63 && bit r 63 != bit a 63
  | _ => false

/-- FLAGS after an ALU operation: Z and N from the result, C and V; the rest is kept (R437). -/
def aluFlags (flags op a b : Nat) : Nat :=
  let r := aluResult op a b
  setBit (setBit (setBit (setBit flags flagZ (r == 0)) flagN (bit r 63)) flagC (aluCarry op a b)) flagV (aluOverflow op a b)

end Sys2Proof.Machine
end

