-- ==== Sys2Proof/Machine/Operands.lean ====
section
/-! DEFINITION. The fields of macro instructions and the operand codes of the Stitchers (R435, R436). -/

namespace Sys2Proof.Machine

/-! ## Forms (R435) -/

def insOp (i : Nat) : Nat := bits i 31 24
def insD (i : Nat) : Nat := bits i 23 17
def insA (i : Nat) : Nat := bits i 16 10
def insB (i : Nat) : Nat := bits i 9 3

/-- IMM of the IMM form, and OFF of the CMP form, as 64-bit values. -/
def insImm (i : Nat) : Nat := sext 10 (bits i 9 0)

/-- SIZE of the MEM form in bytes, and its offset in bytes as a 64-bit value. -/
def insSize (i : Nat) : Nat := 2 ^ bits i 9 8
def insOff (i : Nat) : Nat := w64 (sext 8 (bits i 7 0) * insSize i)

/-- A program address, 17 bits (R429). -/
def pcWrap (v : Nat) : Nat := v % 2 ^ 17

/-! ## Operand codes (R436) -/

/-- A code of the list. -/
def codeKnown (c : Nat) : Bool := decide (c < 0x60) || c == 0x6D || c == 0x6E || c == 0x71

/-- A code that may be written: TICK and TID may not. -/
def codeWritable (c : Nat) : Bool := decide (c < 0x60) || c == 0x6D

namespace State

/-- Thread `t` of engine `e`, and the engine. -/
def thr (s : State) (e t : Nat) : Thread := s.st.thr.at {} (8 * e + t)
def eng (s : State) (e : Nat) : Engine := s.st.eng.at {} e

/-- Change a thread, or an engine. -/
def setThr (s : State) (e t : Nat) (f : Thread → Thread) : State := { s with st.thr := s.st.thr.put {} (8 * e + t) (f (s.thr e t)) }
def setEng (s : State) (e : Nat) (f : Engine → Engine) : State := { s with st.eng := s.st.eng.put {} e (f (s.eng e)) }

/-- Read an operand. -/
def opRead (s : State) (e t c : Nat) : Nat :=
  if c < 0x20 then (s.thr e t).a.at 0 c
  else if c < 0x60 then (s.eng e).s.at 0 (c - 0x20)
  else if c = 0x6E then s.clock.tick
  else if c = 0x71 then 8 * e + t
  else 0

/-- Write an operand; ZERO discards it. -/
def opWrite (s : State) (e t c v : Nat) : State :=
  if c < 0x20 then s.setThr e t fun h => { h with a := h.a.put 0 c (w64 v) }
  else if c < 0x60 then s.setEng e fun g => { g with s := g.s.put 0 (c - 0x20) (w64 v) }
  else s

/-- A FLAGS bit of a thread. -/
def flag (s : State) (e t i : Nat) : Bool := bit (s.thr e t).flags i

/-- Set or clear a FLAGS bit. -/
def setFlag (s : State) (e t i : Nat) (b : Bool) : State := s.setThr e t fun h => { h with flags := setBit h.flags i b }

/-- The macro instruction at the PC of a thread. -/
def instrAt (s : State) (e t : Nat) : Nat := s.st.prog.at 0 (s.thr e t).pc

end State

end Sys2Proof.Machine
end

