-- ==== Sys2Proof/Machine/Stitch.lean ====
section
/-! DEFINITION. Stitcher engines and threads: boundaries, switching, faults, and their memory windows (R429 to R431, R438 to
R441, R446, R456, R507, R518). -/

namespace Sys2Proof.Machine

/-- How an access of a thread ends: with the bytes read, in a long stall, or with a fault (cause and EADDR). -/
inductive Acc where
  | ok (bs : List Byte) (s : State)
  | stall (s : State)
  | fault (cause ea : Nat) (s : State)

/-- Go on with the bytes of an access. -/
def Acc.bind (a : Acc) (f : List Byte → State → Acc) : Acc :=
  match a with
  | .ok bs s => f bs s
  | .stall s => .stall s
  | .fault c ea s => .fault c ea s

namespace State

/-! ## Engines that run (R430, R454, R456) -/

/-- The engines run: the Tree die is up. Log 114 (DEDUCED). -/
def enginesUp (s : State) : Bool :=
  s.live 12 && !s.modes.inReset && (match s.mode with | .run | .drain | .halt => true | _ => false)

/-- FREEZE of an engine. -/
def engineFrozen (s : State) (e : Nat) : Bool := s.isOn F.ST_ENG_CTRL_FREEZE [e]

/-- The engine holds its threads at their boundaries: FREEZE, or a fatal machine check (R454, R456). -/
def engineHeld (s : State) (e : Nat) : Bool := s.engineFrozen e || s.isOn F.ST_UCODE_STAT_MCHECK_FATAL []

/-- The thread stands at a boundary, free of any stall (R446). -/
def atBoundary (h : Thread) : Bool := h.micro.isNone && h.stall == .none && !h.answered

/-- The thread is stopped, by a stop or by FREEZE (R456). Log 128 (DEDUCED). -/
def threadStopped (s : State) (e t : Nat) : Bool := (s.thr e t).stopped || (s.engineHeld e && atBoundary (s.thr e t))

/-- The thread is ready, or runs. -/
def threadReady (s : State) (e t : Nat) : Bool :=
  (s.thr e t).stall == .none && !(s.thr e t).faulted && !s.threadStopped e t && !(s.eng e).inReset

/-- The first ready thread from `t` up, wrapping from 7 to 0 (R439). -/
def firstReady (s : State) (e t : Nat) : Option Nat := ((List.range 8).map fun k => (t + k) % 8).find? (s.threadReady e)

/-- The counting block of an engine (R528). -/
def engBlock (e : Nat) : Nat := 170 + e / 16

/-- The running thread is switched out (R439). Log 115 (DEDUCED). -/
def switchOut (s : State) (e t : Nat) : State :=
  if (s.eng e).cur = some t then (s.inc R.ST_SWITCHES [e]).countKind (engBlock e) 2 1 else s

/-- A breakpoint stands at the thread's PC (R456). Log 128 (DEDUCED). -/
def breakHit (s : State) (e t : Nat) : Bool :=
  (List.range 4).any fun n => s.isOn F.ST_BRK_EN [e, n] && s.get F.ST_BRK_ADDR [e, n] == (s.thr e t).pc

/-- A STEP of a thread is done, or dropped: its bit reads 0. -/
def clearStep (s : State) (e t : Nat) : State := s.set F.ST_ENG_CTRL_STEP [e] (setBit (s.get F.ST_ENG_CTRL_STEP [e]) t false)

/-- What a stop request, FREEZE or a breakpoint does to one thread at its boundary (R456). Log 128 (DEDUCED). -/
def settleThread (e : Nat) (s : State) (t : Nat) : State :=
  let h := s.thr e t
  let ask := bit (s.get F.ST_ENG_CTRL_STOP [e]) t
  let waits := h.stall == .wait || h.stall == .dmaw
  -- a thread in WAIT or DMAW stops at once and executes its instruction again when it resumes
  let s := if waits && (ask || s.engineHeld e) then s.setThr e t fun h => { h with stall := .none, micro := none } else s
  let h := s.thr e t
  if !atBoundary h then s
  else if ask then
    let s := s.setThr e t fun h => { h with stopped := true, step := false }
    (s.set F.ST_ENG_CTRL_STOP [e] (setBit (s.get F.ST_ENG_CTRL_STOP [e]) t false)).clearStep e t
  else if !h.stopped && !h.faulted && !h.passBrk && s.breakHit e t then
    ((s.setThr e t fun h => { h with stopped := true, passBrk := true, step := false }).clearStep e t).raise F.ST_ENG_EVT_BREAK [e]
  else s

/-- The thread is in WAIT and its mask names neither bit 17 nor bit 18 (R441). -/
def waitsClosed (s : State) (e t : Nat) : Bool :=
  (s.thr e t).stall == .wait && !bit (s.thr e t).mask 17 && !bit (s.thr e t).mask 18

/-- Bring the ALL_WAITING state of an engine up to now (R441). -/
def showWaiting (s : State) (e : Nat) : State :=
  let act := (List.range 8).filter fun t => !(s.threadStopped e t) && !(s.thr e t).faulted
  let all := !act.isEmpty && act.all (s.waitsClosed e) && !(s.eng e).inReset
  if all == (s.eng e).allWaiting then s
  else
    let s := s.setEng e fun g => { g with allWaiting := all }
    if all then (s.inc R.ST_ALLWAIT [e]).raise F.ST_ENG_EVT_ALL_WAITING [e] else s

/-- Bring an engine up to now: stops and breakpoints at boundaries, the running thread, ALL_WAITING. Log 113 (DESIGN CHOICE). -/
def settle (s : State) (e : Nat) : State :=
  let s := (List.range 8).foldl (settleThread e) s
  let from_ := match (s.eng e).cur with | some t => t + 1 | none => 0
  let keep := (s.eng e).cur.any (s.threadReady e)
  let s := if keep then s else match s.firstReady e from_ with
    | some t => s.setEng e fun g => { g with cur := some t }
    | none => s
  s.showWaiting e

/-! ## The end of an instruction or of an element (R446) -/

/-- A boundary has been reached: a STEP ends here (R456). -/
def atEnd (s : State) (e t : Nat) (whole : Bool) : State :=
  let stepped := (s.thr e t).step
  let counts := whole && (s.thr e t).micro.isNone
  let s := s.setThr e t fun h => { h with
    stall := .none, answered := false, micro := none, passBrk := !whole, step := false, stopped := h.stopped || h.step }
  let s := if stepped then s.clearStep e t else s
  if counts then s.countKind (engBlock e) 1 1 else s

/-- The instruction completes and PC takes `pc`. -/
def retireTo (s : State) (e t pc : Nat) : State := (s.setThr e t fun h => { h with pc := pcWrap pc }).atEnd e t true

/-- The instruction completes. -/
def retireIns (s : State) (e t : Nat) : State := s.retireTo e t ((s.thr e t).pc + 1)

/-- A long stall (R439). -/
def longStall (s : State) (e t : Nat) (k : Stall) : State := (s.switchOut e t).setThr e t fun h => { h with stall := k, answered := false }

/-- A fault (R438): taken, or, with EXC set, the thread is FAULTED. -/
def threadFault (s : State) (e t cause ea : Nat) : State :=
  let s := s.inc R.ST_FAULTS [e]
  let h := s.thr e t
  let s := if bit h.flags flagExc then
      (s.setThr e t fun h => { h with faulted := true }).raise F.ST_ENG_EVT_THREAD_FAULT [e]
    else
      s.setThr e t fun h =>
        { h with epc := h.pc, ecause := cause, eaddr := w64 ea, flags := setBit h.flags flagExc true, pc := s.get F.ST_EXC_VEC_ADDR [e] }
  let s := s.atEnd e t false
  s.setThr e t fun h => { h with passBrk := false }

/-- A fault whose EADDR no rule names. Log 111 (DESIGN CHOICE). -/
def faultFree (s : State) (e t cause : Nat) : State :=
  let f := s.takeFree
  f.2.threadFault e t cause (Config.faultAddr f.1).toNat

/-- Fault ILLEGAL. Log 111 (DESIGN CHOICE). -/
def illegal (s : State) (e t : Nat) : State := s.faultFree e t 1

/-! ## Memory (R431) -/

/-- The address of a buffer by its handle (R355, R431, R437). -/
def handleAddr (s : State) (h : Nat) : Option Nat :=
  let n := h / 2 ^ 28
  let i := h % 2 ^ 24
  if bits h 27 24 ≠ 0 ∨ s.get F.SB_POOL_CFG_COUNT [n] ≤ i then none
  else if n = 4 then some (0x800000 + 64 * i)
  else if n = 5 then some (0x800000 + 64 * s.get F.SB_POOL_CFG_COUNT [4] + 256 * i)
  else if 6 ≤ n ∧ n ≤ 8 then some (2 ^ 32 + s.rd R.SB_POOL_BASE [n] * 2 ^ 20 + i * poolBytes n)
  else none

/-- The 64-byte blocks that `n` bytes at offset `o` touch. -/
def blocksOf (o n : Nat) : List Nat := (List.range ((o + n - 1) / 64 + 1 - o / 64)).map (o / 64 + ·)

/-- Blocks enter an engine's cache of 16 KiB, least recently used out first (R429). Log 127 (DESIGN CHOICE). -/
def cacheIn (s : State) (e : Nat) (bl : List Nat) : State :=
  s.setEng e fun g => { g with cache := (bl ++ g.cache.filter fun b => !bl.contains b).take 256 }

/-- A window that holds `n` bytes at `a`: 0 local, 1 pools, 2 device, 3 host; and the offset in it. Log 118 (DESIGN CHOICE). -/
def windowAt (s : State) (a n : Nat) : Option (Nat × Nat) :=
  let dev := if s.variant == .e then 2 ^ 40 else s.ddrSize
  if a + n ≤ 0x80000 then some (0, a)
  else if 0x800000 ≤ a ∧ a + n ≤ 0xE00000 then some (1, a - 0x800000)
  else if 2 ^ 32 ≤ a ∧ a + n ≤ 2 ^ 32 + dev then some (2, a - 2 ^ 32)
  else if 2 ^ 63 ≤ a ∧ a + n ≤ 2 ^ 64 then some (3, a - 2 ^ 63)
  else none

/-- The bytes of a window that is not the host's. Log 11 (DESIGN CHOICE). -/
def winGet (s : State) (w o n : Nat) : List Byte :=
  match w with
  | 0 => s.st.mem.run 0 o n
  | 1 => s.st.pool.run 0 o n
  | _ => s.ddrGet o n

/-- Write them. -/
def winPut (s : State) (w o : Nat) (bs : List Byte) : State :=
  match w with
  | 0 => { s with st.mem := s.st.mem.putAll 0 o bs }
  | 1 => { s with st.pool := s.st.pool.putAll 0 o bs }
  | _ => s.ddrPut o bs

/-- The channels of device blocks, each counted (R530). -/
def countBursts (s : State) (ev : Nat) (bl : List Nat) : State := bl.foldl (fun t b => t.countKind (160 + t.ddrChannel (b * 64)) ev 1) s

/-- An access of thread `t` of engine `e` to `n` bytes at `a`; with `wr` it writes them. `ans` says that what the access
waited for has answered. Log 114 (DEDUCED), 118 (DESIGN CHOICE), 127 (DESIGN CHOICE). -/
def access (s : State) (e t : Nat) (ans : Bool) (a n : Nat) (wr : Option (List Byte)) : Acc :=
  if n = 0 then .ok [] s
  else match s.windowAt a n with
  | none => .fault 2 a s
  | some (3, va) =>
    if !ans || s.rcHalted then .stall s
    else
      let w := s.rd R.TR_ENG_PASID [e]
      match wr with
      | some bs =>
        let x := s.dmaPut (.thread e t) 0 (pasOf w) [(va, n)] 0 bs
        if x.2.1 = 0 then .ok [] x.2.2 else if x.2.1 = 1 then .stall x.2.2 else .fault 8 a x.2.2
      | none =>
        let x := s.hostLoad (.thread e t) (pasOf w) va n
        if x.2.1 = 0 then .ok x.1 x.2.2 else if x.2.1 = 1 then .stall x.2.2 else .fault 8 a x.2.2
  | some (w, o) =>
    let put := fun (u : State) => match wr with
      | some bs => Acc.ok [] ((if w = 2 then u.countBursts 1 (blocksOf o n) else u).winPut w o bs)
      | none => Acc.ok (u.winGet w o n) u
    if w < 2 then put s
    else if s.variant == .e then .fault 3 a s
    else
      let bl := blocksOf o n
      let miss := bl.filter fun b => !(s.eng e).cache.contains b
      -- a store goes on to device memory also where the cache holds the block
      let late := (if wr.isSome then bl else miss).filter fun b => s.ddrWaits (b * 64)
      if miss.isEmpty && late.isEmpty then put (s.cacheIn e bl)
      else
        if !ans then .stall (s.countBursts 4 late)
        else if !late.isEmpty then .stall s
        else match miss.find? fun b => s.ddrBad (b * 64) 64 with
          | some b => .fault 2 a (s.ddrUe (b * 64))
          | none => put ((s.countBursts 0 miss).cacheIn e bl)

/-- A read. -/
def memRead (s : State) (e t : Nat) (ans : Bool) (a n : Nat) : Acc := s.access e t ans a n none

/-- A write. -/
def memWrite (s : State) (e t : Nat) (ans : Bool) (a : Nat) (bs : List Byte) : Acc := s.access e t ans a bs.length (some bs)

/-- A read aligned to `al` bytes: a misaligned one faults (R431). Log 119 (DEDUCED). -/
def readAligned (s : State) (e t : Nat) (ans : Bool) (al a n : Nat) : Acc :=
  if a % al ≠ 0 then .fault 2 a s else s.memRead e t ans a n

/-- What becomes of the thread after an access: `k` goes on with the bytes. -/
def accEnd (e t : Nat) (a : Acc) (k : List Byte → State → State) : State :=
  match a with
  | .ok bs s => k bs s
  | .stall s => if (s.thr e t).stall = .none then s.longStall e t .unit else s
  | .fault 3 _ s => s.faultFree e t 3
  | .fault c ea s => s.threadFault e t c ea

/-! ## Buffers of punts (R433 to R445) -/

/-- Where `n` bytes at offset `o` of a buffer lie in device memory, if they do. -/
def bufDev (s : State) (h o n : Nat) : Option Nat :=
  ((s.handleAddr h).bind fun a => s.windowAt (a + o) n).bind fun w => if w.1 = 2 then some w.2 else none

/-- `n` bytes of a buffer cannot be reached now (R504, R505, R508). -/
def bufHeld (s : State) (h o n : Nat) : Bool := (s.bufDev h o n).any fun d => s.ddrHeld d n

/-- The offset of the first of `n` bytes of a buffer that have an uncorrectable error (R507). -/
def bufBad (s : State) (h o n : Nat) : Option Nat :=
  (s.bufDev h o n).bind fun d => if s.ddrBad d n then ((blocksOf d n).find? fun b => s.ddrBad (b * 64) 64).map (64 * ·) else none

/-- Bytes of a buffer, read by the Tree die itself, and whether they can be had: it exists, and the DDR5 gives it without
an uncorrectable error. -/
def bufRead (s : State) (h o n : Nat) : Option (List Byte) :=
  (s.handleAddr h).bind fun a => (s.windowAt (a + o) n).bind fun w =>
    if w.1 = 2 ∧ s.ddrBad w.2 n then none else some (s.winGet w.1 w.2 n)

/-- Write into a buffer. -/
def bufWrite (s : State) (h o : Nat) (bs : List Byte) : State :=
  match (s.handleAddr h).bind fun a => s.windowAt (a + o) bs.length with
  | some w => s.winPut w.1 w.2 bs
  | none => s

/-- The buffers of a chain, with the frame bytes in each, until `n` bytes are had; none for a bad one (R433). -/
def chainRead (s : State) : Nat → Nat → Nat → Option (List (Nat × List Byte))
  | 0, _, _ => some []
  | fuel + 1, h, n =>
    if n = 0 then some []
    else if h = 0xFFFFFFFF then none
    else match s.bufRead h 0 8 with
      | none => none
      | some hd =>
        let v := ofLe hd
        let k := bits v 47 32
        if bits v 63 48 ≠ 0 ∨ poolBytes (h / 2 ^ 28) < 8 + k then none
        else match s.bufRead h 8 k with
          | none => none
          | some bs => (chainRead s fuel (bits v 31 0) (n - k)).map fun r => (h, bs) :: r

/-- The first answer of `p` on the parts of a chain's buffers that are read for `n` bytes of its frame. -/
def chainFind (s : State) (p : Nat → Nat → Nat → Option Nat) : Nat → Nat → Nat → Option Nat
  | 0, _, _ => none
  | fuel + 1, h, n =>
    if n = 0 ∨ h = 0xFFFFFFFF then none
    else p h 0 8 <|> match s.bufRead h 0 8 with
      | none => none
      | some hd =>
        let v := ofLe hd
        p h 8 (bits v 47 32) <|> chainFind s p fuel (bits v 31 0) (n - bits v 47 32)

/-- The parts of a punt of descriptor `d` in buffer `h` that handing it over reads: the descriptor, frame, key vector and match
list. -/
def puntFind (s : State) (p : Nat → Nat → Nat → Option Nat) (h : Nat) : Option Nat :=
  p h 0 64 <|> ((s.bufRead h 0 64).map ofLe).bind fun d =>
    s.chainFind p 16001 (bits d 31 0) (bits d 45 32) <|> p (bits d 319 288) 0 128
      <|> (if bits d 479 448 = 0xFFFFFFFF then none else p (bits d 479 448) 0 64)

/-- Such a part cannot be reached now. -/
def heldPart (s : State) (h o n : Nat) : Option Nat := if s.bufHeld h o n then some 0 else none

/-- A read by the Tree die itself meets an uncorrectable error: its work item is discarded (R507). Log 163 (DEDUCED). -/
def workLost (s : State) (o : Nat) : State := (s.ddrUe o).inc R.DM_UE_DROP []

/-- The frame of a chain, cut to `n` bytes, and its buffers. -/
def chainFrame (s : State) (h n : Nat) : Option (List Byte × List Nat) :=
  match s.chainRead 16001 h n with
  | none => none
  | some l =>
    let bs := l.flatMap (·.2)
    if bs.length < n then none else some (bs.take n, l.map (·.1))

/-- The handles of a chain, as far as they can be followed. -/
def chainHandles (s : State) : Nat → Nat → List Nat
  | 0, _ => []
  | fuel + 1, h =>
    if h = 0xFFFFFFFF then []
    else h :: match s.bufRead h 0 8 with
      | some hd => chainHandles s fuel (bits (ofLe hd) 31 0)
      | none => []

/-- The descriptor in a buffer (R434). -/
def puntDesc (s : State) (h : Nat) : Option Nat := (s.bufRead h 0 64).map ofLe

/-- Every buffer of a punt: its chain, key vector, match list and descriptor (R437, R445). -/
def puntBuffers (s : State) (h d : Nat) : List Nat :=
  s.chainHandles 16001 (bits d 31 0) ++ [bits d 319 288] ++ (if bits d 479 448 = 0xFFFFFFFF then [] else [bits d 479 448]) ++ [h]

/-- The punt of a descriptor is no longer held. -/
def unholdPunt (s : State) (h : Nat) : State := { s with st.held := s.st.held.erase h, st.heldBy := s.st.heldBy.erase h }

/-- Free the buffers of a punt, which is no longer held. -/
def freePunt (s : State) (h d : Nat) : State :=
  let t := forEach (s.puntBuffers h d) (fun b u => (u.freeBuffer b).2) s
  t.unholdPunt h

end State

end Sys2Proof.Machine
end

