-- ==== Sys2Proof/Machine/Macro.lean ====
section
/-! DEFINITION. What each macro instruction of the base microcode does to the thread that executes it (R435 to R449). Every
meaning takes the engine, the thread, the instruction word and whether the unit it waited for has answered. -/

namespace Sys2Proof.Machine

/-- The operand codes of each form are known and its reserved bits are zero (R435, R436). Log 110 (DEDUCED). -/
def regForm (i : Nat) : Bool := bits i 2 0 == 0 && codeKnown (insD i) && codeKnown (insA i) && codeKnown (insB i)
def immForm (i : Nat) : Bool := codeKnown (insD i) && codeKnown (insA i)

/-- The CMP form, whose first code stands where others have D and whose second stands where others have A. Log 110 (DEDUCED). -/
def cmpForm (i : Nat) : Bool := codeKnown (insD i) && codeKnown (insA i)

namespace State

/-- `f` when the form is good, else fault ILLEGAL. Log 110 (DEDUCED). -/
def formed (ok : Bool) (e t : Nat) (f : State → State) (s : State) : State := if ok then f s else s.illegal e t

/-- Write D and complete. -/
def result (s : State) (e t i v : Nat) : State := (s.opWrite e t (insD i) v).retireIns e t

/-- Write D, set or clear OK, and complete. -/
def unitResult (s : State) (e t i v : Nat) (ok : Bool) : State := ((s.opWrite e t (insD i) v).setFlag e t flagOk ok).retireIns e t

/-- Set or clear OK and complete. -/
def unitDone (s : State) (e t : Nat) (ok : Bool) : State := (s.setFlag e t flagOk ok).retireIns e t

/-! ## Arithmetic, moves and branches (R437) -/

/-- D = A op b, with FLAGS. Log 109 (DEDUCED). -/
def alu (s : State) (e t i op b : Nat) : State :=
  let a := s.opRead e t (insA i)
  ((s.setThr e t fun h => { h with flags := aluFlags h.flags op a b }).opWrite e t (insD i) (aluResult op a b)).retireIns e t

/-- An operation in the REG form. -/
def aluReg (op e t i : Nat) (s : State) : State :=
  s.formed (regForm i && codeWritable (insD i)) e t fun s => s.alu e t i op (s.opRead e t (insB i))

/-- An operation in the IMM form. -/
def aluImm (op e t i : Nat) (s : State) : State :=
  s.formed (immForm i && codeWritable (insD i)) e t fun s => s.alu e t i op (insImm i)

def insNop (e t i : Nat) (s : State) : State := s.formed (regForm i) e t fun s => s.retireIns e t

def insLi (e t i : Nat) (s : State) : State :=
  s.formed (codeWritable (insD i)) e t fun s => s.result e t i (sext 17 (bits i 16 0))

def insLui (e t i : Nat) (s : State) : State :=
  s.formed (codeWritable (insD i) && !bit i 16) e t fun s =>
    s.result e t i (w64 (s.opRead e t (insD i) <<< 16) ||| bits i 15 0)

/-- A branch by `OFF` instructions when `b` holds. -/
def branch (s : State) (e t i : Nat) (b : Bool) : State :=
  let pc := (s.thr e t).pc
  s.retireTo e t (if b then pc + insImm i else pc + 1)

/-- A comparing branch. -/
def cmpBranch (f : Nat → Nat → Bool) (e t i : Nat) (s : State) : State :=
  s.formed (cmpForm i) e t fun s => s.branch e t i (f (s.opRead e t (insD i)) (s.opRead e t (insA i)))

/-- BF: its first field names the FLAGS bit and the sense; its second must be ZERO. -/
def insBf (e t i : Nat) (s : State) : State :=
  s.formed (bits (insD i) 5 3 == 0 && insA i == 0x6D) e t fun s =>
    s.branch e t i (s.flag e t (bits (insD i) 2 0) == bit (insD i) 6)

def insJmp (e t i : Nat) (s : State) : State := s.retireTo e t ((s.thr e t).pc + sext 24 (bits i 23 0))

def insJal (e t i : Nat) (s : State) : State :=
  let pc := (s.thr e t).pc
  (s.opWrite e t 31 (pcWrap (pc + 1))).retireTo e t (pc + sext 24 (bits i 23 0))

def insJr (e t i : Nat) (s : State) : State := s.formed (regForm i) e t fun s => s.retireTo e t (s.opRead e t (insA i) % 2 ^ 17)

/-! ## Loads and stores -/

/-- The address of the MEM form. -/
def memAddr (s : State) (e t i : Nat) : Nat := w64 (s.opRead e t (insA i) + insOff i)

def insLd (e t i : Nat) (ans : Bool) (s : State) : State :=
  s.formed (immForm i && codeWritable (insD i)) e t fun s =>
    accEnd e t (s.readAligned e t ans (insSize i) (s.memAddr e t i) (insSize i)) fun bs s => s.result e t i (ofLe bs)

def insSt (e t i : Nat) (ans : Bool) (s : State) : State :=
  s.formed (immForm i) e t fun s =>
    let a := s.memAddr e t i
    let bs := leBytes (s.opRead e t (insD i)) (insSize i)
    accEnd e t (if a % insSize i ≠ 0 then .fault 2 a s else s.memWrite e t ans a bs) fun _ s => s.retireIns e t

/-! ## WAIT and DMAW (R440) -/

/-- An event of WAIT holds. -/
def eventHolds (s : State) (e t b : Nat) : Bool :=
  if b < 16 then (s.eng e).chan.at 0 b == 2
  else if b = 16 then (s.thr e t).signal
  else if b = 17 then !(s.eng e).pq.isEmpty
  else (s.thr e t).dmaDone

/-- On first issue DL is set, and DLV; a re-execution keeps DL. -/
def setDeadline (s : State) (e t b : Nat) : State :=
  if s.flag e t flagDlv then s
  else (s.setThr e t fun h => { h with dl := w64 (s.clock.tick + min b (2 ^ 36 - 1)) }).setFlag e t flagDlv true

/-- WAIT completes with event `b`: the latches that its mask names are cleared. Log 116 (DEDUCED). -/
def waitEvent (s : State) (e t i m b : Nat) : State :=
  let s := s.setThr e t fun h => { h with signal := h.signal && !bit m 16, dmaDone := h.dmaDone && !bit m 18 }
  (((s.opWrite e t (insD i) b).setFlag e t flagTo false).setFlag e t flagDlv false).retireIns e t

/-- WAIT completes at its deadline. Log 116 (DEDUCED). -/
def waitTimeout (s : State) (e t i : Nat) : State :=
  ((((s.inc R.ST_TIMEOUTS [e]).opWrite e t (insD i) 0xFF).setFlag e t flagTo true).setFlag e t flagDlv false).retireIns e t

/-- The mask of a WAIT, and the lowest event of it that holds. -/
def waitMask (s : State) (e t i : Nat) : Nat := s.opRead e t (insA i) % 2 ^ 32
def waitFound (s : State) (e t i : Nat) : Option Nat :=
  (List.range 19).find? fun b => bit (s.waitMask e t i) b && s.eventHolds e t b

def insWait (e t i : Nat) (s : State) : State :=
  s.formed (regForm i && codeWritable (insD i) && decide (s.waitMask e t i < 2 ^ 19)) e t fun s =>
    let m := s.waitMask e t i
    let b := s.opRead e t (insB i)
    let s := s.setDeadline e t b
    match s.waitFound e t i with
    | some ev => s.waitEvent e t i m ev
    | none =>
      if b = 0 ∧ m = 0 then
        -- a yield: switched out, and ready again at once
        let u := (s.switchOut e t).waitTimeout e t i
        u.setEng e fun g => { g with cur := u.firstReady e (t + 1) <|> some t }
      else if b = 0 ∨ (s.thr e t).dl ≤ s.clock.tick then s.waitTimeout e t i
      else (s.longStall e t .wait).setThr e t fun h => { h with mask := m }

/-- The tag is outstanding. -/
def tagBusy (s : State) (e t n : Nat) : Bool := (s.thr e t).dma.any fun d => d.tag == n

/-- DMAW completes: its tag has completed, well or not. Log 117 (DEDUCED). -/
def dmawDone (s : State) (e t i n : Nat) : State :=
  let ok := !bit (s.thr e t).tagBad n
  let s := s.setThr e t fun h => { h with tagBad := setBit h.tagBad n false }
  (((s.opWrite e t (insD i) 0).setFlag e t flagTo false).setFlag e t flagDlv false).unitDone e t ok

/-- DMAW reaches its deadline. Log 117 (DEDUCED). -/
def dmawTimeout (s : State) (e t i : Nat) : State :=
  ((((s.inc R.ST_TIMEOUTS [e]).opWrite e t (insD i) 0xFF).setFlag e t flagTo true).setFlag e t flagDlv false).unitDone e t false

def insDmaw (e t i : Nat) (s : State) : State :=
  s.formed (regForm i && codeWritable (insD i)) e t fun s =>
    let n := s.opRead e t (insA i) % 16
    let b := s.opRead e t (insB i)
    let s := s.setDeadline e t b
    if !s.tagBusy e t n then s.dmawDone e t i n
    else if b = 0 ∨ (s.thr e t).dl ≤ s.clock.tick then s.dmawTimeout e t i
    else s.longStall e t .dmaw

def insSignal (e t i : Nat) (s : State) : State :=
  s.formed (regForm i) e t fun s =>
    (s.setThr e (s.opRead e t (insA i) % 8) fun h => { h with signal := true }).unitDone e t true

/-! ## Channels (R442, R443) -/

/-- The state of a channel. -/
def chState (s : State) (e c : Nat) : Nat := (s.eng e).chan.at 0 c

/-- The channel a thread names in A, and the word. -/
def chOf (s : State) (e t i : Nat) : Nat := s.opRead e t (insA i) % 16

/-- Fault CHAN_STATE, or CHAN_LOST where the debugger released the thread's channel. -/
def chanFault (s : State) (e t c : Nat) : State := s.faultFree e t (if bit (s.thr e t).lost c then 5 else 4)

/-- The thread fills the channel. -/
def chMine (s : State) (e t c : Nat) : Bool := s.chState e c == 1 && (s.eng e).owner.at 0 c == t

/-- Make a channel EMPTY, its words discarded. -/
def chEmpty (s : State) (e c : Nat) : State :=
  s.setEng e fun g => { g with
    chan := g.chan.erase c, owner := g.owner.erase c, words := g.words.dropRange (8 * c) (8 * c + 8) }

def insChopen (e t i : Nat) (s : State) : State :=
  s.formed (immForm i) e t fun s =>
    let c := bits i 3 0
    if s.chState e c ≠ 0 then s.unitDone e t false
    else
      let s := (s.chEmpty e c).setEng e fun g => { g with chan := g.chan.put 0 c 1, owner := g.owner.put 0 c t }
      let s := (List.range 8).foldl (fun u k => u.setThr e k fun h => { h with lost := setBit h.lost c false }) s
      s.unitDone e t true

def insChw (e t i : Nat) (s : State) : State :=
  s.formed (immForm i) e t fun s =>
    let c := s.chOf e t i
    if s.chMine e t c then
      let v := s.opRead e t (insD i)
      (s.setEng e fun g => { g with words := g.words.put 0 (8 * c + bits i 2 0) v }).unitDone e t true
    else s.chanFault e t c

def insChpost (e t i : Nat) (s : State) : State :=
  s.formed (immForm i) e t fun s =>
    let c := s.chOf e t i
    if s.chMine e t c then
      (s.setEng e fun g => { g with chan := g.chan.put 0 c 2, owner := g.owner.erase c }).unitDone e t true
    else s.chanFault e t c

def insChr (e t i : Nat) (s : State) : State :=
  s.formed (immForm i && codeWritable (insD i)) e t fun s =>
    let c := s.chOf e t i
    if s.chState e c = 2 then s.unitResult e t i ((s.eng e).words.at 0 (8 * c + bits i 2 0)) true
    else s.unitResult e t i 0 false

def insChfree (e t i : Nat) (s : State) : State :=
  s.formed (immForm i) e t fun s =>
    let c := s.chOf e t i
    if s.chState e c = 2 then (s.chEmpty e c).unitDone e t true else s.unitDone e t false

/-! ## Punts and buffers (R437, R444, R445) -/

def insGetpunt (e t i : Nat) (s : State) : State :=
  s.formed (regForm i && codeWritable (insD i)) e t fun s =>
    match (s.eng e).pq with
    | h :: r =>
      let s := { s with st.heldBy := s.st.heldBy.put 0 h (e + 1) }
      (s.setEng e fun g => { g with pq := r }).unitResult e t i h true
    | [] => s.unitResult e t i 0xFFFFFFFF false

/-- The metadata of a reinject request. -/
def rinjMeta (r : Nat) : Meta :=
  { inPort := bits r 88 80, slice := bits r 50 46, t16 := (bits r 175 128 * 1000000000 + bits r 221 192) * 65536 + bits r 239 224
    subport := bits r 79 64, colour := bits r 53 52, pri := bits r 91 89, timeSrc := bit r 51 }

/-- Reserved bits of a reinject request are zero. Log 120 (DEDUCED). -/
def rinjClean (r : Nat) : Bool :=
  bits r 63 55 == 0 && bits r 95 92 == 0 && bits r 127 96 == 0 && bits r 191 176 == 0 && bits r 223 222 == 0 && bits r 255 240 == 0

/-- Carry out a reinject request: its status (R444). Log 120 (DEDUCED). -/
def rinjDo (s : State) (e r : Nat) : Nat × State :=
  let n := bits r 45 32
  if !rinjClean r ∨ n < 60 ∨ 15996 < n then (2, s)
  else match s.chainFrame (bits r 31 0) n with
    | none => (2, match s.chainFind s.bufBad 16001 (bits r 31 0) n with | some o => s.workLost o | none => s)
    | some (bs, _) =>
      -- a frame that came in a punt has been counted in, with the length it was received in (R410)
      let was := (s.st.chains.find? (bits r 31 0)).getD {}
      let x := s.reinject { rinjMeta r with counted := was.counted, rxLen := was.rxLen } bs
      if x.1 ≠ 0 then x
      else
        let u := x.2.countKind (engBlock e) 4 1
        (0, if bit r 54 then forEach (s.chainHandles 16001 (bits r 31 0)) (fun b v => (v.freeBuffer b).2) u else u)

def insRinj (e t i : Nat) (ans : Bool) (s : State) : State :=
  s.formed (regForm i && codeWritable (insD i)) e t fun s =>
    if !ans then s.longStall e t .unit
    else accEnd e t (s.readAligned e t ans 8 (s.opRead e t (insA i)) 32) fun bs u =>
      if (u.chainFind u.heldPart 16001 (bits (ofLe bs) 31 0) (bits (ofLe bs) 45 32)).isSome then s
      else
        let x := u.rinjDo e (ofLe bs)
        x.2.unitResult e t i x.1 (x.1 == 0)

/-- The bytes of a punt record for a host ring (R485): descriptor, match list, key vector, frame. -/
def puntRecord (s : State) (d seq : Nat) : List Byte :=
  let d' := setBits (setBits (setBits (setBits d 31 0 0) 319 288 0) 479 448 0) 511 480 seq
  let n := if bit d 60 then min 16 (bits d 351 344) else 0
  let list := ((s.bufRead (bits d 479 448) 0 (4 * n)).getD []).take (4 * n)
  let kv := (s.bufRead (bits d 319 288) 0 128).getD []
  let fr := ((s.chainFrame (bits d 31 0) (bits d 45 32)).map (·.1)).getD []
  leBytes d' 64 ++ slice list 0 64 ++ slice kv 0 128 ++ fr

/-- A punt whose buffers have an uncorrectable error at device offset `o` is discarded (R507). Log 163 (DEDUCED). -/
def puntLost (s : State) (h o : Nat) : State :=
  let s := s.workLost o
  let s := match s.st.held.find? h with
    | some m => s.tallyDrop (m.slice / 4) 2 m
    | none => s
  match s.puntDesc h with
  | some d => s.freePunt h d
  | none => s.unholdPunt h

def insHpunt (e t i : Nat) (s : State) : State :=
  s.formed (regForm i) e t fun s =>
    let q := s.opRead e t (insA i)
    let h := s.opRead e t (insB i) % 2 ^ 32
    if (s.puntFind s.heldPart h).isSome then s
    else match s.puntFind s.bufBad h with
    | some o => (s.puntLost h o).unitDone e t false
    | none => match s.puntDesc h with
    | none => s.unitDone e t false
    | some d =>
      let seq := s.rc.punts.at 0 q
      let bs := s.puntRecord d (seq % 2 ^ 32)
      if s.rxTakes q 3 bs.length then
        let m := s.st.held.find? h
        let s := ({ s with rc.punts := s.rc.punts.put 0 q (seq + 1) }.freePunt h d).rxGive q { bytes := bs, frame := m }
        s.unitDone e t true
      else s.unitDone e t false

def insFdrop (e t i : Nat) (s : State) : State :=
  s.formed (regForm i) e t fun s =>
    let h := s.opRead e t (insA i) % 2 ^ 32
    if (s.puntFind s.heldPart h).isSome then s
    else match s.puntDesc h with
    | none => (match s.bufBad h 0 64 with | some o => s.puntLost h o | none => s).unitDone e t false
    | some d =>
      let s := match s.st.held.find? h with
        | some m => s.tallyDrop (m.slice / 4) 2 m
        | none => s
      (s.freePunt h d).unitDone e t true

def insBalloc (e t i : Nat) (s : State) : State :=
  let n := bits i 3 0
  s.formed (immForm i && codeWritable (insD i) && decide (4 ≤ n) && decide (n ≤ 8)) e t fun s =>
    match s.alloc n with
    | (some h, s) => s.unitResult e t i h true
    | (none, s) => let f := s.takeFree; f.2.unitResult e t i (Config.noBuffer f.1).toNat false

def insBfree (e t i : Nat) (s : State) : State :=
  s.formed (regForm i) e t fun s =>
    let h := s.opRead e t (insA i) % 2 ^ 32
    let x := s.freeBuffer h
    let s := if x.1 = 0 then x.2.unholdPunt h else x.2
    s.unitDone e t (x.1 == 0)

def insHaddr (e t i : Nat) (s : State) : State :=
  s.formed (regForm i && codeWritable (insD i)) e t fun s =>
    let h := s.opRead e t (insA i) % 2 ^ 32
    match s.handleAddr h with
    | some a => s.unitResult e t i a true
    | none => s.unitResult e t i (Config.badHandleAddr h).toNat false

def insMnext (e t i : Nat) (s : State) : State :=
  s.formed (regForm i && codeWritable (insD i) && codeWritable (insA i)) e t fun s =>
    let a := s.opRead e t (insA i)
    let h := s.opRead e t (insB i) % 2 ^ 32
    let at_ := (s.puntDesc h).bind fun d =>
      if a < (if bit d 60 then min 16 (bits d 351 344) else 0) then some (bits d 479 448) else none
    let hit := at_.bind fun l => s.bufRead l (4 * a) 4
    if s.bufHeld h 0 64 || at_.any fun l => s.bufHeld l (4 * a) 4 then s
    else
    let s := match s.bufBad h 0 64 <|> at_.bind fun l => s.bufBad l (4 * a) 4 with | some o => s.workLost o | none => s
    match hit with
    | some bs => (s.opWrite e t (insA i) (a + 1)).unitResult e t i (ofLe bs) true
    | none => s.unitResult e t i 0 false

/-! ## DMA (R437) -/

/-- The lowest free tag. Log 123 (DEDUCED). -/
def freeTag (s : State) (e t : Nat) : Option Nat := (List.range 16).find? fun n => !s.tagBusy e t n

def insDma (e t i : Nat) (ans : Bool) (s : State) : State :=
  s.formed (regForm i && codeWritable (insD i)) e t fun s =>
    match s.freeTag e t with
    | none => if ans then s else s.longStall e t .unit
    | some n =>
      accEnd e t (s.readAligned e t ans 8 (s.opRead e t (insA i)) 32) fun bs s =>
        let d := ofLe bs
        let len := bits d 151 128
        let bad := [bits d 63 0, bits d 127 64].find? fun a => len != 0 && (s.windowAt a len).isNone
        let dev := [bits d 63 0, bits d 127 64].any fun a => (s.windowAt a len).any fun w => w.1 == 2
        if bits d 255 152 ≠ 0 then s.illegal e t
        else match bad with
          | some a => s.threadFault e t 2 a
          | none =>
            if dev && s.variant == .e then s.faultFree e t 3
            else
              let j : DmaJob := { tag := n, src := bits d 63 0, dst := bits d 127 64, len := len }
              let s := s.setThr e t fun h => { h with dma := h.dma ++ [j], tagBad := setBit h.tagBad n false }
              s.unitResult e t i n true

/-! ## Long instructions (R446 to R449) -/

/-- An element ends and the instruction goes on. -/
def elementEnd (s : State) (e t : Nat) : State := s.atEnd e t false

/-- CRC: the state of the CRC-32C register stands in D. Log 126 (DEDUCED). -/
def insCrc (e t i : Nat) (ans : Bool) (s : State) : State :=
  s.formed (regForm i && codeWritable (insD i) && codeWritable (insA i) && codeWritable (insB i)) e t fun s =>
    let b := s.opRead e t (insB i)
    if b = 0 then s.retireIns e t
    else
      let n := min 64 b
      let a := s.opRead e t (insA i)
      accEnd e t (s.memRead e t ans a n) fun bs s =>
        let v := crcRun polyC (s.opRead e t (insD i) % 2 ^ 32) bs
        let s := ((s.opWrite e t (insD i) v).opWrite e t (insA i) (a + n)).opWrite e t (insB i) (b - n)
        if b = n then s.unitDone e t true else s.elementEnd e t

def insBcopy (e t i : Nat) (ans : Bool) (s : State) : State :=
  s.formed (regForm i && codeWritable (insD i) && codeWritable (insA i) && codeWritable (insB i)) e t fun s =>
    let b := s.opRead e t (insB i)
    if b = 0 then s.retireIns e t
    else
      let n := min 64 b
      let a := s.opRead e t (insA i)
      let d := s.opRead e t (insD i)
      accEnd e t ((s.memRead e t ans a n).bind fun bs s => s.memWrite e t ans d bs) fun _ s =>
        let s := ((s.opWrite e t (insA i) (a + n)).opWrite e t (insD i) (d + n)).opWrite e t (insB i) (b - n)
        if b = n then s.retireIns e t else s.elementEnd e t

def insLwalk (e t i : Nat) (ans : Bool) (s : State) : State :=
  s.formed (regForm i && codeWritable (insD i) && codeWritable (insB i)) e t fun s =>
    let d := s.opRead e t (insD i)
    if d = 0 then s.unitDone e t false
    else
      accEnd e t (s.readAligned e t ans 8 d 16) fun bs s =>
        let v := ofLe bs
        let b := s.opRead e t (insB i)
        if bits v 127 64 = s.opRead e t (insA i) then s.unitDone e t true
        else if b = 0 then (s.setFlag e t flagTo true).unitDone e t false
        else ((s.opWrite e t (insD i) (bits v 63 0)).opWrite e t (insB i) (b - 1)).elementEnd e t

/-- Read the 64 bytes of bucket `b` of a table at `base`. -/
def bucketRead (s : State) (e t : Nat) (ans : Bool) (base b : Nat) : Acc := s.readAligned e t ans 8 (w64 (base + 64 * b)) 64

/-- The lowest free slot of a bucket: its key is 0. -/
def freeSlot (bs : List Byte) : Option Nat := (List.range 4).find? fun j => ofLe (slice bs (16 * j) 8) == 0

def insHins (e t i : Nat) (ans : Bool) (s : State) : State :=
  s.formed (regForm i && decide (insD i < 30) && codeWritable (insB i)) e t fun s =>
    accEnd e t (s.readAligned e t ans 8 (s.opRead e t (insA i)) 32) fun hd s =>
      let h := ofLe hd
      let base := bits h 63 0
      if bits h 127 70 ≠ 0 ∨ bits h 255 192 ≠ 0 then s.illegal e t
      else
        let k := s.opRead e t (insD i)
        let v := s.opRead e t (insD i + 1)
        let d2 := s.opRead e t (insD i + 2)
        let b := s.opRead e t (insB i)
        let hs := hashPair (bits h 159 128) (bits h 191 160) (leBytes k 8) (bits h 69 64)
        let cand := if d2 = 2 ^ 64 - 1 then [hs.1, hs.2] else if hs.1 = d2 then [hs.2] else [hs.1]
        let last := cand.getLastD 0
        let put := fun (s : State) (bkt slot : Nat) => s.memWrite e t ans (w64 (base + 64 * bkt + 16 * slot)) (leBytes (k + v * 2 ^ 64) 16)
        let first := cand.headD 0
        accEnd e t (s.bucketRead e t ans base first) fun b0 s =>
          match freeSlot b0 with
          | some j => accEnd e t (put s first j) fun _ s => s.unitDone e t true
          | none =>
            accEnd e t (s.bucketRead e t ans base last) fun b1 s =>
              match freeSlot b1 with
              | some j => accEnd e t (put s last j) fun _ s => s.unitDone e t true
              | none =>
                if b = 0 then s.unitDone e t false
                else
                  let slot := b % 4
                  accEnd e t (put s last slot) fun _ s =>
                    let old := ofLe (slice b1 (16 * slot) 16)
                    let s := ((s.opWrite e t (insD i) (old % 2 ^ 64)).opWrite e t (insD i + 1) (old / 2 ^ 64)).opWrite e t (insD i + 2) last
                    (s.opWrite e t (insB i) (b - 1)).elementEnd e t

/-! ## Flow contexts and tables (R303, R437, R480) -/

/-- One flow-context operation with its request. Log 124 (DESIGN CHOICE). -/
def fctxDo (s : State) (req : List Byte) : Option Nat × State :=
  let key := Config.fctxKey req % 2 ^ 384
  match s.flowRead key with
  | (none, t) => (none, t)
  | (some c, t) => (some (flowBytes c), match Config.fctxOp req with
    | 2 => t.flowWrite key fun c => { c with user := Config.fctxUser req % 2 ^ 256 }
    | 4 => ((t.flowFind key).map t.flowDrop).getD t
    | _ => t)

def insFctx (e t i : Nat) (ans : Bool) (s : State) : State :=
  s.formed (regForm i && codeWritable (insD i)) e t fun s =>
    if !ans then s.longStall e t .unit
    else accEnd e t (s.readAligned e t ans 8 (s.opRead e t (insA i)) 64) fun req s =>
      let x := s.fctxDo req
      x.2.unitResult e t i (Config.fctxResult req x.1).toNat x.1.isSome

/-- The pieces of a list of ranges, read in order. -/
def readFrags (e t : Nat) (ans : Bool) : List (Nat × Nat) → List Byte → State → Acc
  | [], got, s => .ok got s
  | (a, n) :: r, got, s => (s.memRead e t ans a n).bind fun bs s => readFrags e t ans r (got ++ bs) s

/-- Bytes written over a list of ranges in order. -/
def writeFrags (e t : Nat) (ans : Bool) : List (Nat × Nat) → List Byte → State → Acc
  | [], _, s => .ok [] s
  | (a, n) :: r, bs, s => (s.memWrite e t ans a (bs.take n)).bind fun _ s => writeFrags e t ans r (bs.drop n) s

/-- The operation of a TOP descriptor with its data: answered at once, or waited for. Log 125 (DEDUCED). -/
def topRun (s : State) (e t i d : Nat) (fr : List (Nat × Nat)) (data : List Byte) : State :=
  let op := entOp d
  let o := entTOp d data
  let absent := if opHasTable op then s.unitAbsent o else s.variant == .e && decide (6 ≤ op) && decide (op ≤ 8)
  let early : Option Nat := if absent then some 1 else if op = 6 then s.setRefused (entSub d) else none
  match early with
  | some st => s.unitResult e t i st (st == 0)
  | none =>
    let r := s.opRun (.thread e t) d data (s.setState (entSub d))
    match r.1 with
    | .now st _ [] => r.2.unitResult e t i st (st == 0)
    | .now st _ out =>
      let dst := if op = 8 then [(bits d 383 320, 64)] else fr
      accEnd e t (writeFrags e t true dst out r.2) fun _ s => s.unitResult e t i st (st == 0)
    | .seq r0 =>
      let n := r.2.ts.issued
      if n ≤ r.2.appliedAll then r.2.unitResult e t i 0 true
      else { r.2 with st.tops := r.2.st.tops.insert (8 * e + t) (0, r0, n) }
    | .wait => r.2
    | .busy => s

def insTop (e t i : Nat) (ans : Bool) (s : State) : State :=
  s.formed (regForm i && codeWritable (insD i)) e t fun s =>
    if !ans then s.longStall e t .unit
    else match s.st.tops.find? (8 * e + t) with
      | some (st, _, n) =>
        if n ≤ s.appliedAll then { s with st.tops := s.st.tops.erase (8 * e + t) }.unitResult e t i st (st == 0) else s
      | none =>
        if s.osp.waiting.any fun w => w.ref == .thread e t then s
        else accEnd e t (s.readAligned e t true 8 (s.opRead e t (insA i)) 64) fun bs s =>
          let d := ofLe bs
          if (malformed 1 d).isSome then s.illegal e t
          else if !entInd d then s.topRun e t i d [] []
          else
            let n := entCount d
            accEnd e t (s.readAligned e t true 8 (entAddr d) (16 * n)) fun tb s =>
              let fs := fragWords tb n
              if (fragFault (entLen d) fs).isSome then s.illegal e t
              else
                let fr := fs.map fun f => (bits f 63 0, bits f 87 64)
                if opReads d = 0 then s.topRun e t i d fr []
                else accEnd e t (readFrags e t true fr [] s) fun data s => s.topRun e t i d fr data

/-! ## Exceptions (R437, R438) -/

def insTrap (e t i : Nat) (s : State) : State := s.formed (immForm i) e t fun s => s.threadFault e t 6 (insImm i)

def insEret (e t i : Nat) (s : State) : State :=
  s.formed (regForm i) e t fun s =>
    ((s.setFlag e t flagExc false).setFlag e t flagDlv false).retireTo e t (s.thr e t).epc

/-! ## Running an instruction -/

/-- The dispatch entry of an opcode is valid (R450). Log 112 (DESIGN CHOICE). -/
def dispatched (s : State) (op : Nat) : Bool := bit (s.st.disp.at 0 op) 16

/-- The running thread of engine `e` executes its instruction when `is` accepts the opcode. Log 113 (DESIGN CHOICE). -/
def runIns (e : Nat) (is : Nat → Bool) (f : Nat → Nat → State → State) (s : State) : State :=
  if 32 ≤ e ∨ !s.enginesUp then s
  else
    let u := s.settle e
    match (u.eng e).cur.filter (u.threadReady e) with
    | none => s
    | some t =>
      let i := u.instrAt e t
      if is (insOp i) then (f t i u).settle e else s

/-- Run base opcode `op`. Log 112 (DESIGN CHOICE). -/
def runOp (e op : Nat) (f : Nat → Nat → State → State) (s : State) : State :=
  s.runIns e (fun o => o == op && s.dispatched op) f

end State

end Sys2Proof.Machine
end

