-- ==== Sys2Proof/Machine/Micro.lean ====
section
/-! DEFINITION. Customer microcode: one microword of a micro-routine, and the machine check (R450 to R454). -/

namespace Sys2Proof.Machine

/-- A microword's parity is even: bit 128 + i with bits 32i to 32i + 31 (R451). -/
def microParity (w : Nat) : Bool :=
  (List.range 4).all fun i => (popcount (bits w (32 * i + 31) (32 * i)) 32 + b2n (bit w (128 + i))) % 2 == 0

/-- The codes under which pending writes of PC and FLAGS are kept. -/
def codePc : Nat := 0x70
def codeFlags : Nat := 0x80

/-- The opcodes that each unit performs (R437, R451). -/
def unitOps (u : Nat) : List Nat :=
  ([[], [0x58, 0x59, 0x5A], [0x60, 0x61], [0x68], [0x70], [0x50, 0x51, 0x52, 0x53], [0x48, 0x49, 0x4A, 0x4B, 0x4C], [0x40, 0x61],
    [0x72], [0x71], [0x41]] : List (List Nat)).getD u []

namespace State

/-- A machine check of thread `t` of engine `e` at microaddress `a`; `tree` says that the Tree copy's word cannot be
corrected either (R454). Log 130 (DEDUCED). -/
def machineCheck (s : State) (e t a : Nat) (tree : Bool) : State :=
  let again := s.st.failAt.at 0 a != 0 && !s.st.badWord.contains a && decide (s.since (s.st.failAt.at 0 a - 1) < 1000000000)
  let s := (s.switchOut e t).setThr e t fun h => { h with micro := some { at_ := a }, stall := .check }
  let s := (((s.inc R.ST_MCHECK [e]).countKind (engBlock e) 3 1).raise F.ST_EVT_MCHECK []).raise F.ST_ENG_EVT_MCHECK [e]
  let s := if s.isOn F.ST_MC_CAP_VALID [] then s else s.wr R.ST_MC_CAP [] (2 ^ 31 + e * 2 ^ 24 + t * 2 ^ 21 + a)
  let s := s.report { die := 12, unit := 13, cause := 7, d0 := a, d1 := 8 * e + t }
  let s := { s with st.badWord := addOnce a s.st.badWord, st.failAt := s.st.failAt.put 0 a (s.clock.tick + 1) }
  if again || tree then
    let s := (s.set F.ST_UCODE_STAT_MCHECK_FATAL [] 1).raise F.ST_EVT_MCHECK_FATAL []
    -- every engine stops its threads at their next boundaries
    forEach (List.range 32) (fun e u => u.settle e) s
  else s

/-- Fault MICRO at microaddress `a` (R438). Log 134 (DEDUCED). -/
def microFault (s : State) (e t a : Nat) : State := s.threadFault e t 7 a

/-- A micro-operand that names a macro field stands for the field's code (R451). -/
def microCode (i c : Nat) : Nat := if c = 0x68 then insD i else if c = 0x69 then insA i else if c = 0x6A then insB i else c

/-- How a micro-operand's code can be used: 0 reserved, 1 readable, 2 readable and writable, 3 illegal in the macro word,
4 readable, and illegal to write. -/
def microUse (i c : Nat) : Nat :=
  if 0x68 ≤ c ∧ c ≤ 0x6A then (if !codeKnown (microCode i c) then 3 else if codeWritable (microCode i c) then 2 else 4)
  else if c < 0x68 ∨ c = 0x6D ∨ c = 0x70 then 2
  else if c = 0x6E ∨ c = 0x71 then 4
  else if c = 0x6B ∨ c = 0x6C ∨ c = 0x6F then 1
  else 0

/-- Read a micro-operand: pending writes are seen (R452). -/
def microRead (s : State) (e t i : Nat) (m : Micro) (w c : Nat) : Nat :=
  let c := microCode i c
  if 0x60 ≤ c ∧ c < 0x68 then m.temps.at 0 (c - 0x60)
  else if c = 0x6B then insImm i
  else if c = 0x6C then bits w 75 60
  else if c = 0x6F then m.last
  else match m.regs.find? c with
    | some v => v
    | none => if c = codePc then (s.thr e t).pc else s.opRead e t c

/-- Write a micro-operand: pending, but for the temporaries. -/
def microWrite (i : Nat) (m : Micro) (c v : Nat) : Micro :=
  let c := microCode i c
  if 0x60 ≤ c ∧ c < 0x68 then { m with temps := m.temps.put 0 (c - 0x60) v }
  else if c = 0x6D then m
  else { m with regs := m.regs.insert c v }

/-- FLAGS as the routine sees them. -/
def microFlags (s : State) (e t : Nat) (m : Micro) : Nat := (m.regs.find? codeFlags).getD (s.thr e t).flags

/-- The condition of a word (R451). -/
def microCond (s : State) (e t : Nat) (m : Micro) (w : Nat) : Bool :=
  let c := bits w 108 103
  let v := if c = 0 then true else if c ≤ 8 then bit (s.microFlags e t m) (c - 1) else bit (m.temps.at 0 (c - 9)) 0
  v != bit w 102

/-- Every pending write takes effect (R452). -/
def microCommit (s : State) (e t : Nat) (m : Micro) : State :=
  m.regs.foldl (fun u r =>
    if r.1 = codePc then u.setThr e t fun h => { h with pc := pcWrap r.2 }
    else if r.1 = codeFlags then u.setThr e t fun h => { h with flags := r.2 % 256 }
    else u.opWrite e t r.1 r.2) s

/-- The word's own sequencing, with its writes made (R451 to R453). -/
def microSeq (s : State) (e t : Nat) (m : Micro) (w : Nat) : State :=
  let naddr := bits w 124 109
  let next := (m.at_ + 1) % 65536
  let go := fun (m : Micro) (a : Nat) => s.setThr e t fun h => { h with micro := some { m with at_ := a }, stall := .none }
  match bits w 127 125 with
  | 0 => go m next
  | 1 => go m naddr
  | 2 => go m (if s.microCond e t m w then naddr else next)
  | 3 => if 8 ≤ m.stack.length then s.microFault e t m.at_ else go { m with stack := next :: m.stack } naddr
  | 4 => match m.stack with
    | a :: r => go { m with stack := r } a
    | [] => s.microFault e t m.at_
  | 5 =>
    let pc := (s.thr e t).pc
    let u := (s.microCommit e t m).setThr e t fun h => { h with micro := none }
    u.retireTo e t (if (m.regs.find? codePc).isSome then (u.thr e t).pc else pc + 1)
  | 6 =>
    -- the thread goes on at NADDR unless something is taken at the boundary
    let u := ((s.microCommit e t m).elementEnd e t).settle e
    if u.threadReady e t ∧ (u.eng e).cur = some t then
      u.setThr e t fun h => { h with micro := some { at_ := naddr } }
    else u
  | _ => s.microFault e t m.at_

/-- A macro instruction's own meaning, with the units' answer. -/
def unitMeaning (op e t i : Nat) (ans : Bool) (s : State) : State :=
  match op with
  | 0x40 => s.insWait e t i
  | 0x41 => s.insSignal e t i
  | 0x48 => s.insChopen e t i
  | 0x49 => s.insChw e t i
  | 0x4A => s.insChpost e t i
  | 0x4B => s.insChr e t i
  | 0x4C => s.insChfree e t i
  | 0x50 => s.insGetpunt e t i
  | 0x51 => s.insRinj e t i ans
  | 0x52 => s.insHpunt e t i
  | 0x53 => s.insFdrop e t i
  | 0x58 => s.insBalloc e t i
  | 0x59 => s.insBfree e t i
  | 0x5A => s.insHaddr e t i
  | 0x60 => s.insDma e t i ans
  | 0x61 => s.insDmaw e t i
  | 0x68 => s.insCrc e t i ans
  | 0x70 => s.insFctx e t i ans
  | 0x71 => s.insMnext e t i
  | 0x72 => s.insTop e t i ans
  | _ => s

/-- The word a unit operation stands for: its operands are put in A0 (SA), A1 (SB) and A2 (DST), an immediate is SB's or,
where the operation has no other operand, SA's low bits. Log 129 (DEDUCED). -/
def unitWord (op sa sb : Nat) : Nat :=
  let imm := op = 0x48 ∨ op = 0x58
  let mixed := 0x49 ≤ op ∧ op ≤ 0x4C
  op * 2 ^ 24 + 2 * 2 ^ 17 + (if imm then sa % 1024 else if mixed then sb % 1024 else 8)

/-- A unit operation of a microword: the unit runs on the word's operands, and what it changes in FLAGS and in its operands
becomes pending. Log 129 (DEDUCED). -/
def microUnit (s : State) (e t i : Nat) (m : Micro) (w : Nat) (ans : Bool) : State :=
  let op := bits w 47 40
  let sa := s.microRead e t i m w (bits w 96 90)
  let sb := s.microRead e t i m w (bits w 89 83)
  let dst := bits w 82 76
  let old := s.thr e t
  let regs := ((old.a.put 0 0 sa).put 0 1 sb).put 0 2 (s.microRead e t i m w dst)
  let u := s.setThr e t fun h => { h with a := regs, flags := s.microFlags e t m, step := false }
  let word := unitWord op sa sb
  let pc := old.pc
  let r := u.unitMeaning op e t word ans
  let h := r.thr e t
  let back := fun (v : State) (f : Thread → Thread) => v.setThr e t fun h => f { h with a := old.a, step := old.step, passBrk := old.passBrk }
  if h.stall ≠ .none then
    -- WAIT and DMAW have set DL and DLV; the word is executed again when the stall ends
    back r fun h => { h with flags := setBit old.flags flagDlv (bit h.flags flagDlv), micro := some m }
  else if h.faulted ∨ (bit h.flags flagExc ∧ !bit (s.microFlags e t m) flagExc) then
    -- the fault is at a boundary: a STEP ends there (R456)
    let v := r.setThr e t fun h => { h with a := old.a, flags := setBit old.flags flagExc true }
    if old.step then (v.setThr e t fun h => { h with stopped := true }).clearStep e t else v
  else
    let keep := fun (m : Micro) (c k v : Nat) => if h.a.at 0 k = v then m else
      (match microUse i c with | 2 => microWrite i m c (h.a.at 0 k) | _ => m)
    let m1 := keep (keep m (bits w 96 90) 0 sa) (bits w 89 83) 1 sb
    let m2 := { microWrite i m1 dst (h.a.at 0 2) with last := h.a.at 0 2 }
    let m3 := { m2 with regs := m2.regs.insert codeFlags h.flags }
    let v := back r fun h => { h with pc := pc, flags := setBit old.flags flagDlv (bit h.flags flagDlv), micro := some m3 }
    v.microSeq e t m3 w

/-- A field of a microword holds a reserved value (R451). Log 129 (DEDUCED). -/
def microReserved (i w : Nat) : Bool :=
  let mem := bits w 59 56
  let unit := bits w 53 48
  let rd := fun (c : Nat) => microUse i c == 0
  let wrt := let u := microUse i (bits w 82 76); u == 0 || u == 1
  bits w 38 0 != 0 || decide (16 < bits w 108 103) || decide (14 < bits w 101 97) || decide (2 < mem) || decide (10 < unit)
    || rd (bits w 96 90) || rd (bits w 89 83) || wrt || (mem != 0 && (bits w 101 97 != 0 || unit != 0))
    || (unit != 0 && !(unitOps unit).contains (bits w 47 40))

/-- The word names, through a macro field, a code that R436 does not list, or writes TICK or TID. -/
def microIllegal (i w : Nat) : Bool :=
  let bad := fun (c : Nat) => microUse i c == 3
  bad (bits w 96 90) || bad (bits w 89 83) || bad (bits w 82 76) || microUse i (bits w 82 76) == 4

/-- Execute the microword of a thread in a customer routine (R451 to R454). Log 112 (DESIGN CHOICE), 129 (DEDUCED). -/
def microStep (s : State) (e t : Nat) (ans : Bool) : State :=
  let i := s.instrAt e t
  let m : Micro := ((s.thr e t).micro).getD { at_ := bits (s.st.disp.at 0 (insOp i)) 15 0 }
  let w := s.st.ucode.at 0 m.at_ ^^^ emptyMicroword
  if !microParity w || s.st.badWord.contains m.at_ then s.machineCheck e t m.at_ false
  else if microReserved i w then s.microFault e t m.at_
  else if microIllegal i w then s.illegal e t
  else
    let sa := s.microRead e t i m w (bits w 96 90)
    let sb := s.microRead e t i m w (bits w 89 83)
    let dst := bits w 82 76
    let size := 2 ^ bits w 55 54
    let addr := w64 (sa + sext 16 (bits w 75 60))
    let s := s.setThr e t fun h => { h with micro := some m }
    match bits w 59 56 with
    | 1 => accEnd e t (s.readAligned e t ans size addr size) fun bs u => u.microSeq e t (microWrite i m dst (ofLe bs)) w
    | 2 =>
      accEnd e t (if addr % size ≠ 0 then .fault 2 addr s else s.memWrite e t ans addr (leBytes sb size)) fun _ u => u.microSeq e t m w
    | _ =>
      if bits w 53 48 ≠ 0 then s.microUnit e t i m w ans
      else
        let op := bits w 101 97
        if op = 0 then s.microSeq e t (microWrite i m dst sa) w
        else
          let m' := { m with regs := m.regs.insert codeFlags (aluFlags (s.microFlags e t m) op sa sb) }
          s.microSeq e t (microWrite i m' dst (aluResult op sa sb)) w

/-- The meaning of a stalled instruction, made again with the answer (R439). -/
def reissue (s : State) (e t : Nat) : State :=
  let i := s.instrAt e t
  let op := insOp i
  if 0xC0 ≤ op then s.microStep e t true
  else match op with
    | 0x28 => s.insLd e t i true
    | 0x29 => s.insSt e t i true
    | 0x40 => s.insWait e t i
    | 0x51 => s.insRinj e t i true
    | 0x60 => s.insDma e t i true
    | 0x61 => s.insDmaw e t i
    | 0x68 => s.insCrc e t i true
    | 0x69 => s.insBcopy e t i true
    | 0x6A => s.insLwalk e t i true
    | 0x6B => s.insHins e t i true
    | 0x70 => s.insFctx e t i true
    | 0x72 => s.insTop e t i true
    | _ => s

end State

end Sys2Proof.Machine
end

