-- ==== Sys2Proof/Machine/Isa.lean ====
section
/-! DEFINITION. The commands by which engine `e` executes one macro instruction, or one element or microword of it, of its
running thread (R437). -/

namespace Sys2Proof.Machine

/-! ## Arithmetic -/

/-- NOP. -/
def execNop (e : Nat) (s : State) : Out := done (fun s => s.runOp e 0x00 fun t i s => s.insNop e t i) s

/-- ADD, REG form. -/
def execAdd (e : Nat) (s : State) : Out := done (fun s => s.runOp e 0x01 fun t i s => s.aluReg 1 e t i) s

/-- SUB, REG form. -/
def execSub (e : Nat) (s : State) : Out := done (fun s => s.runOp e 0x02 fun t i s => s.aluReg 2 e t i) s

/-- AND, REG form. -/
def execAnd (e : Nat) (s : State) : Out := done (fun s => s.runOp e 0x03 fun t i s => s.aluReg 3 e t i) s

/-- OR, REG form. -/
def execOr (e : Nat) (s : State) : Out := done (fun s => s.runOp e 0x04 fun t i s => s.aluReg 4 e t i) s

/-- XOR, REG form. -/
def execXor (e : Nat) (s : State) : Out := done (fun s => s.runOp e 0x05 fun t i s => s.aluReg 5 e t i) s

/-- SHL, REG form. -/
def execShl (e : Nat) (s : State) : Out := done (fun s => s.runOp e 0x06 fun t i s => s.aluReg 6 e t i) s

/-- SHR, REG form. -/
def execShr (e : Nat) (s : State) : Out := done (fun s => s.runOp e 0x07 fun t i s => s.aluReg 7 e t i) s

/-- SAR, REG form. -/
def execSar (e : Nat) (s : State) : Out := done (fun s => s.runOp e 0x08 fun t i s => s.aluReg 8 e t i) s

/-- MUL, REG form. -/
def execMul (e : Nat) (s : State) : Out := done (fun s => s.runOp e 0x09 fun t i s => s.aluReg 9 e t i) s

/-- MINU, REG form. -/
def execMinu (e : Nat) (s : State) : Out := done (fun s => s.runOp e 0x0A fun t i s => s.aluReg 10 e t i) s

/-- MAXU, REG form. -/
def execMaxu (e : Nat) (s : State) : Out := done (fun s => s.runOp e 0x0B fun t i s => s.aluReg 11 e t i) s

/-- BSWAP, REG form. -/
def execBswap (e : Nat) (s : State) : Out := done (fun s => s.runOp e 0x0C fun t i s => s.aluReg 12 e t i) s

/-- CLZ, REG form. -/
def execClz (e : Nat) (s : State) : Out := done (fun s => s.runOp e 0x0D fun t i s => s.aluReg 13 e t i) s

/-- POPCNT, REG form. -/
def execPopcnt (e : Nat) (s : State) : Out := done (fun s => s.runOp e 0x0E fun t i s => s.aluReg 14 e t i) s

/-- ADD, IMM form. -/
def execAddImm (e : Nat) (s : State) : Out := done (fun s => s.runOp e 0x11 fun t i s => s.aluImm 1 e t i) s

/-- SUB, IMM form. -/
def execSubImm (e : Nat) (s : State) : Out := done (fun s => s.runOp e 0x12 fun t i s => s.aluImm 2 e t i) s

/-- AND, IMM form. -/
def execAndImm (e : Nat) (s : State) : Out := done (fun s => s.runOp e 0x13 fun t i s => s.aluImm 3 e t i) s

/-- OR, IMM form. -/
def execOrImm (e : Nat) (s : State) : Out := done (fun s => s.runOp e 0x14 fun t i s => s.aluImm 4 e t i) s

/-- XOR, IMM form. -/
def execXorImm (e : Nat) (s : State) : Out := done (fun s => s.runOp e 0x15 fun t i s => s.aluImm 5 e t i) s

/-- SHL, IMM form. -/
def execShlImm (e : Nat) (s : State) : Out := done (fun s => s.runOp e 0x16 fun t i s => s.aluImm 6 e t i) s

/-- SHR, IMM form. -/
def execShrImm (e : Nat) (s : State) : Out := done (fun s => s.runOp e 0x17 fun t i s => s.aluImm 7 e t i) s

/-- SAR, IMM form. -/
def execSarImm (e : Nat) (s : State) : Out := done (fun s => s.runOp e 0x18 fun t i s => s.aluImm 8 e t i) s

/-- MUL, IMM form. -/
def execMulImm (e : Nat) (s : State) : Out := done (fun s => s.runOp e 0x19 fun t i s => s.aluImm 9 e t i) s

/-- MINU, IMM form. -/
def execMinuImm (e : Nat) (s : State) : Out := done (fun s => s.runOp e 0x1A fun t i s => s.aluImm 10 e t i) s

/-- MAXU, IMM form. -/
def execMaxuImm (e : Nat) (s : State) : Out := done (fun s => s.runOp e 0x1B fun t i s => s.aluImm 11 e t i) s

/-- BSWAP, IMM form. -/
def execBswapImm (e : Nat) (s : State) : Out := done (fun s => s.runOp e 0x1C fun t i s => s.aluImm 12 e t i) s

/-- CLZ, IMM form. -/
def execClzImm (e : Nat) (s : State) : Out := done (fun s => s.runOp e 0x1D fun t i s => s.aluImm 13 e t i) s

/-- POPCNT, IMM form. -/
def execPopcntImm (e : Nat) (s : State) : Out := done (fun s => s.runOp e 0x1E fun t i s => s.aluImm 14 e t i) s

/-! ## Moves, loads, stores and branches -/

/-- LI. -/
def execLi (e : Nat) (s : State) : Out := done (fun s => s.runOp e 0x20 fun t i s => s.insLi e t i) s

/-- LUI. -/
def execLui (e : Nat) (s : State) : Out := done (fun s => s.runOp e 0x21 fun t i s => s.insLui e t i) s

/-- LD (R431). -/
def execLd (e : Nat) (s : State) : Out := done (fun s => s.runOp e 0x28 fun t i s => s.insLd e t i (s.thr e t).answered) s

/-- ST (R431). -/
def execSt (e : Nat) (s : State) : Out := done (fun s => s.runOp e 0x29 fun t i s => s.insSt e t i (s.thr e t).answered) s

/-- BEQ. -/
def execBeq (e : Nat) (s : State) : Out := done (fun s => s.runOp e 0x30 fun t i s => s.cmpBranch (fun a b => a == b) e t i) s

/-- BNE. -/
def execBne (e : Nat) (s : State) : Out := done (fun s => s.runOp e 0x31 fun t i s => s.cmpBranch (fun a b => a != b) e t i) s

/-- BLTU. -/
def execBltu (e : Nat) (s : State) : Out := done (fun s => s.runOp e 0x32 fun t i s => s.cmpBranch (fun a b => decide (a < b)) e t i) s

/-- BGEU. -/
def execBgeu (e : Nat) (s : State) : Out := done (fun s => s.runOp e 0x33 fun t i s => s.cmpBranch (fun a b => decide (b ≤ a)) e t i) s

/-- BF. -/
def execBf (e : Nat) (s : State) : Out := done (fun s => s.runOp e 0x34 fun t i s => s.insBf e t i) s

/-- JMP. -/
def execJmp (e : Nat) (s : State) : Out := done (fun s => s.runOp e 0x35 fun t i s => s.insJmp e t i) s

/-- JAL. -/
def execJal (e : Nat) (s : State) : Out := done (fun s => s.runOp e 0x36 fun t i s => s.insJal e t i) s

/-- JR. -/
def execJr (e : Nat) (s : State) : Out := done (fun s => s.runOp e 0x37 fun t i s => s.insJr e t i) s

/-! ## Waiting, signals and channels -/

/-- WAIT (R440). -/
def execWait (e : Nat) (s : State) : Out := done (fun s => s.runOp e 0x40 fun t i s => s.insWait e t i) s

/-- SIGNAL. -/
def execSignal (e : Nat) (s : State) : Out := done (fun s => s.runOp e 0x41 fun t i s => s.insSignal e t i) s

/-- CHOPEN (R442). -/
def execChopen (e : Nat) (s : State) : Out := done (fun s => s.runOp e 0x48 fun t i s => s.insChopen e t i) s

/-- CHW (R442). -/
def execChw (e : Nat) (s : State) : Out := done (fun s => s.runOp e 0x49 fun t i s => s.insChw e t i) s

/-- CHPOST (R442). -/
def execChpost (e : Nat) (s : State) : Out := done (fun s => s.runOp e 0x4A fun t i s => s.insChpost e t i) s

/-- CHR (R442). -/
def execChr (e : Nat) (s : State) : Out := done (fun s => s.runOp e 0x4B fun t i s => s.insChr e t i) s

/-- CHFREE (R442). -/
def execChfree (e : Nat) (s : State) : Out := done (fun s => s.runOp e 0x4C fun t i s => s.insChfree e t i) s

/-! ## Punts, buffers and DMA -/

/-- GETPUNT. -/
def execGetpunt (e : Nat) (s : State) : Out := done (fun s => s.runOp e 0x50 fun t i s => s.insGetpunt e t i) s

/-- RINJ (R444). -/
def execRinj (e : Nat) (s : State) : Out := done (fun s => s.runOp e 0x51 fun t i s => s.insRinj e t i (s.thr e t).answered) s

/-- HPUNT (R445). -/
def execHpunt (e : Nat) (s : State) : Out := done (fun s => s.runOp e 0x52 fun t i s => s.insHpunt e t i) s

/-- FDROP (R445). -/
def execFdrop (e : Nat) (s : State) : Out := done (fun s => s.runOp e 0x53 fun t i s => s.insFdrop e t i) s

/-- BALLOC (R356). -/
def execBalloc (e : Nat) (s : State) : Out := done (fun s => s.runOp e 0x58 fun t i s => s.insBalloc e t i) s

/-- BFREE (R357). -/
def execBfree (e : Nat) (s : State) : Out := done (fun s => s.runOp e 0x59 fun t i s => s.insBfree e t i) s

/-- HADDR (R431). -/
def execHaddr (e : Nat) (s : State) : Out := done (fun s => s.runOp e 0x5A fun t i s => s.insHaddr e t i) s

/-- DMA. -/
def execDma (e : Nat) (s : State) : Out := done (fun s => s.runOp e 0x60 fun t i s => s.insDma e t i (s.thr e t).answered) s

/-- DMAW (R440). -/
def execDmaw (e : Nat) (s : State) : Out := done (fun s => s.runOp e 0x61 fun t i s => s.insDmaw e t i) s

/-! ## Long instructions, units and exceptions -/

/-- CRC: one element (R447). -/
def execCrc (e : Nat) (s : State) : Out := done (fun s => s.runOp e 0x68 fun t i s => s.insCrc e t i (s.thr e t).answered) s

/-- BCOPY: one element (R447). -/
def execBcopy (e : Nat) (s : State) : Out := done (fun s => s.runOp e 0x69 fun t i s => s.insBcopy e t i (s.thr e t).answered) s

/-- LWALK: one element (R448). -/
def execLwalk (e : Nat) (s : State) : Out := done (fun s => s.runOp e 0x6A fun t i s => s.insLwalk e t i (s.thr e t).answered) s

/-- HINS: one element (R449). -/
def execHins (e : Nat) (s : State) : Out := done (fun s => s.runOp e 0x6B fun t i s => s.insHins e t i (s.thr e t).answered) s

/-- FCTX (R303). -/
def execFctx (e : Nat) (s : State) : Out := done (fun s => s.runOp e 0x70 fun t i s => s.insFctx e t i (s.thr e t).answered) s

/-- MNEXT. -/
def execMnext (e : Nat) (s : State) : Out := done (fun s => s.runOp e 0x71 fun t i s => s.insMnext e t i) s

/-- TOP (R480). -/
def execTop (e : Nat) (s : State) : Out := done (fun s => s.runOp e 0x72 fun t i s => s.insTop e t i (s.thr e t).answered) s

/-- TRAP (R438). -/
def execTrap (e : Nat) (s : State) : Out := done (fun s => s.runOp e 0x78 fun t i s => s.insTrap e t i) s

/-- ERET. -/
def execEret (e : Nat) (s : State) : Out := done (fun s => s.runOp e 0x79 fun t i s => s.insEret e t i) s

/-- The opcodes that the base microcode implements (R437). -/
def listedOps : List Nat :=
  [0x20, 0x21, 0x28, 0x29, 0x30, 0x31, 0x32, 0x33, 0x34, 0x35, 0x36, 0x37, 0x40, 0x41, 0x48, 0x49, 0x4A, 0x4B, 0x4C, 0x50, 0x51,
   0x52, 0x53, 0x58, 0x59, 0x5A, 0x60, 0x61, 0x68, 0x69, 0x6A, 0x6B, 0x70, 0x71, 0x72, 0x78, 0x79]

/-- The opcode is listed, or belongs to customer microcode. -/
def opcodeListed (op : Nat) : Bool :=
  decide (op ≤ 0x0E) || (decide (0x11 ≤ op) && decide (op ≤ 0x1E)) || listedOps.contains op || decide (0xC0 ≤ op)

/-- ILLEGAL_OPCODE: the running thread meets an opcode that is not listed, or whose dispatch entry has VALID 0: fault ILLEGAL
(R437, R450). -/
def execIllegalOpcode (e : Nat) (s : State) : Out :=
  done (fun s => s.runIns e (fun op => !opcodeListed op || !s.dispatched op) fun t _ s => s.illegal e t) s

/-- CUSTOMER_OPCODE: the running thread executes the next microword of its routine for an opcode of 0xC0 to 0xFF (R450 to
R453). -/
def execCustomerOpcode (e : Nat) (s : State) : Out :=
  done (fun s => s.runIns e (fun op => decide (0xC0 ≤ op) && s.dispatched op) fun t _ s => s.microStep e t (s.thr e t).answered) s

end Sys2Proof.Machine
end

