-- ==== Sys2Proof/Machine/Punts.lean ====
section
/-! DEFINITION. Punts reaching the engines and host rings, the ends of stalls, machine checks, the debugger and the Stitcher
reset (R119, R120, R122, R432 to R434, R437 to R440, R454 to R457, R485, R507, R518). -/

namespace Sys2Proof.Machine

namespace State

/-! ## Punts (R432 to R434, R485) -/

/-- The 64 bytes of a punt descriptor (R434). -/
def descOf (p : Punt) (frame kv list seq : Nat) : Nat :=
  let m := p.f.m
  let n := p.f.bytes.length
  let ns := m.t16 / 65536
  frame + (n % 2 ^ 14 + p.reason * 2 ^ 14 + m.pass * 2 ^ 20 + m.colour * 2 ^ 22 + m.cls * 2 ^ 24 + b2n m.reinj * 2 ^ 27
      + b2n p.awlV * 2 ^ 28 + b2n p.flowV * 2 ^ 29 + b2n m.osMulti * 2 ^ 31) * 2 ^ 32
    + (m.inPort + m.slice * 2 ^ 9 + m.subport * 2 ^ 16) * 2 ^ 64 + (m.tenant + m.epoch * 2 ^ 16) * 2 ^ 96
    + ns / 1000000000 % 2 ^ 48 * 2 ^ 128 + (ns % 1000000000 + (m.t16 % 65536 + m.pri * 2 ^ 16) * 2 ^ 32) * 2 ^ 192
    + p.f.brand * 2 ^ 256 + kv * 2 ^ 288 + p.awlRes * 2 ^ 320 + p.flowRes * 2 ^ 384 + list * 2 ^ 448 + seq * 2 ^ 480

/-- The match list of a punt as bytes. -/
def listOf (p : Punt) : List Byte := slice ((p.awlList.take 16).flatMap fun m => leBytes m 4) 0 64

/-- A punt is discarded as an OTHER drop. Log 132 (DEDUCED). -/
def puntDrop (s : State) (m : Meta) : State := s.tallyDrop (m.slice / 4) 2 m

/-- Free buffers. -/
def freeAll (s : State) (l : List Nat) : State := forEach l (fun b t => (t.freeBuffer b).2) s

/-- Place bytes in a chain of pool 5 buffers: the buffers taken, or none when one cannot be had (R433). The chain is linked
from its end. -/
def placeChain : Nat → List Byte → List Nat → State → Option (List (Nat × List Byte)) × List Nat × State
  | 0, _, took, s => (some [], took, s)
  | f + 1, bs, took, s =>
    if bs.isEmpty then (some [], took, s)
    else match s.alloc 5 with
      | (none, t) => (none, took, t)
      | (some h, t) =>
        let k := poolBytes (h / 2 ^ 28) - 8
        let r := placeChain f (bs.drop k) (h :: took) t
        (r.1.map fun l => (h, bs.take k) :: l, r.2)

/-- Write a chain. -/
def writeChain : List (Nat × List Byte) → State → State
  | [], s => s
  | (h, bs) :: r, s =>
    let next := (r.head?.map (·.1)).getD 0xFFFFFFFF
    writeChain r (s.bufWrite h 0 (leBytes (next + bs.length * 2 ^ 32) 8 ++ bs))

/-- Take one buffer of pool `n` after others. -/
def oneMore (n : Nat) (got : List Nat) (s : State) : Option Nat × List Nat × State :=
  match s.alloc n with
  | (some h, t) => (some h, h :: got, t)
  | (none, t) => (none, got, t)

/-- Queue a punt to engine `e` (R433, R434); none while a buffer it takes lies in device memory that cannot be reached (R504,
R505, R508). Log 132 (DEDUCED). -/
def puntToEngine (s : State) (e : Nat) (p : Punt) : Option State :=
  let none_ := fun (t : State) (got : List Nat) => some (((t.freeAll got).inc R.ST_PUNT_NOBUF []).puntDrop p.f.m)
  if 256 ≤ (s.eng e).pq.length then some ((s.inc R.ST_PQ_FULL [e]).puntDrop p.f.m)
  else
    let c := placeChain 20000 p.f.bytes [] s
    match c.1 with
    | none => none_ c.2.2 c.2.1
    | some l =>
      let a := oneMore 5 c.2.1 c.2.2
      let scanned := p.awlV && !bit p.awlRes 20
      match a.1 with
      | none => none_ a.2.2 a.2.1
      | some kv =>
        let b : Option Nat × List Nat × State := if scanned then oneMore 4 a.2.1 a.2.2 else (some 0xFFFFFFFF, a.2.1, a.2.2)
        match b.1 with
        | none => none_ b.2.2 b.2.1
        | some list =>
          let d := oneMore 4 b.2.1 b.2.2
          match d.1 with
          | none => none_ d.2.2 d.2.1
          | some h =>
            let held := fun (b n : Nat) => d.2.2.bufHeld b 0 n
            if (l.any fun x => held x.1 (8 + x.2.length)) || held kv 128 || (scanned && held list 64) || held h 64 then none
            else
            let t := (writeChain l d.2.2).bufWrite kv 0 (leBytes p.kv 128)
            let t := if scanned then t.bufWrite list 0 (listOf p) else t
            let seq := (t.eng e).seq
            let frame := (l.head?.map (·.1)).getD 0xFFFFFFFF
            let t := t.bufWrite h 0 (leBytes (descOf p frame kv list seq) 64)
            let t := t.setEng e fun g => { g with pq := g.pq ++ [h], seq := (seq + 1) % 2 ^ 32 }
            some ((({ t with st.held := t.st.held.insert h p.f.m, st.chains := t.st.chains.insert frame p.f.m }.inc R.ST_PUNTS [e]).countKind (engBlock e) 0 1 (some p.f.m.tenant)).settle e)

/-- The engine of a mask that a punt's match key chooses (R432). -/
def puntEngine (mask mkey : Nat) : Nat :=
  let l := setPositions mask 32
  l.getD (keyHash mkey % 65536 * l.length / 65536) 0

/-- A punt for the engines. -/
def puntToEngines (s : State) (p : Punt) (host : Bool) : Option State :=
  let mask := s.get F.ST_PUNT_ENG_ALL [p.reason]
  if mask = 0 then some ((if host then s.inc R.ST_PUNT_NOHOST [p.reason] else s).puntDrop p.f.m)
  else if s.isOn F.ST_UCODE_STAT_MCHECK_FATAL [] then some ((s.inc R.ST_PUNT_DEAD []).puntDrop p.f.m)
  else if p.late then some (s.puntDrop p.f.m)
  else s.puntToEngine (puntEngine mask p.f.m.mkey) p

/-- A punt for host ring `q` (R484, R485). -/
def puntToHost (s : State) (q : Nat) (p : Punt) : State :=
  let seq := s.rc.punts.at 0 q
  let bs := leBytes (descOf p 0 0 0 (seq % 2 ^ 32)) 64
    ++ (if p.awlV then slice (listOf p) 0 (4 * min 16 (bits p.awlRes 31 24)) else []) 
  let rec_ : RxRec := { bytes := slice bs 0 128 ++ leBytes p.kv 128 ++ p.f.bytes, frame := some p.f.m }
  if s.rxTakes q 3 rec_.bytes.length then { s with rc.punts := s.rc.punts.put 0 q (seq + 1) }.rxGive q rec_ else s.rxLost q rec_

/-- The oldest punt arrives at the Tree die (R198, R199, R432); none while it waits. Log 132 (DEDUCED). -/
def puntArrive (s : State) (p : Punt) : Option State :=
  let m := p.f.m
  let n := p.f.bytes.length
  let c := crc32c p.f.bytes
  let s := s.epochOut m
  if p.f.poison then some ((s.brandFail p.die 1 0 m false 0 0 n).puntDrop m)
  else if c ≠ p.f.brand then some ((s.brandFail p.die 6 0 m false p.f.brand c n).puntDrop m)
  else match s.get F.ST_PUNT_MAP_DEST [p.reason] with
    | 0 => s.puntToEngines p false
    | 1 =>
      let q := s.get F.ST_PUNT_MAP_RING [p.reason]
      let up := s.driverOk 0 && !s.rcHalted && s.isOn F.RC_SQ_CFG_EN [q] && s.get F.RC_SQ_CFG_TYPE [q] == 3
      if up then some (s.puntToHost q p) else s.puntToEngines p true
    | _ => some (s.puntDrop m)

/-! ## The ends of stalls (R439, R440) -/

/-- The thread's stalled instruction is made again; when it still does not complete, nothing has happened to the switching. While
another thread of the engine runs, the thread only becomes ready: its instruction ends when the engine runs it (R430, R439).
Log 243 (DEDUCED). -/
def endStall (s : State) (e t : Nat) : State :=
  let k := (s.thr e t).stall
  let u := s.reissue e t
  let busy := (s.eng e).cur.any fun c => c != t && s.threadReady e c
  if (u.thr e t).stall ≠ .none then (if k = .wait ∨ k = .dmaw then s else u.settle e)
  else if busy then (s.setThr e t fun h => { h with stall := .none, answered := true }).settle e
  else u.settle e

/-! ## DMA (R437, R507, R518) -/

/-- A DMA completes: its tag is freed, and the latch is set. -/
def dmaEnd (s : State) (e t : Nat) (j : DmaJob) (bad : Bool) : State :=
  s.setThr e t fun h => { h with
    dma := h.dma.filter fun d => d.tag != j.tag, dmaDone := true, tagBad := if bad then setBit h.tagBad j.tag true else h.tagBad }

/-- What a DMA access needs of its window: the bytes, or the state and whether it waits or has failed. Log 123 (DEDUCED). -/
def dmaAccess (s : State) (e t tag a n : Nat) (wr : Option (List Byte)) : Acc :=
  if n = 0 then .ok [] s
  else match s.windowAt a n with
  | none => .fault 2 a s
  | some (3, va) =>
    if s.rcHalted then .stall s
    else
      let pas := pasOf (s.rd R.TR_ENG_PASID [e])
      let who := Who.tag e (16 * t + tag)
      match wr with
      | some bs =>
        let x := s.dmaPut who 0 pas [(va, n)] 0 bs
        if x.2.1 = 0 then .ok [] x.2.2 else if x.2.1 = 1 then .stall x.2.2 else .fault 8 a x.2.2
      | none =>
        let x := s.hostLoad who pas va n
        if x.2.1 = 0 then .ok x.1 x.2.2 else if x.2.1 = 1 then .stall x.2.2 else .fault 8 a x.2.2
  | some (w, o) =>
    let bl := blocksOf o n
    if w = 2 ∧ bl.any fun b => s.ddrWaits (b * 64) then .stall s
    else match wr with
      | some bs => .ok [] ((if w = 2 then s.countBursts 1 bl else s).winPut w o bs)
      | none =>
        if w = 2 ∧ s.ddrBad o n then
          match bl.find? fun b => s.ddrBad (b * 64) 64 with
          | some b => .fault 2 a (s.ddrUe (b * 64))
          | none => .fault 2 a s
        else .ok (s.winGet w o n) (if w = 2 then s.countBursts 0 bl else s)

/-- The transfer of tag `tag` of a thread. -/
def dmaRun (s : State) (e t tag : Nat) : State :=
  match (s.thr e t).dma.find? fun d => d.tag == tag with
  | none => s
  | some j =>
    if j.bad then s.dmaEnd e t j true
    else match (s.dmaAccess e t tag j.src j.len none).bind fun bs u => u.dmaAccess e t tag j.dst j.len (some bs) with
      | .ok _ u => u.dmaEnd e t j false
      | .stall u => u
      | .fault _ _ u => u.dmaEnd e t j true

/-! ## The Stitcher reset (R119, R120, R455) -/

/-- Engine `e` is reset: its threads, shared registers and channels; the frames it holds are discarded.
Log 12 (DESIGN CHOICE), 131 (DEDUCED). -/
def resetEngine (s : State) (e : Nat) : State :=
  let mine := (s.st.heldBy.filter fun h => h.2 == e + 1).map (·.1)
  let s := forEach mine (fun h t =>
    let t := (t.inc R.ST_RESET_DROP [e])
    let t := match t.st.held.find? h with | some m => t.puntDrop m | none => t
    match t.puntDesc h with
    | some d => t.freePunt h d
    | none => t.unholdPunt h) s
  let s := s.dropWaits fun w => match w with | .thread f _ => f == e | .tag f _ => f == e | _ => false
  let own := fun (w : OsWait) => match w.ref with | .thread f _ => f == e | _ => false
  let st := { s.st with
    thr := s.st.thr.dropRange (8 * e) (8 * e + 8), tops := s.st.tops.dropRange (8 * e) (8 * e + 8)
    eng := s.st.eng.put {} e { pq := (s.eng e).pq, inReset := true } }
  let s := { s with st := st, osp.waiting := s.osp.waiting.filter fun w => !own w }
  let s := (s.set F.ST_ENG_CTRL_STOP [e] 0).set F.ST_ENG_CTRL_STEP [e] 0
  forEach [R.ST_PUNTS, R.ST_PQ_FULL, R.ST_SWITCHES, R.ST_ALLWAIT, R.ST_TIMEOUTS, R.ST_MCHECK, R.ST_FAULTS]
    (fun r t => t.zeroCtr r [e]) s

/-- Microword `a` has been rewritten: its fault is over, and the threads that waited for it start their instruction again
(R454). Log 130 (DEDUCED). -/
def wordGood (a : Nat) (s : State) : State :=
  let s := { s with st.badWord := s.st.badWord.filter (· != a) }.recovered 12 13 7
  forEach (List.range 256) (fun n u =>
    let h := u.thr (n / 8) (n % 8)
    if h.stall = .check ∧ h.micro.any fun m => m.at_ == a then
      u.setThr (n / 8) (n % 8) fun h => { h with stall := .none, micro := none }
    else u) s

/-- The control store, the dispatch table and program memory as the Tree copy holds them. Log 131 (DEDUCED). -/
def reloadMicrocode (s : State) : State :=
  let part := fun (t : Nat) => (s.st.copy.filter fun e => e.1 / 2 ^ 40 == t).map fun e => (e.1 % 2 ^ 40, e.2)
  forEach s.st.badWord wordGood { s with st.ucode := part 23, st.disp := part 24, st.prog := part 25 }

/-- A request of MD_RESET.KIND 5 (R119, R122, R455). -/
def stitcherReset (s : State) : State :=
  let mask := s.rd R.MD_STR_MASK []
  if s.mode = .load ∨ (s.isOn F.ST_UCODE_STAT_PENDING [] ∧ mask ≠ 0xFFFFFFFF) then s.set F.MD_RESET_REFUSED [] 1
  else
    let s := (s.set F.MD_RESET_REFUSED [] 0).noteReset 5 s.mode.code
    forEach (setPositions mask 32) (fun e t => t.resetEngine e) s

end State

/-! ## The commands -/

/-- PUNT_ARRIVE: the oldest punt on its way arrives at the Tree die (R433). -/
def execPuntArrive (s : State) : Out :=
  done (fun s =>
    match s.sl.punts with
    | p :: r => onlyIf (s.forwarding || s.mode == .halt) (fun s => ({ s with sl.punts := r }.puntArrive p).getD s) s
    | [] => s) s

/-- DMA_DONE: the DMA under tag `tag` of thread `t` of engine `e` ends, unless a page or the DDR5 keeps it waiting (R437).
Log 243 (DEDUCED). -/
def execDmaDone (e t tag : Nat) (s : State) : Out :=
  done (fun s => onlyIf (s.enginesUp && decide (e < 32) && decide (t < 8) && !s.waiting (.tag e (16 * t + tag)))
    (fun s => (s.dmaRun e t tag).settle e) s) s

/-- WAIT_DEADLINE: a WAIT or DMAW of thread `t` of engine `e` reaches its deadline (R440). -/
def execWaitDeadline (e t : Nat) (s : State) : Out :=
  done (fun s =>
    let h := s.thr e t
    onlyIf (s.enginesUp && decide (e < 32) && decide (t < 8) && (h.stall == .wait || h.stall == .dmaw) && decide (h.dl ≤ s.clock.tick))
      (fun s => s.endStall e t) s) s

/-- STALL_END: what thread `t` of engine `e` waits for is there: an event, a tag, a unit's answer or a page (R439).
Log 243 (DEDUCED). -/
def execStallEnd (e t : Nat) (s : State) : Out :=
  done (fun s =>
    let h := s.thr e t
    onlyIf (s.enginesUp && decide (e < 32) && decide (t < 8) && (h.stall == .wait || h.stall == .dmaw || h.stall == .unit)
      && !s.waiting (.thread e t)) (fun s => s.endStall e t) s) s

/-- MACHINE_CHECK: the running thread of engine `e` fetches microword `a`, whose parity fails; `tree` says that its Tree copy
has an uncorrectable error (R454). -/
def execMachineCheck (e a : Nat) (tree : Bool) (s : State) : Out :=
  done (fun s => onlyIf (decide (a < 65536)) (fun s => s.runIns e (fun _ => true) fun t _ s => s.machineCheck e t a tree) s) s

/-- MICROWORD_REWRITE: microword `a` is rewritten from the Tree copy (R454). Log 130 (DEDUCED). -/
def execMicrowordRewrite (a : Nat) (s : State) : Out :=
  done (fun s =>
    onlyIf (s.powered && s.st.badWord.contains a) (fun s =>
      let s := { s with st.ucode := s.st.ucode.put 0 a (s.st.copy.at 0 (key2 23 a)) }.wordGood a
      forEach (List.range 32) (fun e u => if u.enginesUp then u.settle e else u) s) s) s

/-- THREAD_STOP: ST_ENG_CTRL.STOP of thread `t` is written (R456). -/
def execThreadStop (e t : Nat) (s : State) : Out :=
  done (fun s => onlyIf (s.powered && s.live 12 && decide (e < 32) && decide (t < 8)) (fun s =>
    if (s.thr e t).stopped then s
    else (s.set F.ST_ENG_CTRL_STOP [e] (setBit (s.get F.ST_ENG_CTRL_STOP [e]) t true)).settle e) s) s

/-- THREAD_RESUME: ST_ENG_CTRL.RESUME of thread `t` is written: a stopped thread goes on; a faulted one once the debugger has
written EXC clear (R438, R456). -/
def execThreadResume (e t : Nat) (s : State) : Out :=
  done (fun s => onlyIf (s.powered && s.live 12 && decide (e < 32) && decide (t < 8) && ((s.thr e t).stopped || (s.thr e t).faulted))
    (fun s => (s.setThr e t fun h => { h with stopped := false, faulted := h.faulted && bit h.flags flagExc }).settle e) s) s

/-- THREAD_STEP: ST_ENG_CTRL.STEP of thread `t` is written: a stopped thread goes on for one boundary (R456). -/
def execThreadStep (e t : Nat) (s : State) : Out :=
  done (fun s => onlyIf (s.powered && s.live 12 && decide (e < 32) && decide (t < 8) && (s.thr e t).stopped) (fun s =>
    let s := s.set F.ST_ENG_CTRL_STEP [e] (setBit (s.get F.ST_ENG_CTRL_STEP [e]) t true)
    -- a breakpoint at which it stands does not keep it from the one boundary
    (s.setThr e t fun h => { h with
      stopped := false, step := true, passBrk := true, faulted := h.faulted && bit h.flags flagExc }).settle e) s) s

/-- ENGINE_FREEZE: ST_ENG_CTRL.FREEZE is written (R456). -/
def execEngineFreeze (e : Nat) (on : Bool) (s : State) : Out :=
  done (fun s => onlyIf (s.powered && s.live 12 && decide (e < 32)) (fun s => (s.set F.ST_ENG_CTRL_FREEZE [e] (b2n on)).settle e) s) s

/-- CHANNEL_RELEASE: `v` is written to ST_CH_REL: the channels become EMPTY, and their owners' loss is marked (R457). -/
def execChannelRelease (e v : Nat) (s : State) : Out :=
  done (fun s => onlyIf (s.powered && s.live 12 && decide (e < 32)) (fun s =>
    forEach (setPositions v 16) (fun c u =>
      let u := if u.chState e c = 1 then
          u.setThr e ((u.eng e).owner.at 0 c) fun h => { h with lost := setBit h.lost c true }
        else u
      u.chEmpty e c) s) s) s

/-- The thread that ST_DBG_SEL names is stopped: writes of ST_DBG_DATA are honoured (R456, R459). -/
def State.dbgOpen (s : State) (e : Nat) : Bool :=
  let t := s.get F.ST_DBG_SEL_THREAD [e]
  s.threadStopped e t || (s.thr e t).faulted

/-- DEBUG_REG_WRITE: a low or a high word is written to ST_DBG_DATA; with the high word the selected register of a stopped
thread takes both (R11, R456, R459). -/
def execDebugRegWrite (e : Nat) (hi : Bool) (v : Nat) (s : State) : Out :=
  done (fun s => onlyIf (s.powered && s.live 12 && decide (e < 32)) (fun s =>
    let lo := R.ST_DBG_DATA_LO.addr [e]
    let v := v % 2 ^ 32
    if !hi then { s with staged := s.staged.insert lo (BitVec.ofNat 32 v) }
    else
      let w := ((s.staged.find? lo).map (·.toNat)).getD 0 + v * 2 ^ 32
      let s := { s with staged := s.staged.erase lo }
      let t := s.get F.ST_DBG_SEL_THREAD [e]
      let i := s.get F.ST_DBG_SEL_INDEX [e]
      if !s.dbgOpen e then s
      else
        let u := if i < 0x60 then s.opWrite e t i w
          else s.setThr e t fun h => match i with
            | 0x60 => { h with pc := pcWrap w }
            | 0x61 => { h with epc := pcWrap w }
            | 0x62 => { h with ecause := w }
            | 0x63 => { h with eaddr := w }
            | 0x64 => { h with dl := w }
            | 0x65 => { h with flags := w % 256 }
            | _ => h
        u.setThr e t fun h => { h with passBrk := h.passBrk && i != 0x60 }) s) s

/-- STITCHER_RESET: MD_RESET.KIND 5 is written (R119, R122). Log 131 (DEDUCED). -/
def execStitcherReset (s : State) : Out := done (fun s => onlyIf (s.powered && s.live 12) (fun s => s.stitcherReset) s) s

/-- STITCHER_RESET_DONE: the microcode has been reloaded, and the reset engines start again (R119, R455). -/
def execStitcherResetDone (s : State) : Out :=
  done (fun s =>
    let l := (List.range 32).filter fun e => (s.eng e).inReset
    onlyIf (s.powered && !l.isEmpty) (fun s =>
      let s := s.reloadMicrocode
      let s := if l.length = 32 then s.set F.ST_UCODE_STAT_PENDING [] 0 else s
      let s := forEach l (fun e u => u.setEng e fun g => { g with inReset := false }) s
      forEach (List.range 32) (fun e u => if u.enginesUp || l.contains e then u.settle e else u) s) s) s

end Sys2Proof.Machine
end

