-- ==== Sys2Proof/Machine/HostMem.lean ====
section
/-! DEFINITION. What reaches the device from the host's translation agent, and uncorrectable DDR5 reads (R507, R511 to R519). -/

namespace Sys2Proof.Machine

namespace State

/-! ## Ends of parked accesses (R514 to R519) -/

/-- The write of a held completion or record is tried again; every other access goes on by its own next command. -/
def resume (s : State) (w : Wait) : State :=
  match w.who with
  | .rx q => s.rxGo q
  | .cq c => drainHold c (s.cqHold c) s
  | _ => s

/-- The event whose delivery into ring `r` was waiting for a translation is lost (R488, R517). Log 162 (DEDUCED). -/
def erFail (s : State) (r : Nat) : State :=
  match s.ev.due.find? fun n => s.get F.EV_SRC_DEST [n] == 1 && s.get F.EV_SRC_TARGET [n] % 64 == r with
  | some n => { s with ev.due := removeOne n s.ev.due }.erLost r
  | none => s

/-- The SQ entry ends as XLATE: a SET_WRITE gives its slot its old state back (R261, R515). -/
def entryFail (s : State) (q i : Nat) : State :=
  match s.rc.jobs.find? fun j => j.q == q && j.idx == i with
  | some j => (if j.stage = 5 then s.set F.AW_SET_CFG_STATE [entSub j.ent] j.status else s).failXlate j
  | none => s

/-- The record being written ends its buffer, and is itself handled as one without a buffer (R516). -/
def rxFail (s : State) (q : Nat) : State :=
  match s.rc.recs.at [] q with
  | r :: rs => (({ s with rc.recs := s.rc.recs.put [] q rs }.closeBuf q 0x1C 0 0).rxLost q { r with moved := 0 }).rxGo q
  | [] => s

/-- What XLATE does to the access that waited; it waits no longer (R514 to R518). Log 162 (DEDUCED). -/
def endXlate (s : State) (w : Wait) : State :=
  match w.who with
  | .fetch _ => s
  | .entry q i => s.entryFail q i
  | .rx q => s.rxFail q
  | .cq c => { s with xl.stuck := addOnce c s.xl.stuck }
  | .er r => s.erFail r
  | .thread e t => (s.threadFault e t 8 (2 ^ 63 + w.va)).settle e
  | .tag e n =>
    match (s.thr e (n / 16)).dma.find? fun j => j.tag == n % 16 with
    | some j => (s.dmaEnd e (n / 16) j true).settle e
    | none => s

/-- The fault of an access that waited on a page request ends as XLATE: counted, raised, and its outcome (R514). The event of
a ring's fault was lost when it was found (R517). -/
def waitXlate (s : State) (w : Wait) : State :=
  let t := ((s.inc R.TR_XLATE_ERR []).raise F.TR_EVT_XLATE []).showPark w.who
  match w.who with
  | .er _ => t
  | _ => t.endXlate w

/-- Faults that waited for a page request to become free join one for their page or send theirs, in arrival order, while there
is room (R514).
Log 161 (DESIGN CHOICE). -/
def priRefill : List Wait → State → State
  | [], s => s
  | w :: r, s =>
    if s.prqRoom w.fn || s.xl.prq.any (PageReq.isFor · w) || bit s.xl.blocked w.fn then
      let t := { s with xl.priWait := removeOne w s.xl.priWait }
      priRefill r (if bit t.xl.blocked w.fn then t.waitXlate w else t.sendPrq w)
    else priRefill r s

/-- Take request `g` off the list of those outstanding. -/
def takePrq (s : State) (g : Nat) : Option (PageReq × State) :=
  (s.xl.prq.find? fun r => r.grp == g).map fun r => (r, { s with xl.prq := s.xl.prq.filter fun p => p.grp != g })

/-- Requests are given up before their response: it is discarded when it comes (R514). Log 161 (DESIGN CHOICE). -/
def retireGrps (s : State) (l : List Nat) : State := { s with xl.deadGrps := l.foldl (fun m g => addOnce g m) s.xl.deadGrps }

/-- The page of a wait is translated again after Success; an event ring is free again, its event lost already (R514, R517).
Log 160 (DEDUCED). -/
def askAgain (w : Wait) (s : State) : State :=
  match w.who with
  | .er _ => s
  | _ => (s.askTlb { w with tries := w.tries + 1 }).showPark w.who

/-- Requests of a function: all of them fail (R514). -/
def failRequests (s : State) (fn : Nat) : State :=
  let l := (s.xl.prq.filter fun r => r.fn == fn).flatMap (·.waits) ++ s.xl.priWait.filter fun w => w.fn == fn
  let t := { s with xl.prq := s.xl.prq.filter (fun r => r.fn != fn), xl.priWait := s.xl.priWait.filter fun w => w.fn != fn }
  forEach l (fun w u => u.waitXlate w) (t.retireGrps ((s.xl.prq.filter fun r => r.fn == fn).map (·.grp)))

/-- A page response to group `g`: code 0 Success, 1 Invalid Request, else Response Failure (R514). -/
def pageResponse (s : State) (g code : Nat) : State :=
  match s.takePrq g with
  | none => { s with xl.deadGrps := s.xl.deadGrps.filter (· != g) }
  | some (r, t) =>
    let t := match code with
      | 0 => forEach r.waits askAgain t
      | 1 => forEach r.waits (fun w u => u.waitXlate w) t
      | _ =>
        let t := { t with xl.blocked := setBit t.xl.blocked r.fn true }.raise F.TR_EVT_PRI_FAIL []
        (forEach r.waits (fun w u => u.waitXlate w) t).failRequests r.fn
    priRefill t.xl.priWait t

/-- The page requests of waits are with the host too long (R514). -/
def priTimeout (s : State) (g : Nat) : State :=
  match s.takePrq g with
  | none => s
  | some (r, t) =>
    let t := forEach r.waits (fun w u => u.waitXlate w) ((t.retireGrps [g]).raise F.TR_EVT_PRI_TIMEOUT [])
    priRefill t.xl.priWait t

/-! ## Translations (R512, R513) -/

/-- The pages for which a translation request is in flight, oldest first, up to 64 (R512). -/
def askedPages (s : State) : List (Nat × Nat × Nat) :=
  (s.xl.asked.foldl (fun l w => let k := (w.fn, w.pas, w.va / 4096); if l.contains k then l else l ++ [k]) []).take 64

/-- Sizes of TLB entries in 4 KiB pages, largest first (R512). -/
def tlbSizes : List Nat := [2 ^ 18, 512, 1]

/-- Keep the translation of `n` pages from `first` for `page`: the largest aligned size that lies within it (R512).
Log 160 (DEDUCED). -/
def tlbFill (s : State) (fn pas page first n : Nat) (r w : Bool) : State :=
  let old := fun (e : TlbEntry) => e.fn == fn && e.pas == pas && decide (e.base ≤ page) && decide (page < e.base + e.pages)
  let l := s.xl.tlb.filter fun e => !old e
  match tlbSizes.find? fun z => decide (first ≤ page / z * z) && decide (page / z * z + z ≤ first + n) with
  | some z =>
    if r || w then { s with xl.tlb := ({ fn := fn, pas := pas, base := page / z * z, pages := z, r := r, w := w } :: l).take 8192 }
    else { s with xl.tlb := l }
  | none => s

/-- One access meets the answer to its translation request: it goes on, or faults (R512, R514). -/
def translated (r w : Bool) (x : Wait) (s : State) : State :=
  if (if x.write then w else r) then s.resume x
  else
    let f := s.pageFault x
    if f.1 then f.2.endXlate x
    else match x.who with
      | .er r => f.2.erFail r
      | _ => f.2

/-- The `k`-th translation request in flight is answered with `n` pages from page `first` (R512). -/
def translationDone (s : State) (k first n : Nat) (r w : Bool) : State :=
  match s.askedPages[k]? with
  | none => s
  | some (fn, pas, page) =>
    if page < first ∨ first + n ≤ page then s
    else
      let mine := fun (x : Wait) => x.fn == fn && x.pas == pas && x.va / 4096 == page
      let l := s.xl.asked.filter mine
      let t := { s with xl.asked := s.xl.asked.filter fun x => !mine x }.tlbFill fn pas page first n r w
      forEach l (translated r w) t

/-! ## Uncorrectable DDR5 reads (R507) -/

/-- The column at place `j` of the page at the front of a deep queue is poisoned (R352). Log 163 (DEDUCED). -/
def poisonColumn (s : State) (g q j : Nat) : State :=
  match (s.gq g q).findIdx? fun l => l.page.isSome with
  | none => s
  | some i => s.setGq g q ((s.gq g q).zipIdx.map fun e => if e.2 = i + j then { e.1 with cell.poison := true } else e.1)

/-- The outcome for a requester (R507): 0 a deep-buffer fill of queue `b` of Girth die `a`, column `c`; 1 the fill of flow
context `a`; 2 the shadow copy of Awl set `a`; 3 an access of thread `b` of engine `a`; 4 its DMA under tag `c`; 5 the Tree
die's read of the punt in buffer `a`, which is discarded; else one that no work item waits for. Log 163 (DEDUCED). -/
def ueOutcome (s : State) (o req a b c : Nat) : State :=
  match req with
  | 0 => s.poisonColumn a b c
  | 1 => { s with flow.bad := addOnce a s.flow.bad }
  | 2 => if s.setState a = 4 then s.set F.AW_SET_CFG_STATE [a] 3 else s
  | 3 => if (s.thr a b).stall = .unit then (s.threadFault a b 2 (2 ^ 32 + o)).settle a else s
  | 4 => s.setThr a b fun h => { h with dma := h.dma.map fun j => if j.tag = c then { j with bad := true } else j }
  | 5 =>
    let s := s.inc R.DM_UE_DROP []
    match s.st.held.find? a, s.puntDesc a with
    | some m, some d => (s.puntDrop m).freePunt a d
    | _, _ => s
  | _ => s.inc R.DM_UE_DROP []

end State

/-! ## The commands -/

/-- PAGE_RESPONSE: the response to page request group `g` (R514). A group that is not outstanding has its response
discarded. -/
def execPageResponse (g code : Nat) (s : State) : Out := done (fun s => onlyIf s.powered (fun s => s.pageResponse g code) s) s

/-- PRI_TIMEOUT: group `g` has had no response within TR_PRI_TMO (R514). -/
def execPriTimeout (g : Nat) (s : State) : Out :=
  done (fun s =>
    match s.xl.prq.find? fun r => r.grp == g with
    | some r => onlyIf (s.powered && decide (s.get F.TR_PRI_TMO_MS [] * 1000000 ≤ s.since r.at_)) (fun s => s.priTimeout g) s
    | none => s) s

/-- TRANSLATION_DONE: the `k`-th translation request in flight is answered: `n` pages of 4 KiB from page `first`, readable or
writable (R512). -/
def execTranslationDone (k first n : Nat) (r w : Bool) (s : State) : Out :=
  done (fun s => onlyIf (s.powered && !s.rcHalted) (fun s => s.translationDone k first n r w) s) s

/-- ATS_INVALIDATE: the pages from `first`, `n` of them, of a function and PASID (0 without one, else one more) are no longer
to be used (R513). -/
def execAtsInvalidate (fn pas first n : Nat) (s : State) : Out :=
  done (fun s => onlyIf s.powered (fun s =>
    let hit := fun (e : TlbEntry) => e.fn == fn && e.pas == pas && decide (e.base < first + n) && decide (first < e.base + e.pages)
    { s with xl.tlb := s.xl.tlb.filter (fun e => !hit e), xl.invals := s.xl.invals + 1 }) s) s

/-- INVALIDATE_COMPLETE: every DMA that used the invalidated entries has finished, and the completion is sent (R513). -/
def execInvalidateComplete (s : State) : Out :=
  done (fun s => onlyIf (s.powered && decide (0 < s.xl.invals)) (fun s => { s with xl.invals := s.xl.invals - 1 }.inc R.TR_INVAL []) s) s

/-- PRI_ENABLE_TOGGLE: PRI Enable of a function is cleared and set again, with `alloc` requests allocated to it (R514). -/
def execPriEnableToggle (fn alloc : Nat) (s : State) : Out :=
  done (fun s => onlyIf (s.powered && decide (fn ≤ s.rc.vfs)) (fun s =>
    let t := { s with xl.blocked := setBit s.xl.blocked fn false, xl.alloc := s.xl.alloc.put 256 fn alloc }
    State.priRefill t.xl.priWait t) s) s

/-- DDR_UNCORRECTABLE: a read of device memory at offset `o` has an uncorrectable error, for requester `req` (R507). -/
def execDdrUncorrectable (o req a b c : Nat) (s : State) : Out :=
  done (fun s => onlyIf (s.powered && s.ddrTrained && decide (o < s.ddrSize))
    (fun s => ({ s with ddr.bad := addOnce (o / 64) s.ddr.bad }.ddrUe o).ueOutcome o req a b c) s) s

end Sys2Proof.Machine
end

