-- ==== Sys2Proof/Machine/Lacing.lean ====
section
/-! DEFINITION. Lacing, the flush of a port that goes down, and the loss of a Girth die (R27, R29 to R32, R181, R182,
R345 to R348, R353, R354, R377). -/

namespace Sys2Proof.Machine

namespace State

/-- Discard an open frame. One that is already in its egress queue leaves it; one that its MAC has begun ends there.
Log 97 (DEDUCED). -/
def loseOpen (s : State) (d : Nat) (f : OpenFrame) : State :=
  let m := f.st.m
  let t := { s with fab.dead := s.fab.dead ++ [deadId d f.hdr m] }
  let begun := (t.port.tx.find? f.hdr.port).any fun x => x.e.m.id == m.id
  if f.early && begun then t
  else
    let t := t.lose d f.hdr m
    if f.early then t.setEq f.hdr.port f.hdr.cls ((t.eq f.hdr.port f.hdr.cls).filter fun e => e.whole || e.m.id != m.id) else t

/-! ## Release (R27, R346, R348, R375) -/

/-- The frames that start in a list of cells, each with its cell. -/
def startsIn (cells : List Cell) : List (Cell × Meta) := (cells.map fun c => c.starts.map fun st => (c, st.m)).flatten

/-- Lacing releases a frame or copy for port `p`, class `cls`. Log 102 (DESIGN CHOICE). -/
def releaseTo (s : State) (p cls : Nat) (e : EFrame) : State :=
  let t := s.countEgr (sliceOf p) 0 1 (some e.m.tenant)
  if !t.linkUp p then t.dropEgress p 2 R.EQ_FLUSH_DROP e
  else if t.aged e.m then t.dropAged p e
  else if e.whole then
    let i := t.intake p e
    i.2.enqueue p cls i.1
  else t.enqueue p cls e

/-- The egress frame of an open frame. -/
def egressOf (f : OpenFrame) (brand : Nat) (err : Bool) : EFrame :=
  { m := { f.st.m with held := false }, bytes := f.bytes, brand := brand, poison := f.poison, rxErr := err, slots := f.slots }

/-- One copy of a multicast frame for each member port of the group on die `d` (R348). Log 99 (DEDUCED). -/
def releaseMc (s : State) (d : Nat) (f : OpenFrame) (brand : Nat) (err : Bool) : State :=
  let g := s.tab d .mcast f.hdr.group
  let m := f.st.m
  let members := ((setPositions g 64).map (64 * d + ·)).filter fun p => !(bit g 72 && p == m.inPort)
  let ups := members.filter s.linkUp
  let t := s.inc R.LC_MC_NOPORT [d] (members.length - ups.length)
  if ups.isEmpty then t.refOut m
  else
    let n := t.fab.nextMc
    let t := { t with fab.nextMc := n + 1, fab.mc := t.fab.mc.put (0, 0, 0) (key2 d n) (ups.length, f.slots, f.hdr.cls) }
    forEach ups (fun p u => u.releaseTo p f.hdr.cls { egressOf f brand err with slots := 0, mc := some n }) t

/-- A cut-through frame that is in its egress queue or begun takes the bytes that have come, and at its end its Brand,
length and receive error (R203, R335). -/
def feedEarly (s : State) (f : OpenFrame) (fin : Option (Nat × Nat × Bool)) : State :=
  let p := f.hdr.port
  let c := f.hdr.cls
  let mine := fun (e : EFrame) => !e.whole && e.m.id == f.st.m.id
  let up := fun (e : EFrame) =>
    let e := { e with bytes := f.bytes, poison := e.poison || f.poison, slots := f.slots }
    match fin with
    | some (b, n, err) => { e with whole := true, brand := b, rxErr := err, m := { e.m with rxLen := n + 4, len0 := n } }
    | none => e
  match (s.port.tx.find? p).filter (fun x => mine x.e), (s.eq p c).find? mine with
  | some x, _ => { s with port.tx := s.port.tx.insert p { x with e := up x.e } }
  | none, none => s
  | none, some e =>
    let put := fun (t : State) (e : EFrame) => t.setEq p c ((t.eq p c).map fun x => if mine x then e else x)
    let e := up e
    if !e.whole then put s e
    else
      -- it has waited to be whole: the intake check is made now
      let i := s.intake p { e with ct := false }
      put i.2 { i.1 with lw := i.2.frameWire (p / 64) i.1 }

/-- An open frame has all its bytes. -/
def finish (s : State) (d : Nat) (f : OpenFrame) (brand : Nat) (err : Bool) : State :=
  let n := f.bytes.length
  let f := { f with st := { f.st with m := { f.st.m with rxLen := if f.st.len = 0 then n + 4 else f.st.m.rxLen } } }
  match f.hdr.link with
  | 1 => s.releaseMc d f brand err
  | 2 => s.releaseTo (f.hdr.qid / 8) (f.hdr.qid % 8) { egressOf f brand err with mirror := true }
  | _ => if f.early then s.feedEarly f (some (brand, n, err)) else (s.deepOver f.hdr).releaseTo f.hdr.port f.hdr.cls (egressOf f brand err)

/-- Frames are discarded with a span that never came whole (R347). -/
def timeoutDrops (s : State) (d : Nat) (l : List Meta) : State :=
  forEach l (fun m t => (t.inc R.LC_TIMEOUT_DROP [d]).countKind (16 * d + 15) 3 1 (some m.tenant)) s

/-- Give bytes of a cell to the open frame; `slot` is 1 where the frame holds the cell's slot (R363). -/
def feed (d : Nat) (c : Cell) (chunk : List Byte) (slot : Nat) (tail : Option (Nat × Nat × Bool)) (a : Asm) (s : State) :
    Asm × State :=
  match a.cur with
  | none => (a, s)
  | some f =>
    let total := if f.st.len ≠ 0 then some f.st.len else tail.map fun t => t.2.1
    let want := match total with | some n => n - f.bytes.length | none => chunk.length
    let f := { f with bytes := f.bytes ++ chunk.take want, poison := f.poison || c.poison, slots := f.slots + slot }
    if f.st.len ≠ 0 ∧ f.bytes.length = f.st.len then ({ a with cur := none }, s.finish d f f.st.brand false)
    else match f.st.len, tail with
      | 0, some (b, _, err) => ({ a with cur := none }, s.finish d f b err)
      | _, _ => ({ a with cur := some f }, if f.early then s.feedEarly f none else s)

/-- Lacing takes one cell of a complete span: the continuation, then each frame that starts in it (R332, R346). -/
def takeCellIn (d : Nat) (c : Cell) (a : Asm) (s : State) : Asm × State :=
  if c.typ = 1 then (a, s)
  else
    let cont := match c.starts with | st :: _ => c.data.take st.off | [] => c.data
    let known := (a.cur.toList.map fun f => f.st.m.id) ++ c.starts.map fun st => st.m.id
    let lost := { c with ends := c.ends.filter fun m => !known.contains m.id }
    -- one that began in the column that never came is met by its end (R347)
    let late := if a.torn then lost.ends.filter fun m => !s.fab.dead.contains (deadId d c m) else []
    let s := (s.loseEnds d lost).timeoutDrops d late
    let a := { a with torn := a.torn && c.starts.isEmpty && c.ends.isEmpty }
    let (a, s) := if cont.isEmpty && c.tailRec.isNone then (a, s)
      else feed d c cont (b2n c.starts.isEmpty) c.tailRec a s
    let bounds := (c.starts.drop 1).map (·.off) ++ [c.data.length]
    (c.starts.zip bounds).foldl (fun (x : Asm × State) p =>
      let st := p.1
      let last := st.off == (c.starts.getLast?.map (·.off)).getD 0
      if x.2.fab.cut.contains (deadId d c st.m) then (x.1, x.2.loseCut d c st.m)
      else
      let t := match x.1.cur with
        | some f => ((x.2.loseOpen d f).inc R.LC_GAP_DROP [d]).raise F.LC_EVT_GAP [d] |>.countKind (16 * d + 15) 2 1 (some f.st.m.tenant)
        | none => x.2
      let a := { x.1 with cur := some { st := st, hdr := c.header, poison := st.poison } }
      feed d c (slice c.data st.off (p.2 - st.off)) (b2n last) none a t) (a, s)

/-- A cut-through frame whose first cells have just come goes to its egress queue at once where R29 and R178 allow it. -/
def cutThrough (s : State) (ord : Nat) (a : Asm) : Asm × State :=
  match a.cur with
  | none => (a, s)
  | some f =>
    let p := f.hdr.port
    let c := f.hdr.cls
    let ok := f.st.m.ct && f.st.len == 0 && !f.early && f.hdr.link == 0 && f.hdr.ord == ord && (s.eq p c).isEmpty
      && s.linkUp p && s.isOn F.PG_PORT_CTRL_CT_EN (pix p) && s.portSpeed p == s.portSpeed f.st.m.inPort
      && !s.queuePaused p c && !s.gaitOn p && !s.aged f.st.m && f.st.m.mirror == 0
    if ok then
      ({ a with cur := some { f with early := true } }, s.releaseTo p c { egressOf f 0 false with whole := false, ct := true })
    else (a, s)

/-- Lacing takes a complete span of queue `q` (R346). Log 97 (DEDUCED). -/
def takeSpan (d q : Nat) (cells : List Cell) (s : State) : State :=
  match cells with
  | [] => s
  | c0 :: _ =>
    let k := asmKey d q c0.place
    let a := s.fab.asm.at {} k
    let checked := c0.link == 0 || c0.link == 3
    let follows := match a.last with | some l => (l + 1) % 16384 == c0.span | none => true
    -- the span begins with bytes of a frame that began before it
    let goesOn := match cells.find? fun c => c.col == 0 with
      | some c => match c.starts with | st :: _ => st.off != 0 | [] => true
      | none => true
    let gap := checked && !follows && goesOn
    let (a, s) := match a.cur with
      | some f => if gap then
          ({ a with cur := none }, (((s.loseOpen d f).inc R.LC_GAP_DROP [d]).raise F.LC_EVT_GAP [d]).countKind (16 * d + 15) 2 1 (some f.st.m.tenant))
        else (a, s)
      | none => (a, s)
    let order := (List.range 4).filterMap fun j => cells.find? fun c => c.col == j
    let r := order.foldl (fun (x : Asm × State) c => takeCellIn d c x.1 x.2) (a, s)
    let r := r.2.cutThrough c0.ord r.1
    { r.2 with fab.asm := r.2.fab.asm.put {} k { r.1 with last := some c0.span } }

/-- Take the complete spans of a queue in ORD order, and pass those abandoned (R346, R347). -/
def takeSpans (d q : Nat) : Nat → State → State
  | 0, s => s
  | fuel + 1, s =>
    let k := key2 d q
    let l := s.fab.lace.at {} k
    match l.gone.find? fun g => g.1 == l.h with
    | some g =>
      let hdr := g.2
      let ak := asmKey d q hdr.place
      let a := s.fab.asm.at {} ak
      let s := match a.cur with
        | some f =>
          let t := (s.loseOpen d f).timeoutDrops d [f.st.m]
          -- its last byte was in the span: it is not met again
          if hdr.ends.any fun m => m.id == f.st.m.id then { t with fab.dead := removeOne (deadId d f.hdr f.st.m) t.fab.dead } else t
        | none => s
      -- what ended in the span and began in the column that never came
      let mine := fun (m : Meta) => a.cur.any fun f => f.st.m.id == m.id
      let s := hdr.ends.foldl (fun t m =>
        let i := deadId d hdr m
        if mine m then t
        else if t.fab.dead.contains i then { t with fab.dead := removeOne i t.fab.dead }
        else (t.lose d hdr m).timeoutDrops d [m]) s
      let s := { s with fab.asm := s.fab.asm.put {} ak { a with cur := none, torn := true } }
      let l' := { l with h := l.h + 1, gone := l.gone.filter fun x => x.1 != l.h }
      takeSpans d q fuel { s with fab.lace := s.fab.lace.put {} k l' }
    | none =>
      match l.spans.find? fun p => p.ord == l.h with
      | some p =>
        if s.cols ≤ p.cells.length then
          let l' := { l with h := l.h + 1, spans := l.spans.filter fun x => x.ord != l.h }
          let t := { s with fab.lace := s.fab.lace.put {} k l' }
          let t := (t.inc R.LC_SPANS_IN [d]).countKind (16 * d + 15) 0 1
          takeSpans d q fuel (takeSpan d q p.cells t)
        else s
      | none => s

/-- Admit a cell to Lacing (R345). -/
def laceCell (s : State) (d : Nat) (c : Cell) : State :=
  let k := key2 d c.qid
  let l := s.fab.lace.at {} k
  let spans := if l.spans.any fun p => p.ord == c.ord then
      l.spans.map fun p => if p.ord = c.ord then { p with cells := p.cells ++ [c] } else p
    else l.spans ++ [{ ord := c.ord, at_ := s.clock.tick, cells := [c] }]
  let t := { s with fab.lace := s.fab.lace.put {} k { l with spans := spans } }
  takeSpans d c.qid (spans.length + l.gone.length + 1) (t.countKind (16 * d + 15) 4 1)

/-! ## The flush of a port (R28, R32, R181, R377) -/

/-- Every unit has flushed port `p`: Lacing and the receive queues are cleared and credits restored. -/
def flushDone (s : State) (p : Nat) : State :=
  let d := p / 64
  let k := p % 64
  let qs := (List.range 8).map (voqId p)
  let s := forEach qs (fun q t =>
    let lk := key2 d q
    let t := ((t.fab.lace.at {} lk).spans.map fun x => x.cells).flatten.foldl (fun u c => u.loseEnds d c) t
    let mine := t.fab.asm.filter fun e => e.1 / 2 ^ 80 == d * 2 ^ 16 + q
    let t := forEach mine (fun e u => match e.2.cur with | some f => u.loseOpen d f | none => u) t
    let asm := t.fab.asm.filter fun e => e.1 / 2 ^ 80 != d * 2 ^ 16 + q
    { t with fab.lace := t.fab.lace.erase lk, fab.asm := asm }) s
  let s := forEach (List.range 4) (fun g t =>
    { t with fab.spent := t.fab.spent.put 0 (creditKey g d k) (t.fab.recv.at [] (recvKey d g k)).length }) s
  (s.raise F.EQ_EVT_FLUSH_DONE [d]).showSlots d

/-- Girth die `g` takes no more part in the flush of `p`. Log 89 (DEDUCED). -/
def flushPoint (s : State) (g p : Nat) : State :=
  let w := s.fab.flushWait.at 0 p
  let w' := setBit w g false
  let ask := s.fab.flushAsk.put 0 p (setBit (s.fab.flushAsk.at 0 p) g false)
  let t := { s with fab.flushAsk := ask, fab.flushWait := s.fab.flushWait.put 0 p w' }
  if w ≠ 0 ∧ w' = 0 then t.flushDone p else t

/-- The flush of port `p` begins on its egress die (step 1 of R377). -/
def flushStart (s : State) (p : Nat) : State :=
  let s := forEach (List.range 8) (fun c t =>
    let l := t.eq p c
    let t := forEach l (fun e u => u.dropEgress p 2 R.EQ_FLUSH_DROP e) (t.setEq p c [])
    { t with fab.noRoom := t.fab.noRoom.put 0 (roomKey p c) 1, shp.waited := t.shp.waited.erase (key2 p c) }) s
  let mask := (s.liveGirths.map (2 ^ ·)).sum
  ({ s with fab.flushAsk := s.fab.flushAsk.put 0 p mask, fab.flushWait := s.fab.flushWait.put 0 p mask }).showSlots (p / 64)

/-- Negotiation starts again, or is over (R166, R181). -/
def renegotiate (s : State) (p : Nat) : State :=
  { s.set F.PG_PORT_STAT_AN_DONE (pix p) 0 with
    port.anPause := s.port.anPause.erase p, port.anBreak := s.port.anBreak.erase p }.showPause p

/-- A port is declared down (R181). `rx` says that a frame was being received. Log 88 (DEDUCED). -/
def portDown (p : Nat) (rx : Bool) (s : State) : State :=
  let x := pix p
  let s := ((s.set F.PG_PORT_STAT_LINK_UP x 0).raise F.PG_PORT_EVT_LINK_CHANGE x).inc R.LINK_DOWN_COUNT x
  -- a port that is down reads no bandwidth (R535)
  let s := (s.set F.PC_BW_RX_MBPS [p] 0).set F.PC_BW_TX_MBPS [p] 0
  let head := (s.port.fifo.at [] (p / 8)).find? fun f => f.m.inPort == p && f.tail
  let s := match head with
    | some f => ((s.setFifo (p / 8) ((s.port.fifo.at [] (p / 8)).filter fun q => !(q.m.inPort == p && q.tail))).freeHeld f.m).inc
        R.RX_FCS_ERR x
    | none =>
      if s.port.ctTail.at 0 p ≠ 0 then s.endCut p [] (some R.RX_FCS_ERR)
      else if rx then s.inc R.RX_FCS_ERR x else s
  let s := match s.port.tx.find? p with
    | some t => ({ s with port.tx := s.port.tx.erase p }).dropEgress p 2 R.TX_TRUNCATED t.e
    | none => s
  let s := { s.flushStart p with port.looped := s.port.looped.erase p }
  let s := { s with port.xoff := s.port.xoff.erase p, port.wdEnd := s.port.wdEnd.keep fun k => k / 2 ^ 40 != p }
  let s := { s with port.pauseEnd := s.port.pauseEnd.keep fun k => k / 2 ^ 40 != p }
  let s := { s with port.pausedAt := s.port.pausedAt.keep fun k => k / 2 ^ 40 != p }
  let s := (s.set F.PG_PORT_STAT_PFC_RX_XOFF x 0).set F.PG_PORT_STAT_PFC_WD_ACTIVE x 0
  let s := s.showHolding p
  -- where the transmitters stay off negotiation does not restart (R78, R103)
  if s.isOn F.PG_PORT_CTRL_AN_EN x && !s.txOff then s.renegotiate p else s

/-- Every port that is up is declared down. Log 49 (DEDUCED). -/
def allPortsDown (s : State) : State := forEach ((List.range 512).filter s.linkUp) (fun p => portDown p false) s

/-- The ports of Skirt die `d` are declared down (R544). -/
def diePortsDown (s : State) (d : Nat) : State :=
  forEach (((List.range 64).map (64 * d + ·)).filter s.linkUp) (fun p => portDown p false) s

/-- What a write of PG_PORT_CTRL from `old` to `v` does to negotiation, to the hold of R180 and to the RS: they start with
ADMIN_UP, and nothing of them outlasts it (R166, R180, R181). -/
def portAdmin (s : State) (p old v : Nat) : State :=
  let up := bit v 31
  let s := if up && bit v 30 && bit old 31 && bit old 30 then s else s.renegotiate p
  if !up then { s with port.upFrom := s.port.upFrom.erase p, port.faulting := s.port.faulting.erase p }
  else if bit old 31 then s
  else { s with port.upFrom := s.port.upFrom.put 0 p (s.clock.tick + 1) }

/-- A write of PG_PORT_CTRL (R164, R166, R182). Log 87 (DEDUCED), 210 (DESIGN CHOICE). -/
def writePortCtrl (s : State) (p v : Nat) : State :=
  let x := pix p
  let fec := bits v 28 27
  if !s.isPort p then s
  else if bit v 31 && !(laneFec (s.portRate p)).contains fec then s.set F.PG_GRP_STAT_CFG_REFUSED [p / 64, p / 8 % 8] 1
  else if fec = 3 then s.set F.PG_GRP_STAT_CFG_REFUSED [p / 64, p / 8 % 8] 1
  else
    let old := s.rd R.PG_PORT_CTRL x
    let v := if bits v 25 24 = 3 then setBits v 25 24 (bits old 25 24) else v
    let v := if bits v 23 22 = 3 then setBits v 23 22 (bits old 23 22) else v
    let v := v &&& R.PG_PORT_CTRL.rw
    let t := s.wr R.PG_PORT_CTRL x v
    let change := bits v 23 22 != bits old 23 22
    let t := if t.linkUp p && (!bit v 31 || change) then
        let f := t.takeFree
        portDown p (Config.receiving f.1) f.2
      else t
    ((t.portAdmin p old v).showPause p).showHolding p

/-! ## Losing a Girth die (R353, R354) -/

/-- The references of frame number `u` that have left the fabric: copies in egress queues and in transmission, the copies of
one die being one (R32). -/
def refsLeft (s : State) (u : Nat) : Nat :=
  let mine := (((s.fab.egq.flatMap (·.2)).filter (·.whole)) ++ s.port.tx.map (·.2.e)).filter fun e => e.m.uid == u
  (mine.filter (·.mc.isNone)).length + (mine.filterMap (·.mc)).eraseDups.length

/-- Discard a re-pattern's frame on Skirt die `d`. Log 103 (DESIGN CHOICE), 191 (DEDUCED). -/
def repatDrop (s : State) (d : Nat) (c : Cell) (m : Meta) : State :=
  let t := (s.inc R.LC_REPAT_DROP [d]).tallyDrop d 2 m
  let n := if m.uid = 0 then 0 else t.refsLeft m.uid
  let t := if n = 0 then t.frameGone m else { t with fab.holders := t.fab.holders.put 0 m.uid n }
  if c.deep then t.deepDone c.unicast else t

/-- The frames in the fabric whose release notice has not been sent: those whose last byte has not come, or stands in an open
span, on a strap, or in a cell of a Girth die that something refers to (R350). -/
def unreleased (s : State) : List Meta :=
  let coming := (s.port.ctFrame.map (·.2.m)) ++ s.fab.streams.flatMap fun e => e.2.behind.map fun b => b.2.2.m
  let cells := (s.fab.streams.flatMap fun e => e.2.done ++ e.2.cur.toList) ++ (s.fab.strap.flatMap (·.2))
    ++ (s.fab.queue.flatMap fun e => e.2.map (·.cell))
    ++ s.fab.captures.filterMap fun e => e.2.1.map fun _ => e.2.2.1
  let all := coming ++ (cells.flatMap (·.ends))
  (all.filter (·.held)).foldl (fun l m => if l.any fun x => x.id == m.id then l else l ++ [m]) []

/-- The frames with a cell in the fabric, and those that wait to be cut, each once, with the die it counts on and a header of its
cells: those in open spans and on straps on the ingress die, all else on the first egress die. One that a MAC is sending
cut-through, and a mirror copy in Lacing, are not among them (R32, R179). Log 103 (DESIGN CHOICE). -/
def fabricFrames (s : State) : List (Nat × Cell × Meta) :=
  let out := startsIn ((s.fab.streams.flatMap fun e => e.2.done ++ e.2.cur.toList) ++ s.fab.strap.flatMap (·.2))
    ++ s.fab.streams.flatMap fun e => e.2.behind.map fun b => (b.1, b.2.2.m)
  let inQ := startsIn ((s.fab.queue.flatMap fun e => e.2.map (·.cell)) ++ (s.fab.recv.flatMap (·.2))
    ++ s.fab.lace.flatMap fun e => e.2.spans.flatMap (·.cells))
  let sending := fun (f : OpenFrame) => f.early && (s.port.tx.find? f.hdr.port).any fun x => x.e.m.id == f.st.m.id
  let open_ := s.fab.asm.filterMap fun e => (e.2.cur.filter fun f => !sending f && f.hdr.link != 2).map fun f => (f.hdr, f.st.m)
  let home := fun (c : Cell) => if c.dies ≠ 0 then (setPositions c.dies 8).headD 0 else c.port / 64
  let all := (out.map fun f => (f.1.slice / 4, f)) ++ (inQ ++ open_).map fun f => (home f.1, f)
  (all.foldl (fun (a : List (Nat × Nat) × List (Nat × Cell × Meta)) f =>
    if a.1.contains f.2.2.id then a else (f.2.2.id :: a.1, f :: a.2)) ([], [])).2.reverse

/-- Every frame with a cell in the fabric, and every copy of it there, is gone: open spans, straps, Girth queues, deep
pages, receive queues and Lacing are emptied. Each frame is counted once, with the die that discarded it, and the bytes whose
notice has not been sent are released. Log 103 (DESIGN CHOICE). -/
def dropFabric (s : State) : State :=
  -- the flushes under way are complete: nothing of their ports is left in the fabric (R377)
  let flushing := (s.fab.flushWait.filter fun e => e.2 != 0).map (·.1)
  let s := forEach flushing (fun p t => t.raise F.EQ_EVT_FLUSH_DONE [p / 64]) s
  let t := forEach s.fabricFrames (fun f t => t.repatDrop f.1 f.2.1 f.2.2) s
  let t := (forEach t.unreleased (fun m u => u.freeHeld m) t).freePages
  let keep := fun (e : Nat × List EFrame) => (e.1, e.2.filter fun x => x.whole)
  let t := { t with fab.egq := (t.fab.egq.map keep).filter fun e => !e.2.isEmpty }
  let shut := fun (e : Nat × Stream) => (e.1, { e.2 with done := [], cur := none, behind := [] })
  let f := { t.fab with streams := (t.fab.streams.map shut).filter fun e => e.2 != ({ next := 0 } : Stream) }
  let f := { f with strap := [], stamp := [], queue := [], refs := [], ord := [], spent := [], recv := [], lace := [], asm := [] }
  let f := { f with dead := [], cut := [], used := [], cellFree := [], cellFresh := [], retired := f.worn, flushAsk := [], flushWait := [], pendQ := [] }
  let f := { f with captures := f.captures.map fun e => (e.1, none, e.2.2) }
  let t := { t with fab := f, port.ctTail := [], port.ctFrame := [], port.ctHead := [], port.ctSeen := [], port.rxBad := [] }
  let t := forEach t.liveGirths (fun g u => u.showCells g) t
  forEach t.liveSkirts showSlots t

/-- The Girth dies of the pattern that are isolated, as a mask. Log 59 (DEDUCED). -/
def lostGirths (s : State) : Nat := ((s.girths.filter fun g => !s.live (8 + g)).map fun g => 2 ^ g).sum

/-- A re-pattern begins at t0 (R353): a second loss starts it again. -/
def repatternStart (s : State) : State :=
  let t := (s.set F.FP_REPAT_ACTIVE [] 1).raise F.FP_EVT_REPATTERN_START []
  let t := if s.fab.repatAt.isNone then t.claimRepattern else t
  { t.dropFabric with fab.repatAt := some t.clock.tick, fab.repatLost := s.lostGirths }

/-- Give the pattern to every live Girth die's GF_STATUS (R359). -/
def showPattern (s : State) : State :=
  let n := s.get F.FP_PATTERN_N_M1 []
  let gen := s.get F.FP_PATTERN_GEN []
  s.girths.zipIdx.foldl (fun t e =>
    ((t.set F.GF_STATUS_N_M1 [e.1] n).set F.GF_STATUS_COL [e.1] e.2).set F.GF_STATUS_GEN [e.1] gen) s

/-- Write a pattern over the live Girth dies with generation `gen` (R336, R353). -/
def writePattern (s : State) (gen : Nat) : State :=
  let l := s.liveGirths
  let map := l.zipIdx.foldl (fun a e => a + e.1 * 2 ^ (4 * e.2)) 0
  let t := ((s.set F.FP_PATTERN_GEN [] gen).set F.FP_PATTERN_N_M1 [] (l.length - 1)).set F.FP_PATTERN_MAP [] map
  t.showPattern

/-- Every calendar is written anew to every live Girth die (R342, R353). -/
def writeCalendars (s : State) : State :=
  forEach s.liveSkirts (fun d t =>
    let c := t.buildCal d
    forEach t.liveGirths (fun g u =>
      { u with fab.cal := u.fab.cal.put [] (key2 g d) c, fab.calNew := u.fab.calNew.erase (key2 g d),
               fab.calPos := u.fab.calPos.erase (key2 g d) }) t) s

/-- The re-pattern ends (R353). -/
def repatternEnd (s : State) (t0 : Nat) : State :=
  let t := s.dropFabric.writePattern ((s.get F.FP_PATTERN_GEN [] + 1) % 4)
  let anew := fun (e : Nat × Stream) => (e.1, { e.2 with next := 0 })
  let strs := (t.fab.streams.map anew).filter fun e => e.2 != ({ next := 0 } : Stream)
  let t := { t with fab.streams := strs, fab.repatAt := none, fab.repatLost := 0, fab.calDue := [] }
  let t := (t.writeCalendars.releaseRepattern.set F.FP_REPAT_ACTIVE [] 0).addSat F.FP_REPAT_COUNT [] 1
  let t := (t.set F.FP_REPAT_LAST_US [] (min 65535 (ceilDiv (s.since t0) 1000))).raise F.FP_EVT_REPATTERN_DONE []
  forEach (t.flt.recovering.filter fun r => r.2.2.2.1 == 7) (fun r u => u.recovered r.1 r.2.1 r.2.2.1) t

/-- A re-pattern is abandoned (R354). -/
def abandonRepattern (s : State) : State :=
  if s.fab.repatAt.isSome then { s.set F.FP_REPAT_ACTIVE [] 0 with fab.repatAt := none, fab.repatLost := 0 }.releaseRepattern else s

end State

/-! ## Commands -/

/-- LACING_CELL_ARRIVE: the cell at the head of receive queue `k` from Girth die `g` is met by Lacing of die `d` (R345,
R346, R377). A borrow slot of the claim of activity `borrow` goes first (R43). Log 47 (DEDUCED). -/
def execLacingCellArrive (d g k : Nat) (borrow : Option Nat) (s : State) : Out :=
  done (fun s =>
    let rk := recvKey d g k
    let p := 64 * d + k
    if !s.forwarding || !s.live d || !decide (d < 8) || s.fab.repatAt.isSome then s
    else match borrow.filter fun a => s.mayTakeSlot a d (8 * d + 4 + k / 16 % 4) with
    | some a => (s.countEgr (4 * d + k / 16 % 4) 5).takeSlot a d (8 * d + 4 + k / 16 % 4)
    | none =>
      match s.fab.recv.at [] rk with
      | [] => s
      | c :: r =>
        let pop := fun (t : State) => { t with fab.recv := t.fab.recv.put [] rk r }.backCredit g d k
        let l := s.fab.lace.at {} (key2 d c.qid)
        if c.typ = 3 then s
        else if k < 64 ∧ bit (s.fab.flushWait.at 0 p) g ∧ c.link ≠ 3 then ((pop s).loseEnds d c).showSlots d
        else if k < 64 ∧ s.fab.flushWait.at 0 p ≠ 0 ∧ c.link ≠ 3 then s
        else if c.ord < l.h ∨ l.gone.any (fun x => x.1 == c.ord) then
          let fresh := c.ends.filter fun m => !s.fab.dead.contains (State.deadId d c m)
          ((pop s).loseEnds d c).timeoutDrops d fresh
        else if l.h + 3 < c.ord then
          if c.waited then s
          else
            let t := { s with fab.recv := s.fab.recv.put [] rk ({ c with waited := true } :: r) }
            (t.inc R.LC_WIN_WAIT [d]).countKind (16 * d + 15) 1 1
        else ((pop s).laceCell d c).showSlots d) s

/-- LACING_TIMEOUT: the oldest span of queue `q` on die `d` that has been incomplete for TIMEOUT_US is abandoned (R347).
Log 97 (DEDUCED). -/
def execLacingTimeout (d q : Nat) (s : State) : Out :=
  done (fun s =>
    let k := key2 d q
    let l := s.fab.lace.at {} k
    let lim := s.get F.LC_CFG_TIMEOUT_US [d] * 1000
    match l.spans.find? fun p => decide (p.cells.length < s.cols) && decide (lim ≤ s.since p.at_) with
    | none => s
    | some p =>
      if !s.forwarding || !s.live d then s
      else
        let begun := (State.startsIn p.cells).map fun e => e.2.id
        let ended := (p.cells.map (·.ends)).flatten
        -- frames that start here; one that ends here too is not met again
        let t := (State.startsIn p.cells).foldl (fun u e =>
          let v := (u.lose d e.1 e.2).timeoutDrops d [e.2]
          if ended.any fun m => m.id == e.2.id then v else { v with fab.dead := v.fab.dead ++ [State.deadId d e.1 e.2] }) s
        let hdr := { (p.cells.headD {}).header with ends := ended.filter fun m => !begun.contains m.id }
        let l' := { l with spans := l.spans.filter fun x => x.ord != p.ord, gone := l.gone ++ [(p.ord, hdr)] }
        let t := { t with fab.lace := t.fab.lace.put {} k l' }
        let t := (t.raise F.LC_EVT_TIMEOUT [d]).report { die := d, unit := 7, cause := 8, d0 := q, d1 := p.ord }
        (State.takeSpans d q (l.spans.length + l.gone.length + 2) t).showSlots d) s

/-- LINK_DOWN: the line of port `p` shows (`line`) the lanes locked, its faults, and training complete or not, and a condition of R180
has failed so for `us` µs: a port that is up is declared down after DOWN_DEB_US (R180, R181). `rx` says that a frame was being
received. Log 88 (DEDUCED). -/
def execLinkDown (p : Nat) (rx : Bool) (line : Nat × Bool × Bool × Bool) (us : Nat) (s : State) : Out :=
  done (fun s =>
    let (lanes, lf, rf, trained) := line
    let x := State.pix p
    let unready := s.isOn F.PG_PORT_CTRL_AN_EN x && !s.isOn F.PG_PORT_STAT_AN_DONE x
    onlyIf (s.powered && s.live (p / 64) && (s.linkUp p || s.lineSeen p) && (!s.lineGood p lanes lf rf trained || unready)) (fun s =>
      let down := s.linkUp p && decide (s.get F.PG_PORT_TIMERS_DOWN_DEB_US x ≤ us)
      (if down then State.portDown p rx s else s).showLine p lanes lf rf) s) s

/-- PORT_CTRL_WRITE: a write of PG_PORT_CTRL (R164, R166, R182). Log 210 (DESIGN CHOICE). -/
def execPortCtrlWrite (p v : Nat) (s : State) : Out :=
  done (fun s => onlyIf (s.powered && s.live (p / 64) && decide (p < 512)) (fun s => s.writePortCtrl p v) s) s

/-- FLUSH_REQUEST: Girth die `g` unlinks the columns of port `p`'s VOQs and sends a flush marker (step 2 of R377). -/
def execFlushRequest (g p : Nat) (s : State) : Out :=
  done (fun s =>
    onlyIf (bit (s.fab.flushAsk.at 0 p) g && s.live (8 + g) && s.fab.repatAt.isNone) (fun s =>
      let d := p / 64
      let k := p % 64
      let s := forEach ((List.range 8).map (voqId p)) (fun q t =>
        let l := t.gq g q
        let t := l.foldl (fun (u : State) n =>
          (u.loseEnds d { n.cell with link := n.kind }).unlink g n) (t.setGq g q [])
        let t := (t.inc R.QM_FLUSHED [g] l.length).countKind (128 + 8 * g + 6) 2 l.length
        { t with fab.ord := t.fab.ord.erase (key3 g q d) }) s
      let rk := recvKey d g k
      let ask := s.fab.flushAsk.put 0 p (setBit (s.fab.flushAsk.at 0 p) g false)
      let mark : Cell := { typ := 3 }
      { s with fab.recv := s.fab.recv.put [] rk (s.fab.recv.at [] rk ++ [mark]), fab.flushAsk := ask }) s) s

/-- FLUSH_MARKER: the flush marker of Girth die `g` for port `p` arrives: what stands ahead of it is discarded, and when
every marker has come Lacing is cleared (steps 3 and 4 of R377). -/
def execFlushMarker (g p : Nat) (s : State) : Out :=
  done (fun s =>
    let d := p / 64
    let k := p % 64
    let rk := recvKey d g k
    let l := s.fab.recv.at [] rk
    onlyIf (bit (s.fab.flushWait.at 0 p) g && l.any fun c => c.typ == 3) (fun s =>
      let ahead := l.takeWhile fun c => c.typ != 3
      let after := l.drop (ahead.length + 1)
      let keep := ahead.filter fun c => c.link == 3
      let s := (ahead.filter fun c => c.link != 3).foldl (fun t c => (t.loseEnds d c).backCredit g d k) s
      { s with fab.recv := s.fab.recv.put [] rk (keep ++ after) }.flushPoint g p) s) s

/-- REPATTERN: a Girth die of the pattern is isolated: the re-pattern begins, or begins again (R353, R354). Log 59 (DEDUCED). -/
def execRepattern (s : State) : Out :=
  done (fun s =>
    -- a re-pattern under way starts again only for a further loss
    let lost := s.lostGirths != 0 && (s.fab.repatAt.isNone || s.lostGirths != s.fab.repatLost)
    onlyIf (s.forwarding && lost && !s.liveGirths.isEmpty && s.tack.edrain.isNone) (fun s => s.repatternStart) s) s

/-- REPATTERN_RESUME: all dies resume on the new pattern, by 50 µs after t0 (R353). -/
def execRepatternResume (s : State) : Out :=
  done (fun s =>
    match s.fab.repatAt with
    | some t0 => onlyIf (s.tack.edrain.isNone && !s.liveGirths.isEmpty) (fun s => s.repatternEnd t0) s
    | none => s) s

end Sys2Proof.Machine
end

