-- ==== Sys2Proof/Machine/Modes.lean ====
section
/-! DEFINITION. Modes, timed commits, epoch drain and resets (R100 to R124, R576). -/

namespace Sys2Proof.Machine

namespace State

/-! ## Resets of the dies (R119, R120) -/

/-- A register outside the dies: held by the Tack Room, or fused (R98, R99, R551, R124, R160). Log 50 (DEDUCED). -/
def outsideDies (a : Nat) : Bool :=
  (decide (0x10000 ≤ a) && decide (a < 0x30000)) || a == R.MD_LAST_RESET.base || a == R.FT_HALT_SEQ.base
    || a == R.PB_FUSE_KEYS.base || a == R.PB_FUSE_SECVER.base

/-- What Patina still knows after a reset of the dies: the RUN hours and the wear since each die's last plan, those since its
record was last saved, its near misses since then, and the dies whose re-plan or request the reset cut off (R51, R56, R123).
Log 234 (DESIGN CHOICE). -/
def patinaKept (s : State) : Pace :=
  let cut := match s.pace.replan with | some r => 2 ^ r.die | none => 0
  { planSec := s.pace.planSec, saveSec := s.pace.saveSec, planWear := s.pace.planWear
    nmPlan := s.liveDies.foldl (fun (m : Map Nat) x => m.put 0 x (s.pace.nmPlan.at 0 x + s.get F.PT_LOOP_NEARMISS [x])) []
    mustPlan := s.pace.mustPlan ||| cut ||| s.get F.PT_REPLAN_DIE_MASK [] }

/-- Every die except the Tack Room returns to its reset state (R119 kind 2, R120). Log 30 (DEDUCED), 50 (DEDUCED). -/
def resetDies (s : State) : State :=
  { pending := s.pending, variant := s.variant, clock := s.clock, mode := s.mode, free := s.free, tack := s.tack,
    flash := s.flash, fuse := s.fuse, host := s.host, out := s.out, pace := s.patinaKept
    regs := s.regs.keep outsideDies, latched := s.latched.keep (fun k => outsideDies (k % 2 ^ 40)), staged := s.staged.keep outsideDies }

/-- Every live die shows the mode it has applied (R124). -/
def unitModes (s : State) (m : Nat) : State := forEach s.liveDies (fun x t => t.set F.MD_UNIT_MODE_MODE [x] m) s

/-- LOAD begins: the loader will choose a slot and attempt it (R151). `want` names the slot asked for. -/
def enterLoad (s : State) (want : Option Nat) : State :=
  { s with mode := .load, modes.inReset := false, load := { s.load with phase := .idle, want := want } }.unitModes 2

/-- A reset of the dies that leaves the device in LOAD, recorded in the header (R119, R121). -/
def restart (s : State) (cause : Nat) (want : Option Nat) : State :=
  (((s.flashAbort.noteReset cause s.mode.code)).resetDies).enterLoad want

/-- The rails go off and the device falls to STANDBY (R101); what the dies held is lost. -/
def fallToStandby (s : State) : State :=
  ((((s.resetDies).set F.PS_STATUS_RAILS_ON [] 0).set F.PS_STATUS_SS_STATE [] 0)).enterStandby

/-! ## Epoch drain (R115, R116) -/

/-- What is in flight is gone: FIFOs, held passes, recirculations, punts, the fabric, egress queues and transmissions.
Log 49 (DEDUCED). -/
def discardFlight (s : State) : State :=
  let port := { s.port with fifo := [], fcBytes := [], xoff := [], fifoHold := [], tx := [], ctTail := [], ctFrame := [], ctHead := [], ctSeen := [], rxBad := [] }
  let sl := { s.sl with awlQ := [], flowQ := [], recirc := [], reinj := [], punts := [] }
  let f := s.fab
  let fab : Fabric := {
    nextId := f.nextId, nextMc := f.nextMc, cal := f.cal, calNew := f.calNew, calPos := f.calPos, calDue := f.calDue, rr := f.rr, cellBad := f.cellBad
    capSeq := f.capSeq, capLost := f.capLost, repatAt := f.repatAt, repatLost := f.repatLost, retired := f.worn }
  let t := { s.freePages with port := port, sl := sl, fab := fab, awl.late := [], flow.late := [], shp.deficit := [] }
  let t := forEach (List.range 64) (fun g u => if u.live (g / 8) then u.showFill g else u) t
  let t := forEach t.liveGirths (fun g u => u.showCells g) t
  forEach t.liveSkirts State.showSlots t

/-- Frames that wait for their first pass, and so carry no epoch yet (R115). -/
def unstamped (s : State) : Nat := (s.port.fifo.map fun e => e.2.length).sum + (s.sl.reinj.map fun e => e.2.length).sum

/-- The frames in flight that a discard of everything is charged for, each with the die that discards it: those in slices and
held for a late result, in the fabric, in egress queues and in transmission. A punt has left its slice (R410, R411).
Log 240 (DEDUCED). -/
def flightFrames (s : State) : List (Nat × Meta) :=
  let held := ((List.range 32).flatMap s.sliceFrames) ++ (s.awl.late.map fun p => p.f.m) ++ s.flow.late.map fun p => p.f.m
  let out := s.fab.egq.flatMap fun e => (e.2.filter (·.whole)).map fun x => (e.1 / 2 ^ 46, x.m)
  (held.map fun m => (m.slice / 4, m)) ++ (s.fabricFrames.map fun f => (f.1, f.2.2)) ++ out
    ++ s.port.tx.map fun e => (e.1 / 64, e.2.e.m)

/-- Each is charged as one drop of category OTHER. Log 240 (DEDUCED). -/
def chargeFlight (s : State) : State := forEach s.flightFrames (fun f t => t.tallyDrop f.1 2 f.2) s

/-- Every frame in flight is discarded uncounted; both counters read zero (R103, R105). -/
def discardAll (s : State) : State :=
  let t := s.discardFlight
  forEach [0, 1] (fun b u => u.set F.MD_DRAIN_CNT_COUNT [b] 0 |>.set F.MD_DRAIN_CNT_ZERO [b] 1) t

/-! ## The commit registers (R108, R576) -/

/-- Show a commit in the registers: its instant, kinds, reports and state (R576). Log 205 (DESIGN CHOICE). -/
def showCommit (s : State) (c : Commit) : State :=
  let sec := c.instant / 1000000000
  let t := if c.tack then
      (((s.wr R.MD_COMMIT_SEC_LO [] (sec % 2 ^ 32)).wr R.MD_COMMIT_SEC_HI [] (sec / 2 ^ 32 % 2 ^ 16)).wr
        R.MD_COMMIT_NS [] (c.instant % 1000000000)).wr R.MD_COMMIT_CTRL [] (c.kinds + c.after * 2 ^ 4)
    else s
  (((t.set F.MD_COMMIT_STAT_STATE [] c.state).set F.MD_COMMIT_STAT_SRC [] (b2n c.tack)).wr R.MD_COMMIT_PREP [] c.prep).wr
    R.MD_COMMIT_APPLIED [] c.applied

/-- The commit sequence number adds one (R124). -/
def bumpCommitSeq (s : State) : State :=
  s.set F.MD_COMMIT_STAT_SEQ [] (s.get F.MD_COMMIT_STAT_SEQ [] + 1)

/-- Take up a new commit as the one shown. A driver's GO clears REASON; a commit of the Tack Room leaves the reason for which a
driver's commit made way to be read (R113, R576). Log 202 (DEDUCED). -/
def startCommit (s : State) (c : Commit) : State :=
  let t := { s with modes.commit := some c }
  (if c.tack then t else t.set F.MD_COMMIT_STAT_REASON [] 0).showCommit c

/-- The shown commit is over; the Tack Room's hidden one is shown, as far as it has come by itself, which may be that it was
cancelled or that every die has applied it (R110, R111, R576). -/
def endCommit (s : State) : State :=
  let t := { s with modes.commit := none }
  match t.modes.hidden with
  | none => t
  | some h =>
    let u := { t with modes.hidden := none }.bumpCommitSeq
    if h.state = 5 then (u.set F.MD_COMMIT_STAT_REASON [] h.why).showCommit h
    else if h.reached ∧ u.liveMask &&& h.applied = u.liveMask then
      (u.showCommit { h with state := 4 }).raise F.MD_EVT_COMMIT_DONE []
    else u.startCommit h

/-- The shown commit is cancelled: STATE CANCELLED with the reason, COMMIT_CANCELLED, and no commit is MIXED any more (R100, R103,
R110, R113). -/
def cancelCommit (s : State) (reason : Nat) : State :=
  ((((s.set F.MD_COMMIT_STAT_STATE [] 5).set F.MD_COMMIT_STAT_REASON [] reason).set F.MD_MODE_MIXED [] 0).raise
    F.MD_EVT_COMMIT_CANCELLED []).endCommit

/-- The Tack Room's hidden commit is cancelled, unseen until the shown one ends (R110, R576). -/
def cancelHidden (s : State) (reason : Nat) : State :=
  match s.modes.hidden with
  | some h => if h.state = 5 then s
    else { s with modes.hidden := some { h with state := 5, why := reason } }.raise F.MD_EVT_COMMIT_CANCELLED []
  | none => s

/-- Any commit, shown or hidden, ends as CANCELLED (R103, R113). Log 74 (DEDUCED). -/
def cancelAllCommits (s : State) (reason : Nat) : State :=
  let t := s.cancelHidden reason
  if t.modes.commit.isSome then t.cancelCommit reason else t

/-- Every pending commit ends as CANCELLED; one whose instant has been reached goes on (R113). -/
def cancelPending (s : State) (reason : Nat) : State :=
  let t := if s.modes.hidden.any fun h => !h.reached then s.cancelHidden reason else s
  if t.modes.commit.any fun c => !c.reached then t.cancelCommit reason else t

/-- The Tack Room requests an orderly DRAIN at TAI now plus 100,000 ns (R113, R119, R576). A driver's commit that
falls earlier proceeds first; one that does not is cancelled with REASON 7. A second request replaces AFTER_DRAIN of a Tack
Room commit in progress, and a hidden one by a new one. Log 203 (DESIGN CHOICE). -/
def tackDrain (s : State) (after : Nat) : State :=
  let c : Commit := { tack := true, kinds := 4, after := after, instant := s.clock.tai + 100000, seqAtGo := s.ts.issued }
  match s.modes.commit with
  | none => (s.bumpCommitSeq).startCommit c
  | some d =>
    if d.tack then { s with modes.commit := some { d with after := after } }.showCommit { d with after := after }
    else if d.reached || decide (d.instant < c.instant) then { s with modes.hidden := some c }
    else ((s.cancelCommit 7).bumpCommitSeq).startCommit c

/-- A die's checks of a commit pass (R109). -/
def commitReady (s : State) (c : Commit) (x : Nat) : Bool :=
  (!bit c.kinds 0 || (s.bankReady x && (decide (8 ≤ x) || decide (c.seqAtGo ≤ s.ts.applied.at 0 x))))
    && (!bit c.kinds 1 || s.gaitReady x)

/-- Record the PREPARED report of die `x`; the commit is ARMED when every live die has reported (R109). -/
def prepareDie (s : State) (c : Commit) (x : Nat) : Commit :=
  let p := if bit c.prep x then c.prep else c.prep + 2 ^ x
  { c with prep := p, state := if s.liveMask &&& p = s.liveMask then 2 else c.state }

/-- TAI has passed the prepare deadline of a commit (R110). -/
def pastDeadline (s : State) (c : Commit) : Bool := decide (c.instant < s.clock.tai + s.get F.MD_PREP_GUARD_GUARD_US [] * 1000)

/-- Die `x` applies its part of a commit (R111). -/
def applyOn (c : Commit) (new : Nat) (x : Nat) (s : State) : State :=
  let t := if bit c.kinds 0 then s.set F.MD_UNIT_MODE_EPOCH [x] new else s
  let t := if bit c.kinds 1 then t.gaitTakeover x else t
  if bit c.kinds 2 then t.set F.MD_UNIT_MODE_MODE [x] 4 else t

/-- The orderly DRAIN begins (R104): claims are released, learning and ageing stop, punts are no longer taken.
Log 45 (DEDUCED). -/
def beginDrain (s : State) (c : Commit) : State :=
  let o : ODrain := {
    instant := c.instant, startTick := s.clock.tick - (s.clock.tai - c.instant), boundTick := s.clock.tick + s.get F.MD_RESID_LIMIT_US [] * 1000 + 2000000, after := c.after }
  let t := { s with mode := .drain, modes.odrain := some o }
  t.dropClaims.abandonReplan

/-- The commit is DONE (R111, R112). -/
def commitDone (s : State) : State :=
  ((((s.set F.MD_COMMIT_STAT_STATE [] 4).set F.MD_MODE_MIXED [] 0).raise F.MD_EVT_COMMIT_DONE [])).endCommit

/-! ## HALT (R103) and orderly DRAIN (R105) -/

/-- Entry to HALT (R103): ports down and transmitters off, frames in flight discarded uncounted, commits cancelled with
REASON 5, slack claims dropped. Log 49 (DEDUCED). -/
def enterHalt (s : State) : State :=
  let t := { s.discardAll with mode := .halt }.allPortsDown.discardAll
  let t := (t.cancelAllCommits 5).tallyHalt
  let t := { t.dropClaims.abandonReplan.abandonRepattern.abandonCompaction with mode := .halt, modes.odrain := none, load := { t.load with phase := .idle } }
  t.unitModes 5

/-- The action an orderly DRAIN ends in (R105). A load from the other slot names its slot; for any other the loader chooses by
rule 2 of R131. Log 204 (DEDUCED). -/
def afterDrain (s : State) (after : Nat) : State :=
  let t := { s with modes.odrain := none }.raise F.MD_EVT_DRAIN_DONE []
  if after = 0 then t.fallToStandby
  else t.restart 6 (if after = 1 then none else some (1 - s.activeSlot))

end State

/-! ## The commands -/

/-- The instant that a driver's commit asks for, in TAI nanoseconds (R108). -/
def State.commitInstant (s : State) : Nat :=
  (s.get F.MD_COMMIT_SEC_LO_ALL [] + s.get F.MD_COMMIT_SEC_HI_SEC [] * 2 ^ 32) * 1000000000 + s.get F.MD_COMMIT_NS_NS []

/-- The kinds that a driver's commit asks for: bit 0 EPOCH, bit 1 GAIT, bit 2 DRAIN (R108). -/
def State.commitKinds (s : State) : Nat :=
  s.get F.MD_COMMIT_CTRL_EPOCH [] + 2 * s.get F.MD_COMMIT_CTRL_GAIT [] + 4 * s.get F.MD_COMMIT_CTRL_DRAIN []

/-- COMMIT_GO: the driver's request is taken or refused with the lowest-numbered reason (R108); a refusal shows in STATE until
the commit in progress next changes it. Log 205 (DESIGN CHOICE). -/
def execCommitGo (s : State) : Out :=
  done (fun s =>
    let inst := s.commitInstant
    let kinds := s.commitKinds
    let tai := s.clock.tai
    let reason :=
      if inst < tai + 100000 ∨ tai + 60000000000 < inst then 1
      else if s.modes.commit.isSome || s.modes.hidden.isSome then 2
      else if bit kinds 0 && s.get F.MD_DRAIN_CNT_COUNT [(s.epoch + 1) % 2] != 0 then 3
      else if s.mode ≠ .run then 5
      else if !s.timeValid then 6
      else if bit kinds 1 && s.variant == .e then 8
      else if kinds = 0 then 9
      else 0
    let t := s.bumpCommitSeq
    if reason = 0 then
      t.startCommit { kinds := kinds, after := s.get F.MD_COMMIT_CTRL_AFTER_DRAIN [], instant := inst, seqAtGo := s.ts.issued }
    else ((t.set F.MD_COMMIT_STAT_STATE [] 6).set F.MD_COMMIT_STAT_REASON [] reason).set F.MD_COMMIT_STAT_SRC [] 0)
  |> fun f => if s.powered then f s else .next s

/-- DIE_PREPARED: die `x` reports that its checks of the commit pass (R109); `hid` is the Tack Room's commit that
prepares behind a driver's (R576). A report after the prepare deadline does not count (R110, R114). -/
def execDiePrepared (x : Nat) (hid : Bool) (s : State) : Out :=
  done (fun s =>
    if !s.live x then s
    else if hid then
      match s.modes.hidden with
      | some c => onlyIf (c.state == 1 && !s.pastDeadline c && s.commitReady c x) (fun s => { s with modes.hidden := some (s.prepareDie c x) }) s
      | none => s
    else
      match s.modes.commit with
      | some c =>
        onlyIf (c.state == 1 && !s.pastDeadline c && s.commitReady c x)
          (fun s => { s with modes.commit := some (s.prepareDie c x) }.showCommit (s.prepareDie c x)) s
      | none => s) s

/-- TAI has reached the prepare deadline of a commit that some die has not reported on (R110, R114). -/
def State.missed (s : State) (c : Commit) : Bool :=
  c.state == 1 && decide (c.instant ≤ s.clock.tai + s.get F.MD_PREP_GUARD_GUARD_US [] * 1000)

/-- PREP_DEADLINE: TAI has reached the instant less the guard and some die has not reported: the commit shown is cancelled, and
so, unseen, is the Tack Room's hidden one (R110, R114, R576). -/
def execPrepDeadline (s : State) : Out :=
  done (fun s =>
    let s := match s.modes.hidden with
      | some h => if s.missed h then s.cancelHidden 4 else s
      | none => s
    match s.modes.commit with
    | some c => onlyIf (s.missed c) (fun s => s.cancelCommit 4) s
    | none => s) s

/-- TAI has reached the instant of an ARMED commit that no die has applied (R111). -/
def State.falls (s : State) (c : Commit) : Bool := c.state == 2 && !c.reached && decide (c.instant ≤ s.clock.tai)

/-- COMMIT_APPLY: TAI has reached the instant of an ARMED commit, the one shown or else the Tack Room's hidden one. Every live die
outside `lagging` applies all of it (R111); the epoch advances, armed Gait lists take over, and an orderly DRAIN begins (R104).
MD_EPOCH.CURRENT shows the new epoch from the instant. Log 206 (DESIGN CHOICE). -/
def execCommitApply (lagging : Nat) (s : State) : Out :=
  done (fun s =>
    let dies := s.liveDies.filter fun x => !bit lagging x
    let met := fun (c : Commit) => { c with reached := true, reachedAt := s.clock.tick, did := (dies.map (2 ^ ·)).sum }
    match s.modes.commit.filter s.falls, s.modes.hidden.filter s.falls with
    | some c, _ =>
      let old := s.epoch
      let new := (old + 1) % 65536
      let s := { s with modes.commit := some (met c) }
      let s := if bit c.kinds 0 then
          (((s.set F.MD_EPOCH_CURRENT [] new).set F.MD_EPOCH_PREV [] old).set
            (if new % 2 = 0 then F.MD_DRAIN_EPOCH_BANK0 else F.MD_DRAIN_EPOCH_BANK1) [] new)
          |> fun t => { t with modes.draining := t.modes.draining ++ [old] }
        else s
      let s := if bit c.kinds 2 then s.beginDrain c else s
      forEach dies (State.applyOn c new) s
    | none, some h => forEach dies (State.applyOn h s.epoch) ({ s with modes.hidden := some (met h) }.beginDrain h)
    | none, none => s) s

/-- APPLY_REPORT: the apply report of die `x` reaches the Tree die. A lagging die that a retry reaches applies first
(R112). When every bit is set the commit is DONE (R111). A report of the hidden commit is kept until it is shown (R576). -/
def execApplyReport (x : Nat) (s : State) : Out :=
  done (fun s =>
    match s.modes.commit with
    | none => s
    | some c =>
      if bit c.applied x then
        match s.modes.hidden.filter fun h => h.reached && s.live x && bit h.did x && !bit h.applied x with
        | some h => { s with modes.hidden := some { h with applied := h.applied + 2 ^ x } }
        | none => s
      else
      if c.reached && s.live x && !bit c.applied x then
        let late := !bit c.did x
        if c.state = 3 || !late then
          let s := if late then State.applyOn c s.epoch x s else s
          let c' := { c with applied := c.applied + 2 ^ x, did := setBit c.did x true }
          let t := { s with modes.commit := some c' }.showCommit c'
          if t.liveMask &&& c'.applied = t.liveMask then t.commitDone else t
        else s
      else s) s

/-- COMMIT_LAG: a die's apply report is missing 1 µs after the instant: MIXED and APPLYING (R112). -/
def execCommitLag (s : State) : Out :=
  done (fun s =>
    match s.modes.commit with
    | none => s
    | some c =>
      if c.reached ∧ c.state = 2 ∧ 1000 ≤ s.since c.reachedAt then
        let c' := { c with state := 3, lagAt := s.clock.tick }
        (({ s with modes.commit := some c' }.showCommit c').set F.MD_MODE_MIXED [] 1).raise F.MD_EVT_MIXED []
      else s) s

/-- LAG_RETRY_EXPIRY: the retry of 10 µs runs out: each lagging die is reported faulted (cause 0x0006) and the commit is
DONE on the remaining dies (R112). -/
def execLagRetryExpiry (s : State) : Out :=
  done (fun s =>
    match s.modes.commit with
    | none => s
    | some c =>
      if c.state = 3 ∧ 10000 ≤ s.since c.lagAt then
        let late := s.liveDies.filter fun x => !bit c.applied x
        let t := forEach late (fun x u => u.report { die := x, unit := 20, cause := 6, dieWide := true }) s
        (t.raise F.MD_EVT_COMMIT_DIE_FAULT []).commitDone
      else s) s

/-- DRAIN_COMPLETE: an orderly DRAIN ends: both counters are zero and the flush set is complete, or its bound has passed
and the flush set is complete (R105). -/
def execDrainComplete (s : State) : Out :=
  done (fun s =>
    match s.modes.odrain with
    | some o => onlyIf (s.mode == .drain && (o.ended || s.drained) && s.tallyFlushed) (fun s => s.afterDrain o.after) s
    | none => s) s

/-- DRAIN_BOUND: the residence limit plus 2 ms after the commit instant has passed: the frames that remain are discarded
and counted in MD_DRAIN_LEFT, those counted in are charged as OTHER (R411), and Tally cuts its flush set (R105, R423).
Log 240 (DEDUCED). -/
def execDrainBound (s : State) : Out :=
  done (fun s =>
    match s.modes.odrain with
    | some o =>
      onlyIf (s.mode == .drain && !o.ended && decide (o.boundTick ≤ s.clock.tick)) (fun s =>
        let left := s.get F.MD_DRAIN_CNT_COUNT [0] + s.get F.MD_DRAIN_CNT_COUNT [1] + s.unstamped
        let t := (s.addSat F.MD_DRAIN_LEFT_ALL [] left).chargeFlight.discardAll
        { t with modes.odrain := some { o with ended := true } }.tallyCutFlush) s
    | none => s) s

/-- EPOCH_DRAINED: a superseded epoch's counter has reached zero: the event is raised once for the supersession, and the
objects bound to the epoch are reclaimed with their fences (R116, R117). -/
def execEpochDrained (s : State) : Out :=
  done (fun s =>
    match s.modes.draining with
    | [] => s
    | e :: r =>
      if s.get F.MD_DRAIN_CNT_COUNT [e % 2] = 0 then
        ({ s with modes.draining := r }.raise F.MD_EVT_EPOCH_DRAINED []).reclaim e
      else s) s

/-- RESET_N_ASSERT: RESET_N has been low for `width` ns; a pulse between 200 ns and 1 µs resets the dies or does not, as
`takes` says (R566). The dies are held in reset until the rising edge (R119). Log 30 (DEDUCED), 185 (DESIGN CHOICE). -/
def execResetNAssert (width : Nat) (takes : Bool) (s : State) : Out :=
  done (fun s =>
    onlyIf (s.powered && s.tack.edrain.isNone && decide (200 ≤ width) && (decide (1000 ≤ width) || takes)) (fun s =>
      let t := (s.flashAbort.noteReset 2 s.mode.code).resetDies
      { t with modes.inReset := true }) s) s

/-- RESET_N_RELEASE: LOAD begins at the rising edge (R566). Log 29 (DEDUCED). -/
def execResetNRelease (s : State) : Out :=
  done (fun s => onlyIf (s.modes.inReset && s.tack.copy == .none) (fun s => s.enterLoad none) s) s

/-- FORWARDING_RESTART: MD_RESET.KIND = 6. From RUN it first drains (R119); otherwise the dies restart in LOAD, from the slot
that R131 chooses (R101, R123). It is ignored in an emergency DRAIN. Log 204 (DEDUCED). -/
def execForwardingRestart (s : State) : Out :=
  done (fun s =>
    if !s.powered || s.tack.edrain.isSome then s
    else match s.mode with
      | .run => s.tackDrain 1
      | .load | .halt | .drain => s.restart 6 none
      | _ => s) s

end Sys2Proof.Machine
end

