-- ==== Sys2Proof/Machine/Power.lean ====
section
/-! DEFINITION. Power entry, comparators, emergency DRAIN, flash copy and VAUX (R66 to R82, R92 to R97, R574). -/

namespace Sys2Proof.Machine

namespace State

/-! ## Emergency DRAIN (R78) -/

/-- The trip or opening at tick `now` that begins an emergency DRAIN in LOAD, RUN or DRAIN; in HALT it has the effect of
a VIN collapse there (R78, R103); elsewhere it is journalled only. `avg` is the 1 ms average of VBUS before it, in 10 mV units
(R79). Log 74 (DEDUCED), 200 (DEDUCED). -/
def beginEmergency (s : State) (cause avg : Nat) : State :=
  match s.mode with
  | .load | .run | .drain =>
    if s.tack.edrain.isSome then s
    else
      let sure := decide (1600 ≤ avg) && decide (80 ≤ s.get F.TK_VIN_TRACK_PCT [])
      let e : EDrain := { t0 := s.clock.tick, cause := cause, mode := s.mode.code, epoch := s.epoch, sec := s.clock.sec, ns := s.clock.ns, sure := sure }
      { s with tack.edrain := some e, tack.lossMode := if cause = 0 then some s.mode.code else none }
  | .halt => { s with tack.haltFall := true, tack.lossMode := some 5 }
  | _ => s

/-- VAUX is outside its window now: below it, or above it (R82, R95). -/
def vauxOut (s : State) : Bool :=
  match s.tack.vauxLowAt with
  | some _ => !s.tack.vauxBack
  | none => bit s.tack.excursion 3

/-- The stage of an emergency DRAIN that falls `at_` ns after t0. -/
def edrainAt (s : State) (at_ : Nat) (ready : EDrain → Bool) (f : EDrain → State → State) : State :=
  match s.tack.edrain with
  | some e => onlyIf (ready e && decide (at_ ≤ s.since e.t0)) (f e) s
  | none => s

/-- Replace the emergency DRAIN's record. -/
def setEDrain (s : State) (e : EDrain) : State := { s with tack.edrain := some e }

/-- SMB_ALERT_N is driven low (R565). -/
def smbAlert (s : State) : Bool :=
  s.isOn F.TK_EVT_CMP [] || s.isOn F.PS_STATUS_OC_LATCH [] || s.isOn F.PS_STATUS_REV_TRIP [] || s.isOn F.PS_STATUS_OV_CUT []

/-- An orderly DRAIN, STANDBY or nothing: what action 0x2 does in each mode (R113). An emergency DRAIN, from the trip that
begins it, is the stronger action (R76). -/
def actionDrain (s : State) : State :=
  if s.tack.edrain.isSome then s
  else match s.mode with
  | .run => s.tackDrain 0
  | .load => (s.abandonAttempt).fallToStandby
  | .drain =>
    match s.modes.odrain with
      | some o => { s with modes.odrain := some { o with after := 0 } }
      | none => s
  | .halt => { s with tack.haltFall := true }
  | _ => s

/-- The action of comparator `n` (R73, R74). Log 32 (DESIGN CHOICE). -/
def compAction (s : State) (n action avg : Nat) : State :=
  let t := if action = 0 then s else s.raise F.TK_EVT_CMP []
  if action = 2 then t.actionDrain
  else if action = 3 then t.beginEmergency n avg
  else if action = 4 then t.wakeBy 3
  else t

/-- A reading of comparator `n` lies outside its window. `avg` is the 1 ms average of VBUS (R73 to R75). -/
def compOutside (s : State) (n value avg : Nat) : Bool :=
  let lo := s.get F.TK_CMP_THR_LOW [n]
  let hi := s.get F.TK_CMP_THR_HIGH [n]
  if n = 0 then decide (value < lo) || decide (100 * value < s.get F.TK_VIN_TRACK_PCT [] * avg) || decide (hi < value)
  else if n = 4 then decide (signed 16 value < signed 16 lo) || decide (signed 16 hi < signed 16 value)
  else if n = 5 then value == 0
  else decide (value < lo) || decide (hi < value)

/-- Comparator `n` is armed: enabled, and comparator 0 only while the switch is closed and its charge complete (R75). -/
def compArmed (s : State) (n : Nat) : Bool :=
  s.isOn F.TK_CMP_CFG_EN [n] && (n != 0 || s.get F.PS_STATUS_SS_STATE [] == 2)

/-! ## Loss markers (R95) -/

/-- The bytes of the loss marker sealed now (R95). Log 200 (DEDUCED). -/
def lossMarker (s : State) (e : EDrain) : List Byte :=
  let mask := (e.totals.map fun t => 2 ^ t.1).sum
  let partial_ := (List.range s.variant.skirts).any fun d => !bit mask d
  let flags := b2n partial_ + 2 * b2n s.vauxOut + 4 * b2n (!s.timeValid)
  let w0 := 0x4C4D + 2 ^ 16 + flags * 2 ^ 24
  let w1 := e.cause + e.mode * 2 ^ 8 + e.epoch * 2 ^ 16
  let die (d : Nat) : List Byte :=
    match e.totals.find? (fun t => t.1 == d) with
    | some t => leBytes t.2.1 8 ++ leBytes t.2.2 8
    | none => leBytes 0 16
  let head := leBytes w0 4 ++ leBytes w1 4 ++ leBytes e.sec 8 ++ leBytes e.ns 4 ++ leBytes s.tallyLastInterim.1 4
    ++ leBytes s.tallyMinuteSec 8 ++ leBytes s.tallyLastInterim.2 8 ++ leBytes mask 4 ++ leBytes 0 4
    ++ (List.range 8).flatMap die
  head ++ leBytes (crc32c head) 4 ++ leBytes 0 (256 - head.length - 4)

/-- Write a loss marker into the slot of TK_LM_HEAD.NEXT and advance it (R95). Log 200 (DEDUCED). -/
def sealMarker (s : State) (e : EDrain) : State :=
  let slot := s.get F.TK_LM_HEAD_NEXT []
  let t := s.retWrite (0x1000 + 256 * slot) (s.lossMarker e)
  { ((t.set F.TK_LM_HEAD_NEXT [] ((slot + 1) % 16)).addSat F.TK_LM_HEAD_COUNT [] 1) with tack.copyMarker := some slot }

/-- Write the entries queued on the Tree die into retention memory, oldest first (R78, R547). -/
def flushJournal (s : State) : State :=
  { (s.flt.jq.foldl (fun t e => t.journalWrite e) s) with flt.jq := [] }

/-! ## The flash copy (R81, R574) -/

/-- The newest `n` journal entries, oldest first. -/
def newestEntries (s : State) (n : Nat) : List Byte :=
  let head := s.get F.TK_JRNL_HEAD_HEAD []
  ((List.range n).reverse).flatMap fun i => s.retRead (0x4000 + 64 * ((head + 3840 - 1 - i) % 3840)) 64

/-- The 0x560 bytes of a flash copy taken now (R574). -/
def copyImage (s : State) : List Byte :=
  let count := s.rd R.TK_JRNL_COUNT []
  let n := min 16 count
  let marker := match s.tack.copyMarker with
    | some slot => s.retRead (0x1000 + 256 * slot) 256
    | none => leBytes 0 256
  let w1 := 1 + b2n s.tack.copyMarker.isSome * 2 ^ 8 + n * 2 ^ 16
  let j := s.newestEntries n
  let head := leBytes 0x52435059 4 ++ leBytes w1 4 ++ leBytes count 4 ++ leBytes 0 4 ++ marker ++ s.retRead 0x2000 64
    ++ j ++ leBytes 0 (1024 - j.length)
  head ++ leBytes (crc32c head) 4 ++ leBytes 0 12

/-- The device enters STANDBY with VAUX in its window again: with AUTO_VIN set and VIN qualified, a wake follows (R82). -/
def standbyAgain (s : State) : State :=
  let t := s.enterStandby
  if t.tack.wake.isNone && t.isOn F.TK_WAKE_CTRL_AUTO_VIN [] && t.isOn F.PS_STATUS_VIN_OK [] then t.wakeBy 1 else t

/-- The last rails go off at the end of a flash copy, or at RAILS_OFF when none is called for: the device rests in STANDBY or in
OFF, and a fall to STANDBY from VIN loss is recorded (R78, R81, R82, R121). -/
def railsGone (s : State) : State :=
  let t := (s.flashAbort.resetDies.set F.PS_STATUS_RAILS_ON [] 0).set F.PS_STATUS_SS_STATE [] 0
  let t := { t with tack.edrain := none, tack.haltFall := false, tack.copy := .none, tack.copyMarker := none, tack.copyCalled := false
                    tack.copyData := [], tack.lossMode := none }
  if t.tack.vauxLowAt.isSome then { t with mode := .off }
  else
    let u := match s.tack.lossMode with
      | some m => t.noteReset 7 m
      | none => t
    if s.tack.copyCalled then u.standbyAgain else u.enterStandby

/-- The Tack Room runs: VAUX is in its window, or has been below it for no longer than its capacitance lasts (R68, R82, R96). -/
def tackRuns (s : State) : Bool :=
  match s.tack.vauxLowAt with
  | some t => !s.tack.vauxCycled && decide (s.since t ≤ 100000)
  | none => true

/-- VAUX is back in its window without having fallen below 1.0 V (R82). After a short excursion, or after the VAUX cycle of a
longer one, a device in OFF enters STANDBY; a return that comes before the rails are off or the copy has ended is kept until
then. Log 28 (DEDUCED). -/
def vauxReturns (s : State) : State :=
  match s.tack.vauxLowAt with
  | some t =>
    if s.since t ≤ 100000 ∨ s.tack.vauxCycled then
      let u := { s with tack.vauxLowAt := none, tack.vauxCycled := false, tack.vauxBack := false
                        tack.excursion := setBit s.tack.excursion 3 false }.set F.PS_STATUS_VAUX_OK [] 1
      if s.mode = .off ∧ s.tack.copy = .none then u.standbyAgain else u
    else { s with tack.vauxBack := true }.set F.PS_STATUS_VAUX_OK [] 1
  | none => if s.vauxOut then { s with tack.excursion := setBit s.tack.excursion 3 false }.set F.PS_STATUS_VAUX_OK [] 1 else s

/-- Restore a valid flash copy into retention memory (R574). -/
def restoreCopy (s : State) : State :=
  let img := s.flashRead s.copyAreaAt 0x560
  let w1 := ofLe (slice img 4 4)
  let n := bits w1 20 16
  let valid := ofLe (slice img 0 4) == 0x52435059 && bits w1 7 0 == 1
    && ofLe (slice img 0x550 4) == crc32c (slice img 0 0x550) && decide (n ≤ 16)
  if valid then
    let t := if bit w1 8 then
        ((s.retWrite 0x1000 (slice img 0x10 256)).set F.TK_LM_HEAD_NEXT [] 1).set F.TK_LM_HEAD_COUNT [] 1
      else s
    let t := (t.retWrite 0x2000 (slice img 0x110 64)).retWrite 0x4000 (slice img 0x150 (64 * n))
    ((t.set F.TK_JRNL_HEAD_HEAD [] n).wr R.TK_JRNL_COUNT [] n).set F.TK_STATUS_RET_RESTORED [] 1
  else s

/-- The Tack Room resets: time and retention memory are lost, TK and PS registers return to their reset values, a valid
flash copy is restored, and the header is written (R91, R93, R119). Log 234 (DESIGN CHOICE). -/
def resetTack (s : State) : State :=
  let t := { s with clock := {}, regs := s.regs.keep fun a => !(decide (0x10000 ≤ a) && decide (a < 0x30000)),
                    latched := [], staged := [], out.ppsOut := false, pace := {},
                    tack := { vauxBack := s.tack.vauxBack, vauxLowAt := s.tack.vauxLowAt, vin := s.tack.vin, smbAddr := s.tack.smbAddr } }
  (t.restoreCopy.headerInit).set F.TK_STATUS_RET_VALID [] 1

/-- VIN has been measured at the lands, in 10 mV units (R99). Log 18 (DESIGN CHOICE). -/
def sampleVin (s : State) (vin : Nat) : State :=
  { s with tack.vin := vin }.set F.PS_VIN_VIN_MIN [] (min (s.get F.PS_VIN_VIN_MIN []) vin)

end State

/-! ## The commands: soft start and protection -/

/-- VIN_QUALIFIED: VIN, `vin` in 10 mV units, has stayed above TK_CMP0_THR.LOW plus 300 mV and below 64 V for 100 ms
(R69). With AUTO_VIN it is a wake in STANDBY (R97). Log 15 (DEDUCED), 17 (DEDUCED). -/
def execVinQualified (vin : Nat) (s : State) : Out :=
  done (fun s =>
    onlyIf (s.mode != .off && decide (s.get F.TK_CMP_THR_LOW [0] + 30 < vin) && decide (vin < 6400)) (fun s =>
      let fresh := !s.isOn F.PS_STATUS_VIN_OK []
      let t := (s.sampleVin vin).set F.PS_STATUS_VIN_OK [] 1
      if fresh && t.isOn F.TK_WAKE_CTRL_AUTO_VIN [] && t.tack.wake.isNone then t.wakeBy 1 else t.tryStart) s) s

/-- VIN_UNQUALIFIED: VIN has left its qualified range (R69). The switch, which a flash copy keeps closed while VIN is qualified,
opens (R78). -/
def execVinUnqualified (vin : Nat) (s : State) : Out :=
  done (fun s =>
    onlyIf (decide (vin ≤ s.get F.TK_CMP_THR_LOW [0] + 30) || decide (6400 ≤ vin)) (fun s =>
      let t := (s.sampleVin vin).set F.PS_STATUS_VIN_OK [] 0
      if t.tack.copy == .none then t else t.set F.PS_STATUS_SS_STATE [] 0) s) s

/-- SOFT_START_DONE: the input capacitance is charged: the rails come up and the device enters LOAD (R69, R92).
Log 239 (DESIGN CHOICE). -/
def execSoftStartDone (s : State) : Out :=
  done (fun s =>
    onlyIf (s.mode == .standby && s.get F.PS_STATUS_SS_STATE [] == 1) (fun s =>
      let t := ((s.set F.PS_STATUS_SS_STATE [] 2).set F.PS_STATUS_RAILS_ON [] 1).set F.TK_WAKE_CTRL_NOW [] 0
      let t := { t with tack.wake := none, tack.ssTries := 0, tack.ssRetryAt := none }
      (t.countBoot.resetDies).enterLoad none) s) s

/-- SOFT_START_TIMEOUT: the charge was not complete within 10 ms: the switch opens, and latches after the third failed
try (R69). -/
def execSoftStartTimeout (s : State) : Out :=
  done (fun s =>
    onlyIf (s.mode == .standby && s.get F.PS_STATUS_SS_STATE [] == 1) (fun s =>
      if s.tack.ssTries = 2 then
        { s with tack.ssTries := 3, tack.switchHeld := true, tack.ssRetryAt := none }.set F.PS_STATUS_SS_STATE [] 3
      else
        { s with tack.ssTries := s.tack.ssTries + 1, tack.ssRetryAt := some (s.clock.tick + 1000000000) }.set
          F.PS_STATUS_SS_STATE [] 0) s) s

/-- SOFT_START_RETRY: 1 s after a failed try the stage tries again (R69). -/
def execSoftStartRetry (s : State) : Out :=
  done (fun s =>
    match s.tack.ssRetryAt with
    | some t => onlyIf (decide (t ≤ s.clock.tick)) (fun s => { s with tack.ssRetryAt := none }.tryStart) s
    | none => s) s

/-- A protective opening sets its latched bit and writes a CLASS 0 entry of the power stage (R71, R541); DETAIL0 is `code`.
Log 237 (DESIGN CHOICE). -/
def State.opening (s : State) (f : Fld) (code : Nat) : State :=
  (s.set f [] 1).journal (s.entryNow 0 0xFF 17 0x000D 0 code)

/-- The hot-swap switch opens: a VIN collapse for R78, and comparator 0 is no longer armed (R71, R75). Log 16 (DEDUCED),
238 (DESIGN CHOICE). -/
def State.switchOpens (s : State) : State :=
  let f := s.takeFree
  let t := if s.get F.PS_STATUS_SS_STATE [] = 2 then f.2.beginEmergency 0 (Config.vbusAverage f.1) else s
  t.set F.PS_STATUS_SS_STATE [] 0

/-- REVERSE_TRIP: the ideal-diode block opens on reverse current above 2 A (R71). Log 16 (DEDUCED). -/
def execReverseTrip (s : State) : Out :=
  done (fun s => onlyIf (s.mode != .off) (fun s => s.opening F.PS_STATUS_REV_TRIP 1) s) s

/-- OVERCURRENT_TRIP: the switch opens on more than 200 A for 1 µs, and stays open (R71). Log 237 (DESIGN CHOICE). -/
def execOvercurrentTrip (s : State) : Out :=
  done (fun s =>
    onlyIf (s.get F.PS_STATUS_SS_STATE [] == 1 || s.get F.PS_STATUS_SS_STATE [] == 2) (fun s =>
      { s.opening F.PS_STATUS_OC_LATCH 0 with tack.switchHeld := true }.switchOpens) s) s

/-- OV_CUT: the switch opens on VIN above 64 V (R71). Log 237 (DESIGN CHOICE). -/
def execOvCut (s : State) : Out :=
  done (fun s =>
    onlyIf (s.get F.PS_STATUS_SS_STATE [] == 1 || s.get F.PS_STATUS_SS_STATE [] == 2) (fun s =>
      (s.opening F.PS_STATUS_OV_CUT 2).switchOpens) s) s

/-- The switch is re-armed in STANDBY by PS_CTRL.RETRY (R71, R99). -/
def State.retrySwitch (s : State) : State :=
  if s.mode == .standby then
    let t := { s with tack.switchHeld := false, tack.ssTries := 0, tack.ssRetryAt := none }
    (if t.get F.PS_STATUS_SS_STATE [] = 3 then t.set F.PS_STATUS_SS_STATE [] 0 else t).tryStart
  else s

/-- SWITCH_RETRY: firmware writes PS_CTRL.RETRY over SMBus (R71, R96). -/
def execSwitchRetry (s : State) : Out := done (fun s => s.retrySwitch) s

/-! ## Comparators -/

/-- What comparator `n` reports of a reading: CMP_A and CMP_B report no more than 3,300 mV (R567). -/
def compReading (n value : Nat) : Nat := if n = 6 ∨ n = 7 then min 3300 value else value

/-- VAUX, falling below its window now, calls for a flash copy: in LOAD, RUN and DRAIN with VIN qualified or with an emergency
DRAIN under way, and in HALT; not where VIN and VAUX fail together before a trip (R81). -/
def State.callsCopy (s : State) : Bool :=
  match s.mode with
  | .load | .run | .drain => s.tack.copy == .none && (s.tack.edrain.isSome || s.isOn F.PS_STATUS_VIN_OK [])
  | .halt => s.tack.copy == .none
  | _ => false

/-- COMPARATOR_TRIP: the quantity of comparator `n` has been at `value` outside its window for the qualify time; `avg` is
the 1 ms average of VBUS in 10 mV units. The trip is recorded and its action begins (R73 to R78). Log 26 (DEDUCED),
239 (DESIGN CHOICE). -/
def execComparatorTrip (n value avg : Nat) (s : State) : Out :=
  done (fun s =>
    onlyIf (decide (n < 8) && s.tackRuns && s.compArmed n && !bit s.tack.excursion n && s.compOutside n (compReading n value) avg)
      (fun s =>
        let high := decide (n = 3) && decide (s.get F.TK_CMP_THR_HIGH [n] < value)
        let action := if high then 1 else s.get F.TK_CMP_CFG_ACTION [n]
        let qual := s.get F.TK_CMP_CFG_QUAL [n] * 100
        let t := { s with tack.excursion := setBit s.tack.excursion n true }
        let t := ((t.set F.TK_CMP_STAT_TRIPPED [n] 1).set F.TK_CMP_STAT_OUTSIDE [n] 1).set F.TK_CMP_STAT_VALUE [n] (compReading n value)
        let t := (t.addSat F.TK_CMP_CNT_ALL [n] 1)
        let t := t.journal (t.entryNow 0 0xFF 18 0x000B 0 n)
        let low := decide (n = 3) && !high
        let copy := t.callsCopy
        let t := if n = 3 then t.set F.PS_STATUS_VAUX_OK [] 0 else t
        let t := if low then
            { t with tack.vauxLowAt := some (t.clock.tick - qual), tack.vauxBack := false, tack.copyCalled := s.tack.copyCalled || copy }
          else t
        let t := t.compAction n action avg
        if low && t.mode == .standby then { t with mode := .off } else t) s) s

/-- COMPARATOR_WINDOW_RETURN: the quantity of comparator `n` has been read inside its window (R73); comparator 3 sees VAUX
return so (R82). Log 26 (DEDUCED). -/
def execComparatorWindowReturn (n value avg : Nat) (s : State) : Out :=
  done (fun s =>
    onlyIf (decide (n < 8) && !s.compOutside n (compReading n value) avg) (fun s =>
      let t := ({ s with tack.excursion := setBit s.tack.excursion n false }.set F.TK_CMP_STAT_OUTSIDE [n] 0).set
        F.TK_CMP_STAT_VALUE [n] (compReading n value)
      if n = 3 then t.vauxReturns else t) s) s

/-! ## Emergency DRAIN -/

/-- EMERGENCY_DRAIN: at t0 + 0.3 µs the Tack Room takes the device into emergency DRAIN: claims end, a pending commit
ends with REASON 7, an orderly DRAIN is taken over, a re-plan and a compaction are abandoned (R76, R78, R113, R123). -/
def execEmergencyDrain (s : State) : Out :=
  done (fun s => s.edrainAt 300 (fun e => !e.entered) (fun e s =>
    let t := s.setEDrain { e with entered := true }
    let t := { t.dropClaims.abandonReplan.abandonRepattern.abandonCompaction.flashAbort with mode := .drain, modes.odrain := none }
    (t.unitModes 4).cancelPending 7)) s

/-- Frames partly received are discarded: heads whose tails are still arriving, in the FIFOs or passed on (R78). -/
def State.dropPartial (s : State) : State :=
  let t := forEach (List.range 64) (fun g u =>
    let l := u.port.fifo.at [] g
    if l.any (·.tail) then u.setFifo g (l.filter fun f => !f.tail) else u) s
  forEach (t.port.ctTail.map fun e => e.2 - 1) State.cutBehind
    { t with port.ctTail := [], port.ctFrame := [], port.ctHead := [], port.ctSeen := [], port.rxBad := [] }

/-- MAC_STOP: at t0 + 1 µs the MACs stop admitting frames, and discard those partly received (R78). -/
def execMacStop (s : State) : Out :=
  done (fun s => s.edrainAt 1000 (fun e => e.entered && !e.macsStopped) (fun e s =>
    (s.setEDrain { e with macsStopped := true }).dropPartial)) s

/-- TALLY_FREEZE: at t0 + 2 µs the Skirt dies freeze their Tally banks and send their totals (R78). -/
def execTallyFreeze (s : State) : Out :=
  done (fun s => s.edrainAt 2000 (fun e => e.macsStopped && !e.frozen) (fun e s =>
    (s.setEDrain { e with frozen := true }).tallyFreezeBanks)) s

/-- TRANSMITTERS_OFF: at t0 + 5 µs every transmitter is off and every port that was up is declared down; the frames in flight
are lost uncounted (R78, R181). -/
def execTransmittersOff (s : State) : Out :=
  done (fun s => s.edrainAt 5000 (fun e => e.frozen && !e.txOff) (fun e s =>
    (s.setEDrain { e with txOff := true }).discardFlight.allPortsDown)) s

/-- DIE_TOTALS_ARRIVE: the octet totals of Skirt die `d` reach the Tree die before the seal (R78, R79). -/
def execDieTotalsArrive (d : Nat) (s : State) : Out :=
  done (fun s => s.edrainAt 2000 (fun e => e.frozen && !e.sealed && s.live d && decide (d < 8) && !e.totals.any (·.1 == d))
    (fun e s =>
      let o := s.tallyDieOctets d
      s.setEDrain { e with totals := e.totals ++ [(d, o.1, o.2)] })) s

/-- The record of an emergency DRAIN at the seal: where VBUS and PCT make it sure, the totals of every live Skirt die are there
(R79). Log 201 (DEDUCED). -/
def State.atSeal (s : State) (e : EDrain) : EDrain :=
  if e.sure then
    let late := s.liveSkirts.filter fun d => !e.totals.any (·.1 == d)
    { e with totals := e.totals ++ late.map fun d => (d, (s.tallyDieOctets d).1, (s.tallyDieOctets d).2) }
  else e

/-- LOSS_MARKER_SEAL: at t0 + 8 µs the loss marker is sealed with the totals that have arrived (R78, R79, R95). -/
def execLossMarkerSeal (s : State) : Out :=
  done (fun s => s.edrainAt 8000 (fun e => e.txOff && !e.sealed) (fun e s =>
    (s.sealMarker (s.atSeal e)).setEDrain { s.atSeal e with sealed := true })) s

/-- JOURNAL_TAIL_WRITE: at t0 + 12 µs, or as HALT ends, the entries held on the Tree die are written (R78, R103). -/
def execJournalTailWrite (s : State) : Out :=
  done (fun s =>
    if s.tack.haltFall then s.flushJournal
    else s.edrainAt 12000 (fun e => e.sealed && !e.tail) (fun e s => s.flushJournal.setEDrain { e with tail := true })) s

/-- The switch opens and the rails go off; where a flash copy is called for the Tree die rail and the flash supply stay up, and
the switch stays closed while VIN is qualified (R78, R81). -/
def State.powerDown (s : State) : State :=
  if s.tack.copyCalled then
    let t := { s.flashAbort with modes.inReset := true, tack.copy := .due }
    if t.isOn F.PS_STATUS_VIN_OK [] then t else t.set F.PS_STATUS_SS_STATE [] 0
  else s.railsGone

/-- RAILS_OFF: at t0 + 15 µs the rails go off (R78, R81). A fall from HALT ends here too (R103). -/
def execRailsOff (s : State) : Out :=
  done (fun s =>
    if s.tack.copy != .none then s
    else if s.tack.haltFall then onlyIf s.flt.jq.isEmpty (fun s => { s with tack.copyMarker := none }.powerDown) s
    else s.edrainAt 15000 (fun e => e.tail) (fun _ s => s.powerDown)) s

/-- FLASH_COPY: the Tack Room has handed over what the copy holds, and the Tree die begins to write it into the retention copy
area (R81, R574). -/
def execFlashCopy (s : State) : Out :=
  done (fun s => onlyIf (s.tack.copy == .due) (fun s => { s with tack.copy := .writing, tack.copyData := s.copyImage }) s) s

/-- FLASH_COPY_DONE: the copy has ended or failed with `n` of its bytes programmed; the last rails go off (R81). -/
def execFlashCopyDone (n : Nat) (s : State) : Out :=
  done (fun s => onlyIf (s.tack.copy == .writing) (fun s =>
    (s.flashProgram s.copyAreaAt (s.tack.copyData.take n)).railsGone) s) s

/-! ## VAUX -/

/-- VAUX_RETURN: VAUX is back in its window without having fallen below 1.0 V (R82). Log 28 (DEDUCED). -/
def execVauxReturn (s : State) : Out := done (fun s => s.vauxReturns) s

/-- VAUX_CYCLE: VAUX has stayed below its window for more than 100 µs: the Tack Room is reset (R82, R119). Where VAUX has come
back in the meantime the device enters STANDBY. Log 28 (DEDUCED). -/
def execVauxCycle (s : State) : Out :=
  doneTimed (fun s =>
    match s.tack.vauxLowAt with
    | some t =>
      if s.mode = .off ∧ s.tack.copy = .none ∧ !s.tack.vauxCycled ∧ (s.tack.vauxBack ∨ 100000 < s.clock.tick - t) then
        let u := { s.resetTack.noteReset 3 0 with tack.vauxCycled := true }
        if s.tack.vauxBack then u.vauxReturns else u
      else s
    | none => s) s

/-- POWER_ON_RESET: VAUX rises from below 1.0 V: everything but the flash and the fuses is reset, and the device is in
STANDBY (R82, R119). `straps` is the value of the SMBus address straps (R565). Log 185 (DESIGN CHOICE). -/
def execPowerOnReset (straps : Nat) (s : State) : Out :=
  doneTimed (fun s =>
    let t : State := { pending := s.pending, variant := s.variant, free := s.free, flash := s.flash, fuse := s.fuse,
                       host := s.host, out := s.out, regs := s.regs.keep fun a => a == R.PB_FUSE_KEYS.base || a == R.PB_FUSE_SECVER.base,
                       tack := { smbAddr := 0x60 + straps % 8 } }
    let t := (t.resetTack.noteReset 1 0).set F.PS_STATUS_VAUX_OK [] 1
    { t with mode := .standby, out.ppsOut := false }) s

/-! ## Wakes -/

/-- WAKE_NOW: TK_WAKE_CTRL.NOW is written 1, over SMBus, or by the driver before STANDBY (R97). -/
def execWakeNow (smbus : Bool) (s : State) : Out :=
  done (fun s =>
    onlyIf (if smbus then s.tackRuns else s.powered) (fun s => (s.set F.TK_WAKE_CTRL_NOW [] 1).wakeBy 2) s) s

/-- TIMED_WAKE: the timed wake falls due: TIMED_EN clears, and in STANDBY the power stage starts (R575). -/
def execTimedWake (s : State) : Out :=
  done (fun s =>
    onlyIf (s.tackRuns && s.isOn F.TK_WAKE_CTRL_TIMED_EN []
        && decide ((s.clock.sec % 2 ^ 32 + 2 ^ 32 - s.get F.TK_WAKE_SEC_ALL []) % 2 ^ 32 < 2 ^ 31))
      (fun s => (s.set F.TK_WAKE_CTRL_TIMED_EN [] 0).wakeBy 4) s) s

end Sys2Proof.Machine
end

