-- ==== Sys2Proof/Machine/Faults.lean ====
section
/-! DEFINITION. Fault reports, their classes and recoveries, unit restarts, isolation of dies and the journal's ring (R541 to
R549). -/

namespace Sys2Proof.Machine

namespace State

/-! ## Classes (R541, R543, R544) -/

/-- Girth dies that are live and not about to be isolated. Log 53 (DEDUCED). -/
def girthsLeft (s : State) : List Nat := s.liveGirths.filter fun g => !s.flt.iso.any fun e => e.1 == 8 + g

/-- The die that a fault which takes a die's service isolates (R544). A strap's report names its ends, the lower first. -/
def isoTarget (s : State) (r : FaultRep) : Nat :=
  if r.unit = 4 then (if r.d1 = 12 then r.d0 else if s.girthsLeft = [r.d1 - 8] then r.d0 else r.d1) else r.die

/-- The fault is fatal (R543). Log 53 (DEDUCED). -/
def fatalRep (s : State) (r : FaultRep) : Bool :=
  let x := s.isoTarget r
  r.unit == 17 || (r.unit == 18 && r.dieWide) || ([19, 20, 22].contains r.unit && (r.cause == 2 || r.cause == 3))
    || (r.dieWide && (x == 12 || (decide (8 ≤ x) && s.girthsLeft == [x - 8])))

/-- The class of a report (R541). Log 53 (DEDUCED). -/
def faultClass (s : State) (r : FaultRep) : Nat :=
  if r.cause = 1 then 1 else if r.cause = 0xA then 3 else if s.fatalRep r then 5 else if r.dieWide then 4 else 2

/-- The entry that a report writes when it is detected (R547). Log 32 (DESIGN CHOICE), 52 (DESIGN CHOICE). -/
def faultEntry (s : State) (r : FaultRep) (cls action : Nat) : JEntry := s.entryNow cls r.die r.unit r.cause action r.d0 r.d1

/-- A recovery begins: its detection entry takes the next SEQ. `us` of the interruption have passed. -/
def beginRecovery (s : State) (r : FaultRep) (cls x action us : Nat) : State :=
  let t := { s with flt.recovering := s.flt.recovering ++ [(x, r.unit, r.cause, action, s.nextSeq, s.clock.tick - us * 1000)] }
  t.journal (s.faultEntry { r with die := x } cls action)

/-! ## Recoveries -/

/-- A corrected fault: at most one summary entry a second for each source (R547). Log 55 (DEDUCED). -/
def correctedFault (s : State) (r : FaultRep) : State :=
  let k := r.die * 2 ^ 24 + r.unit * 2 ^ 16 + r.cause
  let n := s.flt.summary.at 0 k + 1
  let last := s.flt.summaryAt.at 0 k
  let t := s.inc R.FT_CORRECTED []
  if last = 0 ∨ 1000000000 ≤ s.since (last - 1) then
    let t := { t with flt.summary := t.flt.summary.erase k, flt.summaryAt := t.flt.summaryAt.put 0 k (s.clock.tick + 1) }
    t.journal { s.faultEntry r 1 1 with count := n }
  else { t with flt.summary := t.flt.summary.put 0 k n }

/-- The recovery of a contained fault ends by a later command: a reload of an entry, of a microword or of an Awl set. -/
def recoversLater (s : State) (r : FaultRep) : Bool :=
  r.unit == 5 || r.unit == 6 || r.unit == 13 || (r.unit == 11 && s.setState r.d1 == 4)

/-- ACTION of a contained fault (R549). Log 52 (DESIGN CHOICE). -/
def containedAction (s : State) (r : FaultRep) : Nat :=
  if r.unit = 11 then (if s.setState r.d1 = 4 then 10 else 0)
  else if r.unit = 5 ∨ r.unit = 6 ∨ r.unit = 13 then 2
  else if r.cause = 0xE then 3
  else if r.cause = 8 ∨ r.cause = 9 ∨ r.unit = 10 then 4
  else 0

/-- A contained fault (R541, R547): `us` is the interruption of one whose recovery ends here. -/
def containedFault (s : State) (r : FaultRep) (us : Nat) : State :=
  let t := ((s.inc R.FT_CONTAINED []).raise F.FT_EVT_CONTAINED []).beginRecovery r 2 r.die (s.containedAction r) us
  if s.recoversLater r then t else t.recovered r.die r.unit r.cause

/-- A die fault: the die is to be isolated (R544). -/
def dieFault (s : State) (r : FaultRep) : State :=
  let x := s.isoTarget r
  if !s.live x || s.flt.iso.any fun e => e.1 == x then s.journal (s.faultEntry r 4 0)
  else
    let t := s.beginRecovery r 4 x (if x < 8 then 6 else 7) 0
    { t with flt.iso := t.flt.iso ++ [(x, r.unit, r.cause)] }

/-- A fatal fault: its entry is written into retention memory directly, the device enters HALT, and the queued entries
follow it (R103, R543, R547). -/
def fatalFault (s : State) (r : FaultRep) : State :=
  let seq := s.rd R.TK_JRNL_COUNT []
  let t := s.journalWrite (s.faultEntry r 5 8)
  let t := ((t.set F.FT_HALT_CAUSE [] r.cause).wr R.FT_HALT_SEQ [] seq).raise F.FT_EVT_FATAL []
  (t.enterHalt.set F.PB_STATUS_LOADING [] 0).flushJournal

/-- A report reaches the Tree die (R541, R546). Log 54 (DEDUCED). -/
def takeReport (s : State) (r : FaultRep) (us : Nat) : State :=
  let cls := s.faultClass r
  if s.tack.edrain.isSome || s.mode == .halt then s.journal (s.faultEntry r cls 0)
  else match cls with
    | 1 => s.correctedFault r
    | 2 => s.containedFault r us
    | 3 => ((s.inc R.FT_PLANE []).raise F.FT_EVT_PLANE []).journal (s.faultEntry r 3 5)
    | 4 => s.dieFault r
    | _ => s.fatalFault r

/-- The interruption in µs of a fault whose recovery is over when it is reported (R545). -/
def faultUs (s : State) (r : FaultRep) : Nat := if r.cause = 8 then s.get F.LC_CFG_TIMEOUT_US [r.die] else 0

/-- An uncorrectable error in Tally's bank of die `x`: the entry of a tenant is zeroed, in the frozen bank when `frozen` says
so, and the records that lose by it say so (FLAGS.ECC). Log 165 (DEDUCED). -/
def tallyEcc (s : State) (x tenant : Nat) (frozen : Bool) : State :=
  let lo := key2 x (tenant * 32)
  let t := if x = 12 then s.raise F.TL_EVT_ECC [] else (s.inc R.TY_ECC_LOST [x]).raise F.TY_EVT_ECC [x]
  if frozen then
    match t.tally.frozen with
    | [] => t
    | (n, bank) :: r =>
      let less := fun (m : Map Nat) (c : Nat) => m.put 0 (tenant * 32 + c) (m.at 0 (tenant * 32 + c) - bank.at 0 (lo + c))
      let hit := fun (u : TallySet) =>
        if u.kind ≠ 1 ∧ u.bank = n ∧ u.todo.contains tenant then
          { u with flags := u.flags ||| 2 ^ 7, sums := (List.range 32).foldl less u.sums }
        else u
      { t with tally.sets := t.tally.sets.map hit, tally.frozen := (n, bank.dropRange lo (lo + 32)) :: r }
  else { t with tally.live := t.tally.live.dropRange lo (lo + 32), tally.flags := t.tally.flags ||| 2 ^ 7 }

/-- An uncorrectable error in cell `id` of Girth die `g` poisons it (R201). Log 213 (DESIGN CHOICE). -/
def poisonCell (s : State) (g id : Nat) : State :=
  let hit := fun (l : Link) => if l.id = id ∧ l.page.isNone then { l with cell := { l.cell with poison := true } } else l
  { s with fab.queue := s.fab.queue.map fun e => if e.1 / 2 ^ 40 = g then (e.1, e.2.map hit) else e }

/-- Cell `id` of Girth die `g` had an error: whether that makes it one to retire is free, for nothing says how many make
errors repeated (R359). Log 235 (DESIGN CHOICE). -/
def wornCell (s : State) (g id : Nat) : State :=
  let f := s.takeFree
  if Config.cellRetires f.1 then f.2.retireCell g id else f.2

/-- One in the egress buffer poisons the frame at place `i` of queue `c` of port `p`, the frame of the queue that is being sent
counted first (R201); a whole one that its MAC has begun was checked before it, and is counted now (R204). Log 213
(DESIGN CHOICE). -/
def poisonEgress (s : State) (p c i : Nat) : State :=
  let queued := fun (j : Nat) => s.setEq p c ((s.eq p c).zipIdx.map fun e => if e.2 = j then { e.1 with poison := true } else e.1)
  match (s.port.tx.find? p).filter fun x => x.cls == c with
  | none => queued i
  | some x =>
    if i ≠ 0 then queued (i - 1)
    else
      let y := { x with e := { x.e with poison := true }, bad := true }
      let t := { s with port.tx := s.port.tx.insert p y }
      if x.e.ct || x.bad then t else t.brandFail (p / 64) 1 p x.e.m false 0 0 x.e.bytes.length

/-- One in Lacing of die `d` poisons the cell of column `col` of span `ord` of queue `q`; where that cell is not waiting there,
the frames of the queue that Lacing is taking (R201). Log 213 (DESIGN CHOICE). -/
def poisonLacing (s : State) (d q ord col : Nat) : State :=
  let k := key2 d q
  let l := s.fab.lace.at {} k
  let here := fun (x : LSpan) (c : Cell) => x.ord == ord && c.col == col
  if l.spans.any fun x => x.cells.any (here x) then
    let hit := fun (x : LSpan) => { x with cells := x.cells.map fun c => if here x c then { c with poison := true } else c }
    { s with fab.lace := s.fab.lace.put {} k { l with spans := l.spans.map hit } }
  else
    let hit := fun (a : Asm) => { a with cur := a.cur.map fun f => { f with poison := true } }
    { s with fab.asm := s.fab.asm.map fun e => if e.1 / 2 ^ 80 = d * 2 ^ 16 + q then (e.1, hit e.2) else e }

/-! ## What a report's unit has found (R201, R262, R294, R300, R305, R328) -/

/-- A lookup of die `x` has met the error it reports: entry `d0` of the table that `d1` names is bad until it is reloaded (R294,
R328). Log 242 (DESIGN CHOICE). -/
def foundInTable (s : State) (r : FaultRep) : State :=
  match Tbl.all[r.d1]? with
  | some t => if r.die < 8 ∧ scrubbed t ∧ (r.unit == 6) = (t == .os) then s.tabFails r.die t r.d0 else s
  | none => s

/-- Awl has met the error in block `d0`; with 1 in `d1` a SCAN operation met it (R262). Log 242 (DESIGN CHOICE). -/
def foundInSet (s : State) (r : FaultRep) : FaultRep × State :=
  match s.setOfBlock r.d0 with
  | none => (r, s)
  | some a =>
    let t := s.setFault a r.d0
    ({ r with d1 := a }, if r.d1 = 1 then { t with awl.opBad := addOnce a t.awl.opBad } else t)

/-- The flow unit has met the error in context `d0` (R300). Log 242 (DESIGN CHOICE). -/
def foundInFlow (s : State) (r : FaultRep) : State :=
  if (s.flow.ctx.find? r.d0).isSome then
    { s with flow.bad := addOnce r.d0 s.flow.bad, flow.told := addOnce r.d0 s.flow.told }
  else s

/-- What the unit that makes a report of a memory error has done with it. Log 213 (DESIGN CHOICE), 242 (DESIGN CHOICE). -/
def unitFound (s : State) (r : FaultRep) : FaultRep × State :=
  let hard := r.cause == 2 || r.cause == 3
  match r.unit with
  | 3 => (r, if hard && decide (r.die < 8) then s.poisonEgress (64 * r.die + r.d0 % 64) (r.d1 % 8) (r.d1 / 8) else s)
  | 5 | 6 => (r, if hard then s.foundInTable r else s)
  | 7 => (r, if hard && decide (r.die < 8) then s.poisonLacing r.die r.d0 (r.d1 / 4) (r.d1 % 4) else s)
  | 8 =>
    if 8 ≤ r.die ∧ r.die < 12 then
      let s := if hard then s.poisonCell (r.die - 8) r.d0 else s
      (r, if r.cause = 1 ∨ r.cause = 2 then s.wornCell (r.die - 8) r.d0 else s)
    else (r, s)
  | 10 =>
    -- `d1` may tell the wrong bits of the burst
    let cause := match eccOf s.ddr.x8 r.d1 with | 0 => r.cause | 1 => 1 | _ => 2
    let r := { r with cause := cause, d1 := 0 }
    (r, if !s.variant.hasDdr then s else if cause = 1 then s.ceNoted r.d0 else if cause = 2 then (s.ueNoted r.d0).inc R.DM_UE_DROP [] else s)
  | 11 => if hard then s.foundInSet r else (r, s)
  | 12 => (r, if hard then s.foundInFlow r else s)
  | 18 => (r, if r.cause = 2 then s.loseRegion (r.d0 % 0x40000) else s)
  | 21 => (r, if r.cause = 2 then s.tallyEcc r.die (r.d0 % 16384) (r.d1 == 1) else s)
  | _ => (r, s)

/-! ## Restart of a unit (R542) -/

/-- Frames are discarded with the unit that held them, charged as OTHER. Log 57 (DESIGN CHOICE). -/
def loseFrames (s : State) (l : List Meta) : State :=
  forEach l (fun m t => ((t.tallyDrop (m.slice / 4) 2 m).epochOut m).freeHeld m) s

/-- Empty an ingress slice. Log 58 (DESIGN CHOICE). -/
def clearSlice (s : State) (sl : Nat) : State :=
  let w := s.sl
  { s with sl := { w with awlQ := w.awlQ.erase sl, flowQ := w.flowQ.erase sl, recirc := w.recirc.erase sl, reinj := w.reinj.erase sl } }

/-- Lacing of die `d` gives up what it holds. Log 58 (DESIGN CHOICE). -/
def clearLacing (s : State) (d : Nat) : State :=
  let s := ((s.fab.lace.filter fun e => e.1 / 2 ^ 40 == d).flatMap fun e => e.2.spans.flatMap fun x => x.cells).foldl
    (fun t c => t.loseEnds d c) s
  let mine := s.fab.asm.filter fun e => e.1 / 2 ^ 96 == d
  let s := forEach mine (fun e t => match e.2.cur with | some f => t.loseOpen d f | none => t) s
  let shut := fun (e : Nat × Lace) => if e.1 / 2 ^ 40 = d then
      (e.1, { e.2 with spans := [], gone := e.2.gone ++ e.2.spans.map fun x => (x.ord, (x.cells.headD {}).header) }) else e
  { s with fab.lace := s.fab.lace.map shut, fab.asm := s.fab.asm.filter fun e => e.1 / 2 ^ 96 != d }.showSlots d

/-- The unit of die `x` is restarted: what it held is discarded and counted in its counting block. `i` is the slice for
units 2 and 3. Log 58 (DESIGN CHOICE). -/
def restartUnit (s : State) (x unit i : Nat) : State :=
  match unit with
  | 2 =>
    let l := s.sliceFrames (4 * x + i)
    forEach l (fun m t => t.countIng (4 * x + i) 9 1 (some m.tenant)) ((s.loseFrames l).clearSlice (4 * x + i))
  | 3 =>
    let l := s.port.tx.filter fun e => sliceOf e.1 == 4 * x + i
    forEach l (fun e t => ({ t with port.tx := t.port.tx.erase e.1 }).dropEgress e.1 2 R.TX_TRUNCATED e.2.e) s
  | 7 => s.clearLacing x
  | 8 | 9 =>
    let g := x - 8
    -- a column in a deep page is not on the die
    let here := fun (l : Link) => !l.lost && l.page.isNone
    let mine := ((s.fab.queue.filter fun e => e.1 / 2 ^ 40 == g).flatMap (·.2)).filter here
    let lose := fun (e : Nat × List Link) =>
      if e.1 / 2 ^ 40 = g then (e.1, e.2.map fun l => if here l then { l with lost := true, id := 2 ^ 64 } else l) else e
    let t := forEach mine (fun l u => u.dropRef g l.id l.cell) s
    { t with fab.queue := t.fab.queue.map lose }
  | 11 => { (s.loseFrames (s.awl.late.map fun p => p.f.m)) with awl.late := [] }
  | 12 => { (s.loseFrames (s.flow.late.map fun p => p.f.m)) with flow.late := [] }
  | _ => s

/-- A unit that completes no token for 20 µs is restarted, or, when it hangs again within 1 s, its die is faulted. -/
def unitHang (s : State) (x unit i us : Nat) : State :=
  let k := key3 x unit i
  let last := s.flt.restartAt.at 0 k
  if last ≠ 0 ∧ s.since (last - 1) < 1000000000 then
    s.report { die := x, unit := unit, cause := 0xE, dieWide := true, d0 := i }
  else
    let t := { s.restartUnit x unit i with flt.restartAt := s.flt.restartAt.put 0 k (s.clock.tick + 1) }
    t.takeReport { die := x, unit := unit, cause := 0xE, d0 := i } us

/-! ## Isolation (R544) -/

/-- The frames of Skirt die `d` that have begun on the straps and whose last byte has not been sent, each with the header of
a cell of its stream: one whose end stands in an open span that it did not begin in, and one that is still being received.
Log 212 (DEDUCED). -/
def cutOff (s : State) (d : Nat) : List (Cell × Meta) :=
  let tailing := (s.port.ctFrame.filter fun e => e.1 / 64 == d).map fun e => (s.port.ctHead.at {} e.1, e.2.m)
  let ends := s.fab.streams.flatMap fun e => (e.2.done ++ e.2.cur.toList).flatMap fun c =>
    if c.slice / 4 = d then c.ends.map fun m => (c.header, m) else []
  let inOpen := (startsIn (s.fab.streams.flatMap fun e => e.2.done ++ e.2.cur.toList)).map fun f => f.2.id
  (ends ++ tailing).filter fun f => !inOpen.contains f.2.id

/-- A frame cut off by the isolation of its ingress die is discarded wherever a link of it leads: at once where Lacing has
it open, else when Lacing meets its start (R544). Log 212 (DEDUCED). -/
def cutFrom (s : State) (c : Cell) (m : Meta) : State :=
  let base := if c.dies ≠ 0 then (setPositions c.dies 8).map fun x => (x, 1) else [(c.port / 64, if c.deep then 3 else 0)]
  let copies := ((linksOf c).filter (·.2 == 2)).map fun l => (qDie l.1, 2)
  (base ++ copies).foldl (fun t l =>
    let open_ := (t.fab.asm.filter fun e => e.2.cur.any fun f => e.1 / 2 ^ 96 == l.1 && f.hdr.link == l.2 && f.st.m.id == m.id).head?
    match open_ with
    | some (k, a) =>
      match a.cur with
      | some f =>
        let u := t.loseOpen l.1 f
        { u with fab.asm := u.fab.asm.put {} k { a with cur := none }, fab.dead := removeOne (deadId l.1 f.hdr m) u.fab.dead }
      | none => t
    | none => { t with fab.cut := t.fab.cut ++ [(4 * l.1 + l.2, m.id)] }) (s.freeHeld m)

/-- The ingress side of Skirt die `d` is gone: FIFOs, slices, open spans, punts on their way. Log 212 (DEDUCED). -/
def dropIngress (s : State) (d : Nat) : State :=
  let s := forEach ((List.range 8).map (8 * d + ·)) (fun g t =>
    (forEach (t.port.fifo.at [] g) (fun f u => u.freeHeld f.m) t).setFifo g []) s
  let s := forEach ((List.range 4).map (4 * d + ·)) (fun sl t =>
    ((forEach (t.sliceFrames sl) (fun m u => (u.epochOut m).freeHeld m) t).clearSlice sl)) s
  let s := forEach (s.sl.punts.filter fun p => p.die == d) (fun p t => t.epochOut p.f.m) s
  let cells := fun (e : Nat × Stream) => e.2.done ++ e.2.cur.toList
  let mine := fun (e : Nat × Stream) => e.1 / 2 ^ 40 % 2 ^ 24 / 4 == d
  let lost := startsIn ((s.fab.streams.filter mine).flatMap cells)
    ++ (s.fab.streams.filter mine).flatMap fun e => e.2.behind.map fun b => (b.1, b.2.2.m)
  let s := forEach (s.cutOff d) (fun f t => t.cutFrom f.1 f.2) s
  let s := forEach lost (fun f t => (t.frameGone f.2).freeHeld f.2) s
  let here := fun (p : Nat) => p / 64 == d
  { s with
    sl.punts := s.sl.punts.filter fun p => p.die != d
    fab.streams := s.fab.streams.filter fun e => !mine e
    port.ctTail := s.port.ctTail.keep fun p => !here p, port.ctFrame := s.port.ctFrame.keep fun p => !here p
    port.ctHead := s.port.ctHead.keep fun p => !here p
    port.ctSeen := s.port.ctSeen.keep fun p => !here p, port.rxBad := s.port.rxBad.keep fun p => !here p }

/-- The egress side of Skirt die `d` is gone: Lacing, receive queues, copies, and its multicast queues on Girth dies. -/
def dropEgressSide (s : State) (d : Nat) : State :=
  let mine := fun (e : Nat × List Cell) => e.1 / 2 ^ 64 == d
  let s := ((s.fab.recv.filter mine).flatMap (·.2)).foldl (fun t c => t.loseEnds d c) s
  let s := { s with fab.recv := s.fab.recv.filter fun e => !mine e }.clearLacing d
  let s := { s with fab.lace := s.fab.lace.filter (fun e => e.1 / 2 ^ 40 != d), fab.mc := s.fab.mc.filter fun e => e.1 / 2 ^ 40 != d }
  forEach s.liveGirths (fun g t => forEach ((List.range 8).map (mcqId d)) (fun q u =>
    forEach (u.gq g q) (fun l v => (v.loseEnds d { l.cell with link := l.kind }).unlink g l) (u.setGq g q [])) t) s

/-- A commit goes on without the dies that are no longer live (R109, R111). -/
def commitWithout (s : State) : State :=
  let full := fun (m : Nat) => decide (s.liveMask &&& m = s.liveMask)
  let hid := s.modes.hidden.map fun c => if c.state = 1 ∧ full c.prep then { c with state := 2 } else c
  let s := { s with modes.hidden := hid }
  match s.modes.commit with
  | some c =>
    if c.reached then (if full c.applied then s.commitDone else s)
    else if c.state = 1 ∧ full c.prep then { s with modes.commit := some { c with state := 2 } }.showCommit { c with state := 2 }
    else s
  | none => s

/-- The bits that show a die isolated. Log 57 (DESIGN CHOICE). -/
def markIsolated (x : Nat) (s : State) : State :=
  (s.set F.FT_DIE_STAT_ISOLATED [] (setBit (s.get F.FT_DIE_STAT_ISOLATED []) x true)).set F.MD_UNIT_MODE_ISOLATED [x] 1

/-- The columns of deep queues that are bound for an isolated egress die go (R116, R544). -/
def purgeDeep (s : State) : State :=
  forEach s.fab.queue (fun e t =>
    let q := e.1 % 2 ^ 40
    if 0x4000 ≤ q ∧ t.live (8 + e.1 / 2 ^ 40) then t.purgeDead (e.1 / 2 ^ 40) q else t) s

/-- Die `x` is isolated. Log 57 (DESIGN CHOICE). -/
def isolate (s : State) (x unit cause : Nat) : State :=
  let t := if x < 8 then ((s.diePortsDown x).dropIngress x).dropEgressSide x else s
  let t := (((markIsolated x t).inc R.FT_DIE []).raise F.FT_EVT_DIE []).purgeDeep
  let t := if t.pace.replan.any fun r => r.die == x then t.abandonReplan else t
  let t := dropClaimsOf x { t with osp.moves := t.osp.moves.erase x }
  let t := t.trimLog.finishSeq.commitWithout
  if x < 8 || !t.forwarding then t.recovered x unit cause else t

end State

/-! ## The commands -/

/-- The counting block whose memories a report speaks of (R528, R530): of unit 2 `d0` names the slice, of unit 3 the port, of
unit 4 `d0` and `d1` the strap's ends, of unit 10 the offset and of unit 13 the engine. Log 232 (DEDUCED). -/
def State.eccBlock (s : State) (r : FaultRep) : Option Nat :=
  let x := r.die
  if x < 8 then match r.unit with
    | 2 => some (16 * x + r.d0 % 4)
    | 3 => some (16 * x + 4 + State.sliceOf (64 * x + r.d0 % 64) % 4)
    | 4 => if 8 ≤ r.d1 ∧ r.d1 < 12 then some (s.strapBlock x (r.d1 - 8) 0) else some (16 * x + 12)
    | 5 | 6 => some (16 * x + 13)
    | 7 => some (16 * x + 15)
    | _ => none
  else if x < 12 then match r.unit with
    | 4 => if r.d0 < 8 then some (s.girthBlock (x - 8) r.d0) else some (128 + 8 * (x - 8) + 4)
    | 8 => some (128 + 8 * (x - 8) + 5)
    | 9 => some (128 + 8 * (x - 8) + 6)
    | _ => none
  else match r.unit with
    | 10 => some (160 + s.ddrChannel r.d0)
    | 11 => some 172 | 12 => some 173 | 14 => some 168 | 15 => some 169 | 21 => some 175 | 22 => some 174
    | 13 => some (170 + r.d0 / 16 % 2)
    | _ => none

/-- A memory error that a unit reports is counted in its block: corrected, or uncorrectable (R530). Log 232 (DEDUCED). -/
def State.countEcc (s : State) (r : FaultRep) : State :=
  match s.eccBlock r, r.cause with
  | some b, 1 => s.count b 2 1
  | some b, 2 => s.count b 3 1
  | some b, 3 => s.count b 3 1
  | _, _ => s

/-- FAULT_REPORT: the oldest report on its way reaches the Tree die, or `ext` gives one that its unit makes now (R541). An
uncorrectable error of Tally names the tenant in `d0`, and the frozen bank by 1 in `d1`; one of retention memory names the
offset in `d0` (R93), and its error is journalled with the dies' rails off too. Log 54 (DEDUCED), 165 (DEDUCED), 213
(DESIGN CHOICE), 242 (DESIGN CHOICE). -/
def execFaultReport (ext : Bool) (die unit cause : Nat) (wide : Bool) (d0 d1 : Nat) (s : State) : Out :=
  done (fun s =>
    let r : FaultRep := { die := die, unit := unit, cause := cause, dieWide := wide, d0 := d0, d1 := d1 }
    if s.powered then
      if ext then
        onlyIf (s.live die && decide (cause < 0x10000) && decide (unit < 256)) (fun s =>
          let x := s.unitFound r
          (x.2.countEcc x.1).takeReport x.1 (x.2.faultUs x.1)) s
      else match s.flt.reports with
        | r :: l => { s with flt.reports := l }.takeReport r (s.faultUs r)
        | [] => s
    else onlyIf (ext && s.tackRuns && die == 12 && unit == 18 && cause == 2) (fun s =>
      (s.loseRegion (d0 % 0x40000)).journal (s.faultEntry r 2 0)) s) s

/-- UNIT_HANG: unit `unit` of die `x` has held work and completed no token for 20 µs; its restart ends `us` µs after it hung
(R542). -/
def execUnitHang (x unit i us : Nat) (s : State) : Out :=
  done (fun s => onlyIf (s.powered && s.live x && decide (20 ≤ us) && decide (us ≤ 40)) (fun s => s.unitHang x unit i us) s) s

/-- DIE_ISOLATE: the oldest die that is to be isolated is (R544). -/
def execDieIsolate (s : State) : Out :=
  done (fun s =>
    match s.flt.iso with
    | (x, unit, cause) :: l => onlyIf (s.powered && s.live x) (fun s => { s with flt.iso := l }.isolate x unit cause) s
    | [] => s) s

/-- JOURNAL_WRITE: the oldest entry queued on the Tree die is written into the ring (R94, R547). Log 30 (DEDUCED). -/
def execJournalWrite (s : State) : Out :=
  done (fun s =>
    match s.flt.jq with
    | e :: l => { s with flt.jq := l }.journalWrite e
    | [] => s) s

end Sys2Proof.Machine
end

