-- ==== Sys2Proof/Machine/Sha.lean ====
section
/-! DEFINITION. SHA-384 (FIPS 180-4) and ECDSA verification over P-384 (FIPS 186-5), which R135 names. -/

namespace Sys2Proof.Machine

/-! ## SHA-384 -/

/-- The largest `r` whose power `e` does not pass `x`, found bit by bit from bit `b - 1` down. -/
def rootBits (e x : Nat) : Nat → Nat → Nat
  | 0, r => r
  | b + 1, r => rootBits e x b (if (r + 2 ^ b) ^ e ≤ x then r + 2 ^ b else r)

/-- The first 64 bits of the fraction of the `e`-th root of `p`: how FIPS 180-4 defines both of its tables. -/
def rootFraction (e p : Nat) : Nat := rootBits e (p * 2 ^ (64 * e)) 68 0 % 2 ^ 64

/-- The first eighty primes. -/
def shaPrimes : List Nat :=
  (List.range 410).filter fun n => 2 ≤ n && (List.range 21).all fun k => k < 2 || n ≤ k || n % k != 0

/-- The round constants: the cube roots of the first eighty primes. -/
def shaK : List Nat := shaPrimes.map (rootFraction 3)

/-- The initial hash value of SHA-384: the square roots of the ninth to the sixteenth prime. -/
def shaH0 : List Nat := ((shaPrimes.drop 8).take 8).map (rootFraction 2)

/-- The exclusive or of a 64-bit word rotated right by each of the amounts. -/
def rotXor (amounts : List Nat) (x : Nat) : Nat :=
  amounts.foldl (fun t n => t ^^^ ((x * (2 ^ 64 + 1)) >>> n) % 2 ^ 64) 0

/-- The word that follows sixteen or more words of the message schedule, which stand latest first. -/
def shaNext (sched : List Nat) : Nat :=
  let back := fun n => sched.getD (n - 1) 0
  (back 16 + (rotXor [1, 8] (back 15) ^^^ back 15 / 2 ^ 7) + back 7 + (rotXor [19, 61] (back 2) ^^^ back 2 / 2 ^ 6)) % 2 ^ 64

/-- One round: the eight working words move on by one place, a new first and a new fifth come in. -/
def shaRound (v : List Nat) (kw : Nat × Nat) : List Nat :=
  let x := fun n => v.getD n 0
  let choice := x 6 ^^^ (x 4 &&& (x 5 ^^^ x 6))
  let majority := (x 0 &&& x 1) ||| (x 2 &&& (x 0 ||| x 1))
  let inner := x 7 + rotXor [14, 18, 41] (x 4) + choice + kw.1 + kw.2
  (inner + rotXor [28, 34, 39] (x 0) + majority) % 2 ^ 64 :: v.take 3 ++ (x 3 + inner) % 2 ^ 64 :: (v.drop 4).take 3

/-- One block of 16 words into the hash. -/
def shaBlock (h : List Nat) (block : List Nat) : List Nat :=
  let sched := (List.range 64).foldl (fun w _ => shaNext w :: w) block.reverse
  ((shaK.zip sched.reverse).foldl shaRound h).zipWith (fun new old => (new + old) % 2 ^ 64) h

/-- Big-endian 64-bit words of bytes, `n` of them. -/
def beWords : Nat → List Byte → List Nat
  | 0, _ => []
  | n + 1, bs => ofBe (bs.take 8) :: beWords n (bs.drop 8)

/-- `n` blocks of 128 bytes into the hash. -/
def shaBlocks : Nat → List Nat → List Byte → List Nat
  | 0, h, _ => h
  | n + 1, h, bs => shaBlocks n (shaBlock h (beWords 16 (bs.take 128))) (bs.drop 128)

/-- SHA-384, as a 384-bit number, most significant byte first. Log 190 (PRESUMED). -/
def sha384 (m : List Byte) : Nat :=
  let pad := (111 + 128 - m.length % 128) % 128
  let full := m ++ (0x80 : Byte) :: List.replicate pad 0 ++ beBytes (8 * m.length) 16
  ((shaBlocks (full.length / 128) shaH0 full).take 6).foldl (fun a b => a * 2 ^ 64 + b) 0

/-! ## ECDSA over P-384 -/

/-- The field prime, the order, the coefficient b and the base point of P-384. -/
def p384p : Nat := 2 ^ 384 - 2 ^ 128 - 2 ^ 96 + 2 ^ 32 - 1
def p384n : Nat := 0xffffffffffffffffffffffffffffffffffffffffffffffffc7634d81f4372ddf581a0db248b0a77aecec196accc52973
def p384b : Nat := 0xb3312fa7e23ee7e4988e056be3f82d19181d9c6efe8141120314088f5013875ac656398d8a2ed19d2a85c8edd3ec2aef
def p384x : Nat := 0xaa87ca22be8b05378eb1c71ef320ad746e1d3b628ba79b9859f741e082542a385502f25dbf55296c3a545e3872760ab7
def p384y : Nat := 0x3617de4a96262c6f5d9e98bf9292dc29f8f41dbd289a147ce9da3113b5f0b8c00a60b1ce1d7e819d7a431d7c90ea0e5f

/-- Modular power by the bits of the exponent, `n` of them. -/
def powMod (m b e : Nat) : Nat → Nat
  | 0 => 1 % m
  | n + 1 =>
    let h := powMod m (b * b % m) (e / 2) n
    if e % 2 = 1 then h * b % m else h

/-- The inverse modulo a prime. -/
def invMod (m a : Nat) : Nat := powMod m (a % m) (m - 2) 384

/-- Addition on the curve; `none` is the point at infinity. -/
def ecAdd (P Q : Option (Nat × Nat)) : Option (Nat × Nat) :=
  match P, Q with
  | none, q => q
  | p, none => p
  | some (x1, y1), some (x2, y2) =>
    let p := p384p
    if x1 = x2 ∧ (y1 + y2) % p = 0 then none
    else
      let l := if x1 = x2 then (3 * x1 * x1 + (p - 3)) % p * invMod p (2 * y1) % p
        else (y2 + (p - y1)) % p * invMod p (x2 + (p - x1)) % p
      let x3 := (l * l + (p - x1) + (p - x2)) % p
      some (x3, (l * (x1 + (p - x3)) + (p - y1)) % p)

/-- A multiple of a point, by the bits of the factor, `n` of them. -/
def ecMul (k : Nat) (P : Option (Nat × Nat)) : Nat → Option (Nat × Nat)
  | 0 => none
  | n + 1 =>
    let h := ecMul (k / 2) (ecAdd P P) n
    if k % 2 = 1 then ecAdd h P else h

/-- ECDSA verification of a 384-bit digest (R135). Log 190 (PRESUMED). -/
def ecdsaVerify (qx qy r s digest : Nat) : Bool :=
  let p := p384p
  let n := p384n
  let onCurve := decide (qx < p) && decide (qy < p) && decide (qy * qy % p = (qx * qx * qx + (p - 3) * qx + p384b) % p)
  if onCurve && decide (0 < r) && decide (r < n) && decide (0 < s) && decide (s < n) then
    let w := invMod n s
    match ecAdd (ecMul (digest * w % n) (some (p384x, p384y)) 384) (ecMul (r * w % n) (some (qx, qy)) 384) with
    | some (x, _) => x % n == r
    | none => false
  else false

end Sys2Proof.Machine
end

