-- ==== Sys2Proof/Machine/Loader.lean ====
section
/-! DEFINITION. The loader up to the second pass: slot choice, the checks of the container, authentication and failed
attempts (R130 to R137, R151 to R154). -/

namespace Sys2Proof.Machine

/-- The phase in which sections of a type are applied; 0 for an unknown type (R136). -/
def sectionPhase (typ : Nat) : Nat :=
  if typ = 0x0001 ∨ typ = 0x0002 then 1
  else if typ = 0x0003 then 2
  else if 0x0010 ≤ typ ∧ typ ≤ 0x0012 then 3
  else if 0x0020 ≤ typ ∧ typ ≤ 0x0022 then 4
  else if 0x0030 ≤ typ ∧ typ ≤ 0x0034 then 5
  else if typ = 0x0040 ∨ typ = 0x0041 then 6
  else if (0x0042 ≤ typ ∧ typ ≤ 0x0044) ∨ typ = 0x0050 then 7
  else if typ = 0x0060 ∨ typ = 0x0061 ∨ typ = 0x0070 then 8
  else 0

namespace State

/-- Slot A or B passes the test of R131 rule 3. -/
def slotUsable (s : State) (slot : Nat) : Bool := s.slotValid slot && decide (s.attempts slot < 3)

/-- The preferred slot (R131). Log 204 (DEDUCED). -/
def preferredSlot (s : State) : Nat :=
  match s.load.want with
  | some w => w
  | none =>
    let d := (s.slotSeq 1 + 2 ^ 32 - s.slotSeq 0) % 2 ^ 32
    if s.slotValid 1 && (!s.slotValid 0 || (decide (1 ≤ d) && decide (d < 2 ^ 31))) then 1 else 0

/-- An attempt's container: where it lies. -/
def containerAt (s : State) : Nat := s.slotAt s.load.slot

/-- Entry `i` of the section table (R134). -/
def sectionEntry (s : State) (base i : Nat) : SecEntry :=
  let a := base + 0x100 + 32 * i
  let w0 := s.flashGet a 4
  let w1 := s.flashGet (a + 4) 4
  { typ := bits w0 15 0, required := bit w0 16, die := bits w1 7 0, inst := bits w1 15 8, off := s.flashGet (a + 8) 4,
    len := s.flashGet (a + 0xC) 4, crc := s.flashGet (a + 0x10) 4 }

/-- The table entries of the container at `base`. -/
def sectionTable (s : State) (base : Nat) : List SecEntry :=
  (List.range (s.flashGet (base + 0xC) 2)).map (s.sectionEntry base)

/-- Two payloads share a byte. -/
def overlaps (a b : SecEntry) : Bool :=
  decide (0 < a.len) && decide (0 < b.len) && decide (a.off < b.off + b.len) && decide (b.off < a.off + a.len)

/-- No payload of the list overlaps a later one. -/
def disjoint : List SecEntry → Bool
  | [] => true
  | e :: r => r.all (fun q => !overlaps e q) && disjoint r

/-- The checks of step 2 (R133, R134, R151, R154): 0 when the header and table are good, or the failure code.
Log 219 (DESIGN CHOICE). -/
def headerFail (s : State) : Nat :=
  let b := s.containerAt
  let len := s.flashGet (b + 0x10) 4
  let n := s.flashGet (b + 0xC) 2
  if s.flashGet b 4 ≠ 0x4F565042 ∨ s.flashGet (b + 4) 2 ≠ 1 ∨ s.flashGet (b + 6) 2 ≠ 0x100
      ∨ s.flashGet (b + 0xFC) 4 ≠ crc32c (s.flashRead b 0xFC) ∨ n = 0 ∨ 4000 < n
      ∨ 64 < s.flashGet (b + 0x14) 4 then 2
  else if s.flashGet (b + 8) 2 ≠ 0x9840 then 3
  else if len ≠ s.flashGet (blockAt s.load.slot + 0xC) 4 ∨ len < 0x200 + 32 * n then 4
  else if (List.range n).any fun i =>
      s.flashGet (b + 0x100 + 32 * i + 0x1C) 4 != crc32c (s.flashRead (b + 0x100 + 32 * i) 0x1C) then 2
  else
    let t := s.sectionTable b
    if t.all (fun e => decide (e.off % 64 = 0) && decide (0x100 + 32 * n ≤ e.off) && decide (e.off + e.len ≤ len - 256)) && disjoint t
    then 0 else 4

/-- The checks of step 3 (R135, R151, R153): 0, or the failure code. Log 40 (DEDUCED). -/
def authFail (s : State) : Nat :=
  let b := s.containerAt
  let len := s.flashGet (b + 0x10) 4
  let body := s.flashRead b (len - 256)
  let digest := sha384 body
  let sig := b + len - 256
  let be (o n : Nat) : Nat := ofBe (s.flashRead (sig + o) n)
  let w28 := s.flashGet (b + 0x28) 4
  let key := bits w28 1 0
  let anyKey := s.get F.PB_FUSE_KEYS_PROGRAMMED [] != 0
  if digest ≠ ofBe (s.flashRead (blockAt s.load.slot + 0x10) 48) then 8
  else if !bit w28 8 && anyKey then 14
  else if bit w28 8 && (!bit (s.get F.PB_FUSE_KEYS_PROGRAMMED []) key || s.fuse.hash.at 0 key != sha384 (s.flashRead sig 96)) then 5
  else if bit w28 8 && bit (s.get F.PB_FUSE_KEYS_REVOKED []) key then 6
  else if bit w28 8 && !ecdsaVerify (be 0 48) (be 0x30 48) (be 0x60 48) (be 0x90 48) digest then 5
  else if s.flashGet (b + 0x14) 4 < s.get F.PB_FUSE_SECVER_MIN [] then 7
  else if (s.sectionTable b).any fun e => e.crc != crc32c (s.flashRead (b + e.off) e.len) then 9
  else 0

/-- The sections in the order of R136: by phase, and within a phase in table order; unknown types are judged first. -/
def applyOrder (l : List SecEntry) : List SecEntry :=
  (List.range 9).flatMap fun p => l.filter fun e => sectionPhase e.typ == p

/-- The loader gives up: the device enters HALT, with an entry of CLASS 0 and ACTION 8 (R131, R541). -/
def giveUp (s : State) (code : Nat) : State :=
  let t := s.set F.PB_STATUS_FAIL [] code
  let t := t.journal (t.entryNow 0 0xFF 19 0x000C 8 code)
  ((t.flushJournal).enterHalt).set F.PB_STATUS_LOADING [] 0

/-- The attempt has failed with a code (R132, R154). Log 32 (DESIGN CHOICE). -/
def attemptFailed (s : State) (code : Nat) : State := { s with load := { s.load with phase := .failed, fail := code } }

/-- Before an attempt the units stand at their reset configuration (R122, R137). Log 61 (DEDUCED). -/
def resetConfig (s : State) : State :=
  let t := s.resetDies
  { t with load := s.load, flt := s.flt, ev := s.ev,
           -- of the MD, PB, EV and FT registers only these two are an image's to set (R139)
           regs := (s.regs.keep fun a => a != R.MD_RESID.base && a != R.MD_PREP_GUARD.base
             && (decide (0x30000 ≤ a) && decide (a < 0x50000) || decide (0x80000 ≤ a) && decide (a < 0xA0000))).foldl
             (fun m e => m.insert e.1 e.2) t.regs }

/-- A failed attempt ends: its code, its journal entry and what the slot's count becomes (R132, R154). -/
def endFailed (s : State) (code : Nat) : State :=
  let t := s.set F.PB_STATUS_FAIL [] code
  let t := t.journal (t.entryNow 0 0xFF 19 0x000C 0 code)
  let t := if code = 9 ∨ code = 12 ∨ code = 13 ∨ code = 15 then t else t.setAttempts t.load.slot 3
  { t with load := { t.load with phase := .idle, want := none, ended := t.load.ended ++ [(t.load.slot, code)] } }

end State

/-! ## The commands -/

/-- LOAD_VERIFIED: the first pass over the whole container ends: digest, authentication, security version and payload
CRCs (R135, R151 step 3, R153). A flash copy that has been restored, or that went stale, is erased (R81, R82, R151).
Log 31 (DEDUCED). -/
def execLoadVerified (s : State) : Out :=
  done (fun s =>
    onlyIf (s.mode == .load && s.load.phase == .checked) (fun s =>
      match s.authFail with
      | 0 =>
        let b := s.containerAt
        let t := s.flashErase s.copyAreaAt
        let t := t.set F.PB_STATUS_UNSIGNED [] (b2n (!bit (s.flashGet (b + 0x28) 4) 8))
        { t with load := { t.load with phase := .verified, todo := State.applyOrder (s.sectionTable b),
                                       imageId := s.flashGet (b + 0x18) 8, seq := s.slotSeq s.load.slot,
                                       secTick := s.clock.tick } }
      | c => s.attemptFailed c) s) s

/-- LOAD_FAIL: a failed attempt ends and the next may begin, or, with `flashError`, a flash error fails the attempt under
way with code 13 (R132, R154). -/
def execLoadFail (flashError : Bool) (s : State) : Out :=
  done (fun s =>
    onlyIf (s.powered && s.mode == .load) (fun s =>
      match s.load.phase with
      | .idle => s
      | .failed => s.endFailed s.load.fail
      | _ => if flashError then s.endFailed 13 else s) s) s

/-- LOAD_TIMEOUT: the attempt has not reached RUN within 30 s: it fails with code 15 (R152). -/
def execLoadTimeout (s : State) : Out :=
  done (fun s =>
    onlyIf (s.powered && s.mode == .load && s.load.phase != .idle && decide (30000000000 ≤ s.since s.load.startTick)) (fun s =>
      s.endFailed 15) s) s

end Sys2Proof.Machine
end

