-- ==== Sys2Proof/Machine/OsHooks.lean ====
section
/-! DEFINITION. The ends of compactions and of the waits of ordered-store operations (R322 to R325). -/

namespace Sys2Proof.Machine

namespace State

/-- The operation that waited is answered: to its SQ entry or to its thread. -/
def osAnswer (s : State) (w : Who) (st r0 : Nat) : State :=
  match w with
  | .entry q i =>
    match s.rc.jobs.find? fun j => j.q == q && j.idx == i with
    | some j => if st = 0 then s.jobAns j (.seq r0) else s.finishJob j st 0 0
    | none => s
  | .thread e t => { s with st.tops := s.st.tops.insert (8 * e + t) (st, r0, if st = 0 then s.ts.issued else 0) }
  | _ => s

/-- The operations that wait go on, in order, as far as they can (R319, R324). Log 156 (DEDUCED). -/
def osRetry : Nat → State → State
  | 0, s => s.showHeld
  | f + 1, s =>
    match s.osp.waiting with
    | [] => s.showHeld
    | w :: r =>
      match s.osDo w.kind w.id w.val with
      | none => s.showHeld
      | some (st, r0, t) => osRetry f ({ t with osp.waiting := r }.osAnswer w.ref st r0)

/-- Let every waiting operation try. -/
def osRelease (s : State) : State := osRetry s.osp.waiting.length s

/-- A compaction has completed on every live die: the Tree die's copy takes the layout (R323). -/
def compactionDone (s : State) : State :=
  let t := forEach (s.osp.moves.at [] 12) (fun m u => u.osMoveOn 12 m.1 m.2) s
  let t := { t with osp.busy := false, osp.moves := [] }
  let fin := fun (d : Nat) (u : State) =>
    let u := ((u.releaseClaim 4 d).set F.OS_STAT_COMPACTING [d] 0).set F.OS_CTRL_COMPACT [d] 0
    (u.raise F.OS_EVT_COMPACT_DONE [d]).inc R.OS_COMPACTIONS [d]
  (forEach t.liveSkirts fin t).osRelease

end State

/-- COMPACTION_DONE: every live die has finished its list (R323). -/
def execCompactionDone (s : State) : Out :=
  done (fun s => onlyIf (s.osp.busy && s.liveSkirts.all fun d => (s.osp.moves.at [] d).isEmpty) (fun s => s.compactionDone) s) s

/-- COMPACTION_STOP: outside RUN, or with CLAIMS_EN 0, a compaction stops at its safe point (R325). -/
def execCompactionStop (s : State) : Out :=
  done (fun s => onlyIf (s.osp.busy && (s.mode != .run || !s.isOn F.PT_CTRL_CLAIMS_EN [])) (fun s => (s.osStop true).osRelease) s) s

/-- OS_WRITE_WAIT_TIMEOUT: the oldest operation that waits has waited 50 ms: it completes NO_HOLE and has no effect (R324).
Log 156 (DEDUCED). -/
def execOsWriteWaitTimeout (s : State) : Out :=
  done (fun s =>
    match s.osp.waiting with
    | w :: r =>
      onlyIf (decide (50000000 ≤ s.since w.at_)) (fun s =>
        let t := { s with osp.waiting := r }.osAnswer w.ref 0x12 0
        if t.osp.busy then t.showHeld else t.osRelease) s
    | [] => s) s

end Sys2Proof.Machine
end

