-- ==== Sys2Proof/Machine/Timekeeper.lean ====
section
/-! DEFINITION. The timekeeper and PPS (R83 to R91). -/

namespace Sys2Proof.Machine

namespace State

/-- Set the addend, held within 500 ppm of 0x28_0000_0000 (R83). Log 23 (DEDUCED). -/
def setAddend (s : State) (v : Nat) : State :=
  let a := clamp (171798691840 - 85899345) (171798691840 + 85899345) v
  (s.set F.TK_ADDEND_LO_ALL [] (a % 2 ^ 32)).set F.TK_ADDEND_HI_ADDEND [] (a / 2 ^ 32)

/-- What remains of the slew, in signed nanoseconds (R85). Log 22 (DEDUCED). -/
def slewLeft (s : State) : Int := signed 32 (s.get F.TK_SLEW_ALL [])

/-- Replace the slew in progress. -/
def setSlew (s : State) (v : Int) : State :=
  { s.set F.TK_SLEW_ALL [] (unsigned 32 v) with tack.slewAt := s.clock.tick }

/-- The timekeeper disciplines itself on PPS_IN (R87, R89). Log 20 (DEDUCED). -/
def disciplined (s : State) : Bool := s.get F.TK_PPS_CTRL_MODE [] == 2

/-- A host adjustment that is refused (R85, R89). Log 24 (DEDUCED). -/
def refuseAdj (s : State) : State := s.raise F.TK_EVT_ADJ_REFUSED []

/-- TAI is stepped by a signed count of nanoseconds: what is timed by TAI follows (R85, R86, R87). Log 27 (DEDUCED). -/
def adjustTai (s : State) (d : Int) : State := ({ s with clock := s.clock.shift d }.tallyStep s.clock.tai).markStepped

/-- A write of TK_STEP_NS: with APPLY, the step is added to TAI; the first applied step sets TIME_VALID (R85, R89, R91).
Log 27 (DEDUCED). -/
def stepTime (s : State) (value : Nat) : State :=
  let ns := bits value 29 0
  let t := s.set F.TK_STEP_NS_NS [] ns
  if bit value 31 then
    if 1000000000 ≤ ns then t.refuseAdj
    else
      let sec := signed 48 (s.get F.TK_STEP_SEC_LO_ALL [] + s.get F.TK_STEP_SEC_HI_SEC [] * 2 ^ 32)
      let t := (t.set F.TK_STATUS_TIME_VALID [] 1).adjustTai (sec * 1000000000 + ns)
      if t.disciplined then { t.set F.TK_STATUS_PPS_LOCKED [] 0 with tack.ppsCount := 0 } else t
  else t

/-- A write of TK_SLEW (R85, R89). -/
def writeSlew (s : State) (value : Nat) : State :=
  if s.disciplined then s.refuseAdj else s.setSlew (signed 32 value)

/-- A write of TK_ADDEND (R83, R85, R89). Log 23 (DEDUCED). -/
def writeAddend (s : State) (value : Nat) : State :=
  if s.disciplined then s.refuseAdj else s.setAddend (value % 2 ^ 40)

/-- An edge of PPS_IN is accepted (R88). -/
def ppsAccepts (s : State) : Bool :=
  let near (t : Nat) : Bool := decide (999000000 ≤ s.since t) && decide (s.since t ≤ 1001000000)
  match s.tack.ppsAccepted with
  | none => true
  | some a => near a || (s.isOn F.TK_STATUS_HOLDOVER [] && (match s.tack.ppsEdge with | some e => near e | none => false))

/-- What an accepted edge captures (R87, R88). Log 20 (DEDUCED). -/
def ppsCapture (s : State) : State :=
  let t := { s with tack.ppsAccepted := some s.clock.tick }
  let t := (t.wr R.TK_PPS_CAP_SEC [] (t.clock.sec % 2 ^ 32)).set F.TK_PPS_CAP_NS_NS [] t.clock.ns
  ((t.set F.TK_PPS_CAP_NS_NEW [] 1).set F.TK_STATUS_HOLDOVER [] 0).raise F.TK_EVT_PPS_CAPTURE []

/-- The discipline of R87 at an accepted edge, and the lock of R88. Log 20 (DEDUCED). -/
def ppsDiscipline (s : State) : State :=
  let ns := s.clock.ns
  let e : Int := if ns < 500000000 then Int.ofNat ns else Int.ofNat ns - 1000000000
  let locked := s.isOn F.TK_STATUS_PPS_LOCKED []
  let t :=
    if !locked && decide (1000 < absInt e) then s.adjustTai (-e)
    else
      let u := s.setSlew (s.slewLeft - roundDivInt e (2 ^ s.get F.TK_PPS_CTRL_KP_SHIFT []))
      u.setAddend (Int.ofNat u.addend - roundDivInt (e * 171798691840) (1000000000 * 2 ^ s.get F.TK_PPS_CTRL_KI_SHIFT [])).toNat
  let n := if absInt e ≤ 100 then s.tack.ppsCount + 1 else 0
  let t := { t with tack.ppsCount := n }
  if 1000 < absInt e then
    let u := t.set F.TK_STATUS_PPS_LOCKED [] 0
    if locked then u.raise F.TK_EVT_LOCK_LOST [] else u
  else if 8 ≤ n then t.set F.TK_STATUS_PPS_LOCKED [] 1
  else t

end State

/-- TIME_STEP: the host writes TK_STEP_NS (R85). -/
def execTimeStep (value : Nat) (s : State) : Out :=
  doneTimed (fun s => onlyIf s.powered (fun s => s.stepTime value) s) s

/-- SLEW_WRITE: the host writes TK_SLEW (R85). -/
def execSlewWrite (value : Nat) (s : State) : Out :=
  done (fun s => onlyIf s.powered (fun s => s.writeSlew value) s) s

/-- SLEW_APPLY: a millisecond of the slew is applied: up to 50 ns toward its end (R85). Log 22 (DEDUCED). -/
def execSlewApply (s : State) : Out :=
  doneTimed (fun s =>
    onlyIf (s.tackRuns && decide (1000000 ≤ s.since s.tack.slewAt) && s.slewLeft != 0) (fun s =>
      let d : Int := if 0 < s.slewLeft then min 50 s.slewLeft else max (-50) s.slewLeft
      let t := s.setSlew (s.slewLeft - d)
      { t with clock := t.clock.shift d }) s) s

/-- ADDEND_WRITE: the host writes the 40-bit TK_ADDEND (R83, R85). Log 24 (DEDUCED). -/
def execAddendWrite (value : Nat) (s : State) : Out :=
  done (fun s => onlyIf s.powered (fun s => s.writeAddend value) s) s

/-- PPS_EDGE: an edge of PPS_IN crosses its threshold (R87, R88). Log 185 (DESIGN CHOICE). -/
def execPpsEdge (rising : Bool) (s : State) : Out :=
  doneTimed (fun s =>
    onlyIf (s.tackRuns && s.get F.TK_PPS_CTRL_MODE [] != 0 && (rising != s.isOn F.TK_PPS_CTRL_POL [])) (fun s =>
      let ok := s.ppsAccepts
      let t := { s with tack.ppsEdge := some s.clock.tick }
      if ok then (if t.disciplined then t.ppsCapture.ppsDiscipline else t.ppsCapture) else t) s) s

/-- PPS_HOLDOVER: no edge has been accepted for 2 s (R88). -/
def execPpsHoldover (s : State) : Out :=
  done (fun s =>
    onlyIf (s.tackRuns && s.get F.TK_PPS_CTRL_MODE [] != 0 && !s.isOn F.TK_STATUS_HOLDOVER []
        && decide (2000000000 ≤ s.since (s.tack.ppsAccepted.getD s.tack.ppsModeAt)))
      (fun s => (s.set F.TK_STATUS_HOLDOVER [] 1).raise F.TK_EVT_HOLDOVER []) s) s

/-- PPS_OUT_PULSE: TAI has reached a second plus the offset: PPS_OUT rises, at most once for each second (R90). -/
def execPpsOutPulse (s : State) : Out :=
  done (fun s =>
    let ofs := s.get F.TK_PPS_OFS_OFFSET_NS []
    let k := (s.clock.tai - ofs) / 1000000000
    onlyIf (s.tackRuns && s.isOn F.TK_PPS_OUT_EN [] && decide (ofs ≤ s.clock.tai) && decide (s.tack.ppsOutSec ≤ k)) (fun s =>
      { s with out.ppsOut := true, tack.ppsOutSec := k + 1,
               tack.ppsOutEnd := some (s.clock.tick + s.get F.TK_PPS_OUT_WIDTH_MS [] * 1000000) }) s) s

/-- PPS_OUT_END: PPS_OUT has been high for WIDTH_MS (R90). -/
def execPpsOutEnd (s : State) : Out :=
  done (fun s =>
    match s.tack.ppsOutEnd with
    | some t => onlyIf (decide (t ≤ s.clock.tick)) (fun s => { s with out.ppsOut := false, tack.ppsOutEnd := none }) s
    | none => s) s

/-- SMBUS_SET_OFFSET: command 0x01 writes the BAR0 offset (R96). Log 221 (DEDUCED). -/
def execSmbusSetOffset (offset : Nat) (s : State) : Out :=
  done (fun s => onlyIf s.tackRuns (fun s => { s with tack.smbOffset := offset % 2 ^ 32 }) s) s

/-- SMBUS_ALERT_RESPONSE: a module that drives SMB_ALERT_N low answers the Alert Response Address with its own (R565). -/
def execSmbusAlertResponse (s : State) : Out :=
  done (fun s => onlyIf (s.tackRuns && s.smbAlert) (fun s => { s with out.readData := s.tack.smbAddr }) s) s

end Sys2Proof.Machine
end

