-- ==== Sys2Proof/Machine/RegRead.lean ====
section
/-! DEFINITION. Reading the registers of BAR0: where an offset leads, which registers answer whom, the registers that show
what the device holds elsewhere, and the latches of 64-bit registers (R6, R11, R462, R494, R532, R534, R544). -/

namespace Sys2Proof.Machine

/-! ## Offsets (R494) -/

/-- Every register of the map. -/
def allRegs : List RegSpec :=
  regsID ++ regsFEAT ++ regsTK ++ regsPS ++ regsMD ++ regsPB ++ regsPT ++ regsEV ++ regsFT ++ regsPC ++ regsSM ++ regsRC ++ regsTR
    ++ regsDM ++ regsST ++ regsPG ++ regsBR ++ regsPA ++ regsCL ++ regsXT ++ regsLP ++ regsOS ++ regsCB ++ regsSC ++ regsGA ++ regsTY
    ++ regsLC ++ regsEQ ++ regsGF ++ regsBM ++ regsQM ++ regsAW ++ regsTS ++ regsFC ++ regsFP ++ regsSB ++ regsCP ++ regsTL

/-- The indexes of the instance at a distance from the base. -/
def dimIndex : List Dim → Nat → Option (List Nat)
  | [], d => if d = 0 then some [] else none
  | m :: r, d =>
    let i := d / m.stride
    if m.first ≤ i ∧ i < m.first + m.count then (dimIndex r (d - i * m.stride)).map (i :: ·) else none

/-- The instance of a register at an offset, and whether it is the high word of a 64-bit one. -/
def RegSpec.at (r : RegSpec) (off : Nat) : Option (List Nat × Bool) :=
  if off < r.base then none
  else match dimIndex r.dims (off - r.base) with
    | some ix => some (ix, false)
    | none => if r.wide && decide (r.base + 4 ≤ off) then (dimIndex r.dims (off - r.base - 4)).map fun ix => (ix, true) else none

/-- The register at a BAR0 offset. -/
def locate (off : Nat) : Option (RegSpec × List Nat × Bool) :=
  allRegs.findSome? fun r => (r.at off).map fun x => (r, x)

/-! ## Which registers answer (R6, R462, R544) -/

/-- The register is one of a list. -/
def RegSpec.isOneOf (r : RegSpec) (l : List RegSpec) : Bool := l.any fun q => q.base == r.base

/-- Dies of a per-die register that lies outside its die, as die indexes. Log 181 (DESIGN CHOICE). -/
def byDie : List RegSpec :=
  [R.MD_UNIT_MODE, R.PT_VCORE, R.PT_LOOP, R.PT_RESERVE, R.PT_WEAR, R.PT_EQH, R.PT_PLANTIME, R.PT_CLAIM, R.PT_CLAIMCNT]

/-- Registers of the DDR5 log and capture ring, and of what DDR5 carries. -/
def ddrRegs : List RegSpec :=
  [R.TL_LOG_BASE, R.TL_LOG_CFG, R.TL_LOG_PROD, R.TL_LOG_CONS, R.CP_DDR_BASE, R.CP_DDR_CFG, R.CP_DDR_PROD, R.CP_DDR_CONS,
   R.SB_DEEP_RESV, R.BM_DEEP_HEAD, R.BM_SPILLED, R.BM_FILLED]

/-- Registers of the Saddlebag pools. -/
def poolRegs : List RegSpec :=
  [R.SB_POOL_CFG, R.SB_POOL_FREE, R.SB_POOL_BASE, R.SB_POOL_LOW, R.SB_ALLOC, R.SB_FALLBACK, R.SB_FAIL, R.SB_DFREE]

/-- The unit of a register is present in this variant (R1, R6 and each chapter's words on the T and the E). -/
def Variant.hasReg (v : Variant) (r : RegSpec) (ix : List Nat) : Bool :=
  let a := r.addr ix
  let i := ix.headD 0
  if 0x800000 ≤ a ∧ a < 0x1000000 then v.hasDie ((a - 0x800000) / 0x100000) && !(v == .e && r.isOneOf regsGA)
  else if 0x1000000 ≤ a ∧ a < 0x1400000 then v.hasDie (8 + (a - 0x1000000) / 0x100000) && !(v == .e && r.isOneOf ddrRegs)
  else if r.isOneOf byDie then v.hasDie i
  else if r.isOneOf [R.PT_PACE, R.PT_PACE_MIN] then v.hasDie (monitorDie i)
  else if r.isOneOf [R.PC_BW_RX, R.PC_BW_TX, R.PC_BW_PEAK, R.TS_PLIM, R.TS_PCNT] then decide (i < 64 * v.skirts)
  else if 0xA1000 ≤ a ∧ a < 0xAC000 then v.hasBlock i
  else if r.isOneOf regsDM then v.hasDdr && (r.dims.isEmpty || decide (i < v.channels))
  else if r.isOneOf regsAW then v != .e && (r.base != R.AW_BUDGET.base || decide (i < v.skirts))
  else if r.isOneOf poolRegs then v != .e || decide (i < 6)
  else v != .e || !r.isOneOf ddrRegs

/-- The die that holds a register (R544). -/
def regDie (r : RegSpec) (ix : List Nat) : Nat :=
  let a := r.addr ix
  if 0x800000 ≤ a ∧ a < 0x1000000 then (a - 0x800000) / 0x100000
  else if 0x1000000 ≤ a ∧ a < 0x1400000 then 8 + (a - 0x1000000) / 0x100000
  else if 0xA1000 ≤ a ∧ a < 0xAC000 then blockDie (ix.headD 0)
  else 12

/-- A register of a punt reason whose code is reserved (R241, R458). -/
def reservedReason (r : RegSpec) (ix : List Nat) : Bool :=
  let code := ix.getLastD 0
  r.isOneOf [R.CL_PUNT_RATE, R.CL_PUNT_BURST, R.CL_PUNT_DROP, R.CL_REASON_CNT, R.ST_PUNT_MAP, R.ST_PUNT_ENG, R.ST_PUNT_NOHOST]
    && decide (20 ≤ code) && decide (code ≤ 31)

/-- A register of a port: it stands for a lane that may start no port (R164). -/
def isPortReg (r : RegSpec) (ix : List Nat) : Bool :=
  let o := r.addr ix % 0x100000
  decide (0x800000 ≤ r.addr ix) && decide (r.addr ix < 0x1000000) && decide (0x10000 ≤ o) && decide (o < 0x20000)

namespace State

/-- The register answers: its unit is present, its die not isolated, its lane starts a port, its code is not reserved. Log 181 (DESIGN CHOICE). -/
def regLive (s : State) (r : RegSpec) (ix : List Nat) : Bool :=
  s.variant.hasReg r ix && !(s.isolated (regDie r ix) && regDie r ix != 12)
    && !reservedReason r ix && (!isPortReg r ix || s.isPort (64 * ix.headD 0 + ix.getD 1 0))

/-- Function `fn` sees the register (R462). The user pages of counters are apart. Log 57 (DESIGN CHOICE), 76 (DEDUCED). -/
def regSeen (s : State) (fn : Nat) (r : RegSpec) (ix : List Nat) : Bool :=
  let i := ix.headD 0
  fn == 0 || r.isOneOf regsID || r.isOneOf regsFEAT
    || (r.isOneOf [R.RC_SQ_BASE_LO, R.RC_SQ_BASE_HI, R.RC_SQ_CFG, R.RC_SQ_PASID, R.RC_SQ_STAT, R.RC_SQ_TAIL, R.RC_SQ_DB] && s.sqFn i == fn)
    || (r.isOneOf [R.RC_CQ_BASE_LO, R.RC_CQ_BASE_HI, R.RC_CQ_CFG, R.RC_CQ_PASID, R.RC_CQ_COAL, R.RC_CQ_STAT, R.RC_CQ_HEAD, R.RC_CQ_DB]
        && s.get F.RC_CQ_CFG_FN [i] == fn)
    || (r.isOneOf [R.RC_ER_BASE_LO, R.RC_ER_BASE_HI, R.RC_ER_CFG, R.RC_ER_PASID, R.RC_ER_STAT, R.RC_ER_HEAD, R.RC_ER_LOST]
        && s.get F.RC_ER_CFG_FN [i] == fn)

/-! ## Registers that show what is held elsewhere -/

/-- The tree of pending sources (R523). -/
def pendWord (s : State) (w : Nat) : Nat := ((List.range 32).map fun i => b2n (s.sourcePending (32 * w + i)) * 2 ^ i).sum
def pend2Word (s : State) (v : Nat) : Nat := ((List.range 32).map fun i => b2n (s.pendWord (32 * v + i) != 0) * 2 ^ i).sum
def pendTop (s : State) : Nat := ((List.range 4).map fun v => b2n (s.pend2Word v != 0) * 2 ^ v).sum

/-- PC_DIR_b (R528). -/
def blockDir (s : State) (b : Nat) : Nat :=
  if s.variant.hasBlock b then 2 ^ 31 + blockKind b * 2 ^ 24 + blockDie b * 2 ^ 16 + blockInstance b else 0

/-- The wait of the queue that TR_PARK_SEL names, if it is parked, and the group index of its request. -/
def parkWait (s : State) : Option (Wait × Nat) :=
  let k := s.get F.TR_PARK_SEL_KIND []
  let i := s.get F.TR_PARK_SEL_INDEX []
  let mine := fun (w : Wait) => match w.who with
    | .fetch q => k == 0 && q == i
    | .entry q _ => k == 0 && q == i
    | .rx q => k == 0 && q == i
    | .cq c => k == 1 && c == i
    | .er r => k == 2 && r == i
    | _ => false
  match s.xl.prq.find? fun r => r.waits.any mine with
  | some r => (r.waits.find? mine).map fun w => (w, r.grp)
  | none => (s.xl.priWait.find? mine).map fun w => (w, 0)

/-- The fragment and the offset in it at which an access of a table stopped after `n` bytes (R515, R516). -/
def fragPlace : List (Nat × Nat) → Nat → Nat × Nat
  | [], _ => (0, 0)
  | (_, l) :: r, n =>
    if l ≤ n && !r.isEmpty then
      let x := fragPlace r (n - l)
      (x.1 + 1, x.2)
    else (0, n)

/-- Where a parked access stands. -/
def parkPlace (s : State) (w : Wait) : Nat × Nat :=
  match w.who with
  | .entry q i => match s.rc.jobs.find? fun j => j.q == q && j.idx == i with
    | some j => fragPlace (if j.stage = 2 ∧ entOp j.ent = 8 then [(0, 64)] else j.frags.getD []) (if j.stage = 2 then j.moved else j.got.length)
    | none => (0, 0)
  | .rx q => match s.rc.bufs.at [] q with
    | b :: _ => fragPlace b.frags (b.used + ((s.rc.recs.at [] q).head?.map (·.moved)).getD 0)
    | [] => (0, 0)
  | _ => (0, 0)

/-- TR_PARK_STAT (R520). -/
def parkStat (s : State) : Nat :=
  let stuck := b2n (s.get F.TR_PARK_SEL_KIND [] == 1 && s.xl.stuck.contains (s.get F.TR_PARK_SEL_INDEX [])) * 2 ^ 30
  match s.parkWait with
  | some (w, g) => 2 ^ 31 + stuck + g * 2 ^ 20 + (s.parkPlace w).1
  | none => stuck

/-- ST_ENG_STAT (R459). -/
def engStat (s : State) (e : Nat) : Nat :=
  let each := fun (p : Nat → Bool) => ((List.range 8).map fun t => b2n (p t) * 2 ^ t).sum
  let waits := fun (t : Nat) => (s.thr e t).stall == .wait || (s.thr e t).stall == .dmaw
  let frozen := s.engineFrozen e && (List.range 8).all (s.threadStopped e)
  b2n (s.eng e).allWaiting * 2 ^ 31 + b2n frozen * 2 ^ 30 + ((s.eng e).cur.getD 0) * 2 ^ 24
    + each (s.threadStopped e) * 2 ^ 16 + each waits * 2 ^ 8 + each fun t => (s.thr e t).faulted

/-- The 64-bit register that ST_DBG_SEL names (R456, R459). -/
def dbgValue (s : State) (e : Nat) : Nat :=
  let t := s.get F.ST_DBG_SEL_THREAD [e]
  let i := s.get F.ST_DBG_SEL_INDEX [e]
  let h := s.thr e t
  if i < 0x60 then s.opRead e t i
  else match i with
    | 0x60 => h.pc | 0x61 => h.epc | 0x62 => h.ecause | 0x63 => h.eaddr | 0x64 => h.dl | 0x65 => h.flags
    | _ => 0

/-- Entries of a table on a die, from an index up. -/
def tabCount (s : State) (x : Nat) (t : Tbl) (lo : Nat := 0) : Nat := ((s.tabList x t).filter fun e => decide (lo ≤ e.1)).length

/-- Valid exact-store entries on a die. -/
def exactUsed (s : State) (d : Nat) : Nat := ((s.tabList d .exact).filter fun e => bit e.2 31).length

/-- Valid rules of a bank on a die. -/
def rulesUsed (s : State) (d b : Nat) : Nat := ((s.tabList d (ruleTbl b)).filter fun e => bit e.2 703).length

/-- Valid ordered-store entries on a die. -/
def osUsed (s : State) (d : Nat) : Nat := ((s.tabList d .os).filter fun e => bit e.2 63).length

/-- CL_BANK_DIGEST_b of die `d`: zero until the die's first write of the bank since its reset (R238, R241). -/
def shownDigest (s : State) (d b : Nat) : Nat := if s.ts.digested.at 0 (key2 d b) = 0 then 0 else s.bankDigest d b

/-- Registers of the Tree die outside the units below. -/
def viewTree (s : State) (r : RegSpec) (ix : List Nat) : Option Nat :=
  let i := ix.headD 0
  let is := fun (q : RegSpec) => r.base == q.base
  if is R.MD_MODE then some (setBits (s.rd r ix) 2 0 s.mode.code)
  else if is R.TK_TICK_LO then some (s.clock.tick % 2 ^ 32)
  else if is R.TK_TICK_HI then some (s.clock.tick / 2 ^ 32 % 2 ^ 32)
  else if is R.PB_ATTEMPTS then
    some (s.attempts 0 % 2 ^ 8 + s.attempts 1 % 2 ^ 8 * 2 ^ 8 + b2n (s.slotValid 0) * 2 ^ 16 + b2n (s.slotValid 1) * 2 ^ 17)
  else if is R.PB_IMAGE_ID_LO then some (s.load.imageId % 2 ^ 32)
  else if is R.PB_IMAGE_ID_HI then some (s.load.imageId / 2 ^ 32)
  else if is R.EV_TOP then some s.pendTop
  else if is R.EV_PEND2 then some (s.pend2Word i)
  else if is R.EV_PEND then some (s.pendWord i)
  else if is R.PC_DIR then some (s.blockDir i)
  else if is R.TR_STAT then some (s.xl.prq.length * 2 ^ 16 + s.xl.tlb.length % 2 ^ 14)
  else if is R.TR_PARK_STAT then some s.parkStat
  else if is R.TR_PARK_OFF then some (match s.parkWait with | some w => (s.parkPlace w.1).2 % 2 ^ 24 | none => 0)
  else if is R.TR_PARK_VA_LO then some (match s.parkWait with | some w => w.1.va % 2 ^ 32 | none => 0)
  else if is R.TR_PARK_VA_HI then some (match s.parkWait with | some w => w.1.va / 2 ^ 32 % 2 ^ 32 | none => 0)
  else if is R.DM_CH_STAT then some (setBit (s.rd r ix) 30 (s.retraining == some i))
  else if is R.AW_STORE then some s.awlFree
  else if is R.AW_SET_REFS then some (s.setRefs 0 i + s.setRefs 1 i * 2 ^ 16)
  else if is R.TS_AO_FREE then some (131072 - s.ts.aoState.length)
  else if is R.TS_AO_RETIRED then some (s.ts.aoState.filter fun e => decide (2 ≤ e.2)).length
  else if is R.FC_CAP then some s.flowCap
  else if is R.FC_USED then some s.flow.ctx.length
  else none

/-- Registers of the Stitcher engines. -/
def viewEngine (s : State) (r : RegSpec) (ix : List Nat) : Option Nat :=
  let e := ix.headD 0
  let is := fun (q : RegSpec) => r.base == q.base
  let owners := fun (c0 : Nat) =>
    ((List.range 8).map fun c => (if (s.eng e).chan.at 0 (c0 + c) = 1 then (s.eng e).owner.at 0 (c0 + c) else 0) * 2 ^ (4 * c)).sum
  if is R.ST_ENG_STAT then some (s.engStat e)
  else if is R.ST_PQ then some (s.eng e).pq.length
  else if is R.ST_CH_STAT then some ((List.range 16).map fun c => (s.eng e).chan.at 0 c * 2 ^ (2 * c)).sum
  else if is R.ST_CH_OWNER then some (owners 0)
  else if is R.ST_CH_OWNER_HI then some (owners 8)
  else if is R.ST_DBG_DATA_LO then some (s.dbgValue e % 2 ^ 32)
  else if is R.ST_DBG_DATA_HI then some (s.dbgValue e / 2 ^ 32)
  else none

/-- Registers of Skirt die `d`. -/
def viewSkirt (s : State) (r : RegSpec) (ix : List Nat) : Option Nat :=
  let d := ix.headD 0
  let is := fun (q : RegSpec) => r.base == q.base
  let pol := s.get F.CB_IND_SEL_INDEX [d]
  let shp := s.get F.SC_IND_SEL_INDEX [d]
  if is R.PG_SP_FILL then some (s.tabCount d .spMap + s.tabCount d .spMap spOvf * 2 ^ 17)
  else if is R.CL_BANK_STAT then some (b2n (s.bankHeld (1 - s.activeBank)) * 2 + s.activeBank)
  else if is R.CL_BANK_DIGEST_0 then some (s.shownDigest d 0)
  else if is R.CL_BANK_DIGEST_1 then some (s.shownDigest d 1)
  else if is R.CL_RULES_USED then some (s.rulesUsed d 0 + s.rulesUsed d 1 * 2 ^ 16)
  else if is R.XT_FILL then some (s.exactUsed d)
  else if is R.XT_OVF then some (s.tabCount d .exact exOvf)
  else if is R.LP_ROOT_USED then some (s.tabCount d .root)
  else if is R.LP_V4_NODES then some (s.lpmNodes d 0).length
  else if is R.LP_V6_NODES then some (s.lpmNodes d 1).length
  else if is R.LP_V4_PREFIXES then some (s.prefixCount d 0)
  else if is R.LP_V6_PREFIXES then some (s.prefixCount d 1)
  else if is R.GA_STAT then some ((s.showGates (64 * d + ix.getD 1 0)).rd r ix)
  else if is R.OS_USED then some (s.osUsed d)
  else if is R.OS_STAT then some (setBits (s.rd r ix) 16 0 (osSize - s.osUsed d))
  else if is R.OS_SEGS then some (s.osHoleless d)
  else if is R.CB_IND_CFG then some (bits (s.tab d .policer pol) (32 * ix.getD 1 0 + 31) (32 * ix.getD 1 0))
  else if is R.CB_IND_TC then some (s.shp.tc.at 0 (key2 d pol) / 2 ^ 32)
  else if is R.CB_IND_TE then some (s.shp.te.at 0 (key2 d pol) / 2 ^ 32)
  else if is R.SC_IND_CFG then some (bits (s.tab d .shaper shp) (32 * ix.getD 1 0 + 31) (32 * ix.getD 1 0))
  else if is R.SC_IND_BUCKET then some (unsigned 32 (Int.fdiv (s.shp.bkt.at 0 (key2 d shp)) (2 ^ 32)))
  else none

/-- Registers of Girth die `g`. -/
def viewGirth (s : State) (r : RegSpec) (ix : List Nat) : Option Nat :=
  let g := ix.headD 0
  let q := s.get F.QM_SEL_INDEX [g]
  let known := decide (q < 0x1040) || decide (0x4000 ≤ q)
  let is := fun (p : RegSpec) => r.base == p.base
  -- the reset value until the load shows the die's free cells
  let shown := decide (0 < s.get F.BM_CELL_FREE_FREE [g] + s.fab.used.at 0 g + s.fab.retired.at 0 g)
  if is R.BM_LINK_FREE then some (if shown then s.linksFree g else 0)
  else if is R.BM_RETIRED then some (s.fab.retired.at 0 g)
  else if is R.QM_DEPTH then some (if known then (s.gq g q).length else 0)
  else if is R.QM_AVG then some (if q < 0x1040 then s.fab.avg.at 0 (key2 g q) else 0)
  else none

/-- The 32-bit word that a register shows function `fn`. -/
def word (s : State) (fn : Nat) (r : RegSpec) (ix : List Nat) : Nat :=
  let is := fun (q : RegSpec) => r.base == q.base
  let i := ix.headD 0
  if is R.FEAT_OFFER then (if i = 0 then s.offer fn else 0)
  else if is R.FEAT_ACCEPT then s.acceptWord fn i
  else if is R.FEAT_CTRL ∧ fn ≠ 0 then s.rc.vfCtl.at 0 fn
  else match s.viewTree r ix, s.viewEngine r ix, s.viewSkirt r ix, s.viewGirth r ix with
    | some v, _, _, _ => v
    | _, some v, _, _ => v
    | _, _, some v, _ => v
    | _, _, _, some v => v
    | _, _, _, _ => s.rd r ix

/-- A 64-bit counter as it reads. -/
def wideWord (s : State) (r : RegSpec) (ix : List Nat) : Nat :=
  let d := ix.headD 0
  let k := 4 * key2 d (s.get F.CB_IND_SEL_INDEX [d])
  let is := fun (q : RegSpec) => r.base == q.base
  if is R.CB_IND_GREEN then s.shp.polCnt.at 0 k
  else if is R.CB_IND_YELLOW then s.shp.polCnt.at 0 (k + 1)
  else if is R.CB_IND_RED then s.shp.polCnt.at 0 (k + 2)
  else if is R.TY_TOT_IN then (s.tallyDieOctets d).1
  else if is R.TY_TOT_OUT then (s.tallyDieOctets d).2
  else s.ctr r ix

/-! ## Reads with an effect -/

/-- The 64-bit registers that the map holds as two registers: the low word and the high word (R11). Log 177 (DEDUCED). -/
def wordPairs : List (RegSpec × RegSpec) :=
  [(R.TK_TICK_LO, R.TK_TICK_HI), (R.TK_STEP_SEC_LO, R.TK_STEP_SEC_HI), (R.TK_ADDEND_LO, R.TK_ADDEND_HI),
   (R.MD_COMMIT_SEC_LO, R.MD_COMMIT_SEC_HI), (R.PB_IMAGE_ID_LO, R.PB_IMAGE_ID_HI), (R.RC_SQ_BASE_LO, R.RC_SQ_BASE_HI),
   (R.RC_CQ_BASE_LO, R.RC_CQ_BASE_HI), (R.RC_ER_BASE_LO, R.RC_ER_BASE_HI), (R.TR_PARK_VA_LO, R.TR_PARK_VA_HI),
   (R.DM_UE_CAP_LO, R.DM_UE_CAP_HI), (R.ST_DBG_DATA_LO, R.ST_DBG_DATA_HI), (R.PG_PORT_SA_LO, R.PG_PORT_SA_HI),
   (R.GA_PEND_BASE_SEC_LO, R.GA_PEND_BASE_SEC_HI), (R.GA_OPER_BASE_SEC_LO, R.GA_OPER_BASE_SEC_HI),
   (R.TL_COMMIT_SEC_LO, R.TL_COMMIT_SEC_HI)]

/-- A read of a low word latches the high word for its reader (R11). Log 176 (DEDUCED). -/
def readLow (s : State) (fn hiOff v : Nat) : State :=
  { s with latched := s.latched.insert (key2 fn hiOff) (BitVec.ofNat 32 (v / 2 ^ 32)) }.answer (v % 2 ^ 32)

/-- A read of a high word: the first after a read of the low word gives what that latched (R11). Log 176 (DEDUCED). -/
def readHigh (s : State) (fn hiOff v : Nat) : State :=
  let k := key2 fn hiOff
  { s with latched := s.latched.erase k }.answer (((s.latched.find? k).map BitVec.toNat).getD (v / 2 ^ 32 % 2 ^ 32))

/-- A register that shows what a read of another one latched: it keeps it until the next such read (R98). -/
def readLatched (s : State) (fn off : Nat) : State := s.answer (((s.latched.find? (key2 fn off)).map BitVec.toNat).getD 0)

/-- A read of TK_SEC_LO latches seconds, nanoseconds and the fraction, `frac` units of 2^-16 ns past the tick (R83, R98).
Log 25 (DEDUCED). -/
def readTime (s : State) (fn frac : Nat) : State :=
  let put := fun (r : RegSpec) (v : Nat) (m : Map Word) => m.insert (key2 fn r.base) (BitVec.ofNat 32 v)
  let l := put R.TK_FRAC (frac % 2 ^ 16) (put R.TK_NS s.clock.ns (put R.TK_SEC_HI (s.clock.sec / 2 ^ 32) s.latched))
  { s with latched := l }.answer (s.clock.sec % 2 ^ 32)

/-- A read of TK_RET_DATA: the retention word at TK_RET_ADDR, which advances (R98). -/
def readRet (s : State) : State :=
  let w := s.get F.TK_RET_ADDR_WORD []
  (s.set F.TK_RET_ADDR_WORD [] ((w + 1) % 2 ^ 16)).answer (s.retGet (4 * w) 4)

/-- The input current: its average, and the highest sample since the field was written, of which those since the last look are
free values no lower than the average (R99). Log 19 (DESIGN CHOICE), 18 (DESIGN CHOICE). -/
def readCurrent (s : State) : State :=
  let f := s.takeFree
  let now := Config.inputCurrent f.1 % 2 ^ 16
  let peak := max now (Config.currentPeak f.1 % 2 ^ 16)
  let t := f.2.set F.PS_IIN_IIN_PEAK [] (max (f.2.get F.PS_IIN_IIN_PEAK []) peak)
  t.answer (now + t.get F.PS_IIN_IIN_PEAK [] * 2 ^ 16)

/-- VIN at the lands: its 1 ms average, and the lowest sample since the field was written, of which those since the last look are
free values no higher than the average (R99). Log 18 (DESIGN CHOICE). -/
def readVin (s : State) : State :=
  let f := s.takeFree
  let avg := Config.vinAverage f.1 % 2 ^ 16
  let low := min avg (Config.vinLowest f.1)
  let t := f.2.set F.PS_VIN_VIN_MIN [] (min (f.2.get F.PS_VIN_VIN_MIN []) low)
  t.answer (avg * 2 ^ 16 + t.get F.PS_VIN_VIN_MIN [])

/-- The latest reading of comparator `n`, and whether it lies outside the window now (R75, R98). Log 18 (DESIGN CHOICE). -/
def readComp (s : State) (n : Nat) : State :=
  let f := s.takeFree
  let v := compReading n (Config.compSample n f.1 % 2 ^ 16)
  let out := f.2.compOutside n v (Config.vbusAverage f.1)
  let t := (f.2.set F.TK_CMP_STAT_VALUE [n] v).set F.TK_CMP_STAT_OUTSIDE [n] (b2n out)
  t.answer (t.rd R.TK_CMP_STAT [n])

/-- A read of one register by reader `fn`: a function, or 16 for SMBus. -/
def readReg (s : State) (fn : Nat) (r : RegSpec) (ix : List Nat) (hi : Bool) : State :=
  let is := fun (q : RegSpec) => r.base == q.base
  let i := ix.headD 0
  if r.wide then
    if hi then s.readHigh fn (r.addr ix + 4) (s.wideWord r ix) else s.readLow fn (r.addr ix + 4) (s.wideWord r ix)
  else if is R.TK_SEC_LO then s.readTime fn 0
  else if is R.TK_SEC_HI || is R.TK_NS || is R.TK_FRAC then s.readLatched fn r.base
  else if is R.TK_RET_DATA then s.readRet
  else if is R.PS_VIN then s.readVin
  else if is R.TK_CMP_STAT then s.readComp i
  else if is R.PS_IIN then s.readCurrent
  else if is R.PS_PIN then (let f := s.takeFree; f.2.answer (Config.inputPower f.1 % 2 ^ 32))
  else if is R.PB_RPT_DATA then s.reportRead
  else if is R.PC_CNT_n_LO then s.readCounter fn false i (ix.getD 1 0)
  else if is R.PC_CNT_n_HI then s.answer (s.ev.cntHi.at 0 (latchKey fn false i * 8 + ix.getD 1 0))
  else if is R.PC_SNAP then s.answer (s.ev.snap.at 0 (latchKey fn false i))
  else if is R.PC_TICK_LO then s.readTickLo fn false i
  else if is R.PC_TICK_HI then s.answer (s.ev.tickHi.at 0 (latchKey fn false i))
  else if is R.PG_TXTS_HEAD then s.popTxts (64 * i + ix.getD 1 0)
  else match wordPairs.find? fun p => is p.1 || is p.2 with
    | some p =>
      let v := s.word fn p.1 ix + s.word fn p.2 ix * 2 ^ 32
      if is p.1 then s.readLow fn (p.2.addr ix) v else s.readHigh fn (p.2.addr ix) v
    | none => s.answer (s.word fn r ix)

/-- A read of the user page of block `b` (R534). Log 175 (DEDUCED). -/
def readUser (s : State) (fn b o : Nat) : State :=
  let k := latchKey fn true b
  let n := (o - 0x20) / 0x10
  if !s.seesBlock fn true b then s.answer 0
  else if o = 0x8 then s.readTickLo fn true b
  else if o = 0xC then s.answer (s.ev.tickHi.at 0 k)
  else if o = 0x10 then s.answer (s.ev.snap.at 0 k)
  else if 0x20 ≤ o ∧ o < 0xA0 ∧ o % 0x10 = 4 then s.readCounter fn true b n
  else if 0x20 ≤ o ∧ o < 0xA0 ∧ o % 0x10 = 8 then s.answer (if s.seesCounter fn true b n then s.ev.cntHi.at 0 (k * 8 + n) else 0)
  else s.answer 0

/-- A 32-bit read of BAR0 at an offset by function `fn`: zero where nothing answers (R6, R462, R494, R544).
Log 175 (DEDUCED). -/
def readBar (s : State) (fn off : Nat) : State :=
  if 0x3800000 ≤ off ∧ off < 0x3800000 + 0x1000 * 176 then s.readUser fn ((off - 0x3800000) / 0x1000) (off % 0x1000)
  else match locate off with
    | some (r, ix, hi) => if s.regLive r ix && s.regSeen fn r ix then s.readReg fn r ix hi else s.answer 0
    | none => s.answer 0

/-- A read over SMBus: the TK and PS blocks only (R96). Log 183 (DESIGN CHOICE). -/
def readSmbus (s : State) (off : Nat) : State :=
  match locate off with
  | some (r, ix, hi) => if r.isOneOf regsTK || r.isOneOf regsPS then s.readReg 16 r ix hi else s.answer 0
  | none => s.answer 0

end State

/-! ## The commands -/

/-- LATCHED_READ: function `fn` reads the 32-bit register at a BAR0 offset; a low word latches its high word (R11). -/
def execLatchedRead (fn off : Nat) (s : State) : Out :=
  done (fun s => onlyIf (s.ringPowered && (fn == 0 || decide (fn ≤ s.rc.vfs))) (fun s => s.readBar fn off) s) s

/-- TIME_READ: the host, or the management controller, reads TK_SEC_LO, `frac` units of 2^-16 ns past the tick (R98).
Log 25 (DEDUCED). -/
def execTimeRead (smbus : Bool) (frac : Nat) (s : State) : Out :=
  done (fun s => onlyIf (if smbus then s.tackRuns else s.ringPowered) (fun s => s.readTime (if smbus then 16 else 0) frac) s) s

/-- RET_DATA_READ: the host, or the management controller, reads TK_RET_DATA (R98). -/
def execRetDataRead (smbus : Bool) (s : State) : Out :=
  done (fun s => onlyIf (if smbus then s.tackRuns else s.ringPowered) (fun s => s.readRet) s) s

/-- SMBUS_BLOCK_READ: command 0x02 returns the 4 bytes at the offset last set (R96). Log 221 (DEDUCED). -/
def execSmbusBlockRead (s : State) : Out :=
  done (fun s => onlyIf s.tackRuns (fun s => s.readSmbus s.tack.smbOffset) s) s

end Sys2Proof.Machine
end

