-- ==== Sys2Proof/Machine/RegWrite.lean ====
section
/-! DEFINITION. Writing the registers of BAR0: access types, clamps and ignored values (R12, R13, R572), the writes that do
more than store, what SMBus may write (R96), and the host-plane reset (R119, R493). -/

namespace Sys2Proof.Machine

/-! ## Clamps and ignored values (R572) -/

/-- Fields whose writes are clamped, with their ranges. -/
def clampedFields : List (Fld × Nat × Nat) :=
  [(F.MD_RESID_LIMIT_US, 10, 64000), (F.MD_PREP_GUARD_GUARD_US, 5, 50),
   (F.PT_FLOOR_SKIRT_FLOOR, 3050, 3600), (F.PT_FLOOR_GIRTH_FLOOR, 16200, 19200), (F.PT_FLOOR_TREE_FLOOR, 1215, 1440),
   (F.PT_VFIX_VFIX, 620, 800), (F.PT_WINDOW_WIN_LOG, 4, 15), (F.PT_ACT_BUDGET, 1, 100),
   (F.SM_CFG_K, 0, 24), (F.SM_RATE_ALL, 0, 1000000), (F.PC_TWIN_COUNT, 0, 16384), (F.RC_RX_FLUSH_US, 1, 10000)]
  ++ [(F.TR_PRI_TMO_MS, 10, 60000), (F.DM_RETRAIN_INTERVAL_S, 60, 65535), (F.PG_PORT_LEN_MAX_LEN, 64, 16000),
   (F.PG_PORT_TIMERS_DOWN_DEB_US, 0, 1000), (F.PA_CFG_V6_EXT_MAX, 1, 8), (F.OS_CFG_LOW_PCT, 1, 100),
   (F.OS_CFG_SPACING, 8, 64), (F.SC_PORT_B_GRP_COUNT, 0, 1024), (F.LC_CFG_HOLD_NS, 20, 200), (F.LC_CFG_TIMEOUT_US, 10, 255)]
  ++ [(F.EQ_CFG_ROOM, 4, 255), (F.EQ_BUF_RESV, 4096, 16384), (F.EQ_GLOBAL_RESV, 0, 131072), (F.EQ_SESS_RATE_ALL, 0, 10000000),
   (F.BM_DEEP_HEAD_COLS, 38, 4096), (F.AW_TIMEOUT_US, 10, 1000), (F.AW_SET_CFG_WIN64, 1, 32), (F.TS_AGE_AGE_S, 1, 3600),
   (F.FC_TIMEOUT_US, 10, 1000)]

/-- The word with its clamped fields held to their ranges; PT_ACT_5.HOLD_US and TK_VIN_TRACK have ranges of their own. -/
def clampWord (r : RegSpec) (ix : List Nat) (v : Nat) : Nat :=
  let v := clampedFields.foldl (fun v c =>
    if c.1.reg.base = r.base then setBits v c.1.hi c.1.lo (clamp c.2.1 c.2.2 (bits v c.1.hi c.1.lo)) else v) v
  if r.base = R.PT_ACT.base ∧ ix = [5] then setBits v 31 16 (clamp 1 100 (bits v 31 16))
  else if r.base = R.TK_VIN_TRACK.base ∧ bits v 7 0 ≠ 0 then setBits v 7 0 (clamp 70 95 (bits v 7 0))
  else v

/-- Values of single fields whose write is ignored. -/
def ignoredFields (v : Variant) (ix : List Nat) : List (Fld × (Nat → Bool)) :=
  let three : Nat → Bool := (· == 3)
  let zero : Nat → Bool := (· == 0)
  let onE : Nat → Bool := fun x => v == .e && x == 0
  let action : Nat → Bool := fun x => x == 3 || (x == 2 && (ix.getLastD 0 == 11 || ix.getLastD 0 == 12))
  -- the settings that comparators 0 and 3 fix, and action codes that name none (R73, R74)
  let n := ix.getLastD 0
  let fixed := n == 0 || n == 3
  [(F.TK_CMP_CFG_EN, fun x => fixed && x == 0), (F.TK_CMP_CFG_ACTION, fun x => decide (5 ≤ x) || (fixed && x != 3)),
   (F.TK_CMP_CFG_QUAL, fun x => n == 0 && x != 0)] ++
  [(F.TK_PPS_CTRL_MODE, three), (F.TK_PPS_OUT_WIDTH_MS, zero), (F.MD_COMMIT_CTRL_AFTER_DRAIN, three), (F.PT_CTRL_LOOP_MODE, three),
   (F.SM_CFG_DEST, onE), (F.SM_BURST_BURST, zero), (F.ST_PUNT_MAP_DEST, three), (F.PG_SP_CFG_MODE, fun x => decide (5 ≤ x)),
   (F.PG_SP_CFG_MISS_ACT, three), (F.CL_REASON_CFG_REINJ_ACT, action), (F.CL_REASON_CFG_ACT, action)]
  ++ [(F.OS_CFG_CHAIN_MAX, zero), (F.OS_PLAN_C_SKIP_ACT, three), (F.SC_CLS_WEIGHT, zero),
   (F.EQ_SESS_TYPE, fun x => v == .e && x == 2), (F.EQ_SESS_CAP_LEN, fun x => x == 0 || decide (256 < x)), (F.EQ_SESS_BURST_BURST, zero),
   (F.QM_CFG_STEP, zero), (F.TL_CTRL_DEST, fun x => x == 3 || onE x)]

namespace State

/-- The word with every ignored field at its present value, and whether a field was ignored. -/
def ignoreFields (s : State) (r : RegSpec) (ix : List Nat) (v : Nat) : Bool × Nat :=
  (ignoredFields s.variant ix).foldl (fun (x : Bool × Nat) c =>
    if c.1.reg.base = r.base ∧ c.2 (bits x.2 c.1.hi c.1.lo) then (true, setBits x.2 c.1.hi c.1.lo (s.get c.1 ix)) else x) (false, v)

/-! ## The plain write (R12, R13, R525) -/

/-- A write by access type: RW fields take the value under clamps and ignores, W1C bits clear, W1S bits set, everything else
keeps. False when a field ignored its value. An event register that the write leaves pending has a delivery due (R525).
Log 177 (DEDUCED), 178 (DEDUCED). -/
def writePlain (s : State) (r : RegSpec) (ix : List Nat) (v : Nat) : Bool × State :=
  let v := v % 2 ^ 32
  -- a wrap at the same tick leaves its bit of PC_OVF set (R533)
  let blk := ix.headD 0
  let v := if r.base = R.PC_OVF.base then ((List.range 8).filter (s.wrappedNow blk)).foldl (fun a n => setBit a n false) v else v
  let old := s.rd r ix
  let x := s.ignoreFields r ix (clampWord r ix v)
  let new := (old - (old &&& r.rw)) + (x.2 &&& r.rw)
  let new := (new - (new &&& (v &&& r.w1c))) ||| (v &&& r.w1s)
  let t := s.wr r ix new
  let t := match evtSource r ix with
    | some n => if r.w1c != 0 && t.sourcePending n then t.due n else t
    | none => t
  (!x.1, t)

/-- The effect of a command as a change of state. -/
def after (c : State → Out) (s : State) : State :=
  match c s with
  | .next t => t
  | _ => s

/-- Make a write that tells of its refusal in a CFG_REFUSED bit, and say whether it was taken. -/
def refusable (s : State) (f : Fld) (ix : List Nat) (g : State → State) : Bool × State :=
  let t := g (s.set f ix 0)
  if t.isOn f ix then (false, t) else (true, t.set f ix (s.get f ix))

/-! ## The Tack Room (R71, R85, R88, R97, R98, R99) -/

/-- The latched bits of PS_STATUS: writing 0 clears them, writing 1 leaves them (R99). -/
def writePsStatus (s : State) (v : Nat) : State :=
  let old := s.rd R.PS_STATUS []
  s.wr R.PS_STATUS [] (old - (old &&& R.PS_STATUS.rw) + (old &&& v &&& R.PS_STATUS.rw))

/-- A write of TK_PPS_CTRL: MODE is set anew, and the next edge is its first (R88). Log 21 (DEDUCED). -/
def writePps (s : State) (v : Nat) : Bool × State :=
  let x := s.writePlain R.TK_PPS_CTRL [] v
  (x.1, if bits v 17 16 = 3 then x.2 else
    { x.2 with tack.ppsModeAt := s.clock.tick, tack.ppsAccepted := none, tack.ppsEdge := none, tack.ppsCount := 0 })

/-- A write of TK_PPS_OUT or TK_PPS_OFS raises no pulse for an instant that is already past (R90). -/
def spendPps (s : State) : State :=
  let ofs := s.get F.TK_PPS_OFS_OFFSET_NS []
  if ofs ≤ s.clock.tai then { s with tack.ppsOutSec := max s.tack.ppsOutSec ((s.clock.tai - ofs) / 1000000000 + 1) } else s

/-- A request of TK_WAKE_CTRL.NOW (R97). -/
def wakeNow (s : State) : State := (s.set F.TK_WAKE_CTRL_NOW [] 1).wakeBy 2

/-- The TK and PS registers whose write does more than store. Log 24 (DEDUCED). -/
def writeTack (s : State) (r : RegSpec) (v : Nat) : Option (Bool × State) :=
  let is := fun (q : RegSpec) => r.base == q.base
  if is R.TK_ADDEND_LO && s.get F.TK_PPS_CTRL_MODE [] == 2 then some (false, s.refuseAdj)
  else if is R.TK_ADDEND_LO then some (true, { s with staged := s.staged.insert r.base (BitVec.ofNat 32 v) })
  else if is R.TK_ADDEND_HI then
    let lo := ((s.staged.find? R.TK_ADDEND_LO.base).map (·.toNat)).getD (s.get F.TK_ADDEND_LO_ALL [])
    some (true, { s with staged := s.staged.erase R.TK_ADDEND_LO.base }.writeAddend (lo + v % 256 * 2 ^ 32))
  else if is R.TK_SLEW then some (true, s.writeSlew v)
  else if is R.TK_PPS_CTRL then some (s.writePps v)
  else if is R.TK_WAKE_CTRL then
    let t := ((s.set F.TK_WAKE_CTRL_AUTO_VIN [] (bits v 2 2)).set F.TK_WAKE_CTRL_TIMED_EN [] (bits v 1 1))
    some (true, if bit v 0 then t.wakeNow else t)
  else if is R.PS_STATUS then some (true, s.writePsStatus v)
  else if is R.PS_CTRL then some (true, if bit v 0 then s.retrySwitch else s)
  else if is R.TK_PPS_OUT || is R.TK_PPS_OFS then
    let x := s.writePlain r [] v
    some (x.1, x.2.spendPps)
  else none

/-! ## Modes, loads and Patina (R51, R108, R119, R122, R160) -/

/-- The Ring Complex, translation, event delivery and PCIe configuration are reset; the mode and forwarding stay (R119,
R493); MD_LAST_RESET and the header record it (R121). -/
def hostPlaneReset (s : State) : State := (s.noteReset 4 s.mode.code).ringReset

/-- PB_FLASH_CMD: REFUSED and ERROR clear, OP is set, and GO starts it (R158, R160). -/
def writeFlashCmd (s : State) (v : Nat) : State :=
  let t := if bit v 30 then s.set F.PB_FLASH_CMD_REFUSED [] 0 else s
  let t := if bit v 29 then t.set F.PB_FLASH_CMD_ERROR [] 0 else t
  if bit v 31 then t.flashStart (bits v 1 0) else t.set F.PB_FLASH_CMD_OP [] (bits v 1 0)

/-- PB_FUSE_PROG: ERROR clears, SLOT and OP are set, and GO starts the operation, whose success is a free value (R160).
Log 38 (DESIGN CHOICE). -/
def writeFuseProg (s : State) (v : Nat) : State :=
  let t := if bit v 30 then s.set F.PB_FUSE_PROG_ERROR [] 0 else s
  let t := (t.set F.PB_FUSE_PROG_SLOT [] (bits v 5 4)).set F.PB_FUSE_PROG_OP [] (bits v 3 0)
  if bit v 31 && t.fuseOpen then
    let f := t.takeFree
    let ok := Config.fuseTakes f.1
    match bits v 3 0 with
    | 1 => after (execFuseKeyProgram (bits v 5 4) ok) f.2
    | 2 => after (execFuseKeyRevoke (bits v 5 4) ok) f.2
    | 3 => after (execFuseSecverRaise ok) f.2
    | _ => t
  else t

/-- MD_RESET: REFUSED clears, and KIND 4, 5 or 6 asks for a reset (R119, R122). -/
def writeReset (s : State) (v : Nat) : State :=
  let t := if bit v 31 then s.set F.MD_RESET_REFUSED [] 0 else s
  match bits v 2 0 with
  | 4 => if t.tack.edrain.isSome then t else t.hostPlaneReset
  | 5 => t.stitcherReset
  | 6 => after execForwardingRestart t
  | _ => t

/-- The MD, PB and PT registers whose write does more than store. -/
def writeModes (s : State) (r : RegSpec) (v : Nat) : Option (Bool × State) :=
  let is := fun (q : RegSpec) => r.base == q.base
  if is R.MD_COMMIT_CTRL then
    let x := s.writePlain r [] (setBits v 31 31 0)
    some (x.1, if bit v 31 then after execCommitGo x.2 else x.2)
  else if is R.MD_RESET then some (true, s.writeReset v)
  else if is R.PB_ATTEMPTS then some (true, (s.setAttempts 0 (bits v 7 0)).setAttempts 1 (bits v 15 8))
  else if is R.PB_FLASH_CMD then some (true, s.writeFlashCmd v)
  else if is R.PB_FUSE_PROG then some (true, if s.accepted 0 24 then s.writeFuseProg v else s)
  else if is R.PT_REPLAN then some (true, after (execPtReplanWrite v) s)
  else none

/-! ## Events, counters and sampling (R524, R529, R530, R535, R536) -/

/-- Give bucket `k` a new burst: the tokens it holds stay, up to the new burst. Log 105 (DEDUCED). -/
def newBurst (s : State) (k old new : Nat) : State :=
  let full := new * 2 ^ 32
  { s with sl.bucket := s.sl.bucket.put 0 k (full - min full (old * 2 ^ 32 - s.sl.bucket.at 0 k)) }

/-- A write of a burst, and the buckets that it changes. -/
def writeBurst (s : State) (f : Fld) (ix : List Nat) (v : Nat) (ks : List Nat) : Bool × State :=
  let old := s.get f ix
  let x := s.writePlain f.reg ix v
  (x.1, forEach ks (fun k t => t.newBurst k old (t.get f ix)) x.2)

/-- The EV and PC registers whose write does more than store. -/
def writeEvents (s : State) (r : RegSpec) (ix : List Nat) (v : Nat) : Option (Bool × State) :=
  let is := fun (q : RegSpec) => r.base == q.base
  let i := ix.headD 0
  if is R.EV_SRC then some (true, s.writeRoute i v)
  else if is R.PC_FREEZE then some (true, s.freeze v)
  else if is R.PC_BW_WIN then some (true, s.writeWindow v)
  else if is R.PC_CTRL then some (true, s.writeBlockCtrl i v)
  else if is R.PC_SEL then some (true, s.selectCounter i (ix.getD 1 0) v)
  else if is R.SM_BURST then some (s.writeBurst F.SM_BURST_BURST [] v ((List.range 32).map bktSample))
  else none

/-! ## The Ring Complex (R464, R468, R469, R489, R490) -/

/-- Function `fn` writes FEAT_ACCEPT_w: ignored while its DRIVER_OK is set (R464). -/
def writeAccept (s : State) (fn w v : Nat) : State :=
  if s.driverOk fn then s
  else if fn = 0 then s.wr R.FEAT_ACCEPT [w] v
  else { s with rc.vfAcc := s.rc.vfAcc.put 0 (fn * 8 + w) (v % 2 ^ 32) }

/-- Function `fn` writes FEAT_CTRL (R464). -/
def writeFeatCtrl (s : State) (fn v : Nat) : State :=
  let t := if bit v 30 then
      (if fn = 0 then s.set F.FEAT_CTRL_REFUSED [] 0
       else { s with rc.vfCtl := s.rc.vfCtl.put 0 fn (setBit (s.rc.vfCtl.at 0 fn) 30 false) })
    else s
  if bit v 31 then after (execDriverOk fn) t else t

/-- The configuration register, EN, CFG_REFUSED and the FN bits of a kind of queue: 0 SQ, 1 CQ, 2 event ring. -/
def queueRegs : Nat → RegSpec × Fld × Fld × Nat × Nat
  | 0 => (R.RC_SQ_CFG, F.RC_SQ_CFG_EN, F.RC_SQ_STAT_CFG_REFUSED, 21, 18)
  | 1 => (R.RC_CQ_CFG, F.RC_CQ_CFG_EN, F.RC_CQ_STAT_CFG_REFUSED, 24, 21)
  | _ => (R.RC_ER_CFG, F.RC_ER_CFG_EN, F.RC_ER_STAT_CFG_REFUSED, 24, 21)

/-- Function `fn` writes the configuration of queue `q` (R468, R469, R489, R490): EN set asks for an enable; EN cleared
disables; the other fields are set while the queue is disabled, or by the write that disables it, FN by the PF only and only
while the queue was disabled. Log 142 (DEDUCED). -/
def writeQueueCfg (s : State) (kind fn q v : Nat) : State :=
  let k := queueRegs kind
  if bit v 31 then s.enableQueue kind fn q v
  else
    let was := s.isOn k.2.1 [q]
    let t := match kind with
      | 0 => s.disableSq q
      | 1 => s.disableCq q
      | _ => s.set F.RC_ER_CFG_EN [q] 0
    if t.isOn k.2.1 [q] then t
    else
      let own := bits (s.rd k.1 [q]) k.2.2.2.1 k.2.2.2.2
      let word := v &&& k.1.rw
      t.wr k.1 [q] (if fn ≠ 0 ∨ was then setBits word k.2.2.2.1 k.2.2.2.2 own else word)

/-- Another configuration register of queue `q`: ignored with CFG_REFUSED while EN is 1 (R469). -/
def writeQueueReg (s : State) (kind : Nat) (r : RegSpec) (q v : Nat) (f : State → State) : Bool × State :=
  let k := queueRegs kind
  if s.isOn k.2.1 [q] then (false, s.set k.2.2.1 [q] 1)
  else
    let x := s.writePlain r [q] v
    (x.1, f x.2)

/-- The ID, FEAT, RC and TR registers whose write does more than store. -/
def writeRings (s : State) (fn : Nat) (r : RegSpec) (ix : List Nat) (v : Nat) : Option (Bool × State) :=
  let is := fun (q : RegSpec) => r.base == q.base
  let q := ix.headD 0
  if is R.FEAT_ACCEPT then some (!s.driverOk fn, s.writeAccept fn q v)
  else if is R.FEAT_CTRL then some (true, s.writeFeatCtrl fn v)
  else if is R.RC_SQ_CFG then some (s.refusable F.RC_SQ_STAT_CFG_REFUSED [q] fun t => t.writeQueueCfg 0 fn q v)
  else if is R.RC_CQ_CFG then some (s.refusable F.RC_CQ_STAT_CFG_REFUSED [q] fun t => t.writeQueueCfg 1 fn q v)
  else if is R.RC_ER_CFG then some (s.refusable F.RC_ER_STAT_CFG_REFUSED [q] fun t => t.writeQueueCfg 2 fn q v)
  else if is R.RC_SQ_BASE_LO then
    some (s.writeQueueReg 0 r q v fun t => (t.set F.RC_SQ_STAT_HEAD [q] 0).set F.RC_SQ_TAIL_TAIL [q] 0)
  else if is R.RC_SQ_BASE_HI || is R.RC_SQ_PASID then some (s.writeQueueReg 0 r q v id)
  else if is R.RC_CQ_BASE_LO then
    some (s.writeQueueReg 1 r q v fun t =>
      ((t.set F.RC_CQ_STAT_TAIL [q] 0).set F.RC_CQ_HEAD_HEAD [q] 0).level F.RC_CQ_STAT_FULL [q] (0x800 + q) false)
  else if is R.RC_CQ_BASE_HI || is R.RC_CQ_PASID || is R.RC_CQ_COAL then some (s.writeQueueReg 1 r q v id)
  else if is R.RC_ER_BASE_LO then
    some (s.writeQueueReg 2 r q v fun t =>
      ((t.set F.RC_ER_STAT_TAIL [q] 0).set F.RC_ER_HEAD_HEAD [q] 0).level F.RC_ER_STAT_FULL [q] (0x500 + q) false)
  else if is R.RC_ER_BASE_HI || is R.RC_ER_PASID then some (s.writeQueueReg 2 r q v id)
  else if is R.RC_ER_HEAD then some (true, after (execErHeadWrite q v) s)
  else none

/-! ## The Stitchers (R456, R457, R459) -/

/-- A write of ST_ENG_CTRL: FREEZE, then the STOP, RESUME and STEP requests of each thread. Log 135 (DEDUCED). -/
def writeEngCtrl (s : State) (e v : Nat) : State :=
  let t := after (execEngineFreeze e (bit v 31)) s
  let each := fun (lo : Nat) (c : Nat → State → Out) (u : State) =>
    forEach (setPositions (bits v (lo + 7) lo) 8) (fun i w => after (c i) w) u
  each 0 (execThreadStep e) (each 8 (execThreadResume e) (each 16 (execThreadStop e) t))

/-- The ST registers whose write does more than store. -/
def writeEngine (s : State) (r : RegSpec) (ix : List Nat) (v : Nat) : Option (Bool × State) :=
  let is := fun (q : RegSpec) => r.base == q.base
  let e := ix.headD 0
  if is R.ST_ENG_CTRL then some (true, s.writeEngCtrl e v)
  else if is R.ST_CH_REL then some (true, after (execChannelRelease e v) s)
  else if is R.ST_DBG_DATA_LO then some (s.dbgOpen e, after (execDebugRegWrite e false v) s)
  else if is R.ST_DBG_DATA_HI then some (s.dbgOpen e, after (execDebugRegWrite e true v) s)
  else if is R.ST_EXC_VEC || is R.ST_BRK then
    let x := s.writePlain r ix v
    some (x.1, x.2.settle e)
  else none

/-! ## Lookup plans (R265, R312, R327) -/

/-- The plan that words A and B make passes the test of R265. Log 178 (DEDUCED). -/
def planOk (a b : Nat) : Bool :=
  let ty := bits a 31 29
  let lpm := bits a 8 7
  let learn := bit a 5
  let wide := ([0, 48, 32, 128, 20, 152] : List Nat).getD ty 0
  decide (ty ≤ 5) && lpm != 3 && bits a 4 3 != 3 && bits a 2 1 != 3
    && (ty == 0 || decide (bits a 28 19 + wide ≤ 1024))
    && (!(ty == 1 || learn) || decide (bits a 18 9 + 12 ≤ 1024))
    && (!learn || decide (bits b 31 22 + 48 ≤ 1024))
    && (lpm == 0 || decide (bits b 21 12 + (if lpm = 1 then 32 else 128) ≤ 1024))

/-- A write of a lookup plan register of die `d`, plan `p`: 0 to 2 are XT_PLAN_A to C, 3 to 5 OS_PLAN_A to C.
Log 178 (DEDUCED). -/
def writeLookupPlan (s : State) (d p k v : Nat) : Bool × State :=
  let a := if k = 0 then v &&& R.XT_PLAN_A.rw else s.rd R.XT_PLAN_A [d, p]
  let b := if k = 1 then v &&& R.XT_PLAN_B.rw else s.rd R.XT_PLAN_B [d, p]
  if k < 3 ∧ !planOk a b then (false, s.raise F.XT_EVT_PLAN_REFUSED [d])
  else
    match k with
    | 0 => s.writePlain R.XT_PLAN_A [d, p] v
    | 1 => s.writePlain R.XT_PLAN_B [d, p] v
    | 2 => s.writePlain R.XT_PLAN_C [d, p] v
    | 3 => s.writePlain R.OS_PLAN_A [d, p] v
    | 4 => s.writePlain R.OS_PLAN_B [d, p] v
    | _ => s.writePlain R.OS_PLAN_C [d, p] v

/-! ## Gait lists (R403) -/

/-- A commit with GAIT set is in progress. -/
def gaitCommit (s : State) : Bool := s.modes.commit.any fun c => bit c.kinds 1

/-- A write of GA_CTRL of port `p`: the pending fields are locked while ARM is 1, ARM while a commit with GAIT set is in
progress; an ignored change sets PEND_REFUSED. Log 106 (DEDUCED). -/
def writeGaitCtrl (s : State) (p v : Nat) : Bool × State :=
  let x := pix p
  let armed := s.isOn F.GA_CTRL_ARM x
  let arm := if s.gaitCommit then s.get F.GA_CTRL_ARM x else bits v 30 30
  let en := if armed then s.get F.GA_CTRL_PEND_EN x else bits v 29 29
  let len := if armed then s.get F.GA_CTRL_PEND_LEN x else bits v 10 0
  let whole := arm == bits v 30 30 && en == bits v 29 29 && len == bits v 10 0
  let t := ((s.set F.GA_CTRL_ARM x arm).set F.GA_CTRL_PEND_EN x en).set F.GA_CTRL_PEND_LEN x len
  let t := t.showPending p
  (whole, if whole then t else t.raise F.GA_EVT_PEND_REFUSED [p / 64])

/-- A write of another pending register of port `p`. -/
def writeGaitPend (s : State) (r : RegSpec) (p v : Nat) : Bool × State :=
  if s.isOn F.GA_CTRL_ARM (pix p) then (false, s.raise F.GA_EVT_PEND_REFUSED [p / 64])
  else
    let x := s.writePlain r (pix p) v
    (x.1, x.2.showPending p)

/-! ## The other dies -/

/-- A write of a mirror session's register: an ignored one sets SESS_REFUSED (R383). Log 105 (DEDUCED), 106 (DEDUCED). -/
def writeSession (s : State) (r : RegSpec) (ix : List Nat) (v : Nat) : Bool × State :=
  let d := ix.headD 0
  let x := if r.base == R.EQ_SESS_BURST.base then
      s.writeBurst F.EQ_SESS_BURST_BURST ix v ((List.range 4).map fun i => bktCap (4 * d + i) (ix.getD 1 0))
    else s.writePlain r ix v
  if x.1 then x else (false, x.2.raise F.EQ_EVT_SESS_REFUSED [d])

/-- A write of BR_INJECT (R206): the port, then GO, then CANCEL. Log 180 (DEDUCED). -/
def writeInject (s : State) (d v : Nat) : State :=
  let t := s.set F.BR_INJECT_PORT [d] (bits v 8 0)
  let t := if bit v 31 then t.set F.BR_INJECT_GO [d] 1 else t
  if bit v 30 then t.set F.BR_INJECT_GO [d] 0 else t

/-- The registers of Skirt dies whose write does more than store. -/
def writeSkirt (s : State) (r : RegSpec) (ix : List Nat) (v : Nat) : Option (Bool × State) :=
  let is := fun (q : RegSpec) => r.base == q.base
  let d := ix.headD 0
  let k := ix.getD 1 0
  if is R.PG_GRP_CFG then some (s.refusable F.PG_GRP_STAT_CFG_REFUSED [d, k] fun t => t.writeGroup (8 * d + k) v)
  else if is R.PG_PORT_CTRL then
    let x := s.refusable F.PG_GRP_STAT_CFG_REFUSED [d, k / 8] fun t => t.writePortCtrl (64 * d + k) v
    some (x.1 && s.isPort (64 * d + k) && bits v 25 24 != 3 && bits v 23 22 != 3, x.2)
  else if is R.BR_INJECT then some (true, s.writeInject d v)
  else if is R.CL_PUNT_RATE then some (true, after (execPuntPolicerWrite d k false v) s)
  else if is R.CL_PUNT_BURST then some (v % 65536 != 0, after (execPuntPolicerWrite d k true v) s)
  else if is R.XT_PLAN_A then some (s.writeLookupPlan d k 0 v)
  else if is R.XT_PLAN_B then some (s.writeLookupPlan d k 1 v)
  else if is R.XT_PLAN_C then some (s.writeLookupPlan d k 2 v)
  else if is R.GA_CTRL then some (s.writeGaitCtrl (64 * d + k) v)
  else if r.isOneOf [R.GA_PEND_CYCLE, R.GA_PEND_BASE_SEC_LO, R.GA_PEND_BASE_SEC_HI, R.GA_PEND_BASE_NS] then
    some (s.writeGaitPend r (64 * d + k) v)
  else if is R.EQ_PROF then some (if bits v 31 16 ≤ bits v 15 0 then (false, s) else s.writePlain r ix v)
  else if r.isOneOf [R.EQ_SESS, R.EQ_SESS_RATE, R.EQ_SESS_BURST, R.EQ_SESS_RING] then some (s.writeSession r ix v)
  else none

/-- The registers of the Tree die's units whose write does more than store. Log 39 (DEDUCED). -/
def writeTree (s : State) (r : RegSpec) (ix : List Nat) (v : Nat) : Option (Bool × State) :=
  let is := fun (q : RegSpec) => r.base == q.base
  let i := ix.headD 0
  if is R.AW_BUDGET then some (true, after (execAwlBudgetWrite i v) s)
  else if is R.TS_PLIM then
    let x := s.writePlain r ix v
    some (x.1, x.2.showLimit i)
  else if is R.CP_DDR_CFG then some (!s.isOn F.CP_DDR_CFG_EN [], s.writeCapCfg v)
  else if is R.TL_LOG_CFG then some (!s.isOn F.TL_LOG_CFG_EN [], s.writeLogCfg v)
  else if is R.TL_TIME then some (true, after (execTallyTimeWrite v) s)
  else none

/-! ## One register write -/

/-- A write of one register word. True when every field took its value (R139, R572). Log 177 (DEDUCED), 179 (DEDUCED). -/
def writeWord (s : State) (fn : Nat) (r : RegSpec) (ix : List Nat) (v : Nat) : Bool × State :=
  let v := v % 2 ^ 32
  let own := s.writeTack r v <|> s.writeModes r v <|> s.writeEvents r ix v <|> s.writeRings fn r ix v <|> s.writeEngine r ix v
    <|> s.writeSkirt r ix v <|> s.writeTree r ix v
  match own with
  | some x => x
  | none => s.writePlain r ix v

/-- The 64-bit registers that are written as two words (R11); TK_ADDEND and ST_DBG_DATA keep their low word themselves.
Log 177 (DEDUCED). -/
def writtenPairs : List (RegSpec × RegSpec) :=
  [(R.TK_STEP_SEC_LO, R.TK_STEP_SEC_HI), (R.MD_COMMIT_SEC_LO, R.MD_COMMIT_SEC_HI), (R.RC_SQ_BASE_LO, R.RC_SQ_BASE_HI),
   (R.RC_CQ_BASE_LO, R.RC_CQ_BASE_HI), (R.RC_ER_BASE_LO, R.RC_ER_BASE_HI), (R.PG_PORT_SA_LO, R.PG_PORT_SA_HI),
   (R.GA_PEND_BASE_SEC_LO, R.GA_PEND_BASE_SEC_HI)]

/-- A write of a low word that is taken: the value is held, and the register keeps the one it has (R11). Log 177 (DEDUCED). -/
def writeLow (s : State) (fn : Nat) (lo : RegSpec) (ix : List Nat) (v : Nat) : Bool × State :=
  let x := s.writeWord fn lo ix v
  let held := BitVec.ofNat 32 (x.2.rd lo ix)
  if x.1 then (true, { x.2.wr lo ix (s.rd lo ix) with staged := x.2.staged.insert (lo.addr ix) held }) else x

/-- A write of a high word: with it the register takes the low word held, if there is one (R11). Log 177 (DEDUCED). -/
def writeHigh (s : State) (fn : Nat) (lo hi : RegSpec) (ix : List Nat) (v : Nat) : Bool × State :=
  match s.staged.find? (lo.addr ix) with
  | none => s.writeWord fn hi ix v
  | some w =>
    let t := { s with staged := s.staged.erase (lo.addr ix) }
    let x := (t.wr lo ix w.toNat).writeWord fn hi ix v
    if x.1 then x else t.writeWord fn hi ix v

/-- Function `fn` writes a register that answers it. True when every field took its value (R11, R139, R572).
Log 179 (DEDUCED). -/
def writeReg (s : State) (fn : Nat) (r : RegSpec) (ix : List Nat) (v : Nat) : Bool × State :=
  match writtenPairs.find? fun p => p.1.base == r.base || p.2.base == r.base with
  | some p => if p.1.base = r.base then s.writeLow fn r ix v else s.writeHigh fn p.1 p.2 ix v
  | none => s.writeWord fn r ix v

/-- A doorbell (R472, R473): the page of each queue. Log 146 (DEDUCED). -/
def writeDoorbell (s : State) (r : RegSpec) (ix : List Nat) (v : Nat) : Option State :=
  if r.base = R.RC_SQ_DB.base then some (after (execSqDoorbell (ix.headD 0) v) s)
  else if r.base = R.RC_CQ_DB.base then some (after (execCqDoorbell (ix.headD 0) v) s)
  else none

/-- Function `fn` writes `v` at a BAR0 offset: ignored where nothing answers (R6, R462, R494, R544). Counters of 64 bits
are read only (R11). Log 175 (DEDUCED). -/
def writeBar (s : State) (fn off v : Nat) : State :=
  match locate off with
  | some (r, ix, _) =>
    if r.wide || !s.regLive r ix || !s.regSeen fn r ix then s
    else (s.writeDoorbell r ix v).getD (s.writeReg fn r ix v).2
  | none => s

/-- The management controller writes `v` over SMBus: only the fields that R96 lists. Log 183 (DESIGN CHOICE). -/
def writeSmbus (s : State) (off v : Nat) : State :=
  match locate off with
  | some (r, ix, _) =>
    if r.isOneOf [R.TK_RET_ADDR, R.TK_EVT, R.TK_CMP_STAT] then (s.writePlain r ix v).2
    else if r.base = R.TK_WAKE_CTRL.base then (if bit v 0 then s.wakeNow else s)
    else if r.base = R.PS_CTRL.base then (if bit v 0 then s.retrySwitch else s)
    else if r.base = R.PS_STATUS.base then s.writePsStatus v
    else s
  | none => s

end State

/-! ## The commands -/

/-- HOST_PLANE_RESET: PCIe reset, a function-level reset of the PF, or MD_RESET.KIND 4 (R119); an emergency DRAIN ignores it
(R123). -/
def execHostPlaneReset (s : State) : Out :=
  done (fun s => onlyIf (s.ringPowered && s.tack.edrain.isNone) (fun s => s.hostPlaneReset) s) s

/-- PLAN_WRITE: the PF writes lookup plan register `k` of plan `p` on Skirt die `d`: 0 to 2 are XT_PLAN_A to C, 3 to 5
OS_PLAN_A to C (R265). -/
def execPlanWrite (d p k v : Nat) (s : State) : Out :=
  done (fun s =>
    onlyIf (s.ringPowered && decide (d < 8) && s.live d && decide (p < 16) && decide (k < 6))
      (fun s => (s.writeLookupPlan d p k v).2) s) s

/-- GAIT_ARM_WRITE: the PF writes GA_CTRL of port `p` (R403). -/
def execGaitArmWrite (p v : Nat) (s : State) : Out :=
  done (fun s =>
    onlyIf (s.ringPowered && decide (p < 512) && s.live (p / 64) && s.variant != .e) (fun s => (s.writeGaitCtrl p v).2) s) s

/-- REGISTER_WRITE: function `fn`, or the management controller over SMBus, writes `v` at a BAR0 offset. A write of TK_STEP_NS
moves time (R85). Log 179 (DEDUCED), 183 (DESIGN CHOICE). -/
def execRegisterWrite (smbus : Bool) (fn off v : Nat) (s : State) : Out :=
  let open_ := if smbus then s.tackRuns else s.ringPowered && (fn == 0 || decide (fn ≤ s.rc.vfs))
  if smbus then done (fun s => onlyIf open_ (fun s => s.writeSmbus off v) s) s
  else if off = R.TK_STEP_NS.base ∧ fn = 0 then doneTimed (fun s => onlyIf open_ (fun s => s.stepTime v) s) s
  else done (fun s => onlyIf open_ (fun s => s.writeBar fn off v) s) s

end Sys2Proof.Machine
end

