-- ==== Sys2Proof/Machine/Payload.lean ====
section
/-! DEFINITION. What the sections of a Pattern Book do to their units, phases 1 to 4: the shared payload form, register-write
records, device settings, features, DDR5, SerDes, ports, sub-ports, the parse graph and the rule banks (R136 to R147). -/

namespace Sys2Proof.Machine

/-- How applying a payload ends: the state with it applied; `false`, the unit rejects it; `true`, it configures an absent
unit (R137). -/
abbrev Applied := Except Bool State

/-- The unit rejects the payload (R137). -/
def rejected : Applied := .error false

/-- The payload configures an absent unit (R137). -/
def absentUnit : Applied := .error true

/-- Go on where the payload passes a test. -/
def checked (b : Bool) (f : Applied) : Applied := if b then f else rejected

/-- Apply a step for every element of a list, in order, until one fails. -/
def applyEach {α : Type} (l : List α) (f : α → State → Applied) (s : State) : Applied := l.foldlM (fun t a => f a t) s

/-- The little-endian number in `n` bytes at offset `o`. -/
def partAt (p : List Byte) (o n : Nat) : Nat := ofLe (slice p o n)

/-- The 32-bit word at offset `o`. -/
def wordAt (p : List Byte) (o : Nat) : Nat := partAt p o 4

/-- The payload header of R138 and R304 is good. -/
def headerOk (p : List Byte) (magic : Nat) : Bool :=
  decide (64 ≤ p.length) && wordAt p 0 == magic && (slice p 0x10 0x30).all (· == 0)

/-- The header is good and its two words are zero. -/
def plainHeader (p : List Byte) (magic : Nat) : Bool := headerOk p magic && wordAt p 8 == 0 && wordAt p 0xC == 0

/-- COUNT (R138). -/
def countOf (p : List Byte) : Nat := wordAt p 4

/-- `n` records of `size` bytes from offset `o` lie within the payload. -/
def holds (p : List Byte) (o size n : Nat) : Bool := decide (o + size * n ≤ p.length)

/-- `n` records of `size` bytes from offset `o`. -/
def recordsAt (p : List Byte) (o size n : Nat) : List (List Byte) := (List.range n).map fun i => slice p (o + size * i) size

/-- No value stands in a list twice. -/
def allDiffer : List Nat → Bool
  | [] => true
  | x :: r => !r.contains x && allDiffer r

namespace State

/-! ## Register-write records (R139) -/

/-- Registers that a record may not name. Log 65 (DEDUCED). -/
def loadBarred (r : RegSpec) : Bool :=
  r.isOneOf (regsID ++ regsFEAT ++ regsRC ++ regsTR ++ regsEV ++ regsPB ++ regsPS)
    || r.isOneOf [R.TK_STEP_SEC_LO, R.TK_STEP_SEC_HI, R.TK_STEP_NS, R.TK_SLEW, R.TK_ADDEND_LO, R.TK_ADDEND_HI, R.TK_RET_ADDR]
    || (r.isOneOf regsMD && !r.isOneOf [R.MD_RESID, R.MD_PREP_GUARD])
    || r.isOneOf [R.PT_PACE_MIN, R.PT_CLAIMCNT, R.TK_CMP_CNT, R.FT_LONGEST, R.PC_BW_PEAK, R.PG_GRP_FIFO_FILL, R.BM_CELL_PEAK]
    || r.wide || r.rw == 0

/-- A register that a record may write (R139). -/
def loadSettable (off : Nat) : Bool :=
  match locate off with
  | some (r, _, _) => !loadBarred r
  | none => false

/-- The loader writes a register as a driver would; a record on an isolated die is not applied (R139, R544). -/
def loadWrite (s : State) (off v : Nat) (optional : Bool) : Applied :=
  match locate off with
  | none => rejected
  | some (r, ix, _) =>
    if loadBarred r then rejected
    else if !s.variant.hasReg r ix then (if optional then .ok s else absentUnit)
    else if s.isolated (regDie r ix) then .ok s
    else if !s.regLive r ix || v % 2 ^ 32 - (v % 2 ^ 32 &&& r.rw) != 0 then rejected
    else
      let x := s.writeReg 0 r ix v
      if x.1 then .ok x.2 else rejected

/-- One record, whose offset passes `allow`. Log 65 (DEDUCED). -/
def recordWrite (allow : Nat → Bool) (b : List Byte) (s : State) : Applied :=
  let w := wordAt b 0
  checked (bits w 30 26 == 0 && w % 4 == 0 && allow (bits w 25 0)) (s.loadWrite (bits w 25 0) (wordAt b 4) (bit w 31))

/-- `n` records from offset `o`. -/
def recordWrites (p : List Byte) (o n : Nat) (allow : Nat → Bool) (s : State) : Applied :=
  checked (holds p o 8 n) (applyEach (recordsAt p o 8 n) (recordWrite allow) s)

/-! ## Table writes (R136, R284) -/

/-- A table operation of the loader: a record that would fail as one makes the unit reject the payload. -/
def loadOp (o : TOp) (s : State) : Applied :=
  match s.tableOp (.thread 0 0) o with
  | (.now 0 _, t) => .ok t
  | (.now 1 _, _) => absentUnit
  | (.seq _, t) => .ok t
  | _ => rejected

/-- Every live Skirt die of the list applies the writes issued so far; the others pass them over. Log 63 (DEDUCED). -/
def applyIssued (dies : List Nat) (s : State) : State :=
  (forEach s.liveSkirts (fun d t =>
    if dies.contains d then (List.range (t.ts.issued - t.ts.applied.at 0 d)).foldl (fun u _ => u.applyNext d) t
    else { t with ts.applied := t.ts.applied.put 0 d t.ts.issued }) s).trimLog

/-- The Skirt dies that a section reaches: the die that DIE names, or every live one (R136). Log 62 (DEDUCED). -/
def sectionDies (s : State) (die : Nat) : List Nat := if die = 0xFF then s.liveSkirts else [die]

/-- DIE names a Skirt die, or all of them. Log 62 (DEDUCED). -/
def skirtSection (die : Nat) : Bool := decide (die < 8) || die == 0xFF

/-- DIE names the Tree die, or nothing. Log 62 (DEDUCED). -/
def treeSection (die : Nat) : Bool := die == 12 || die == 0xFF

/-- The loader writes two hash seeds on the dies of a section. Log 63 (DEDUCED). -/
def writeSeeds (s : State) (dies : List Nat) (r0 r1 : RegSpec) (p : List Byte) : State :=
  forEach dies (fun d t => (t.wr r0 [d] (wordAt p 8)).wr r1 [d] (wordAt p 0xC)) s

/-! ## Phase 1: device settings and features (R140, R141) -/

/-- Section 0x0001. Log 68 (DEDUCED). -/
def sectionSettings (p : List Byte) (die : Nat) (s : State) : Applied :=
  checked (plainHeader p 0x44534554 && die == 0xFF) (s.recordWrites p 0x40 (countOf p) fun _ => true)

/-- Section 0x0002. Log 68 (DEDUCED). -/
def sectionFeatures (p : List Byte) (die : Nat) (s : State) : Applied :=
  let w := partAt p 0x40 32
  checked (plainHeader p 0x46504C59 && die == 0xFF && countOf p == 1 && holds p 0x40 32 1 && w % 2 ^ 16 == 0)
    (.ok { s with load.withhold := bits w 28 16 * 2 ^ 16 })

/-! ## Phase 2: DDR5 (R142, R502 to R504) -/

/-- A channel record. -/
def channelOk (b : List Byte) (c : Nat) : Bool :=
  wordAt b 0 == c && decide (partAt b 0x19 1 ≤ 15) && decide (partAt b 0x1A 1 ≤ 127) && (slice b 0x1B 0x25).all (· == 0)

/-- A channel's capacity in MiB with `ranks` ranks of x4 or x8 devices of 16, 24 or 32 Gb: the 64 data bits of its two
sub-channels, and no more than 32 GiB (R502). Log 214 (DEDUCED). -/
def capacityOk (width ranks cap : Nat) : Bool :=
  decide (cap ≤ 32768) && [16, 24, 32].any fun gb => cap == ranks * (64 / width) * gb * 128

/-- Section 0x0003: the memory it describes is that of R502; training starts from it. Log 68 (DEDUCED). -/
def sectionDdr (p : List Byte) (die : Nat) (s : State) : Applied :=
  let a := wordAt p 8
  let b := wordAt p 0xC
  let n := countOf p
  let cap := bits b 15 0
  let spare := bits b 31 16
  let mts := bits a 28 16
  let ok := headerOk p 0x44445235 && treeSection die && n == s.variant.channels && bits a 3 0 == n
    && decide (1 ≤ bits a 6 5) && decide (bits a 6 5 ≤ 2) && bits a 15 8 == 0 && bits a 31 29 == 0
    && [4800, 5600, 6400].contains mts && capacityOk (if bit a 4 then 8 else 4) (bits a 6 5) cap && decide (spare ≤ 16384)
    && holds p 0x40 64 n && ((List.range n).all fun c => channelOk (slice p (0x40 + 64 * c) 64) c)
  let t := ((s.set F.DM_CFG_MTS [] mts).set F.DM_CFG_CHANNELS [] n).set F.DM_SIZE_VISIBLE_MIB [] ((n * cap * 256 - spare) / 256)
  checked ok (.ok { (t.set F.DM_SPARE_PAGES [] spare).set F.DM_SPARE_FREE [] spare with ddr.x8 := bit a 4 })

/-- Section 0x0003 has been applied, and its training has not ended (R504). -/
def training (s : State) : Bool := s.get F.DM_CFG_MTS [] != 0 && !s.ddrTrained

/-! ## Phase 3: SerDes, ports, sub-ports and tenants (R143 to R145) -/

/-- A lane record. -/
def laneOk (b : List Byte) : Bool :=
  let taps := wordAt b 4
  let tap := fun (o : Nat) => absInt (signed 8 (bits taps (o + 7) o))
  bits (wordAt b 0) 31 10 == 0 && bits (wordAt b 8) 31 4 == 0 && wordAt b 0xC == 0
    && decide (tap 0 + tap 8 + bits taps 23 16 + tap 24 ≤ 128)

/-- The settings of lane `l` with no record, as 12 bytes of one: MAIN 128, the other taps 0, CTLE 8, DFE_EN and ADAPT set and
no inversion (R143). -/
def laneDefault (l : Nat) : Nat := l % 64 + 0x300 + 128 * 2 ^ 48 + 8 * 2 ^ 64

/-- The settings of lane `l` of the device. -/
def laneSettings (s : State) (l : Nat) : Nat := s.load.lanes.at (laneDefault l) l

/-- Section 0x0010: the settings of a die's lanes, by lane of the device (R143). -/
def sectionSerdes (p : List Byte) (die : Nat) (s : State) : Applied :=
  let rs := recordsAt p 0x40 16 (countOf p)
  let lane := fun (b : List Byte) => partAt b 0 1 % 64
  checked (plainHeader p 0x53455244 && decide (die < 8) && holds p 0x40 16 (countOf p) && rs.all laneOk && allDiffer (rs.map lane))
    (.ok { s with load.lanes := rs.foldl (fun m b => m.put (laneDefault (lane b)) (64 * die + lane b) (partAt b 0 12)) s.load.lanes })

/-- The registers of a port section's records by KIND, in order of offset (R144). Log 246 (DESIGN CHOICE). -/
def portRegs : Nat → List RegSpec
  | 0 => [R.PG_GRP_CFG, R.PG_GRP_FIFO]
  | 1 => [R.PG_PORT_CTRL, R.PG_PORT_LEN, R.PG_PORT_AN, R.PG_PORT_TIMERS, R.PG_PFC_CFG, R.PG_PFC_MAP, R.PG_FC_THR, R.PG_FC_HEAD,
      R.PG_PFC_WD, R.PG_TS_RX_ADJ, R.PG_TS_TX_ADJ, R.PG_SP_CFG]
  | _ => [R.PG_TPID]

/-- KIND and INDEX of a port record. -/
def portKind (b : List Byte) : Nat := partAt b 0 1
def portIndex (b : List Byte) : Nat := partAt b 1 1

/-- A port record has zeros where R144 asks for them. Log 65 (DEDUCED). -/
def portRecordOk (b : List Byte) : Bool :=
  let k := portKind b
  let n := (portRegs k).length
  decide (k ≤ 2) && partAt b 2 2 == 0 && (slice b (4 + 4 * n) (60 - 4 * n)).all (· == 0)
    && decide (portIndex b < if k = 0 then 8 else if k = 1 then 64 else 1)

/-- Write the registers of a port record; the first word passes through `f`. -/
def portRecordWrite (die : Nat) (f : Nat → Nat) (b : List Byte) (s : State) : Applied :=
  let ix := if portKind b = 2 then [die] else [die, portIndex b]
  applyEach (portRegs (portKind b)).zipIdx (fun r t =>
    let v := wordAt b (4 + 4 * r.2)
    t.loadWrite (r.1.addr ix) (if r.2 = 0 then f v else v) false) s

/-- Section 0x0011: the die and its groups, then the ports with ADMIN_UP clear, then ADMIN_UP. -/
def sectionPorts (p : List Byte) (die : Nat) (s : State) : Applied :=
  let rs := recordsAt p 0x40 64 (countOf p)
  let ports := rs.filter fun b => portKind b == 1
  let up := ports.filter fun b => bit (wordAt b 4) 31
  let port := fun (b : List Byte) (t : State) =>
    checked (t.isPort (64 * die + portIndex b)) (portRecordWrite die (fun v => v % 2 ^ 31) b t)
  let raise := fun (b : List Byte) (t : State) => t.loadWrite (R.PG_PORT_CTRL.addr [die, portIndex b]) (wordAt b 4) false
  checked (plainHeader p 0x504F5254 && decide (die < 8) && holds p 0x40 64 (countOf p) && rs.all portRecordOk)
    (((applyEach (rs.filter fun b => portKind b != 1) (portRecordWrite die id) s).bind (applyEach ports port)).bind
      (applyEach up raise))

/-- A record of section 0x0012. -/
def mapRecord (b : List Byte) (s : State) : Applied :=
  let k := wordAt b 0
  let i := partAt b 4 2
  let v := partAt b 8 8
  checked (decide (k ≤ 2) && partAt b 6 2 == 0)
    (match k with
      | 0 => s.loadOp { op := 3, tbl := 1, data := v + i * 2 ^ 64 }
      | 1 => s.loadOp { op := 2, tbl := 2, arg := i, data := v }
      | _ => s.loadOp { op := 2, tbl := 3, arg := i, data := v })

/-- Section 0x0012. -/
def sectionMaps (p : List Byte) (die : Nat) (s : State) : Applied :=
  let t := s.writeSeeds s.liveSkirts R.PG_SP_SEED0 R.PG_SP_SEED1 p
  (checked (headerOk p 0x53425054 && die == 0xFF && holds p 0x40 16 (countOf p))
    (applyEach (recordsAt p 0x40 16 (countOf p)) mapRecord t)).map (applyIssued s.liveSkirts)

/-! ## Phase 4: the parse graph and the rule banks (R146, R147, R211 to R213) -/

/-- A node entry that the loader takes, in a graph of `n` nodes. Log 66 (DEDUCED). -/
def nodeOk (n v : Nat) : Bool :=
  decide (bits v 127 123 < 15) && bits v 115 114 != 3 && bits v 18 0 == 0 && decide (bits v 26 24 ≤ 4)
    && decide (bits v 59 50 + bits v 49 46 ≤ 1024) && decide (bits v 36 27 + bits v 26 24 ≤ 1024)
    && (decide (bits v 45 37 < n) || decide (256 ≤ bits v 45 37))

/-- A transition entry that the loader takes. Log 66 (DEDUCED). -/
def transOk (n v : Nat) : Bool := v >>> 74 == 0 && (decide (bits v 72 64 < n) || decide (256 ≤ bits v 72 64))

/-- An extraction entry that the loader takes. -/
def extractOk (v : Nat) : Bool := decide (bits v 12 3 + bits v 19 13 + 1 ≤ 896) && (decide (bits v 2 0 < 4) || bits v 2 0 == 7)

/-- Write a whole table on one die. -/
def fillTable (x : Nat) (t : Tbl) (l : List Nat) (s : State) : State := l.zipIdx.foldl (fun u e => u.setTab x t e.2 e.1) s

/-- PA_GRAPH_CRC (R239): the whole parse graph as die `d` holds it, and the start bytes of every port. -/
def graphCrc (s : State) (d : Nat) : Nat :=
  let part := fun (t : Tbl) (n w : Nat) => (List.range n).flatMap fun i => leBytes (s.tab d t i) w
  crc32c (part .node 256 16 ++ part .trans 1024 16 ++ part .extract 1024 4 ++ part .starts 512 1)

/-- Section 0x0020. Log 66 (DEDUCED). -/
def sectionGraph (p : List Byte) (die : Nat) (s : State) : Applied :=
  let a := wordAt p 8
  let n := bits a 8 0
  let nt := bits a 20 10
  let ne := bits (wordAt p 0xC) 10 0
  let nodes := (recordsAt p 0x240 16 n).map ofLe
  let trans := (recordsAt p (0x240 + 16 * n) 16 nt).map ofLe
  let extr := (recordsAt p (0x240 + 16 * (n + nt)) 4 ne).map ofLe
  let starts := (slice p 0x40 512).map (·.toNat)
  let ok := headerOk p 0x50475248 && die == 0xFF && countOf p == 0 && !bit a 9 && bits a 31 21 == 0 && wordAt p 0xC >>> 11 == 0
    && decide (1 ≤ n) && decide (n ≤ 256) && decide (nt ≤ 1024) && decide (ne ≤ 1024)
    && decide (0x240 + 16 * (n + nt) + 4 * ne ≤ p.length)
    && nodes.all (nodeOk n) && trans.all (transOk n) && extr.all extractOk
    && (starts.take (64 * s.variant.skirts)).all fun b => decide (b < n)
  let own := fun (d : Nat) (t : State) =>
    (List.range 64).foldl (fun u k => u.set F.PA_START_START [d, k] (starts.getD (64 * d + k) 0)) t
  let on := fun (d : Nat) (t : State) =>
    let u := own d (fillTable d .starts starts (fillTable d .extract extr (fillTable d .trans trans (fillTable d .node nodes t))))
    u.wr R.PA_GRAPH_CRC [d] (u.graphCrc d)
  checked ok (.ok (forEach s.liveSkirts on s))

/-- A rule, with its AWL_EN on a module with Awl. Sets load in phase 8, so a rule may name one that is still to come.
Log 67 (DEDUCED). -/
def ruleRecord (b : Nat) (r : List Byte) (s : State) : Applied :=
  let v := partAt r 8 280
  if bit v 38 && s.variant == .e then absentUnit
  else checked (ruleValid v) (.ok (s.seqOne (ruleTbl b) (partAt r 0 8) (ruleForm v)).2)

/-- Sections 0x0021 and 0x0022, rule bank `b`. -/
def sectionBank (b : Nat) (p : List Byte) (die : Nat) (s : State) : Applied :=
  let a := wordAt p 8
  let np := bits a 4 0
  let nt := bits a 16 8
  let nr := countOf p
  let profs := recordsAt p 0x40 16 np
  let rules := recordsAt p (0x40 + 16 * np) 288 nr
  let tmpls := recordsAt p (0x40 + 16 * np + 288 * nr) 104 nt
  let index := fun (r : List Byte) => partAt r 0 8
  let ok := headerOk p 0x524C4B42 && die == 0xFF && wordAt p 0xC == 0 && bits a 7 5 == 0 && bits a 31 17 == 0
    && decide (np ≤ 16) && decide (nt ≤ 256) && decide (nr ≤ 16384)
    && decide (0x40 + 16 * np + 288 * nr + 104 * nt ≤ p.length)
    && (profs.all fun r => decide (index r < 16)) && (rules.all fun r => decide (index r < 16384))
    && (tmpls.all fun r => decide (index r < 256))
    && allDiffer (profs.map index) && allDiffer (rules.map index) && allDiffer (tmpls.map index)
  let prof := fun (r : List Byte) (t : State) =>
    checked (decide (partAt r 8 8 < 2 ^ 50)) (.ok (t.seqOne (profTbl b) (index r) (partAt r 8 8)).2)
  let tmpl := fun (r : List Byte) (t : State) =>
    checked (templateValid (partAt r 8 96)) (.ok (t.seqOne (tmplTbl b) (index r) (partAt r 8 96)).2)
  (checked ok (((applyEach profs prof s).bind (applyEach rules (ruleRecord b))).bind (applyEach tmpls tmpl))).map
    (applyIssued s.liveSkirts)

end State

end Sys2Proof.Machine
end

