-- ==== Sys2Proof/Machine/Sections.lean ====
section
/-! DEFINITION. The sections of phases 5 to 8, the judgement of each section, and the end of a load: the second pass, DDR5
training and entry into RUN (R102, R136, R137, R148 to R151, R260, R304, R329, R358, R404, R406, R426, R504, R544). -/

namespace Sys2Proof.Machine

/-- Put a record into a list ordered by priority, behind equal ones. -/
def insertPrio (x : Nat × Nat) : List (Nat × Nat) → List (Nat × Nat)
  | [] => [x]
  | y :: r => if State.osPrio x.2 < State.osPrio y.2 then x :: y :: r else y :: insertPrio x r

/-- The word of a microword record with its parity above it. -/
def microOf (b : List Byte) : Nat := partAt b 0x10 16 + bits (wordAt b 4) 3 0 * 2 ^ 128

/-- A microword record (R149). Log 73 (DEDUCED). -/
def microRecordOk (b : List Byte) : Bool :=
  partAt b 2 2 == 0 && wordAt b 4 >>> 4 == 0 && partAt b 8 8 == 0 && microParity (microOf b)

namespace State

/-! ## Phase 5: tables (R304, R329) -/

/-- Section 0x0030. An entry is inserted as a host's would be: only learning makes an entry LEARNED (R269). Log 64 (DEDUCED). -/
def sectionExact (p : List Byte) (die : Nat) (s : State) : Applied :=
  let ds := s.sectionDies die
  let one := fun (b : List Byte) (t : State) =>
    checked (partAt b 24 8 == 0) (t.loadOp { op := 3, tbl := 7, data := partAt b 0 24 })
  (checked (headerOk p 0x58544242 && skirtSection die && holds p 0x40 32 (countOf p))
    (applyEach (recordsAt p 0x40 32 (countOf p)) one (s.writeSeeds ds R.XT_SEED0 R.XT_SEED1 p))).map (applyIssued ds)

/-- Section 0x0031. -/
def sectionLpm (p : List Byte) (die : Nat) (s : State) : Applied :=
  let ds := s.sectionDies die
  let one := fun (b : List Byte) (t : State) => t.loadOp { op := 3, tbl := 8, data := ofLe b }
  (checked (headerOk p 0x4C504D42 && skirtSection die && holds p 0x40 32 (countOf p))
    (applyEach (recordsAt p 0x40 32 (countOf p)) one (s.writeSeeds ds R.LP_SEED0 R.LP_SEED1 p))).map (applyIssued ds)

/-- Section 0x0032: record i takes ID i; by PRIO, equal ones in record order, in the compaction layout (R321, R329). -/
def sectionOrdered (p : List Byte) (die : Nat) (s : State) : Applied :=
  let n := countOf p
  let rs := (recordsAt p 0x40 128 n).map ofLe
  let ok := plainHeader p 0x4F525342 && skirtSection die && decide (n ≤ osSize) && holds p 0x40 128 n
    && rs.all fun v => !osReserved v
  let entry := fun (e : Nat × Nat) => osForm e.1 e.2 - (if bit e.1 63 then 0 else 2 ^ 63)
  let sorted := (rs.zipIdx.map fun e => (e.2, entry e)).foldl (fun l x => insertPrio x l) []
  let s := s.osSpace
  let clear := (s.tabList 12 .os).map fun e => osWrite e.1 0
  let put := (s.osTargets (osSize - n) (List.range n) 0).map fun e => osWrite e.2 (sorted.getD e.1 (0, 0)).2
  checked ok (.ok (applyIssued (s.sectionDies die) (s.issueAll (clear ++ put))))

/-- The objects that a payload of section 0x0032 names. -/
def orderedObjects (p : List Byte) : List Nat := (recordsAt p 0x40 128 (countOf p)).map fun b => osAo (ofLe b)

/-- Section 0x0033: objects and edit lists. -/
def sectionObjects (p : List Byte) (die : Nat) (s : State) : Applied :=
  let one := fun (b : List Byte) (t : State) =>
    let object := wordAt b 0 == 0
    checked (decide (wordAt b 0 ≤ 1) && partAt b 8 8 == 0 && (!object || (slice b 0x20 176).all (· == 0)))
      (t.loadOp { op := 2, tbl := if object then 9 else 10, arg := wordAt b 4, data := partAt b 0x10 (if object then 16 else 192) })
  (checked (plainHeader p 0x414F4242 && skirtSection die && holds p 0x40 208 (countOf p))
    (applyEach (recordsAt p 0x40 208 (countOf p)) one s)).map (applyIssued (s.sectionDies die))

/-- Section 0x0034. -/
def sectionFlow (p : List Byte) (die : Nat) (s : State) : Applied :=
  let one := fun (b : List Byte) (t : State) => t.loadOp { op := 2, tbl := 15, data := ofLe b }
  let t := (s.wr R.FC_SEED0 [] (wordAt p 8)).wr R.FC_SEED1 [] (wordAt p 0xC)
  (checked (headerOk p 0x464C4342 && treeSection die && holds p 0x40 64 (countOf p))
    (applyEach (recordsAt p 0x40 64 (countOf p)) one t)).map (applyIssued s.liveSkirts)

/-! ## Phase 6: the fabric, queues and Saddlebag (R148, R358) -/

/-- Section 0x0040: no rule gives its payload a form, and the pattern of a load follows from the live Girth dies (R336).
Log 60 (DESIGN CHOICE). -/
def sectionFabric (p : List Byte) (die : Nat) (s : State) : Applied :=
  if (List.range 4).any fun g => bit (Config.fabricDies p) g && !s.variant.hasDie (8 + g) then absentUnit
  else checked (die == 0xFF && Config.fabricTakes p) (.ok s)

/-- The registers that section 0x0041 may name, by DIE. -/
def queueOffset (die off : Nat) : Bool :=
  match locate off with
  | none => false
  | some (r, ix, _) =>
    if r.isOneOf (regsEQ ++ regsLC) then die == 0xFF || ix.headD 0 == die
    else if r.isOneOf regsQM then die == 0xFF || 8 + ix.headD 0 == die
    else die == 0xFF && r.base == R.SB_POOL_LOW.base

/-- The Saddlebag record (R358). -/
def saddlebag (s : State) (b : List Byte) : Applied :=
  let n64 := partAt b 4 3
  let pool := fun (i : Nat) => (wordAt b (8 + 8 * i), partAt b (12 + 8 * i) 3)
  let resv := partAt b 0x20 3
  let span := fun (i : Nat) => ((pool i).1 * 2 ^ 20, (pool i).1 * 2 ^ 20 + (pool i).2 * poolBytes (6 + i))
  let used := [0, 1, 2].filter fun i => (pool i).2 != 0
  let zeros := partAt b 7 1 == 0 && ([0, 1, 2].all fun i => partAt b (15 + 8 * i) 1 == 0) && partAt b 0x23 1 == 0
    && partAt b 0x26 2 == 0 && (slice b 0x28 24).all (· == 0)
  let apart := used.all fun i => used.all fun j => i == j || decide ((span i).2 ≤ (span j).1) || decide ((span j).2 ≤ (span i).1)
  let inside := used.all fun i => decide ((span i).2 + 32 * 2 ^ 20 ≤ s.ddrSize)
  if s.variant = .e ∧ (!used.isEmpty ∨ resv ≠ 0) then absentUnit
  else
    let ok := wordAt b 0 == 0x53424147 && n64 % 1024 == 0 && decide (n64 ≤ 98304) && zeros && apart && inside
      && decide (resv ≤ (pool 1).2)
    let t := (s.set F.SB_TREE_SPLIT_N64 [] n64).set F.SB_POOL_CFG_COUNT [4] n64
    let t := (t.set F.SB_POOL_CFG_COUNT [5] ((6 * 2 ^ 20 - 64 * n64) / 256)).set F.SB_DEEP_RESV_PAGES [] resv
    let t := [0, 1, 2].foldl (fun (u : State) i =>
      (u.set F.SB_POOL_CFG_COUNT [6 + i] (pool i).2).wr R.SB_POOL_BASE [6 + i] (pool i).1) t
    let head := fun (g : Nat) (u : State) => (u.writeReg 0 R.BM_DEEP_HEAD [g] (partAt b 0x24 2)).2
    checked ok (.ok (if s.variant = .e then t else forEach t.liveGirths head t))

/-- Section 0x0041. Log 220 (DESIGN CHOICE). -/
def sectionQueues (p : List Byte) (die : Nat) (s : State) : Applied :=
  let sb := wordAt p 8
  let at_ := if sb = 1 then 0x80 else 0x40
  checked (headerOk p 0x51554555 && wordAt p 0xC == 0 && decide (sb ≤ 1) && (sb == 0 || (die == 0xFF && holds p 0x40 64 1))
      && (die == 0xFF || decide (die < 12)))
    ((if sb = 1 then s.saddlebag (slice p 0x40 64) else .ok s).bind (recordWrites p at_ (countOf p) (queueOffset die)))

/-! ## Phase 7: Curb, Rein, Gait and Tally definitions (R406, R426) -/

/-- A record of section 0x0042 or 0x0043: KIND, index and entry. Log 65 (DEDUCED). -/
def unitRecord (sizes : List Nat) (f : Nat → Nat → Nat → State → Applied) (b : List Byte) (s : State) : Applied :=
  let k := wordAt b 0
  let n := sizes.getD k 0
  checked (decide (k < sizes.length) && partAt b 8 8 == 0 && (slice b (16 + n) (16 - n)).all (· == 0))
    (f k (wordAt b 4) (partAt b 0x10 n) s)

/-- Section 0x0042. -/
def sectionCurb (p : List Byte) (die : Nat) (s : State) : Applied :=
  let one := unitRecord [16, 4, 4] fun k i v t => t.loadOp { op := 2, tbl := 16 + k, die := die, arg := i, data := v }
  checked (plainHeader p 0x43555242 && skirtSection die && holds p 0x40 32 (countOf p))
    (applyEach (recordsAt p 0x40 32 (countOf p)) one s)

/-- Section 0x0043: KIND 2 writes an SC register of the dies. -/
def sectionRein (p : List Byte) (die : Nat) (s : State) : Applied :=
  let one := unitRecord [16, 2, 4] fun k i v t =>
    if k < 2 then t.loadOp { op := 2, tbl := 19 + k, die := die, arg := i, data := v }
    else checked (decide (i < 0x10000) && i % 4 == 0)
      (applyEach (t.sectionDies die) (fun d u => u.loadWrite (0x890000 + 0x100000 * d + i) v false) t)
  checked (plainHeader p 0x5245494E && skirtSection die && holds p 0x40 32 (countOf p))
    (applyEach (recordsAt p 0x40 32 (countOf p)) one s)

/-- Put a Gait list into port `g` as an armed pending list (R403, R404). Log 71 (DEDUCED). -/
def putList (s : State) (g : Nat) (b : List Byte) (entries : List Nat) : State :=
  let x := pix g
  let put := fun (u : State) (e : Nat × Nat) => u.setTab (g / 64) .gaitPend (g % 64 * 1024 + e.2) e.1
  let t := entries.zipIdx.foldl put s
  let t := ((t.wr R.GA_PEND_CYCLE x (wordAt b 8)).wr R.GA_PEND_BASE_SEC_LO x (wordAt b 0x10)).wr R.GA_PEND_BASE_SEC_HI x
    (partAt b 0x14 2)
  let t := ((t.wr R.GA_PEND_BASE_NS x (wordAt b 0x18)).set F.GA_CTRL_PEND_EN x (b2n (bit (wordAt b 0) 8))).set
    F.GA_CTRL_PEND_LEN x entries.length
  (t.set F.GA_CTRL_ARM x 1).showPending g

/-- The header of a Gait record has zeros where R406 asks for them. -/
def gaitRecordOk (b : List Byte) : Bool :=
  let w := wordAt b 0
  bits w 7 6 == 0 && w >>> 9 == 0 && wordAt b 4 >>> 11 == 0 && wordAt b 0xC == 0 && wordAt b 8 >>> 30 == 0
    && partAt b 0x16 2 == 0 && wordAt b 0x18 >>> 30 == 0 && wordAt b 0x1C == 0

/-- The records of section 0x0044 from offset `o`, on a list of dies. -/
def gaitRecords (p : List Byte) (ds : List Nat) : Nat → Nat → State → Applied
  | 0, _, s => .ok s
  | n + 1, o, s =>
    let b := slice p o 32
    let len := bits (wordAt b 4) 10 0
    let es := (recordsAt p (o + 32) 8 len).map ofLe
    let one := fun (d : Nat) (t : State) =>
      let g := 64 * d + bits (wordAt b 0) 5 0
      let u := t.putList g b es
      checked (u.pendingOk g) (.ok u)
    checked (decide (o + 32 + 8 * len ≤ p.length) && gaitRecordOk b)
      ((applyEach ds one s).bind (gaitRecords p ds n (o + 32 + 8 * len)))

/-- Section 0x0044. Its lists take over when the device enters RUN (R404). -/
def sectionGait (p : List Byte) (die : Nat) (s : State) : Applied :=
  checked (plainHeader p 0x47414954 && skirtSection die) (s.gaitRecords p (s.sectionDies die) (countOf p) 0x40)

/-- Section 0x0050: the definitions in force from the start. -/
def sectionTally (p : List Byte) (die : Nat) (s : State) : Applied :=
  let one := fun (b : List Byte) (t : State) =>
    let w := wordAt b 0
    checked (bits w 15 14 == 0 && bits w 23 18 == 0 && wordAt b 4 == 0)
      (.ok (t.setTab 12 .binMap (bits w 13 0) ((w - bits w 13 0) ^^^ 0xF0010000)))
  checked (plainHeader p 0x54414C59 && die == 0xFF && holds p 0x40 8 (countOf p))
    (applyEach (recordsAt p 0x40 8 (countOf p)) one s)

/-! ## Phase 8: the Stitchers and Awl (R149, R150, R260, R450, R455) -/

/-- Section 0x0060: the Tree copy, and from it the control store, the dispatch table and program memory. Log 73 (DEDUCED). -/
def sectionMicrocode (p : List Byte) (die : Nat) (s : State) : Applied :=
  let n := countOf p
  let m := bits (wordAt p 0xC) 17 0
  let disp := (recordsAt p 0x40 4 256).map ofLe
  let rs := recordsAt p 0x440 32 n
  let prog := (recordsAt p (0x440 + 32 * n) 4 m).map ofLe
  let addr := fun (b : List Byte) => partAt b 0 2
  let ok := headerOk p 0x55434F44 && treeSection die && wordAt p 8 >>> 16 == 0 && wordAt p 0xC >>> 18 == 0 && decide (m ≤ 131072)
    && decide (n ≤ 65536) && decide (0x440 + 32 * n + 4 * m ≤ p.length)
    && (disp.zipIdx.all fun e => dispatchOk e.2 e.1) && rs.all microRecordOk && allDiffer (rs.map addr)
  let words := fun (c : Map Nat) (tbl : Nat) (l : List Nat) => l.zipIdx.foldl (fun c e => c.put 0 (key2 tbl e.2) e.1) c
  let copy := rs.foldl (fun (c : Map Nat) b => c.put 0 (key2 23 (addr b)) (microOf b ^^^ emptyMicroword)) []
  let t := { s with st.copy := words (words copy 24 disp) 25 prog }.reloadMicrocode
  checked ok (.ok (t.set F.ST_UCODE_VER_BASE [] (bits (wordAt p 8) 15 0)))

/-- A record of section 0x0061 at offset `o`, and those that follow. -/
def dataRecords (p : List Byte) : Nat → Nat → State → Applied
  | 0, _, s => .ok s
  | n + 1, o, s =>
    let w := wordAt p o
    let i := bits w 15 8
    let a := wordAt p (o + 4)
    let b := wordAt p (o + 8)
    let head := decide (o + 16 ≤ p.length) && bits w 7 2 == 0 && bits w 31 16 == 0 && wordAt p (o + 12) == 0
    match bits w 1 0 with
    | 0 =>
      checked (head && ((decide (1 ≤ i) && decide (i ≤ 19)) || (decide (32 ≤ i) && decide (i ≤ 63))))
        (((s.loadWrite (R.ST_PUNT_MAP.addr [i]) a false).bind fun t => t.loadWrite (R.ST_PUNT_ENG.addr [i]) b false).bind
          (dataRecords p n (o + 16)))
    | 1 =>
      let next := o + 16 + (b + 15) / 16 * 16
      checked (head && i == 0 && a % 8 == 0 && decide (1 ≤ b) && decide (a + b ≤ 524288) && decide (next ≤ p.length))
        (dataRecords p n next { s with st.mem := s.st.mem.putAll 0 a (slice p (o + 16) b) })
    | 2 =>
      checked (head && decide (i < 32) && b == 0)
        ((s.loadWrite (R.ST_EXC_VEC.addr [i]) a false).bind (dataRecords p n (o + 16)))
    | _ => rejected

/-- Section 0x0061. -/
def sectionStitchData (p : List Byte) (die : Nat) (s : State) : Applied :=
  checked (plainHeader p 0x53544441 && treeSection die) (s.dataRecords p (countOf p) 0x40)

/-- Section 0x0070, for the set that INSTANCE names. Log 70 (DEDUCED). -/
def sectionAwl (p : List Byte) (die inst : Nat) (s : State) : Applied :=
  checked (treeSection die) (match s.loadSet inst p with | some t => .ok t | none => rejected)

/-! ## The judgement of a section (R136, R137, R151, R544) -/

/-- A section of a known type meets its unit. -/
def meetUnit (s : State) (e : SecEntry) (p : List Byte) : Applied :=
  match e.typ with
  | 0x0001 => s.sectionSettings p e.die
  | 0x0002 => s.sectionFeatures p e.die
  | 0x0003 => s.sectionDdr p e.die
  | 0x0010 => s.sectionSerdes p e.die
  | 0x0011 => s.sectionPorts p e.die
  | 0x0012 => s.sectionMaps p e.die
  | 0x0020 => s.sectionGraph p e.die
  | 0x0021 => s.sectionBank 0 p e.die
  | 0x0022 => s.sectionBank 1 p e.die
  | 0x0030 => s.sectionExact p e.die
  | 0x0031 => s.sectionLpm p e.die
  | 0x0032 => s.sectionOrdered p e.die
  | 0x0033 => s.sectionObjects p e.die
  | 0x0034 => s.sectionFlow p e.die
  | 0x0040 => s.sectionFabric p e.die
  | 0x0041 => s.sectionQueues p e.die
  | 0x0042 => s.sectionCurb p e.die
  | 0x0043 => s.sectionRein p e.die
  | 0x0044 => s.sectionGait p e.die
  | 0x0050 => s.sectionTally p e.die
  | 0x0060 => s.sectionMicrocode p e.die
  | 0x0061 => s.sectionStitchData p e.die
  | 0x0070 => s.sectionAwl p e.die e.inst
  | _ => rejected

/-- The section configures an absent unit by its DIE or its TYPE alone. -/
def sectionAbsent (s : State) (e : SecEntry) : Bool :=
  (e.die != 0xFF && !s.variant.hasDie e.die) || (s.variant == .e && [0x0003, 0x0044, 0x0070].contains e.typ)

/-- The report takes the entry of a section with its status (R160). Log 69 (DESIGN CHOICE). -/
def reportSection (s : State) (e : SecEntry) (status : Nat) : State :=
  let r : RepEntry := { typ := e.typ, die := e.die, inst := e.inst, status := status, us := s.since s.load.secTick / 1000 }
  { s with load.report := s.load.report ++ [r], load.secTick := s.clock.tick
           load.skipped := s.load.skipped + (if 1 ≤ status ∧ status ≤ 3 then 1 else 0) }

/-- The section at the front is done with, with a status of the load report (R160). Log 61 (DEDUCED), 69 (DESIGN CHOICE). -/
def sectionDone (s : State) (e : SecEntry) (status : Nat) : State :=
  { s.reportSection e status with load.todo := s.load.todo.drop 1 }

/-- The section at the front fails the load (R154, R160). -/
def sectionFails (s : State) (e : SecEntry) (code : Nat) : State := (s.reportSection e 4).attemptFailed code

/-- The section fails the load when it is required. The DDR5 section is required wherever DDR5 is fitted (R504). -/
def sectionRequired (s : State) (e : SecEntry) : Bool := e.required || (e.typ == 0x0003 && s.variant.hasDdr)

/-- A section that is not applied fails the load with a code when it is required, and is skipped with a status when it is
optional. -/
def sectionOut (s : State) (e : SecEntry) (code status : Nat) : State :=
  if s.sectionRequired e then s.sectionFails e code else s.sectionDone e status

/-! ## The reset configuration of a unit (R137). Log 215 (DEDUCED) -/

/-- The registers of a list, on the dies that DIE reaches. -/
def ofUnit (l : List RegSpec) (die off : Nat) : Bool :=
  match locate off with
  | some (r, ix, _) => r.isOneOf l && (die == 0xFF || regDie r ix == die)
  | none => false

/-- Registers stand at their reset values again. Log 215 (DEDUCED). -/
def dropRegs (s : State) (p : Nat → Bool) : State := { s with regs := s.regs.keep fun a => !p a }

/-- Tables stand empty again on some dies. Log 215 (DEDUCED). -/
def dropTabs (s : State) (ds : List Nat) (ts : List Tbl) : State :=
  { s with tabs := ds.foldl (fun m x => ts.foldl (fun m t => m.dropRange (tkeyLo x t) (tkeyLo x t + 2 ^ 200)) m) s.tabs }

/-- The registers that the records of a payload name. -/
def namedRegs (p : List Byte) (o : Nat) (off : Nat) : Bool :=
  (recordsAt p o 8 (min (countOf p) (p.length / 8))).any fun b => bits (wordAt b 0) 25 0 == off

/-- The unit that a section of `e`'s type configures, on the dies it reaches, stands at its reset configuration (R137).
Log 61 (DEDUCED), 215 (DEDUCED). -/
def unitReset (s : State) (e : SecEntry) (p : List Byte) : State :=
  let ds := s.sectionDies e.die
  let all := ds ++ (if e.die = 0xFF then [12] else [])
  let regs := fun (l : List RegSpec) (t : State) => t.dropRegs (ofUnit l e.die)
  match e.typ with
  | 0x0001 => s.dropRegs fun off => namedRegs p 0x40 off && loadSettable off
  | 0x0002 => { s with load.withhold := 0 }
  | 0x0010 => { s with load.lanes := s.load.lanes.keep fun l => !(l / 64 == e.die) }
  | 0x0011 => regs (portRegs 0 ++ portRegs 1 ++ portRegs 2) s
  | 0x0012 => regs [R.PG_SP_SEED0, R.PG_SP_SEED1] (s.dropTabs all [.spMap, .spTab, .tenant])
  | 0x0020 => regs [R.PA_START, R.PA_GRAPH_CRC] (s.dropTabs all [.node, .trans, .extract, .starts])
  | 0x0021 => s.dropTabs all [.prof0, .rule0, .tmpl0]
  | 0x0022 => s.dropTabs all [.prof1, .rule1, .tmpl1]
  | 0x0030 => regs [R.XT_SEED0, R.XT_SEED1] (s.dropTabs all [.exact])
  | 0x0031 => regs [R.LP_SEED0, R.LP_SEED1] (s.dropTabs all [.lpm, .root, .lpWord, .vrfDef])
  | 0x0032 => s.dropTabs all [.os]
  | 0x0033 =>
    let t := s.dropTabs all [.ao, .elist]
    if e.die = 0xFF then { t with ts.aoState := [] } else t
  | 0x0034 => regs regsFC (s.dropTabs [12] [.flowMask, .flowTrans, .flowAct])
  | 0x0041 =>
    let t := s.dropRegs fun off => queueOffset e.die off
    if e.die = 0xFF then
      t.dropRegs (ofUnit [R.SB_TREE_SPLIT, R.SB_POOL_CFG, R.SB_POOL_BASE, R.SB_DEEP_RESV, R.BM_DEEP_HEAD] 0xFF) else t
  | 0x0042 => s.dropTabs ds [.policer, .spSel, .tenSel]
  | 0x0043 => regs regsSC (s.dropTabs ds [.shaper, .tgroup])
  | 0x0044 => regs [R.GA_CTRL, R.GA_PEND_CYCLE, R.GA_PEND_BASE_SEC_LO, R.GA_PEND_BASE_SEC_HI, R.GA_PEND_BASE_NS, R.GA_STAT]
      (s.dropTabs ds [.gaitPend])
  | 0x0050 => s.dropTabs [12] [.binMap]
  | 0x0060 => regs [R.ST_UCODE_VER] { s with st.copy := [] }.reloadMicrocode
  | 0x0061 => regs [R.ST_PUNT_MAP, R.ST_PUNT_ENG, R.ST_EXC_VEC] { s with st.mem := [] }
  | 0x0070 => if e.inst < 16 then s.unloadSet e.inst else s
  | _ => s

/-- The unit has rejected a section (R137). Log 61 (DEDUCED). -/
def sectionRejected (s : State) (e : SecEntry) (p : List Byte) : State :=
  if s.sectionRequired e then s.sectionFails e 12 else (s.unitReset e p).sectionDone e 3

/-- An entry of the report of this attempt changes its status: the last of its section. -/
def reviseReport (e : SecEntry) (status : Nat) : List RepEntry → List RepEntry
  | [] => []
  | r :: l =>
    let l' := reviseReport e status l
    let is := fun (q : RepEntry) => q.typ == e.typ && q.die == e.die && q.inst == e.inst
    if is r && !l.any is then { r with status := status } :: l' else r :: l'

/-- After phase 5, each section 0x0032 whose objects are not all LIVE is rejected (R329). -/
def judgeOrdered (s : State) : State :=
  let past := match s.load.todo with | e :: _ => decide (5 < sectionPhase e.typ) | [] => true
  if past && s.load.phase == .verified then
    forEach s.load.orders (fun o t =>
      if o.2.all t.aoLive then t
      else if t.sectionRequired o.1 then { t with load.report := reviseReport o.1 4 t.load.report }.attemptFailed 12
      else { t.unitReset o.1 [] with load.report := reviseReport o.1 3 t.load.report, load.skipped := t.load.skipped + 1 })
      { s with load.orders := [] }
  else s

/-- The section is judged, and applied. -/
def sectionStep (s : State) (e : SecEntry) : State :=
  let s := { s with load.applying := true }
  let p := s.flashRead (s.containerAt + e.off) e.len
  if crc32c p ≠ e.crc then s.sectionFails e 9
  else if sectionPhase e.typ = 0 then s.sectionOut e 11 2
  else if s.sectionAbsent e then s.sectionOut e 10 1
  else if e.die ≠ 0xFF && s.isolated e.die then s.sectionDone e 4
  else match s.meetUnit e p with
    | .ok t =>
      let t := if e.typ = 0x0032 then { t with load.orders := t.load.orders ++ [(e, orderedObjects p)] } else t
      t.sectionDone e 0
    | .error true => s.sectionOut e 10 1
    | .error false => s.sectionRejected e p

/-! ## The start and the end of an attempt (R102, R404, R544) -/

/-- The loader has tested every present die: `bad` names those that fail. Log 72 (DESIGN CHOICE). -/
def dieTest (s : State) (bad : Nat) : State :=
  let mark := fun (x : Nat) (t : State) => t.set F.MD_UNIT_MODE_ISOLATED [x] (b2n (bit bad x))
  forEach s.variant.dies mark (s.set F.FT_DIE_STAT_ISOLATED [] ((s.variant.dies.filter (bit bad)).map (2 ^ ·)).sum)

/-- The lists that the load armed become operating lists when TAI is trusted (R404). -/
def startGait (s : State) : State :=
  if s.timeValid then forEach s.liveSkirts (fun d t => forEach (t.armedPorts d) swapLists t) s else s

/-- The registers that show free room as the device starts. -/
def showFresh (s : State) : State :=
  let t := forEach (List.range 64) (fun g u => if u.live (g / 8) then u.showFill g else u) s
  let t := forEach t.liveGirths (fun g u => u.showCells g) (forEach t.liveSkirts State.showSlots t)
  (List.range 9).foldl (fun u n => if 4 ≤ n then u.setPoolFree n (u.get F.SB_POOL_CFG_COUNT [n]) false else u) t

/-- The device enters RUN with epoch 0. Log 182 (DESIGN CHOICE). -/
def enterRun (s : State) : State :=
  let l := s.load
  let fall := l.slot != l.preferred
  let t := (s.setAttempts l.slot 0).set F.PB_STATUS_LOADING [] 0
  let t := ((t.set F.PB_STATUS_SKIPPED [] l.skipped).set F.PB_STATUS_FALLBACK [] (b2n fall)).wr R.PB_LOAD_US []
    (t.since l.startTick / 1000 % 2 ^ 32)
  let t := if fall then t.raise F.PB_EVT_FALLBACK [] else t
  let t := { t with mode := .run, load := { l with phase := .idle, want := none }, sl.smGen := [], sl.edGen := [] }
  let t := forEach t.liveDies (fun x u => (u.set F.MD_UNIT_MODE_MODE [x] 3).set F.MD_UNIT_MODE_EPOCH [x] 0) t
  let t := (t.set F.MD_EPOCH_CURRENT [] 0).showFresh.startGait
  let t := (t.writePattern 0).writeCalendars.tallyStart
  let t := forEach (List.range 32) (fun e u => u.settle e) t
  if t.timeValid then t else t.raise F.TK_EVT_TIME_INVALID []

end State

/-! ## The commands -/

/-- LOAD_ATTEMPT: the loader chooses a slot, counts the attempt, tests the dies, of which `bad` fail, and reads and checks the
header, the table and the signature block (R122, R131, R151 steps 1 and 2, R544); Patina takes its records (R56). With no
slot it gives up; without the Tree die or a Girth die the device enters HALT. Log 72 (DESIGN CHOICE). -/
def execLoadAttempt (bad : Nat) (s : State) : Out :=
  done (fun s =>
    onlyIf (s.powered && s.mode == .load && s.load.phase == .idle) (fun s =>
      let s := if s.load.applying then s.resetConfig else s
      let p := s.preferredSlot
      let s := s.showImages
      if !s.slotUsable p && !s.slotUsable (1 - p) then s.giveUp 1
      else
        let slot := if s.slotUsable p then p else 1 - p
        let before := s.attempts slot
        let t := (s.setAttempts slot (before + 1)).setActiveSlot slot
        let t := { t with load := { t.load with phase := .checked, slot := slot, preferred := p, startTick := t.clock.tick,
                                                fail := 0, tries := t.load.tries + 1, before := before, todo := [],
                                                orders := [], skipped := 0, applying := false, lanes := [], withhold := 0 } }
        let t := ((t.set F.PB_STATUS_LOADING [] 1).set F.PB_STATUS_ACTIVE [] slot).dieTest bad
        if bit bad 12 || t.liveGirths.isEmpty then t.fatalFault { die := 12, unit := 19, cause := 2, d0 := bad }
        else
          let t := forEach t.liveDies (State.loadPlan t.newerSet) t
          if !t.flash.good then t.attemptFailed 13
          else match t.headerFail with
            | 0 => t
            | c => t.attemptFailed c) s) s

/-- SECTION_APPLY: the loader reads the next section again and applies it, skips it or has it rejected (R136, R137, R151
step 4). An Awl set waits for DDR5 training, which its shadow needs (R262). Log 69 (DESIGN CHOICE). -/
def execSectionApply (s : State) : Out :=
  done (fun s =>
    match s.load.todo with
    | [] => s
    | e :: _ =>
      onlyIf (s.powered && s.mode == .load && s.load.phase == .verified && !(e.typ == 0x0070 && s.training))
        (fun s => (s.sectionStep e).judgeOrdered) s) s

/-- DDR_TRAIN_DONE: training of every channel ends, at the DRAM temperatures `temps`; with `fail` a channel has failed, and
the load fails (R504). Log 70 (DEDUCED). -/
def execDdrTrainDone (fail : Bool) (temps : List Int) (s : State) : Out :=
  done (fun s =>
    onlyIf (s.powered && s.mode == .load && s.load.phase == .verified && s.training) (fun s =>
      if fail then s.attemptFailed 12
      else
        let one := fun (c : Nat) (t : State) =>
          let u := (t.set F.DM_CH_STAT_TRAINED [c] 1).set F.DM_CH_STAT_TEMP [c] (unsigned 8 (temps.getD c 0))
          { u with ddr.trainAt := u.ddr.trainAt.put 0 c (u.clock.tick + 1), ddr.trainTemp := u.ddr.trainTemp.put 0 c (temps.getD c 0) }
        forEach (List.range s.variant.channels) one s) s) s

/-- LOAD_COMPLETE: every section has been dealt with: the slot's count is zeroed and the device enters RUN (R102, R122, R151
step 5). -/
def execLoadComplete (s : State) : Out :=
  done (fun s =>
    onlyIf (s.powered && s.mode == .load && s.load.phase == .verified && s.load.todo.isEmpty && !s.training) State.enterRun s) s

end Sys2Proof.Machine
end

