-- ==== Sys2Proof/Machine/Dispatch.lean ====
section
/-! DEFINITION. One command: the meaning of each, by name. -/

namespace Sys2Proof.Machine

/-- The effect of a command on everything but the queue. Log 4 (DESIGN CHOICE). -/
def exec (i : Instr) (s : State) : Host.Outcome State Fault Refusal :=
  match i with
  | .frameAdmit p bytes rx fec back early => Sys2Proof.Machine.execFrameAdmit p bytes rx fec back early s
  | .ingressPass sl borrow second nm => Sys2Proof.Machine.execIngressPass sl borrow second nm s
  | .awlResult sl => Sys2Proof.Machine.execAwlResult sl s
  | .awlTimeout sl => Sys2Proof.Machine.execAwlTimeout sl s
  | .awlScan sl bad => Sys2Proof.Machine.execAwlScan sl bad s
  | .flowOp op => Sys2Proof.Machine.execFlowOp op s
  | .flowResult sl => Sys2Proof.Machine.execFlowResult sl s
  | .flowTimeout sl => Sys2Proof.Machine.execFlowTimeout sl s
  | .flowAgerVisit k => Sys2Proof.Machine.execFlowAgerVisit k s
  | .spanHoldExpiry kind sl x => Sys2Proof.Machine.execSpanHoldExpiry kind sl x s
  | .tailRecord p rest rx => Sys2Proof.Machine.execTailRecord p rest rx s
  | .timeMark d g k => Sys2Proof.Machine.execTimeMark d g k s
  | .cellCommit g how => Sys2Proof.Machine.execCellCommit g how s
  | .deepSpill g q => Sys2Proof.Machine.execDeepSpill g q s
  | .deepFill g q bad hdrBad => Sys2Proof.Machine.execDeepFill g q bad hdrBad s
  | .calendarEntry g e => Sys2Proof.Machine.execCalendarEntry g e s
  | .girthQueueVisit g q bad => Sys2Proof.Machine.execGirthQueueVisit g q bad s
  | .queueReport g q => Sys2Proof.Machine.execQueueReport g q s
  | .queueAvgUpdate g => Sys2Proof.Machine.execQueueAvgUpdate g s
  | .lacingCellArrive d g k borrow => Sys2Proof.Machine.execLacingCellArrive d g k borrow s
  | .lacingTimeout d q => Sys2Proof.Machine.execLacingTimeout d q s
  | .releaseNotice d => Sys2Proof.Machine.execReleaseNotice d s
  | .roomSignal d k c => Sys2Proof.Machine.execRoomSignal d k c s
  | .reinSelect p nm => Sys2Proof.Machine.execReinSelect p nm s
  | .frameTxDone p back => Sys2Proof.Machine.execFrameTxDone p back s
  | .egressAgeSweep p c => Sys2Proof.Machine.execEgressAgeSweep p c s
  | .gateChange p => Sys2Proof.Machine.execGateChange p s
  | .paceWindow m tokens => Sys2Proof.Machine.execPaceWindow m tokens s
  | .loopEval x paces => Sys2Proof.Machine.execLoopEval x paces s
  | .sensorRead x values => Sys2Proof.Machine.execSensorRead x values s
  | .wearTimeAdd x temp => Sys2Proof.Machine.execWearTimeAdd x temp s
  | .replanDue => Sys2Proof.Machine.execReplanDue s
  | .ptReplanWrite mask => Sys2Proof.Machine.execPtReplanWrite mask s
  | .replanClaimTimeout => Sys2Proof.Machine.execReplanClaimTimeout s
  | .probeStep p nm => Sys2Proof.Machine.execProbeStep p nm s
  | .trimStep group clean => Sys2Proof.Machine.execTrimStep group clean s
  | .planApply tj => Sys2Proof.Machine.execPlanApply tj s
  | .planRecordSave d => Sys2Proof.Machine.execPlanRecordSave d s
  | .claimRequest a x => Sys2Proof.Machine.execClaimRequest a x s
  | .claimGrant x => Sys2Proof.Machine.execClaimGrant x s
  | .claimStall x => Sys2Proof.Machine.execClaimStall x s
  | .claimResume x => Sys2Proof.Machine.execClaimResume x s
  | .claimHoldLimit x => Sys2Proof.Machine.execClaimHoldLimit x s
  | .claimRelease x => Sys2Proof.Machine.execClaimRelease x s
  | .vinQualified vin => Sys2Proof.Machine.execVinQualified vin s
  | .softStartDone => Sys2Proof.Machine.execSoftStartDone s
  | .softStartTimeout => Sys2Proof.Machine.execSoftStartTimeout s
  | .softStartRetry => Sys2Proof.Machine.execSoftStartRetry s
  | .reverseTrip => Sys2Proof.Machine.execReverseTrip s
  | .overcurrentTrip => Sys2Proof.Machine.execOvercurrentTrip s
  | .ovCut => Sys2Proof.Machine.execOvCut s
  | .switchRetry => Sys2Proof.Machine.execSwitchRetry s
  | .comparatorTrip n value avg => Sys2Proof.Machine.execComparatorTrip n value avg s
  | .emergencyDrain => Sys2Proof.Machine.execEmergencyDrain s
  | .macStop => Sys2Proof.Machine.execMacStop s
  | .tallyFreeze => Sys2Proof.Machine.execTallyFreeze s
  | .transmittersOff => Sys2Proof.Machine.execTransmittersOff s
  | .dieTotalsArrive d => Sys2Proof.Machine.execDieTotalsArrive d s
  | .lossMarkerSeal => Sys2Proof.Machine.execLossMarkerSeal s
  | .journalTailWrite => Sys2Proof.Machine.execJournalTailWrite s
  | .railsOff => Sys2Proof.Machine.execRailsOff s
  | .flashCopy => Sys2Proof.Machine.execFlashCopy s
  | .flashCopyDone n => Sys2Proof.Machine.execFlashCopyDone n s
  | .vauxReturn => Sys2Proof.Machine.execVauxReturn s
  | .vauxCycle => Sys2Proof.Machine.execVauxCycle s
  | .powerOnReset straps => Sys2Proof.Machine.execPowerOnReset straps s
  | .timeStep value => Sys2Proof.Machine.execTimeStep value s
  | .slewWrite value => Sys2Proof.Machine.execSlewWrite value s
  | .slewApply => Sys2Proof.Machine.execSlewApply s
  | .addendWrite value => Sys2Proof.Machine.execAddendWrite value s
  | .timeRead smbus frac => Sys2Proof.Machine.execTimeRead smbus frac s
  | .ppsEdge rising => Sys2Proof.Machine.execPpsEdge rising s
  | .ppsHoldover => Sys2Proof.Machine.execPpsHoldover s
  | .ppsOutPulse => Sys2Proof.Machine.execPpsOutPulse s
  | .ppsOutEnd => Sys2Proof.Machine.execPpsOutEnd s
  | .journalWrite => Sys2Proof.Machine.execJournalWrite s
  | .smbusSetOffset offset => Sys2Proof.Machine.execSmbusSetOffset offset s
  | .smbusBlockRead => Sys2Proof.Machine.execSmbusBlockRead s
  | .retDataRead smbus => Sys2Proof.Machine.execRetDataRead smbus s
  | .wakeNow smbus => Sys2Proof.Machine.execWakeNow smbus s
  | .timedWake => Sys2Proof.Machine.execTimedWake s
  | .commitGo => Sys2Proof.Machine.execCommitGo s
  | .diePrepared x hid => Sys2Proof.Machine.execDiePrepared x hid s
  | .prepDeadline => Sys2Proof.Machine.execPrepDeadline s
  | .commitApply lagging => Sys2Proof.Machine.execCommitApply lagging s
  | .applyReport x => Sys2Proof.Machine.execApplyReport x s
  | .commitLag => Sys2Proof.Machine.execCommitLag s
  | .lagRetryExpiry => Sys2Proof.Machine.execLagRetryExpiry s
  | .drainComplete => Sys2Proof.Machine.execDrainComplete s
  | .drainBound => Sys2Proof.Machine.execDrainBound s
  | .epochDrained => Sys2Proof.Machine.execEpochDrained s
  | .resetNAssert width takes => Sys2Proof.Machine.execResetNAssert width takes s
  | .resetNRelease => Sys2Proof.Machine.execResetNRelease s
  | .hostPlaneReset => Sys2Proof.Machine.execHostPlaneReset s
  | .stitcherReset => Sys2Proof.Machine.execStitcherReset s
  | .stitcherResetDone => Sys2Proof.Machine.execStitcherResetDone s
  | .forwardingRestart => Sys2Proof.Machine.execForwardingRestart s
  | .vfFlr f => Sys2Proof.Machine.execVfFlr f s
  | .loadAttempt bad => Sys2Proof.Machine.execLoadAttempt bad s
  | .loadVerified => Sys2Proof.Machine.execLoadVerified s
  | .sectionApply => Sys2Proof.Machine.execSectionApply s
  | .ddrTrainDone fail temps => Sys2Proof.Machine.execDdrTrainDone fail temps s
  | .loadComplete => Sys2Proof.Machine.execLoadComplete s
  | .loadFail flashError => Sys2Proof.Machine.execLoadFail flashError s
  | .loadTimeout => Sys2Proof.Machine.execLoadTimeout s
  | .flashReadPage => Sys2Proof.Machine.execFlashReadPage s
  | .flashProgramPage => Sys2Proof.Machine.execFlashProgramPage s
  | .flashEraseSector => Sys2Proof.Machine.execFlashEraseSector s
  | .flashCommit => Sys2Proof.Machine.execFlashCommit s
  | .flashOpDone => Sys2Proof.Machine.execFlashOpDone s
  | .fuseKeyProgram slot ok => Sys2Proof.Machine.execFuseKeyProgram slot ok s
  | .fuseKeyRevoke slot ok => Sys2Proof.Machine.execFuseKeyRevoke slot ok s
  | .fuseSecverRaise ok => Sys2Proof.Machine.execFuseSecverRaise ok s
  | .reportDataRead => Sys2Proof.Machine.execReportDataRead s
  | .groupConfigWrite g v => Sys2Proof.Machine.execGroupConfigWrite g v s
  | .calendarRebuild d => Sys2Proof.Machine.execCalendarRebuild d s
  | .portCtrlWrite p v => Sys2Proof.Machine.execPortCtrlWrite p v s
  | .anComplete p techs pause rs => Sys2Proof.Machine.execAnComplete p techs pause rs s
  | .anRestart p => Sys2Proof.Machine.execAnRestart p s
  | .linkUp l => Sys2Proof.Machine.execLinkUp l s
  | .linkDown p rx line us => Sys2Proof.Machine.execLinkDown p rx line us s
  | .flushRequest g p => Sys2Proof.Machine.execFlushRequest g p s
  | .flushMarker g p => Sys2Proof.Machine.execFlushMarker g p s
  | .pauseRx p q => Sys2Proof.Machine.execPauseRx p q s
  | .pfcRx p vec qs => Sys2Proof.Machine.execPfcRx p vec qs s
  | .macctlOtherRx p => Sys2Proof.Machine.execMacctlOtherRx p s
  | .pauseExpiry p pri => Sys2Proof.Machine.execPauseExpiry p pri s
  | .fcXoff p pri => Sys2Proof.Machine.execFcXoff p pri s
  | .fcXon p pri => Sys2Proof.Machine.execFcXon p pri s
  | .pfcRefresh p pri => Sys2Proof.Machine.execPfcRefresh p pri s
  | .fifoXoff g => Sys2Proof.Machine.execFifoXoff g s
  | .fifoXon g => Sys2Proof.Machine.execFifoXon g s
  | .pfcWdTrip p pri => Sys2Proof.Machine.execPfcWdTrip p pri s
  | .pfcWdRecover p pri => Sys2Proof.Machine.execPfcWdRecover p pri s
  | .txtsPop p => Sys2Proof.Machine.execTxtsPop p s
  | .brandInjectArm d p => Sys2Proof.Machine.execBrandInjectArm d p s
  | .brandInjectCancel d => Sys2Proof.Machine.execBrandInjectCancel d s
  | .puntArrive => Sys2Proof.Machine.execPuntArrive s
  | .puntPolicerWrite d r burst v => Sys2Proof.Machine.execPuntPolicerWrite d r burst v s
  | .awlThrottleEval temp => Sys2Proof.Machine.execAwlThrottleEval temp s
  | .awlBudgetWrite d v => Sys2Proof.Machine.execAwlBudgetWrite d v s
  | .awlSetReloaded a bad => Sys2Proof.Machine.execAwlSetReloaded a bad s
  | .scrubBurst x tbl n fixed bad => Sys2Proof.Machine.execScrubBurst x tbl n fixed bad s
  | .seqWriteApply d => Sys2Proof.Machine.execSeqWriteApply d s
  | .learnRequest => Sys2Proof.Machine.execLearnRequest s
  | .hitNotice => Sys2Proof.Machine.execHitNotice s
  | .agerVisit slot => Sys2Proof.Machine.execAgerVisit slot s
  | .ageDecide slot => Sys2Proof.Machine.execAgeDecide slot s
  | .entryReload => Sys2Proof.Machine.execEntryReload s
  | .planWrite d p k v => Sys2Proof.Machine.execPlanWrite d p k v s
  | .compactionStart => Sys2Proof.Machine.execCompactionStart s
  | .compactionMove d => Sys2Proof.Machine.execCompactionMove d s
  | .compactionDone => Sys2Proof.Machine.execCompactionDone s
  | .compactionStop => Sys2Proof.Machine.execCompactionStop s
  | .osWriteWaitTimeout => Sys2Proof.Machine.execOsWriteWaitTimeout s
  | .osThrottleEval d temp => Sys2Proof.Machine.execOsThrottleEval d temp s
  | .repattern => Sys2Proof.Machine.execRepattern s
  | .repatternResume => Sys2Proof.Machine.execRepatternResume s
  | .bufferAlloc n => Sys2Proof.Machine.execBufferAlloc n s
  | .bufferFree h => Sys2Proof.Machine.execBufferFree h s
  | .captureRecord => Sys2Proof.Machine.execCaptureRecord s
  | .sampleRecord => Sys2Proof.Machine.execSampleRecord s
  | .captureRingEnable v => Sys2Proof.Machine.execCaptureRingEnable v s
  | .gaitArmWrite p v => Sys2Proof.Machine.execGaitArmWrite p v s
  | .tallyCut => Sys2Proof.Machine.execTallyCut s
  | .tallySetDone => Sys2Proof.Machine.execTallySetDone s
  | .tallyDivert => Sys2Proof.Machine.execTallyDivert s
  | .tallyTimeWrite v => Sys2Proof.Machine.execTallyTimeWrite v s
  | .tallyLogEnable v => Sys2Proof.Machine.execTallyLogEnable v s
  | .nop e => Sys2Proof.Machine.execNop e s
  | .add e => Sys2Proof.Machine.execAdd e s
  | .sub e => Sys2Proof.Machine.execSub e s
  | .and e => Sys2Proof.Machine.execAnd e s
  | .or e => Sys2Proof.Machine.execOr e s
  | .xor e => Sys2Proof.Machine.execXor e s
  | .shl e => Sys2Proof.Machine.execShl e s
  | .shr e => Sys2Proof.Machine.execShr e s
  | .sar e => Sys2Proof.Machine.execSar e s
  | .mul e => Sys2Proof.Machine.execMul e s
  | .minu e => Sys2Proof.Machine.execMinu e s
  | .maxu e => Sys2Proof.Machine.execMaxu e s
  | .bswap e => Sys2Proof.Machine.execBswap e s
  | .clz e => Sys2Proof.Machine.execClz e s
  | .popcnt e => Sys2Proof.Machine.execPopcnt e s
  | .addImm e => Sys2Proof.Machine.execAddImm e s
  | .subImm e => Sys2Proof.Machine.execSubImm e s
  | .andImm e => Sys2Proof.Machine.execAndImm e s
  | .orImm e => Sys2Proof.Machine.execOrImm e s
  | .xorImm e => Sys2Proof.Machine.execXorImm e s
  | .shlImm e => Sys2Proof.Machine.execShlImm e s
  | .shrImm e => Sys2Proof.Machine.execShrImm e s
  | .sarImm e => Sys2Proof.Machine.execSarImm e s
  | .mulImm e => Sys2Proof.Machine.execMulImm e s
  | .minuImm e => Sys2Proof.Machine.execMinuImm e s
  | .maxuImm e => Sys2Proof.Machine.execMaxuImm e s
  | .bswapImm e => Sys2Proof.Machine.execBswapImm e s
  | .clzImm e => Sys2Proof.Machine.execClzImm e s
  | .popcntImm e => Sys2Proof.Machine.execPopcntImm e s
  | .li e => Sys2Proof.Machine.execLi e s
  | .lui e => Sys2Proof.Machine.execLui e s
  | .ld e => Sys2Proof.Machine.execLd e s
  | .st e => Sys2Proof.Machine.execSt e s
  | .beq e => Sys2Proof.Machine.execBeq e s
  | .bne e => Sys2Proof.Machine.execBne e s
  | .bltu e => Sys2Proof.Machine.execBltu e s
  | .bgeu e => Sys2Proof.Machine.execBgeu e s
  | .bf e => Sys2Proof.Machine.execBf e s
  | .jmp e => Sys2Proof.Machine.execJmp e s
  | .jal e => Sys2Proof.Machine.execJal e s
  | .jr e => Sys2Proof.Machine.execJr e s
  | .wait e => Sys2Proof.Machine.execWait e s
  | .waitDeadline e t => Sys2Proof.Machine.execWaitDeadline e t s
  | .signal e => Sys2Proof.Machine.execSignal e s
  | .chopen e => Sys2Proof.Machine.execChopen e s
  | .chw e => Sys2Proof.Machine.execChw e s
  | .chpost e => Sys2Proof.Machine.execChpost e s
  | .chr e => Sys2Proof.Machine.execChr e s
  | .chfree e => Sys2Proof.Machine.execChfree e s
  | .getpunt e => Sys2Proof.Machine.execGetpunt e s
  | .rinj e => Sys2Proof.Machine.execRinj e s
  | .hpunt e => Sys2Proof.Machine.execHpunt e s
  | .fdrop e => Sys2Proof.Machine.execFdrop e s
  | .balloc e => Sys2Proof.Machine.execBalloc e s
  | .bfree e => Sys2Proof.Machine.execBfree e s
  | .haddr e => Sys2Proof.Machine.execHaddr e s
  | .dma e => Sys2Proof.Machine.execDma e s
  | .dmaDone e t tag => Sys2Proof.Machine.execDmaDone e t tag s
  | .dmaw e => Sys2Proof.Machine.execDmaw e s
  | .crc e => Sys2Proof.Machine.execCrc e s
  | .bcopy e => Sys2Proof.Machine.execBcopy e s
  | .lwalk e => Sys2Proof.Machine.execLwalk e s
  | .hins e => Sys2Proof.Machine.execHins e s
  | .fctx e => Sys2Proof.Machine.execFctx e s
  | .mnext e => Sys2Proof.Machine.execMnext e s
  | .top e => Sys2Proof.Machine.execTop e s
  | .trap e => Sys2Proof.Machine.execTrap e s
  | .eret e => Sys2Proof.Machine.execEret e s
  | .customerOpcode e => Sys2Proof.Machine.execCustomerOpcode e s
  | .stallEnd e t => Sys2Proof.Machine.execStallEnd e t s
  | .machineCheck e a tree => Sys2Proof.Machine.execMachineCheck e a tree s
  | .microwordRewrite a => Sys2Proof.Machine.execMicrowordRewrite a s
  | .threadStop e t => Sys2Proof.Machine.execThreadStop e t s
  | .threadResume e t => Sys2Proof.Machine.execThreadResume e t s
  | .threadStep e t => Sys2Proof.Machine.execThreadStep e t s
  | .engineFreeze e on => Sys2Proof.Machine.execEngineFreeze e on s
  | .channelRelease e v => Sys2Proof.Machine.execChannelRelease e v s
  | .debugRegWrite e hi v => Sys2Proof.Machine.execDebugRegWrite e hi v s
  | .driverOk fn => Sys2Proof.Machine.execDriverOk fn s
  | .queueEnable kind fn q v => Sys2Proof.Machine.execQueueEnable kind fn q v s
  | .sqDisable q => Sys2Proof.Machine.execSqDisable q s
  | .cqDisable c => Sys2Proof.Machine.execCqDisable c s
  | .erDisable r => Sys2Proof.Machine.execErDisable r s
  | .sqDoorbell q v => Sys2Proof.Machine.execSqDoorbell q v s
  | .sqEntryFetch q n ur => Sys2Proof.Machine.execSqEntryFetch q n ur s
  | .cqDoorbell c v => Sys2Proof.Machine.execCqDoorbell c v s
  | .erHeadWrite r v => Sys2Proof.Machine.execErHeadWrite r v s
  | .completionWrite c => Sys2Proof.Machine.execCompletionWrite c s
  | .cqCoalTimer c => Sys2Proof.Machine.execCqCoalTimer c s
  | .tableRead q n ur => Sys2Proof.Machine.execTableRead q n ur s
  | .tableWrite q n ur => Sys2Proof.Machine.execTableWrite q n ur s
  | .tableInsert q n ur => Sys2Proof.Machine.execTableInsert q n ur s
  | .tableDelete q n ur => Sys2Proof.Machine.execTableDelete q n ur s
  | .bankCopy q n ur => Sys2Proof.Machine.execBankCopy q n ur s
  | .setWrite q n ur => Sys2Proof.Machine.execSetWrite q n ur s
  | .setValidate q n ur => Sys2Proof.Machine.execSetValidate q n ur s
  | .scan q n ur => Sys2Proof.Machine.execScan q n ur s
  | .ringFlashRead q n ur => Sys2Proof.Machine.execRingFlashRead q n ur s
  | .ringFlashProgram q n ur => Sys2Proof.Machine.execRingFlashProgram q n ur s
  | .ringFlashErase q n ur => Sys2Proof.Machine.execRingFlashErase q n ur s
  | .ringFlashCommit q n ur => Sys2Proof.Machine.execRingFlashCommit q n ur s
  | .ringNop q n ur => Sys2Proof.Machine.execRingNop q n ur s
  | .rxBuf q n ur => Sys2Proof.Machine.execRxBuf q n ur s
  | .rxFlushTimer q => Sys2Proof.Machine.execRxFlushTimer q s
  | .inject q n ur => Sys2Proof.Machine.execInject q n ur s
  | .injectFullTimeout q n => Sys2Proof.Machine.execInjectFullTimeout q n s
  | .pageResponse g code => Sys2Proof.Machine.execPageResponse g code s
  | .priTimeout g => Sys2Proof.Machine.execPriTimeout g s
  | .translationDone k first n r w => Sys2Proof.Machine.execTranslationDone k first n r w s
  | .atsInvalidate fn pas first n => Sys2Proof.Machine.execAtsInvalidate fn pas first n s
  | .invalidateComplete => Sys2Proof.Machine.execInvalidateComplete s
  | .retrainDue c temp => Sys2Proof.Machine.execRetrainDue c temp s
  | .retrainDone fail => Sys2Proof.Machine.execRetrainDone fail s
  | .ddrPatrolScrub o fixed bad => Sys2Proof.Machine.execDdrPatrolScrub o fixed bad s
  | .ddrUncorrectable o req a b c => Sys2Proof.Machine.execDdrUncorrectable o req a b c s
  | .pageRetire => Sys2Proof.Machine.execPageRetire s
  | .retireCopyDone => Sys2Proof.Machine.execRetireCopyDone s
  | .eventSourceWrite src v => Sys2Proof.Machine.execEventSourceWrite src v s
  | .eventDeliver src => Sys2Proof.Machine.execEventDeliver src s
  | .msixUnmask fn vec isOpen => Sys2Proof.Machine.execMsixUnmask fn vec isOpen s
  | .counterRead fn user b n => Sys2Proof.Machine.execCounterRead fn user b n s
  | .latchedRead fn off => Sys2Proof.Machine.execLatchedRead fn off s
  | .counterSelect b n v => Sys2Proof.Machine.execCounterSelect b n v s
  | .counterFreeze v => Sys2Proof.Machine.execCounterFreeze v s
  | .bwWindow => Sys2Proof.Machine.execBwWindow s
  | .bwWindowWrite v => Sys2Proof.Machine.execBwWindowWrite v s
  | .strapCrcError b o replayed => Sys2Proof.Machine.execStrapCrcError b o replayed s
  | .faultReport ext die unit cause wide d0 d1 => Sys2Proof.Machine.execFaultReport ext die unit cause wide d0 d1 s
  | .unitHang x unit n us => Sys2Proof.Machine.execUnitHang x unit n us s
  | .dieIsolate => Sys2Proof.Machine.execDieIsolate s
  | .registerWrite smbus fn off v => Sys2Proof.Machine.execRegisterWrite smbus fn off v s
  | .comparatorWindowReturn n value avg => Sys2Proof.Machine.execComparatorWindowReturn n value avg s
  | .vinUnqualified vin => Sys2Proof.Machine.execVinUnqualified vin s
  | .smbusAlertResponse => Sys2Proof.Machine.execSmbusAlertResponse s
  | .illegalOpcode e => Sys2Proof.Machine.execIllegalOpcode e s
  | .sriovEnable n => Sys2Proof.Machine.execSriovEnable n s
  | .priEnableToggle fn alloc => Sys2Proof.Machine.execPriEnableToggle fn alloc s

end Sys2Proof.Machine
end

