-- ==== Sys2Proof/Machine/Tick.lean ====
section
/-! DEFINITION. One device tick while no command waits (R83, R84, R530). -/

namespace Sys2Proof.Machine

/-- Counter `n` of block `b`, when it is programmed to count device ticks and its block runs, adds one (R529, R530). A device
tick is made for no frame, so TFILT keeps it from counting (R531). Log 2 (DESIGN CHOICE). -/
def countTick (c : Nat × Nat) (s : State) : State :=
  if s.blockRuns c.1 && !s.isOn F.PC_SEL_TFILT [c.1, c.2] then s.addCount c.1 c.2 1 else s

/-- TAI and the device tick advance by one nanosecond, and the counters of event 0x001 count it (R83, R84, R530).
Log 2 (DESIGN CHOICE). -/
def tick (s : State) : State := forEach s.ev.onTick countTick { s with clock := s.clock.advance s.addend }

end Sys2Proof.Machine
end

