-- ==== Sys2Proof/Machine/Step.lean ====
section
/-! DEFINITION. One step of the block: the command at the front of the queue, or a device tick. -/

namespace Sys2Proof.Machine

/-- The command at the front of the queue has its effect with the rest of the queue in place; on an empty queue one device
tick passes. Log 1 (DESIGN CHOICE), 2 (DESIGN CHOICE), 4 (DESIGN CHOICE). -/
def step (s : State) : Host.Outcome State Fault Refusal :=
  match s.pending with
  | [] => .next (tick s)
  | c :: r => exec c { s with pending := r }

/-- The state with the command that a word of the opcode table spells put at the front of the queue; no row has bits, so no
word spells one. Log 1 (DESIGN CHOICE). -/
def State.withFetchWord (s : State) (nbits w : Nat) : State :=
  match decodeTableWord nbits w with
  | some c => { s with pending := c :: s.pending }
  | none => s

end Sys2Proof.Machine
end

