-- ==== Sys2Proof/Machine/Lands.lean ====
section
/-! DEFINITION. The land map: which signal stands on each of the 9,216 lands, and which lands each variant connects
(R552 to R560), with the outline of R571. A land is named by its row index `r` (0 to 95) and its column `c` (1 to 96). -/

namespace Sys2Proof.Machine

/-- A signal of one DDR5 sub-channel (R558). -/
inductive MemPin where
  | ck (p : Bool) | cs (n : Nat) | ca (n : Nat) | alertN | resetN | dq (n : Nat) | cb (n : Nat) | dqs (n : Nat) (p : Bool)
  deriving DecidableEq, Repr

/-- An auxiliary land of the north-east corner (R557). -/
inductive AuxPin where
  | vaux | smbScl | smbSda | smbAlertN | smbAs (n : Nat) | resetN | thermN | cmpA | cmpB | ppsIn | ppsOut | tcxoIn
  | xspiCk | xspiCsN | xspiDqs | xspiResetN | xspiIo (n : Nat) | v1p8Flash
  deriving DecidableEq, Repr

/-- What stands on a land; `p` marks the P land of a pair. -/
inductive Land where
  | gnd | vin | rsvd
  /-- SD{die}_PG{group}_L{lane}_{TX|RX}{P|N} (R554). -/
  | serdes (die group lane : Nat) (tx p : Bool)
  /-- SD{die}_REFCLK_{P|N} (R555). -/
  | serdesClock (die : Nat) (p : Bool)
  /-- PE_RX, PE_TX, PE_REFCLK and PERST_N (R556). -/
  | pcie (lane : Nat) (tx p : Bool) | pcieClock (p : Bool) | perstN
  | aux (pin : AuxPin)
  /-- MC{channel}{A|B}_ and the signal's name (R558). -/
  | mem (channel : Nat) (subB : Bool) (pin : MemPin)
  deriving DecidableEq, Repr

/-- The letters of a row's name (R552). -/
def rowLetters : List Char := ['A', 'B', 'C', 'D', 'E', 'F', 'G', 'H', 'J', 'K', 'L', 'M', 'N', 'P', 'T', 'U', 'V', 'W', 'Y']

/-- The name of row `r` (R552). -/
def rowName (r : Nat) : List Char :=
  if r ≤ 18 then (rowLetters[r]?).toList
  else (rowLetters[(r - 19) / 19]?).toList ++ (rowLetters[(r - 19) % 19]?).toList

/-- The land at band coordinates `(u, v)` of Skirt die `d`: its row index and its column (R554). -/
def bandLand (d u v : Nat) : Nat × Nat :=
  match d with
  | 0 => (v, 13 + u)
  | 1 => (v, 49 + u)
  | 2 => (12 + u, 96 - v)
  | 3 => (48 + u, 96 - v)
  | 4 => (95 - v, 84 - u)
  | 5 => (95 - v, 48 - u)
  | 6 => (83 - u, 1 + v)
  | _ => (47 - u, 1 + v)

/-- The band a land lies in: its Skirt die and its band coordinates; no land lies in two bands (R553, R554). -/
def bandOf (r c : Nat) : Option (Nat × Nat × Nat) :=
  if r < 12 then
    if 13 ≤ c ∧ c ≤ 48 then some (0, c - 13, r)
    else if 49 ≤ c ∧ c ≤ 84 then some (1, c - 49, r)
    else none
  else if r < 84 then
    if 85 ≤ c then (if r < 48 then some (2, r - 12, 96 - c) else some (3, r - 48, 96 - c))
    else if c ≤ 12 then (if 48 ≤ r then some (6, 83 - r, c - 1) else some (7, 47 - r, c - 1))
    else none
  else if 49 ≤ c ∧ c ≤ 84 then some (4, 84 - c, 95 - r)
  else if 13 ≤ c ∧ c ≤ 48 then some (5, 48 - c, 95 - r)
  else none

/-- The step inward of each pair of lanes (R554). -/
def laneRow (l : Nat) : Nat := [0, 1, 3, 4].getD (l / 2) 0

/-- The band coordinates of a lane's land (R554). -/
def laneCoord (group lane : Nat) (tx p : Bool) : Nat × Nat :=
  (2 + 4 * (group % 8) + 2 * (lane % 2) + (if p then 0 else 1), (if tx then 6 else 0) + laneRow lane)

/-- The land of a lane of port group `group` (R554). -/
def laneLand (group lane : Nat) (tx p : Bool) : Nat × Nat :=
  let uv := laneCoord group lane tx p
  bandLand (group / 8) uv.1 uv.2

/-- What stands at band coordinates `(u, v)` of Skirt die `d` (R554, R555). -/
def bandSignal (d u v : Nat) : Land :=
  if u = 0 ∧ (v = 5 ∨ v = 6) then .serdesClock d (v == 5)
  else if u < 2 ∨ 33 < u then .gnd
  else
    match [0, 1, 3, 4].findIdx? (· == v % 6) with
    | none => .gnd
    | some k => .serdes d (8 * d + (u - 2) / 4) (2 * k + (u - 2) % 4 / 2) (decide (6 ≤ v)) ((u - 2) % 2 == 0)

/-- The north-west corner (R556). -/
def cornerNw (r c : Nat) : Land :=
  if 2 ≤ c ∧ c ≤ 9 ∧ (r = 1 ∨ r = 2) then .pcie (c - 2) false (r == 1)
  else if 2 ≤ c ∧ c ≤ 9 ∧ (r = 5 ∨ r = 6) then .pcie (c - 2) true (r == 5)
  else if r = 8 ∧ (c = 2 ∨ c = 3) then .pcieClock (c == 2)
  else if r = 8 ∧ c = 5 then .perstN
  else .gnd

/-- The lands of the north-east corner that are not GND, by row index and column (R557). -/
def cornerNePins : List (Nat × Nat × Land) :=
  [(0, 85, .aux .vaux), (0, 86, .aux .vaux), (1, 85, .aux .vaux), (1, 86, .aux .vaux),
   (2, 89, .aux .smbScl), (2, 90, .aux .smbSda), (2, 91, .aux .smbAlertN),
   (2, 92, .aux (.smbAs 0)), (2, 93, .aux (.smbAs 1)), (2, 94, .aux (.smbAs 2)),
   (3, 89, .aux .resetN), (3, 90, .aux .thermN), (3, 91, .aux .cmpA), (3, 92, .aux .cmpB),
   (4, 89, .aux .ppsIn), (4, 91, .aux .ppsOut), (4, 93, .aux .tcxoIn),
   (5, 89, .aux .xspiCk), (5, 90, .aux .xspiCsN), (5, 91, .aux .xspiDqs), (5, 92, .aux .xspiResetN),
   (7, 89, .aux .v1p8Flash), (7, 90, .aux .v1p8Flash)]
  ++ (List.range 8).map (fun i => (6, 89 + i, .aux (.xspiIo i)))
  ++ (List.range 8).map (fun i => (9, 89 + i, .rsvd))

/-- The north-east corner (R557). -/
def cornerNe (r c : Nat) : Land :=
  ((cornerNePins.find? (fun e => e.1 == r && e.2.1 == c)).map (·.2.2)).getD .gnd

/-- The eighty signals of a sub-channel in the order of their slots; `none` is the RSVD slot (R558). -/
def memSignals (subB : Bool) : List (Option MemPin) :=
  [some (.ck true), some (.ck false), some (.cs 0), some (.cs 1)]
  ++ (List.range 14).map (fun i => some (.ca i))
  ++ [some .alertN, if subB then none else some .resetN]
  ++ (List.range 5).flatMap (fun k =>
      (List.range 8).map (fun i => some (if k = 4 then .cb i else .dq (8 * k + i)))
      ++ [some (.dqs (2 * k) true), some (.dqs (2 * k) false), some (.dqs (2 * k + 1) true), some (.dqs (2 * k + 1) false)])

/-- The channel of the tile in tile row `tr` and tile column `tc`: clockwise from the north-west; the centre has none
(R558). -/
def tileChannel (tr tc : Nat) : Option Nat :=
  match tr, tc with
  | 0, 0 => some 0
  | 0, 1 => some 1
  | 0, 2 => some 2
  | 1, 2 => some 3
  | 2, 2 => some 4
  | 2, 1 => some 5
  | 2, 0 => some 6
  | 1, 0 => some 7
  | _, _ => none

/-- What stands at row offset `t` and column offset `w` of the tile of a channel: six slots a row, where `t` plus the
sub-channel's column is odd (R558). -/
def tileSignal (channel t w : Nat) : Land :=
  let w' := w % 12
  let subB := decide (12 ≤ w)
  if (t + w') % 2 = 0 then .gnd
  else
    match (memSignals subB)[6 * t + w' / 2]? with
    | some (some pin) => .mem channel subB pin
    | some none => .rsvd
    | none => .gnd

/-- The interior: eight memory tiles round the centre tile of VIN and GND (R558, R559). -/
def interiorLand (r c : Nat) : Land :=
  match tileChannel ((r - 12) / 24) ((c - 13) / 24) with
  | some ch => tileSignal ch ((r - 12) % 24) ((c - 13) % 24)
  | none => if (r + c) % 2 = 1 then .vin else .gnd

/-- What stands on the land of row index `r` (0 to 95) and column `c` (1 to 96) (R553). -/
def landAt (r c : Nat) : Land :=
  match bandOf r c with
  | some (d, u, v) => bandSignal d u v
  | none =>
    if r < 12 then (if c ≤ 12 then cornerNw r c else cornerNe r c)
    else if 84 ≤ r then .gnd
    else interiorLand r c

/-- A land is connected inside the module (R560); RSVD lands are left unconnected (R557). -/
def Variant.connects (v : Variant) : Land → Bool
  | .serdes d _ _ _ _ | .serdesClock d _ => decide (d < v.skirts)
  | .mem ch _ _ => decide (ch < v.channels)
  | .rsvd => false
  | _ => true

/-- The centre of a land in hundredths of a millimetre from the left and the top outline edges (R571). -/
def landCentre (r c : Nat) : Nat × Nat := (275 + 110 * (c - 1), 275 + 110 * r)

/-- V1P8_FLASH is on while the rails are up, and while the flash copy runs (R568). -/
def State.flashSupply (s : State) : Bool := s.get F.PS_STATUS_RAILS_ON [] == 1

end Sys2Proof.Machine
end

