-- ==== Sys2Proof/Safety.lean ====
section
/-! DEFINITION. The terms in which claims are made: a command that completes, what a state shows, and a safe run. -/

namespace Sys2Proof.Machine

/-- Command `c` completes in state `s`, in a next state of which `P` holds. -/
def Completes (c : Instr) (s : State) (P : State → Prop) : Prop := ∃ t, exec c s = .next t ∧ P t

/-- Command `c` completes in state `s` with the effect `u`: the time, the variant and the queue stay those of `s`. -/
def Does (c : Instr) (s u : State) : Prop :=
  exec c s = .next { u with clock := s.clock, variant := s.variant, pending := s.pending }

/-- TAI and the device tick lie in their ranges: seconds of 48 bits, nanoseconds below 10^9, a tick of 64 bits (R83, R84). -/
def Clock.ok (c : Clock) : Prop := c.sec < 2 ^ 48 ∧ c.ns < 1000000000 ∧ c.tick < 2 ^ 64

/-- The time of a state lies in its range. -/
def State.TimeOk (s : State) : Prop := s.clock.ok

/-- A run of `k` steps from `s` is safe: it ends in no fault and in no refusal. -/
def SafeRun (k : Nat) (s : State) : Prop := ∃ t, Sys2Proof.core.run k s = .next t

/-- The effects of a list of commands, one after the other, each with those behind it still waiting. -/
def runAll : List Instr → State → Out
  | [], s => .next { s with pending := [] }
  | c :: r, s =>
    match exec c { s with pending := r } with
    | .next t => runAll r t
    | .fault f => .fault f
    | .refused f => .refused f

/-- The frame's Brand is the CRC-32C of its bytes (R193, R197). -/
def EditSt.BrandOk (st : EditSt) : Prop := st.brand = crc32c st.bytes

/-- Every header of the list lies in the frame, and an IPv4 header has its 20 bytes. -/
def EditSt.Framed (st : EditSt) : Prop :=
  ∀ h ∈ st.hdrs, h.off + h.len ≤ st.bytes.length ∧ (h.kind = 4 → 20 ≤ h.len)

/-- Every register but those at the offsets listed reads the same. -/
def RegsBut (l : List Nat) (s t : State) : Prop := ∀ a d, a ∉ l → Map.at t.regs d a = Map.at s.regs d a

/-- Every 64-bit counter but those at the offsets listed reads the same. -/
def CtrsBut (l : List Nat) (s t : State) : Prop := ∀ a, a ∉ l → Map.at t.ctrs 0 a = Map.at s.ctrs 0 a

/-- Every byte of host memory outside the `n` bytes from key `k` up reads the same. -/
def HostBut (k n : Nat) (s t : State) : Prop := ∀ a, a < k ∨ k + n ≤ a → Map.at t.host 0 a = Map.at s.host 0 a

/-- The command `c` carries out the started entry `i` of SQ `q`, whose descriptor `is` picks out and whose turn `turn` grants,
once nothing bars it and its data are here: the operation runs, and its answer reaches the entry (R474 to R480). -/
def RunsJob (c : Nat → Nat → Bool → Instr) (turn : State → Nat → Nat → Bool) (is : Nat → Bool) : Prop :=
  (∀ (s : State) (q i : Nat) (ur : Bool) (j : Job), turn s q i = true → s.jobOf q i is = some j → j.stage = 0 →
    (opReads j.ent = 0 → s.opBarred j.fn j.ent [] = none) → entInd j.ent = false → s.opBarred j.fn j.ent j.got = none →
    ∀ r, r = s.opRun (.entry j.q j.idx) j.ent j.got 0 → Does (c q i ur) s ((r.2.layFence j r.1).jobAns j r.1)) ∧
  (∀ (s u : State) (q i : Nat) (ur : Bool) (j : Job) (fr : List (Nat × Nat)), turn s q i = true → s.jobOf q i is = some j →
    j.stage = 0 → (opReads j.ent = 0 → s.opBarred j.fn j.ent [] = none) → entInd j.ent = true → j.frags = some fr →
    (opReads j.ent = 0 ∨ entLen j.ent ≤ j.got.length) → u = s.setJob j → u.opBarred j.fn j.ent j.got = none →
    ∀ r, r = u.opRun (.entry j.q j.idx) j.ent j.got 0 → Does (c q i ur) s ((r.2.layFence j r.1).jobAns j r.1))

/-- Engine `e` stands at instruction `i` of its running thread `t`: `u` is `s` with the engine brought up to now (R430, R450). -/
def Running (e t i : Nat) (s u : State) : Prop :=
  e < 32 ∧ s.enginesUp = true ∧ u = s.settle e ∧ (u.eng e).cur = some t ∧ u.threadReady e t = true ∧ u.instrAt e t = i
    ∧ s.dispatched (insOp i) = true

/-- The command `c` executes instructions of opcode `op`: where `p` holds of the engine, the thread, the word and the state, its
effect is `f`, and the engine is brought up to now again. -/
def RunsOp (c : Nat → Instr) (op : Nat) (p : Nat → Nat → Nat → State → Prop) (f : Nat → Nat → Nat → State → State) : Prop :=
  ∀ e t i s u, Running e t i s u → insOp i = op → p e t i u → Does (c e) s ((f e t i u).settle e)

/-- The parts of the state, but for the queue and the variant, which no command changes. -/
inductive Part where
  | clock | mode | regs | ctrs | staged | latched | free | tack | modes
  | ev | flt | out | pace | load | flash | fuse
  | host | tabs | badTabs | ts | osp | awl | flow | port | sl
  | fab | shp | pool | tally | xl | rc | ddr | st
  deriving DecidableEq, Repr

/-- The part of `t` is that of `s`. -/
def Part.Same (s t : State) : Part → Prop
  | .clock => t.clock = s.clock
  | .mode => t.mode = s.mode
  | .regs => t.regs = s.regs
  | .ctrs => t.ctrs = s.ctrs
  | .staged => t.staged = s.staged
  | .latched => t.latched = s.latched
  | .free => t.free = s.free
  | .tack => t.tack = s.tack
  | .modes => t.modes = s.modes
  | .ev => t.ev = s.ev
  | .flt => t.flt = s.flt
  | .out => t.out = s.out
  | .pace => t.pace = s.pace
  | .load => t.load = s.load
  | .flash => t.flash = s.flash
  | .fuse => t.fuse = s.fuse
  | .host => t.host = s.host
  | .tabs => t.tabs = s.tabs
  | .badTabs => t.badTabs = s.badTabs
  | .ts => t.ts = s.ts
  | .osp => t.osp = s.osp
  | .awl => t.awl = s.awl
  | .flow => t.flow = s.flow
  | .port => t.port = s.port
  | .sl => t.sl = s.sl
  | .fab => t.fab = s.fab
  | .shp => t.shp = s.shp
  | .pool => t.pool = s.pool
  | .tally => t.tally = s.tally
  | .xl => t.xl = s.xl
  | .rc => t.rc = s.rc
  | .ddr => t.ddr = s.ddr
  | .st => t.st = s.st

/-- Where `t` follows `s`, only the parts listed may differ. -/
def Changes (l : List Part) (s t : State) : Prop := ∀ p : Part, p ∉ l → p.Same s t

/-- The command changes at most the parts listed. -/
def Touches (l : List Part) (c : Instr) : Prop := ∀ s t : State, exec c s = .next t → Changes l s t

/-- The command leaves the parts listed as they are. -/
def Leaves (l : List Part) (c : Instr) : Prop := ∀ s t : State, exec c s = .next t → ∀ p ∈ l, p.Same s t

end Sys2Proof.Machine
end

