-- ==== Sys2Proof/Certificates/Slice0/Obligations.lean ====
section
/-! DEFINITION. The statements for the provers. -/

open Sys2Proof Sys2Proof.Machine Sys2Proof.Machine.State

/-- A step takes the command at the front of the queue and runs it with the rest of the queue in place; on an empty queue one
device tick passes: TAI and TK_TICK advance (the model's choice, log entry 2; R83, R84). -/
def Obligations.StepTakesTheFrontCommand : Prop :=
  (∀ (s : State) (c : Instr) (r : List Instr), step { s with pending := c :: r } = exec c { s with pending := r }) ∧
  (∀ s : State, s.pending = [] → step s = .next (tick s))

/-- Every command completes, and it leaves the queue and the variant as they are. -/
def Obligations.EveryCommandKeepsTheQueue : Prop :=
  ∀ (c : Instr) (s : State), ∃ t, exec c s = .next t ∧ t.pending = s.pending ∧ t.variant = s.variant

/-- A queue runs first in, first out: as many steps as it has commands give the effects of its commands in their order. -/
def Obligations.QueueRunsInOrder : Prop :=
  ∀ (l : List Instr) (s : State), Sys2Proof.core.run l.length { s with pending := l } = runAll l s

/-- The device after power-on: STANDBY, time at zero, TK_ADDEND at 0x28_0000_0000, nothing waiting (R83, R84, R119). -/
def Obligations.ResetState : Prop :=
  State.reset.mode = .standby ∧ State.reset.pending = [] ∧ State.reset.clock.sec = 0 ∧ State.reset.clock.ns = 0 ∧
  State.reset.clock.tick = 0 ∧ State.reset.addend = 0x2800000000

/-- After reset TAI and the device tick lie in their ranges. -/
def Obligations.ResetTimeInRange : Prop :=
  State.reset.TimeOk

/-- Every step keeps TAI in its range, 48-bit seconds and nanoseconds up to 999,999,999, and the device tick in 64 bits (R83,
R84): no step, slew, discipline, reset or tick leaves it. -/
def Obligations.TimeStaysInRange : Prop :=
  ∀ s t : State, s.TimeOk → step s = .next t → t.TimeOk

/-- TK_TICK is moved by no step and no slew: a command leaves it as it is, but for the resets of the Tack Room, which start it
at zero (R84, R119). -/
def Obligations.OnlyResetsMoveTheTick : Prop :=
  ∀ (c : Instr) (s t : State), exec c s = .next t →
    t.clock.tick = s.clock.tick ∨ ((c = .vauxCycle ∨ ∃ a, c = .powerOnReset a) ∧ t.clock = {})

/-- R193: the Brand function and its laws. One bit step multiplies the reflected register by x modulo the polynomial. -/
def Obligations.BrandFunctionLaws : Prop :=
  (∀ i, i < 32 → bit polyC i = bit 0x1EDC6F41 (31 - i)) ∧ polyC < 2 ^ 32 ∧
  (∀ m : List Byte, crc32c m = crcRun polyC 0xFFFFFFFF m ^^^ 0xFFFFFFFF) ∧
  crc32c [0x31, 0x32, 0x33, 0x34, 0x35, 0x36, 0x37, 0x38, 0x39] = 0xE3069283 ∧ crc32c [] = 0 ∧
  (∀ d : List Byte, brandC0 d = crcRun polyC 0 d) ∧
  (∀ a b : List Byte, a.length = b.length → brandC0 (List.zipWith (fun x y => x ^^^ y) a b) = brandC0 a ^^^ brandC0 b) ∧
  (∀ v n : Nat, brandShift v n = crcRun polyC v (List.replicate n 0)) ∧
  (∀ v n : Nat, brandShift v n = Nat.repeat (crcBit polyC) (8 * n) v) ∧
  (∀ a b : List Byte, crc32c (a ++ b) = brandShift (crc32c a) b.length ^^^ crc32c b)

/-- The three updates of R196 turn the CRC-32C of a frame into that of the edited frame (R197): `p` before the edit, `q` behind
it. -/
def Obligations.BrandUpdatesGiveTheNewCrc : Prop :=
  (∀ p a b q : List Byte, a.length = b.length →
    brandSet (crc32c (p ++ a ++ q)) (p ++ a ++ q).length p.length a b = crc32c (p ++ b ++ q)) ∧
  (∀ p h q : List Byte, brandPush (crc32c (p ++ q)) (p ++ q).length p h = crc32c (p ++ h ++ q)) ∧
  (∀ p h q : List Byte, brandPop (crc32c (p ++ h ++ q)) (p ++ h ++ q).length p h = crc32c (p ++ q))

/-- Every edit of an edit list, with the checksum fields it updates, leaves the Brand the CRC-32C of the frame as edited, when
it was that before and the headers lie in the frame (R196, R197, R229 to R234). -/
def Obligations.EditsKeepTheBrand : Prop :=
  ∀ (tmpl : Nat → Nat) (mkey e : Nat) (st : EditSt), st.Framed → st.BrandOk → (applyEdit tmpl mkey st e).BrandOk

/-- The bank digest's way of stepping over zeros gives the CRC-32C register run over all entries in index order, those never
written as zeros (R193, R238). -/
def Obligations.SparseCrcRunsOverAllEntries : Prop :=
  ∀ (size count v : Nat) (l : List (Nat × Nat)), (l.map (·.1)).Pairwise (· < ·) → (∀ x ∈ l, x.1 < count) → size * count < 2 ^ 29 →
    v < 2 ^ 32 → crcSparse size count l 0 v
      = crcRun polyC v ((List.range count).flatMap fun i => leBytes (((l.find? fun x => x.1 == i).map (·.2)).getD 0) size)

/-- The fourteen operations on 64-bit values and what they leave in FLAGS (R437). C after SUB is the model's free value (log
entry 108). -/
def Obligations.ArithmeticResults : Prop :=
  ∀ (a b : BitVec 64) (f : Nat),
    aluResult 1 a.toNat b.toNat = (a + b).toNat ∧ aluResult 2 a.toNat b.toNat = (a - b).toNat ∧
    aluResult 3 a.toNat b.toNat = (a &&& b).toNat ∧ aluResult 4 a.toNat b.toNat = (a ||| b).toNat ∧
    aluResult 5 a.toNat b.toNat = (a ^^^ b).toNat ∧ aluResult 6 a.toNat b.toNat = (a <<< (b.toNat % 64)).toNat ∧
    aluResult 7 a.toNat b.toNat = (a >>> (b.toNat % 64)).toNat ∧
    aluResult 8 a.toNat b.toNat = (a.sshiftRight (b.toNat % 64)).toNat ∧ aluResult 9 a.toNat b.toNat = (a * b).toNat ∧
    aluResult 10 a.toNat b.toNat = min a.toNat b.toNat ∧ aluResult 11 a.toNat b.toNat = max a.toNat b.toNat ∧
    (∀ i, i < 8 → bits (aluResult 12 a.toNat b.toNat) (8 * i + 7) (8 * i) = bits a.toNat (8 * (7 - i) + 7) (8 * (7 - i))) ∧
    (a = 0 → aluResult 13 a.toNat b.toNat = 64) ∧
    (a ≠ 0 → aluResult 13 a.toNat b.toNat < 64 ∧ bit a.toNat (63 - aluResult 13 a.toNat b.toNat) = true ∧
      a.toNat < 2 ^ (64 - aluResult 13 a.toNat b.toNat)) ∧
    aluResult 14 a.toNat b.toNat = ((List.range 64).filter fun i => bit a.toNat i).length ∧
    (∀ op, 1 ≤ op → op ≤ 14 →
      bit (aluFlags f op a.toNat b.toNat) flagZ = (aluResult op a.toNat b.toNat == 0) ∧
      bit (aluFlags f op a.toNat b.toNat) flagN = bit (aluResult op a.toNat b.toNat) 63 ∧
      (∀ k, 4 ≤ k → bit (aluFlags f op a.toNat b.toNat) k = bit f k) ∧
      (2 < op → bit (aluFlags f op a.toNat b.toNat) flagC = false ∧ bit (aluFlags f op a.toNat b.toNat) flagV = false)) ∧
    bit (aluFlags f 1 a.toNat b.toNat) flagC = decide (2 ^ 64 ≤ a.toNat + b.toNat) ∧
    bit (aluFlags f 1 a.toNat b.toNat) flagV = decide ((a + b).toInt ≠ a.toInt + b.toInt) ∧
    bit (aluFlags f 2 a.toNat b.toNat) flagV = decide ((a - b).toInt ≠ a.toInt - b.toInt)

/-- R6: a register of an absent unit reads as zero and ignores writes; the access completes and changes nothing else, so it
raises no error and no event. -/
def Obligations.AbsentUnitsReadZero : Prop :=
  ∀ (s : State) (fn off v : Nat) (r : RegSpec) (ix : List Nat) (hi : Bool), locate off = some (r, ix, hi) →
    s.variant.hasReg r ix = false → s.ringPowered = true → (fn = 0 ∨ fn ≤ s.rc.vfs) →
    exec (.latchedRead fn off) s = .next { s with out.readData := 0 } ∧ exec (.registerWrite false fn off v) s = .next s

/-- R366: the cells that a frame of n bytes needs. -/
def Obligations.CellsOfAFrame : Prop :=
  ∀ (s : State) (n : Nat),
    (∃ m, s.cellsFor n false = m + 1 ∧ n ≤ 256 * m ∧ ∀ k, n ≤ 256 * k → m ≤ k) ∧
    (0 < s.cols → ∃ m, s.cellsFor n true = s.cols * m ∧ n ≤ 256 * s.cols * m ∧ ∀ k, n ≤ 256 * s.cols * k → m ≤ k)

/-- R374: the age of a frame is TAI now minus its ingress time, in units of 2^-16 ns; it is aged when its age exceeds
MD_RESID.LIMIT_US; a step of TAI changes the age by its size, so a forward step can age a frame at once. -/
def Obligations.AgeOfAFrame : Prop :=
  (∀ (s : State) (m : Meta), s.aged m = true ↔
    (s.get F.MD_RESID_LIMIT_US [] : Int) * 65536000 < (s.clock.tai : Int) * 65536 - m.t16) ∧
  (∀ (s : State) (d : Int) (c : Clock), c = s.clock.shift d → 0 ≤ (s.clock.tai : Int) + d → (s.clock.tai : Int) + d < taiSpan →
    (c.tai : Int) = s.clock.tai + d) ∧
  (∀ (s : State) (m : Meta) (d : Int), 0 ≤ (s.clock.tai : Int) + d → (s.clock.tai : Int) + d < taiSpan →
    ({ s with clock := s.clock.shift d }.aged m = true ↔
      (s.get F.MD_RESID_LIMIT_US [] : Int) * 65536000 < (s.clock.tai : Int) * 65536 - m.t16 + d * 65536))

/-- Device memory: what is written is read back, every other byte reads as before, and the canonical form is kept (R503). -/
def Obligations.DeviceMemoryWrites : Prop :=
  ∀ (s : State) (o : Nat) (bs : List Byte),
    (s.ddrPut o bs).ddrGet o bs.length = bs ∧
    (∀ a, a < o ∨ o + bs.length ≤ a → (s.ddrPut o bs).ddrGet a 1 = s.ddrGet a 1) ∧
    (s.ddr.data.wf 0 = true → (s.ddrPut o bs).ddr.data.wf 0 = true)

/-- R554: each land of a lane of a port group lies in the band of its Skirt die, and carries that lane and no other; no other
land carries it. -/
def Obligations.LandsOfTheLanes : Prop :=
  (∀ (g l : Nat) (tx p : Bool), g < 64 → l < 8 →
    landAt (laneLand g l tx p).1 (laneLand g l tx p).2 = .serdes (g / 8) g l tx p) ∧
  (∀ (r c d g l : Nat) (tx p : Bool), r < 96 → 1 ≤ c → c ≤ 96 → landAt r c = .serdes d g l tx p →
    d = g / 8 ∧ g < 64 ∧ l < 8 ∧ (r, c) = laneLand g l tx p)

/-- VIN_QUALIFIED and VIN_UNQUALIFIED record VIN, the soft start ends, times out and is retried, and the protective comparators
open the input switch, each with the registers and the wait it leaves. (R69, R71). Where a clause rests on a reading of the log
(notes/assumptions), it is the model's. -/
def Obligations.PowerCommandsComplete : Prop :=
  (∀ (s : State) (vin : Nat), s.mode ≠ .off → s.get F.TK_CMP_THR_LOW [0] + 30 < vin → vin < 6400 →
    Completes (.vinQualified vin) s fun t => t.get F.PS_STATUS_VIN_OK [] = 1 ∧ t.tack.vin = vin) ∧
  (∀ (s : State) (vin : Nat), (vin ≤ s.get F.TK_CMP_THR_LOW [0] + 30 ∨ 6400 ≤ vin) →
    Completes (.vinUnqualified vin) s fun t => t.get F.PS_STATUS_VIN_OK [] = 0 ∧ t.tack.vin = vin) ∧
  (∀ s : State, s.mode = .standby → s.get F.PS_STATUS_SS_STATE [] = 1 →
    Completes .softStartDone s fun t => t.mode = .load ∧ t.get F.PS_STATUS_SS_STATE [] = 2 ∧ t.get F.PS_STATUS_RAILS_ON [] = 1
      ∧ t.tack.wake = none ∧ t.tack.ssTries = 0) ∧
  (∀ s : State, s.mode = .standby → s.get F.PS_STATUS_SS_STATE [] = 1 → s.tack.ssTries < 2 →
    Completes .softStartTimeout s fun t => t.get F.PS_STATUS_SS_STATE [] = 0 ∧ t.tack.ssTries = s.tack.ssTries + 1
      ∧ t.tack.ssRetryAt = some (s.clock.tick + 1000000000)) ∧
  (∀ s : State, s.mode = .standby → s.get F.PS_STATUS_SS_STATE [] = 1 → s.tack.ssTries = 2 →
    Completes .softStartTimeout s fun t => t.get F.PS_STATUS_SS_STATE [] = 3 ∧ t.tack.switchHeld = true) ∧
  (∀ (s : State) (n : Nat), s.tack.ssRetryAt = some n → n ≤ s.clock.tick → s.mode = .standby → s.tack.wake.isSome = true →
    s.get F.PS_STATUS_VIN_OK [] = 1 → s.tack.switchHeld = false → s.get F.PS_STATUS_SS_STATE [] = 0 →
    Completes .softStartRetry s fun t => t.get F.PS_STATUS_SS_STATE [] = 1 ∧ t.tack.ssRetryAt = none) ∧
  (∀ s : State, s.mode ≠ .off → Completes .reverseTrip s fun t => t.get F.PS_STATUS_REV_TRIP [] = 1) ∧
  (∀ s : State, (s.get F.PS_STATUS_SS_STATE [] = 1 ∨ s.get F.PS_STATUS_SS_STATE [] = 2) →
    Completes .overcurrentTrip s fun t => t.get F.PS_STATUS_OC_LATCH [] = 1 ∧ t.get F.PS_STATUS_SS_STATE [] = 0
      ∧ t.tack.switchHeld = true) ∧
  (∀ s : State, (s.get F.PS_STATUS_SS_STATE [] = 1 ∨ s.get F.PS_STATUS_SS_STATE [] = 2) →
    Completes .ovCut s fun t => t.get F.PS_STATUS_OV_CUT [] = 1 ∧ t.get F.PS_STATUS_SS_STATE [] = 0) ∧
  (∀ s : State, s.mode = .standby →
    Completes .switchRetry s fun t => t.tack.switchHeld = false ∧ t.tack.ssTries = 0 ∧ t.get F.PS_STATUS_SS_STATE [] ≠ 3)

/-- A comparator trip and its return set the excursion, its status and its count; wakes start the power stage; each stage of an
emergency DRAIN, once due, does its own effect and no more of the drain. (R73, R97, R575, R96, R565, R78, R79, R95). Where a
clause rests on a reading of the log (notes/assumptions), it is the model's. -/
def Obligations.ProtectionCommandsComplete : Prop :=
  (∀ (s : State) (n value avg : Nat), n < 8 → s.tackRuns = true → s.compArmed n = true → bit s.tack.excursion n = false →
    s.compOutside n (compReading n value) avg = true →
    Completes (.comparatorTrip n value avg) s fun t => bit t.tack.excursion n = true ∧ t.get F.TK_CMP_STAT_TRIPPED [n] = 1
      ∧ t.get F.TK_CMP_STAT_OUTSIDE [n] = 1
      ∧ t.get F.TK_CMP_CNT_ALL [n] = satAdd (2 ^ 32 - 1) (s.get F.TK_CMP_CNT_ALL [n]) 1) ∧
  (∀ (s : State) (n value avg : Nat), n < 8 → s.compOutside n (compReading n value) avg = false →
    Completes (.comparatorWindowReturn n value avg) s fun t => bit t.tack.excursion n = false
      ∧ t.get F.TK_CMP_STAT_OUTSIDE [n] = 0 ∧ t.get F.TK_CMP_STAT_VALUE [n] = compReading n value % 2 ^ 16) ∧
  (∀ s : State, s.tackRuns = true → s.mode = .standby → Completes (.wakeNow true) s fun t => t.tack.wake = some 2 ∧ t.get F.TK_STATUS_LAST_WAKE [] = 2
      ∧ t.get F.TK_WAKE_CTRL_NOW [] = 1) ∧
  (∀ s : State, s.tackRuns = true → s.mode = .standby → s.get F.TK_WAKE_CTRL_TIMED_EN [] = 1 →
    (s.clock.sec % 2 ^ 32 + 2 ^ 32 - s.get F.TK_WAKE_SEC_ALL []) % 2 ^ 32 < 2 ^ 31 →
    Completes .timedWake s fun t => t.get F.TK_WAKE_CTRL_TIMED_EN [] = 0 ∧ t.tack.wake = some 4
      ∧ t.get F.TK_STATUS_LAST_WAKE [] = 4) ∧
  (∀ (s : State) (a : Nat), s.tackRuns = true → Completes (.smbusSetOffset a) s fun t => t.tack.smbOffset = a % 2 ^ 32) ∧
  (∀ s : State, s.tackRuns = true → s.smbAlert = true → Completes .smbusAlertResponse s fun t => t.out.readData = s.tack.smbAddr) ∧
  (∀ (s : State) (e : EDrain), s.tack.edrain = some e → e.entered = false → 300 ≤ s.since e.t0 →
    Completes .emergencyDrain s fun t => t.mode = .drain ∧ t.tack.edrain = some { e with entered := true } ∧ t.modes.odrain = none
      ∧ (t.modes.hidden.all fun h => h.reached || h.state == 5) = true) ∧
  (∀ (s : State) (e : EDrain), s.tack.edrain = some e → e.entered = true → e.macsStopped = false → 1000 ≤ s.since e.t0 →
    Does .macStop s { s with tack.edrain := some { e with macsStopped := true } }.dropPartial) ∧
  (∀ (s : State) (e : EDrain), s.tack.edrain = some e → e.macsStopped = true → e.frozen = false → 2000 ≤ s.since e.t0 →
    exec .tallyFreeze s = .next { s with tack.edrain := some { e with frozen := true }, tally.stopped := true }) ∧
  (∀ (s : State) (e : EDrain), s.tack.edrain = some e → e.frozen = true → e.txOff = false → 5000 ≤ s.since e.t0 →
    Does .transmittersOff s { s with tack.edrain := some { e with txOff := true } }.discardFlight.allPortsDown) ∧
  (∀ (s : State) (e : EDrain) (d : Nat), s.tack.edrain = some e → e.frozen = true → e.sealed = false → s.live d = true → d < 8 →
    (∀ x ∈ e.totals, x.1 ≠ d) → 2000 ≤ s.since e.t0 →
    exec (.dieTotalsArrive d) s
      = .next { s with tack.edrain := some { e with totals := e.totals ++ [(d, (s.tallyDieOctets d).1, (s.tallyDieOctets d).2)] } }) ∧
  (∀ (s : State) (e : EDrain), s.tack.edrain = some e → e.txOff = true → e.sealed = false → 8000 ≤ s.since e.t0 →
    Completes .lossMarkerSeal s fun t => t.tack.edrain = some { s.atSeal e with sealed := true }
      ∧ t.get F.TK_LM_HEAD_NEXT [] = (s.get F.TK_LM_HEAD_NEXT [] + 1) % 16
      ∧ t.retRead (0x1000 + 256 * s.get F.TK_LM_HEAD_NEXT []) (s.lossMarker (s.atSeal e)).length = s.lossMarker (s.atSeal e)) ∧
  (∀ (s : State) (e : EDrain), s.tack.haltFall = false → s.tack.edrain = some e → e.sealed = true → e.tail = false →
    12000 ≤ s.since e.t0 →
    Completes .journalTailWrite s fun t => t.tack.edrain = some { e with tail := true } ∧ t.flt.jq = []) ∧
  (∀ (s : State) (e : EDrain), s.tack.copy = .none → s.tack.haltFall = false → s.tack.edrain = some e → e.tail = true →
    15000 ≤ s.since e.t0 → s.tack.copyCalled = false → s.tack.vauxLowAt = none →
    Completes .railsOff s fun t => t.mode = .standby ∧ t.tack.edrain = none ∧ t.get F.PS_STATUS_RAILS_ON [] = 0) ∧
  (∀ (s : State) (e : EDrain), s.tack.copy = .none → s.tack.haltFall = false → s.tack.edrain = some e → e.tail = true →
    15000 ≤ s.since e.t0 → s.tack.copyCalled = true →
    Completes .railsOff s fun t => t.modes.inReset = true ∧ t.tack.copy = .due)

/-- The retention copy is started and written to flash, VAUX returns or cycles, and power-on reset leaves STANDBY with time at
zero, the flash and the fuses kept. (R81, R82, R119). Where a clause rests on a reading of the log (notes/assumptions), it is
the model's. -/
def Obligations.VauxAndFlashCopyComplete : Prop :=
  (∀ s : State, s.tack.copy = .due → exec .flashCopy s = .next { s with tack.copy := .writing, tack.copyData := s.copyImage }) ∧
  (∀ (s : State) (n : Nat), s.tack.copy = .writing →
    Completes (.flashCopyDone n) s fun t => t.tack.copy = .none ∧ t.flash = (s.flashProgram s.copyAreaAt (s.tack.copyData.take n)).flash
      ∧ (s.tack.vauxLowAt.isSome = true → t.mode = .off) ∧ (s.tack.vauxLowAt = none → t.mode = .standby)) ∧
  (∀ (s : State) (n : Nat), s.tack.vauxLowAt = some n → s.clock.tick - n ≤ 100000 → s.mode = .off → s.tack.copy = .none →
    Completes .vauxReturn s fun t => t.mode = .standby ∧ t.tack.vauxLowAt = none ∧ t.get F.PS_STATUS_VAUX_OK [] = 1) ∧
  (∀ (s : State) (n : Nat), s.tack.vauxLowAt = some n → 100000 < s.clock.tick - n → s.mode = .off → s.tack.copy = .none →
    s.tack.vauxCycled = false →
    Completes .vauxCycle s fun t => t.clock = {} ∧
      (if s.tack.vauxBack then t.mode = .standby ∧ t.tack.vauxLowAt = none else t.mode = .off ∧ t.tack.vauxCycled = true) ∧ t.rd R.MD_LAST_RESET [] = 3
      ∧ t.get F.TK_STATUS_RET_VALID [] = 1) ∧
  (∀ (s : State) (straps : Nat), Completes (.powerOnReset straps) s fun t =>
    t.mode = .standby ∧ t.clock = {} ∧ t.rd R.MD_LAST_RESET [] = 1 ∧ t.get F.PS_STATUS_VAUX_OK [] = 1
      ∧ t.get F.TK_STATUS_RET_VALID [] = 1 ∧ t.tack.smbAddr = 0x60 + straps % 8 ∧ t.flash = s.flash ∧ t.fuse = s.fuse
      ∧ t.fab = {} ∧ t.tabs = [] ∧ t.ctrs = [])

/-- Steps, slews, addend writes, PPS edges, holdover and PPS output act on TAI, TK_SLEW, TK_ADDEND and the PPS registers as the
rules give. (R85, R87, R88, R90). Where a clause rests on a reading of the log (notes/assumptions), it is the model's. -/
def Obligations.TimekeeperCompletes : Prop :=
  (∀ (s : State) (v : Nat), s.powered = true → bit v 31 = true → bits v 29 0 < 1000000000 →
    Completes (.timeStep v) s fun t => t.clock = s.clock.shift
        (signed 48 (s.get F.TK_STEP_SEC_LO_ALL [] + s.get F.TK_STEP_SEC_HI_SEC [] * 2 ^ 32) * 1000000000 + bits v 29 0)
      ∧ t.get F.TK_STATUS_TIME_VALID [] = 1) ∧
  (∀ (s : State) (v : Nat), s.powered = true → s.get F.TK_PPS_CTRL_MODE [] ≠ 2 →
    Completes (.slewWrite v) s fun t => t.slewLeft = signed 32 v) ∧
  (∀ s : State, s.tackRuns = true → 1000000 ≤ s.since s.tack.slewAt → s.slewLeft ≠ 0 →
    Completes .slewApply s fun t =>
      t.slewLeft = s.slewLeft - max (-50) (min 50 s.slewLeft) ∧ t.clock = s.clock.shift (max (-50) (min 50 s.slewLeft))) ∧
  (∀ (s : State) (v : Nat), s.powered = true → s.get F.TK_PPS_CTRL_MODE [] ≠ 2 →
    Completes (.addendWrite v) s fun t => t.addend = clamp (171798691840 - 85899345) (171798691840 + 85899345) (v % 2 ^ 40)) ∧
  (∀ (s : State) (rising : Bool), s.tackRuns = true → s.get F.TK_PPS_CTRL_MODE [] = 1 →
    rising ≠ s.isOn F.TK_PPS_CTRL_POL [] → s.ppsAccepts = true →
    Completes (.ppsEdge rising) s fun t => t.tack.ppsAccepted = some s.clock.tick ∧ t.tack.ppsEdge = some s.clock.tick
      ∧ t.rd R.TK_PPS_CAP_SEC [] = s.clock.sec % 2 ^ 32 ∧ t.get F.TK_PPS_CAP_NS_NEW [] = 1 ∧ t.get F.TK_STATUS_HOLDOVER [] = 0
      ∧ t.get F.TK_EVT_PPS_CAPTURE [] = 1 ∧ t.clock = s.clock) ∧
  (∀ s : State, s.tackRuns = true → s.get F.TK_PPS_CTRL_MODE [] ≠ 0 → s.get F.TK_STATUS_HOLDOVER [] = 0 →
    2000000000 ≤ s.since (s.tack.ppsAccepted.getD s.tack.ppsModeAt) →
    Completes .ppsHoldover s fun t => t.get F.TK_STATUS_HOLDOVER [] = 1 ∧ t.get F.TK_EVT_HOLDOVER [] = 1) ∧
  (∀ s : State, s.tackRuns = true → s.get F.TK_PPS_OUT_EN [] = 1 → s.get F.TK_PPS_OFS_OFFSET_NS [] ≤ s.clock.tai →
    s.tack.ppsOutSec ≤ (s.clock.tai - s.get F.TK_PPS_OFS_OFFSET_NS []) / 1000000000 →
    Completes .ppsOutPulse s fun t => t.out.ppsOut = true
      ∧ t.tack.ppsOutEnd = some (s.clock.tick + s.get F.TK_PPS_OUT_WIDTH_MS [] * 1000000)
      ∧ t.tack.ppsOutSec = (s.clock.tai - s.get F.TK_PPS_OFS_OFFSET_NS []) / 1000000000 + 1) ∧
  (∀ (s : State) (n : Nat), s.tack.ppsOutEnd = some n → n ≤ s.clock.tick →
    exec .ppsOutEnd s = .next { s with out.ppsOut := false, tack.ppsOutEnd := none })

/-- A pace window reports pace and slack, the loop moves the rail within its limits, a sensor out of range is excluded, wear
time adds up; claims are queued, granted, stalled, resumed, ended at their hold limit and released. (R38, R44, R49, R50, R60,
R61, R62). Where a clause rests on a reading of the log (notes/assumptions), it is the model's. -/
def Obligations.PaceAndClaimsComplete : Prop :=
  (∀ (s : State) (m tokens : Nat), m < 74 → s.powered = true → s.mode ≠ .halt → s.live (monitorDie m) = true →
    2 ^ s.get F.PT_WINDOW_WIN_LOG [] * 1000 ≤ s.since (s.pace.winAt.at 0 m) →
    Completes (.paceWindow m tokens) s fun t =>
      t.get F.PT_PACE_PACE [m] = min 65535 (tokens / 2 ^ s.get F.PT_WINDOW_WIN_LOG []) ∧ t.get F.PT_PACE_VALID [m] = 1
        ∧ t.get F.PT_PACE_MIN_SLACK [m]
            = min 65535 (tokens / 2 ^ s.get F.PT_WINDOW_WIN_LOG []) - guarantee (monitorDie m)) ∧
  (∀ (s : State) (x : Nat) (paces : List Nat), s.powered = true → s.mode ≠ .halt → s.live x = true →
    paces.length = (monitorsOf x).length → 16000 ≤ s.since (s.pace.evalAt.at 0 x) → s.get F.PT_VCORE_VNOW [x] ≤ 800 →
    Completes (.loopEval x paces) s fun t => t.pace.evalAt.at 0 x = s.clock.tick ∧ 620 ≤ t.get F.PT_VCORE_VNOW [x]
      ∧ t.get F.PT_VCORE_VNOW [x] ≤ 800) ∧
  (∀ (s : State) (x i : Nat) (v : Int), s.powered = true → s.live x = true → 10000000000 ≤ s.since (s.pace.sensedAt.at 0 x) →
    bit s.pace.rebuild x = false → i < sensorsOf x → s.pace.excluded.at 0 (key2 x i) = 0 → (v < 0 ∨ 255000 < v) →
    Completes (.sensorRead x [(i, v)]) s fun t => t.pace.excluded.at 0 (key2 x i) = 1 ∧ t.get F.PT_EVT_SENSOR_FAULT [] = 1
      ∧ t.pace.sensedAt.at 0 x = s.clock.tick) ∧
  (∀ (s : State) (x i : Nat) (v : Int), s.powered = true → s.live x = true → 10000000000 ≤ s.since (s.pace.sensedAt.at 0 x) →
    bit s.pace.rebuild x = false → i < sensorsOf x → s.pace.excluded.at 0 (key2 x i) = 0 → s.pace.sensor.at 0 (key2 x i) = 0 →
    0 ≤ v → v ≤ 255000 →
    Completes (.sensorRead x [(i, v)]) s fun t => t.pace.sensor.at 0 (key2 x i) = v.toNat + 1
      ∧ t.pace.sensedAt.at 0 x = s.clock.tick) ∧
  (∀ (s : State) (x : Nat) (temp : Int), s.running = true → s.live x = true →
    Completes (.wearTimeAdd x temp) s fun t => t.pace.eq.at 0 x = s.pace.eq.at 0 x + wearOf temp
      ∧ t.pace.runSec.at 0 x = s.pace.runSec.at 0 x + 1) ∧
  (∀ (s : State) (a x : Nat), s.running = true → s.live x = true → claimDie a x = true →
    s.holder x ≠ a → s.get F.PT_CLAIM_PARKED [x] ≠ a → (∀ r ∈ s.pace.queue.at [] x, r.act ≠ a) → s.variant ≠ .e →
    Completes (.claimRequest a x) s fun t =>
      t.pace.queue.at [] x = insertReq { at_ := s.clock.tick, act := a } (s.pace.queue.at [] x)) ∧
  (∀ (s : State) (x : Nat) (q : ClaimReq) (r : List ClaimReq), s.pace.queue.at [] x = q :: r → s.running = true → s.live x = true →
    s.holder x = 0 → s.get F.PT_CTRL_CLAIMS_EN [] = 1 → s.claimRoom q.act x = true → q.act < 6 →
    Completes (.claimGrant x) s fun t => t.holder x = q.act ∧ t.pace.queue.at [] x = r ∧ t.pace.grantAt.at 0 x = s.clock.tick
      ∧ t.pace.paused = s.pace.paused) ∧
  (∀ (s : State) (x : Nat), x < 13 → s.holder x ≠ 0 → s.holder x ≠ 5 → bit s.pace.paused x = false →
    s.claimRoom (s.holder x) x = false →
    Completes (.claimStall x) s fun t => bit t.pace.paused x = true ∧ t.holder x = s.holder x
      ∧ t.get F.PT_CLAIMCNT_STALLS [x] = satAdd 65535 (s.get F.PT_CLAIMCNT_STALLS [x]) 1 ∧ t.get F.PT_EVT_CLAIM_STALL [] = 1) ∧
  (∀ (s : State) (x : Nat), bit s.pace.paused x = true → s.holder x ≠ 5 → s.claimRoom (s.holder x) x = true →
    exec (.claimResume x) s = .next { s with pace.paused := setBit s.pace.paused x false }) ∧
  (∀ (s : State) (x : Nat), s.holder x ≠ 0 → s.holder x ≠ 5 → s.get F.PT_ACT_HOLD_US [s.holder x] ≠ 0 →
    s.get F.PT_ACT_HOLD_US [s.holder x] * 1000 ≤ s.since (s.pace.grantAt.at 0 x) →
    Completes (.claimHoldLimit x) s fun t => t.holder x = 0
      ∧ t.pace.queue.at [] x = s.pace.queue.at [] x ++ [{ at_ := s.clock.tick, act := s.holder x }]) ∧
  (∀ (s : State) (x : Nat), s.holder x ≠ 0 → Completes (.claimRelease x) s fun t =>
    t.holder x = if s.holder x = 5 then s.get F.PT_CLAIM_PARKED [x] else 0)

/-- A due die is re-planned, a driver asks for it, the claim times out, probe and trim steps are counted, and the plan is
applied to VFLOOR. (R51, R52). Where a clause rests on a reading of the log (notes/assumptions), it is the model's. -/
def Obligations.ReplanStagesComplete : Prop :=
  (∀ (s : State) (x : Nat), s.running = true → s.pace.replan = none → s.liveDies.find? (s.replanDue ·) = some x →
    Completes .replanDue s fun t => ∃ r, t.pace.replan = some r ∧ r.die = x ∧ r.askedAt = s.clock.tick) ∧
  (∀ (s : State) (mask : Nat), s.powered = true →
    Completes (.ptReplanWrite mask) s fun t =>
      t.get F.PT_REPLAN_DIE_MASK [] = s.get F.PT_REPLAN_DIE_MASK [] ||| (mask % 8192 &&& s.liveMask)) ∧
  (∀ (s : State) (r : Replan), s.pace.replan = some r → r.granted = false → r.sensorOnly = false →
    10000000000 ≤ s.since r.askedAt →
    Completes .replanClaimTimeout s fun t => t.pace.replan = some { r with sensorOnly := true }) ∧
  (∀ (s : State) (r : Replan) (p nm : Nat), s.pace.replan = some r → r.granted = true → r.sensed = true → r.probing = true →
    r.sensorOnly = false → s.mayWork 1 r.die = true → 64000 ≤ s.since r.stepAt →
    Completes (.probeStep p nm) s fun t => ∃ r', t.pace.replan = some r' ∧ r'.steps = r.steps + 1 ∧ r'.pLast = p
      ∧ (10 ≤ r.steps + 1 → r'.probing = false)) ∧
  (∀ (s : State) (r : Replan) (g : Nat), s.pace.replan = some r → r.granted = true → r.sensed = true → r.probing = false →
    r.sensorOnly = false → s.mayWork 1 r.die = true → g < trimGroups → s.pace.trimSteps.at 0 (key2 r.die g) < 4 →
    Completes (.trimStep g false) s fun t => t.pace.trimSteps.at 0 (key2 r.die g) = 4 ∧ t.pace.trim = s.pace.trim
      ∧ t.pace.replan = some { r with
          stepAt := s.clock.tick,
          trims := (g, s.pace.trim.at 65536 (key2 r.die g) - s.pace.trimSteps.at 0 (key2 r.die g) + 2) :: r.trims }) ∧
  (∀ (s : State) (r : Replan) (g : Nat), s.pace.replan = some r → r.granted = true → r.sensed = true → r.probing = false →
    r.sensorOnly = false → s.mayWork 1 r.die = true → g < trimGroups → 100000 ≤ s.since r.stepAt → s.pace.trimSteps.at 0 (key2 r.die g) < 3 →
    Completes (.trimStep g true) s fun t =>
      t.pace.trimSteps.at 0 (key2 r.die g) = s.pace.trimSteps.at 0 (key2 r.die g) + 1) ∧
  (∀ (s : State) (r : Replan) (tj : Int), s.pace.replan = some r → r.granted = true → r.sensed = true → r.probing = false →
    r.sensorOnly = false → s.mayWork 1 r.die = true → s.trimsDone r.die = true → r.die < 13 → r.vClean ≤ 800 →
    Completes (.planApply tj) s fun t => t.get F.PT_VCORE_VFLOOR [r.die] = max 620 (r.vClean + 10)
      ∧ t.pace.planSec.at 0 r.die = 0)

/-- TIME_READ, SMBus block reads, retention and report data reads, and 32-bit register reads answer the value the rules give.
(R98, R96, R11, R160). Where a clause rests on a reading of the log (notes/assumptions), it is the model's. -/
def Obligations.ReadsComplete : Prop :=
  (∀ (s : State) (frac : Nat), s.ringPowered = true →
    Completes (.timeRead false frac) s fun t => t.out.readData = s.clock.sec % 2 ^ 32
      ∧ t = { s with latched := t.latched, out.readData := s.clock.sec % 2 ^ 32 }) ∧
  (∀ (s : State) (frac : Nat), s.tackRuns = true →
    Completes (.timeRead true frac) s fun t => t.out.readData = s.clock.sec % 2 ^ 32
      ∧ t = { s with latched := t.latched, out.readData := s.clock.sec % 2 ^ 32 }) ∧
  (∀ s : State, s.ringPowered = true →
    Completes (.retDataRead false) s fun t => t.out.readData = s.retGet (4 * s.get F.TK_RET_ADDR_WORD []) 4
      ∧ t.get F.TK_RET_ADDR_WORD [] = (s.get F.TK_RET_ADDR_WORD [] + 1) % 2 ^ 16) ∧
  (∀ s : State, s.tackRuns = true →
    Completes (.retDataRead true) s fun t => t.out.readData = s.retGet (4 * s.get F.TK_RET_ADDR_WORD []) 4
      ∧ t.get F.TK_RET_ADDR_WORD [] = (s.get F.TK_RET_ADDR_WORD [] + 1) % 2 ^ 16) ∧
  (∀ s : State, s.tackRuns = true → Does .smbusBlockRead s (s.readSmbus s.tack.smbOffset)) ∧
  (∀ (s : State) (fn off : Nat), s.ringPowered = true → (fn = 0 ∨ fn ≤ s.rc.vfs) →
    Does (.latchedRead fn off) s (s.readBar fn off)) ∧
  (∀ s : State, s.powered = true →
    Completes .reportDataRead s fun t => t.get F.PB_RPT_ADDR_WORD [] = (s.get F.PB_RPT_ADDR_WORD [] + 1) % 2 ^ 14
      ∧ (8 + 4 * s.load.report.length ≤ s.get F.PB_RPT_ADDR_WORD [] → t.out.readData = 0))

/-- A flash operation is started and ends, keys are programmed and revoked, SECVER is raised, and the plan record is saved.
(R160, R158, R159, R56). Where a clause rests on a reading of the log (notes/assumptions), it is the model's. -/
def Obligations.FlashAndFusesComplete : Prop :=
  (∀ s : State, s.powered = true → s.get F.PB_FLASH_CMD_GO [] = 0 →
    s.flashRefused 0 (s.get F.PB_FLASH_ADDR_PAGE [] * 256) = false →
    Completes .flashReadPage s fun t => t.load.flashOp = some (0, s.get F.PB_FLASH_ADDR_PAGE [] * 256)
      ∧ t.get F.PB_FLASH_CMD_GO [] = 1 ∧ t.flash = s.flash) ∧
  (∀ s : State, s.powered = true → s.get F.PB_FLASH_CMD_GO [] = 0 →
    s.flashRefused 1 (s.get F.PB_FLASH_ADDR_PAGE [] * 256) = false →
    Completes .flashProgramPage s fun t => t.load.flashOp = some (1, s.get F.PB_FLASH_ADDR_PAGE [] * 256)
      ∧ t.get F.PB_FLASH_CMD_GO [] = 1 ∧ t.flash = s.flash) ∧
  (∀ s : State, s.powered = true → s.get F.PB_FLASH_CMD_GO [] = 0 →
    s.flashRefused 2 (s.get F.PB_FLASH_ADDR_PAGE [] * 256) = false →
    Completes .flashEraseSector s fun t => t.load.flashOp = some (2, s.get F.PB_FLASH_ADDR_PAGE [] * 256)
      ∧ t.get F.PB_FLASH_CMD_GO [] = 1 ∧ t.flash = s.flash) ∧
  (∀ s : State, s.powered = true → s.get F.PB_FLASH_CMD_GO [] = 0 →
    s.flashRefused 3 (s.get F.PB_FLASH_ADDR_PAGE [] * 256) = false →
    Completes .flashCommit s fun t => t.load.flashOp = some (3, s.get F.PB_FLASH_ADDR_PAGE [] * 256)
      ∧ t.get F.PB_FLASH_CMD_GO [] = 1 ∧ t.flash = s.flash) ∧
  (∀ (s : State) (a : Nat), s.patinaWrites = false → s.load.flashOp = some (0, a) →
    Completes .flashOpDone s fun t => t.load.flashOp = none ∧ t.flash = s.flash
      ∧ t.get F.PB_EVT_FLASH_DONE [] = 1) ∧
  (∀ (s : State) (a : Nat), s.patinaWrites = false → s.load.flashOp = some (1, a) →
    Completes .flashOpDone s fun t => t.load.flashOp = none ∧ t.get F.PB_EVT_FLASH_DONE [] = 1
      ∧ t.flash = (s.flashProgram a (s.flashBuffer.take 256)).flash ∧ t.get F.PB_FLASH_CMD_GO [] = 0) ∧
  (∀ (s : State) (a : Nat), s.patinaWrites = false → s.load.flashOp = some (2, a) →
    Completes .flashOpDone s fun t => t.load.flashOp = none ∧ t.get F.PB_EVT_FLASH_DONE [] = 1
      ∧ t.flash = (s.flashErase a).flash ∧ t.get F.PB_FLASH_CMD_GO [] = 0) ∧
  (∀ (s : State) (a : Nat), s.patinaWrites = false → s.load.flashOp = some (3, a) →
    Completes .flashOpDone s fun t => t.load.flashOp = none ∧ t.get F.PB_EVT_FLASH_DONE [] = 1) ∧
  (∀ (s : State) (slot : Nat), s.fuseOpen = true → bit (s.get F.PB_FUSE_KEYS_PROGRAMMED []) (slot % 4) = false →
    Completes (.fuseKeyProgram slot true) s fun t =>
      t.get F.PB_FUSE_KEYS_PROGRAMMED [] = s.get F.PB_FUSE_KEYS_PROGRAMMED [] + 2 ^ (slot % 4)
      ∧ t.fuse.hash = s.fuse.hash.put 0 (slot % 4) (ofBe (s.flashBuffer.take 48))
      ∧ t.get F.PB_FUSE_KEYS_REVOKED [] = s.get F.PB_FUSE_KEYS_REVOKED []) ∧
  (∀ (s : State) (slot : Nat), s.fuseOpen = true →
    Completes (.fuseKeyRevoke slot true) s fun t =>
      t.get F.PB_FUSE_KEYS_REVOKED [] = setBit (s.get F.PB_FUSE_KEYS_REVOKED []) (slot % 4) true % 16
      ∧ t.fuse = s.fuse ∧ t.get F.PB_FUSE_KEYS_PROGRAMMED [] = s.get F.PB_FUSE_KEYS_PROGRAMMED []) ∧
  (∀ s : State, s.fuseOpen = true → s.get F.PB_FUSE_SECVER_MIN [] < 64 →
    Completes (.fuseSecverRaise true) s fun t => t.get F.PB_FUSE_SECVER_MIN [] = s.get F.PB_FUSE_SECVER_MIN [] + 1
      ∧ t.fuse = s.fuse) ∧
  (∀ (s : State) (x us : Nat), s.powered = true → s.live x = true → bit s.pace.saveDue x = true → s.patinaWrites = false →
    us ≤ 50000 →
    Completes (.planRecordSave (x, us)) s fun t => t.pace.saveDue = setBit s.pace.saveDue x false
      ∧ t.pace.saveEnd = s.clock.tick + us * 1000
      ∧ ∃ p : PlanRec, p.stamp = s.nextStamp ∧ p.vfloor = s.get F.PT_VCORE_VFLOOR [x] ∧ p.eq = s.pace.eq.at 0 x
        ∧ t.retRead (State.planAt x) 64 = p.bytes)

/-- GO starts or refuses a commit, dies report PREPARED, the preparation lapses at its deadline, the instant applies it, and
reports and lags are handled. (R108, R109, R110, R111, R112). Where a clause rests on a reading of the log (notes/assumptions),
it is the model's. -/
def Obligations.CommitStagesComplete : Prop :=
  (∀ s : State, s.powered = true → s.mode = .run → s.timeValid = true → s.modes.commit = none → s.modes.hidden = none →
    s.clock.tai + 100000 ≤ s.commitInstant → s.commitInstant ≤ s.clock.tai + 60000000000 →
    (s.get F.MD_COMMIT_CTRL_EPOCH [] = 1 → s.get F.MD_DRAIN_CNT_COUNT [(s.epoch + 1) % 2] = 0) →
    (s.get F.MD_COMMIT_CTRL_GAIT [] = 1 → s.variant ≠ .e) → s.commitKinds ≠ 0 →
    Completes .commitGo s fun t => t.modes.commit = some {
          kinds := s.commitKinds, after := s.get F.MD_COMMIT_CTRL_AFTER_DRAIN [], instant := s.commitInstant, seqAtGo := s.ts.issued }
      ∧ t.get F.MD_COMMIT_STAT_STATE [] = 1 ∧ t.get F.MD_COMMIT_STAT_REASON [] = 0
      ∧ t.get F.MD_COMMIT_STAT_SEQ [] = (s.get F.MD_COMMIT_STAT_SEQ [] + 1) % 256) ∧
  (∀ (s : State) (c : Commit) (x : Nat), s.modes.commit = some c → c.state = 1 → s.live x = true → s.pastDeadline c = false →
    s.commitReady c x = true →
    bit c.prep x = false →
    Completes (.diePrepared x false) s fun t => t.modes.commit = some { c with
        prep := c.prep + 2 ^ x, state := if s.liveMask &&& (c.prep + 2 ^ x) = s.liveMask then 2 else 1 }
      ∧ t.rd R.MD_COMMIT_PREP [] = (c.prep + 2 ^ x) % 2 ^ 32) ∧
  (∀ (s : State) (c : Commit) (x : Nat), s.modes.hidden = some c → c.state = 1 → s.live x = true → s.pastDeadline c = false →
    s.commitReady c x = true →
    bit c.prep x = false →
    Completes (.diePrepared x true) s fun t => t = { s with modes.hidden := some { c with
        prep := c.prep + 2 ^ x, state := if s.liveMask &&& (c.prep + 2 ^ x) = s.liveMask then 2 else 1 } }) ∧
  (∀ (s : State) (c : Commit), s.modes.commit = some c → c.state = 1 → s.modes.hidden = none →
    c.instant ≤ s.clock.tai + s.get F.MD_PREP_GUARD_GUARD_US [] * 1000 →
    Completes .prepDeadline s fun t => t.modes.commit = none ∧ t.get F.MD_COMMIT_STAT_STATE [] = 5
      ∧ t.get F.MD_COMMIT_STAT_REASON [] = 4 ∧ t.get F.MD_EVT_COMMIT_CANCELLED [] = 1) ∧
  (∀ (s : State) (h : Commit), s.modes.hidden = some h → s.missed h = true →
    (∀ c, s.modes.commit = some c → s.missed c = false) →
    Completes .prepDeadline s fun t => t.modes.hidden = some { h with state := 5, why := 4 } ∧ t.modes.commit = s.modes.commit) ∧
  (∀ (s : State) (c : Commit) (lag : Nat), s.modes.commit = some c → c.state = 2 → c.reached = false → c.instant ≤ s.clock.tai →
    bit c.kinds 0 = true → bit c.kinds 1 = false → bit c.kinds 2 = false →
    Completes (.commitApply lag) s fun t => t.epoch = (s.epoch + 1) % 65536 ∧ t.get F.MD_EPOCH_PREV [] = s.epoch
      ∧ t.modes.commit = some { c with reached := true, reachedAt := s.clock.tick,
                                       did := ((s.liveDies.filter fun x => !bit lag x).map (2 ^ ·)).sum }
      ∧ t.modes.draining = s.modes.draining ++ [s.epoch] ∧ t.mode = s.mode
      ∧ ∀ x, s.live x = true → bit lag x = false → t.get F.MD_UNIT_MODE_EPOCH [x] = t.epoch) ∧
  (∀ (s : State) (c : Commit) (lag : Nat), s.modes.commit = some c → c.state = 2 → c.reached = false → c.instant ≤ s.clock.tai →
    bit c.kinds 0 = false → bit c.kinds 1 = false → bit c.kinds 2 = true →
    Completes (.commitApply lag) s fun t => t.mode = .drain ∧ t.epoch = s.epoch
      ∧ t.modes.odrain.map (·.after) = some c.after
      ∧ ∀ x, s.live x = true → bit lag x = false → t.get F.MD_UNIT_MODE_MODE [x] = 4) ∧
  (∀ (s : State) (c : Commit) (lag : Nat), s.modes.commit = some c → c.state = 2 → c.reached = false → c.instant ≤ s.clock.tai →
    bit c.kinds 0 = false → bit c.kinds 1 = true → bit c.kinds 2 = false →
    Does (.commitApply lag) s (forEach (s.liveDies.filter fun x => !bit lag x) (fun x t => t.gaitTakeover x)
      { s with modes.commit := some { c with reached := true, reachedAt := s.clock.tick,
                                               did := ((s.liveDies.filter fun x => !bit lag x).map (2 ^ ·)).sum } })) ∧
  (∀ (s : State) (c : Commit) (x : Nat), s.modes.commit = some c → c.reached = true → s.live x = true → bit c.applied x = false →
    bit c.did x = true → s.modes.hidden = none →
    Completes (.applyReport x) s fun t =>
      if s.liveMask &&& (c.applied + 2 ^ x) = s.liveMask then
        t.modes.commit = none ∧ t.get F.MD_COMMIT_STAT_STATE [] = 4 ∧ t.get F.MD_EVT_COMMIT_DONE [] = 1
      else t.modes.commit = some { c with applied := c.applied + 2 ^ x, did := setBit c.did x true }) ∧
  (∀ (s : State) (c : Commit) (x : Nat), s.modes.commit = some c → c.reached = true → s.live x = true → bit c.applied x = false →
    bit c.did x = false → c.state = 3 → bit c.kinds 2 = true →
    Completes (.applyReport x) s fun t => t.get F.MD_UNIT_MODE_MODE [x] = 4) ∧
  (∀ (s : State) (c : Commit), s.modes.commit = some c → c.reached = true → c.state = 2 → 1000 ≤ s.since c.reachedAt →
    Completes .commitLag s fun t => t.modes.commit = some { c with state := 3, lagAt := s.clock.tick }
      ∧ t.get F.MD_MODE_MIXED [] = 1 ∧ t.get F.MD_EVT_MIXED [] = 1) ∧
  (∀ (s : State) (c : Commit), s.modes.commit = some c → c.state = 3 → 10000 ≤ s.since c.lagAt → s.modes.hidden = none →
    Completes .lagRetryExpiry s fun t => t.modes.commit = none ∧ t.get F.MD_COMMIT_STAT_STATE [] = 4
      ∧ t.get F.MD_EVT_COMMIT_DIE_FAULT [] = 1
      ∧ t.flt.reports = s.flt.reports ++ (s.liveDies.filter fun x => !bit c.applied x).map fun x =>
          { die := x, unit := 20, cause := 6, dieWide := true })

/-- The orderly DRAIN ends at completion or at its bound, an epoch is drained, RESET_N holds and releases the dies, and the
forwarding restart loads again. (R105, R116, R119). Where a clause rests on a reading of the log (notes/assumptions), it is the
model's. -/
def Obligations.DrainsAndResetsComplete : Prop :=
  (∀ (s : State) (o : ODrain), s.modes.odrain = some o → s.mode = .drain → (o.ended = true ∨ s.drained = true) →
    s.tallyFlushed = true → o.after = 0 →
    Completes .drainComplete s fun t => t.mode = .standby ∧ t.modes.odrain = none ∧ t.get F.PS_STATUS_RAILS_ON [] = 0
      ∧ t.fab = {} ∧ t.tabs = []) ∧
  (∀ (s : State) (o : ODrain), s.modes.odrain = some o → s.mode = .drain → (o.ended = true ∨ s.drained = true) →
    s.tallyFlushed = true → o.after ≠ 0 →
    Completes .drainComplete s fun t => t.mode = .load ∧ t.modes.odrain = none ∧ t.get F.MD_LAST_RESET_CAUSE [] = 6
      ∧ t.load.want = if o.after = 1 then none else some (1 - s.activeSlot)) ∧
  (∀ (s : State) (o : ODrain), s.modes.odrain = some o → s.mode = .drain → o.ended = false → o.boundTick ≤ s.clock.tick →
    Completes .drainBound s fun t => t.modes.odrain = some { o with ended := true } ∧ t.get F.MD_DRAIN_CNT_COUNT [0] = 0
      ∧ t.get F.MD_DRAIN_CNT_COUNT [1] = 0
      ∧ t.get F.MD_DRAIN_LEFT_ALL [] = min (2 ^ 32 - 1)
          (s.get F.MD_DRAIN_LEFT_ALL [] + (s.get F.MD_DRAIN_CNT_COUNT [0] + s.get F.MD_DRAIN_CNT_COUNT [1]))) ∧
  (∀ (s : State) (e : Nat) (r : List Nat), s.modes.draining = e :: r → s.get F.MD_DRAIN_CNT_COUNT [e % 2] = 0 →
    Completes .epochDrained s fun t => t.modes.draining = r ∧ t.get F.MD_EVT_EPOCH_DRAINED [] = 1) ∧
  (∀ (s : State) (width : Nat) (takes : Bool), s.powered = true → s.tack.edrain = none → 200 ≤ width →
    (1000 ≤ width ∨ takes = true) →
    Completes (.resetNAssert width takes) s fun t => t.modes.inReset = true ∧ t.mode = s.mode
      ∧ t.get F.MD_LAST_RESET_CAUSE [] = 2 ∧ t.fab = {} ∧ t.tabs = [] ∧ t.flt = {} ∧ t.clock = s.clock) ∧
  (∀ s : State, s.modes.inReset = true → s.tack.copy = .none →
    Completes .resetNRelease s fun t => t.mode = .load ∧ t.modes.inReset = false
      ∧ t.load = { s.load with phase := .idle, want := none }) ∧
  (∀ s : State, s.powered = true → s.tack.edrain = none → s.mode = .run → s.modes.commit = none →
    Completes .forwardingRestart s fun t => t.modes.commit = some {
          tack := true, kinds := 4, after := 1, instant := s.clock.tai + 100000, seqAtGo := s.ts.issued } ∧ t.get F.MD_COMMIT_STAT_SRC [] = 1 ∧ t.mode = .run) ∧
  (∀ s : State, s.powered = true → s.tack.edrain = none → (s.mode = .load ∨ s.mode = .halt ∨ s.mode = .drain) →
    Completes .forwardingRestart s fun t => t.mode = .load ∧ t.get F.MD_LAST_RESET_CAUSE [] = 6
      ∧ t.load.want = none ∧ t.fab = {} ∧ t.tabs = [])

/-- A slot is attempted, verified, its sections applied, DDR5 trained, and the load completes, fails or times out. (R151, R137,
R504, R102, R132, R152). Where a clause rests on a reading of the log (notes/assumptions), it is the model's. -/
def Obligations.LoaderCompletes : Prop :=
  (∀ (s : State) (bad : Nat), s.powered = true → s.mode = .load → s.load.phase = .idle → s.load.applying = false →
    s.preferredSlot < 2 → (s.slotUsable s.preferredSlot = true ∨ s.slotUsable (1 - s.preferredSlot) = true) →
    bit bad 12 = false → ((List.range s.variant.girths).any fun g => !bit bad (8 + g)) = true →
    Completes (.loadAttempt bad) s fun t =>
      t.load.slot = (if s.slotUsable s.preferredSlot then s.preferredSlot else 1 - s.preferredSlot)
      ∧ t.attempts t.load.slot = s.attempts t.load.slot + 1 ∧ t.load.before = s.attempts t.load.slot
      ∧ t.load.tries = s.load.tries + 1 ∧ t.get F.PB_STATUS_LOADING [] = 1
      ∧ (t.load.phase = .checked ∨ t.load.phase = .failed) ∧ t.mode = .load) ∧
  (∀ s : State, s.mode = .load → s.load.phase = .checked → s.authFail = 0 →
    Completes .loadVerified s fun t => t.load.phase = .verified
      ∧ t.load.todo = State.applyOrder (s.sectionTable s.containerAt)
      ∧ t.flash = (s.flashErase s.copyAreaAt).flash) ∧
  (∀ s : State, s.mode = .load → s.load.phase = .checked → s.authFail ≠ 0 →
    exec .loadVerified s = .next { s with load := { s.load with phase := .failed, fail := s.authFail } }) ∧
  (∀ (s : State) (e : SecEntry) (l : List SecEntry), s.load.todo = e :: l → s.powered = true → s.mode = .load →
    s.load.phase = .verified → (e.typ = 0x0070 → s.training = false) →
    Does .sectionApply s (s.sectionStep e).judgeOrdered) ∧
  (∀ (s : State) (temps : List Int), s.powered = true → s.mode = .load → s.load.phase = .verified → s.training = true →
    Completes (.ddrTrainDone false temps) s fun t => t.load = s.load ∧ ∀ c, c < s.variant.channels →
      t.get F.DM_CH_STAT_TRAINED [c] = 1 ∧ t.get F.DM_CH_STAT_TEMP [c] = unsigned 8 (temps.getD c 0)) ∧
  (∀ (s : State) (temps : List Int), s.powered = true → s.mode = .load → s.load.phase = .verified → s.training = true →
    exec (.ddrTrainDone true temps) s = .next { s with load := { s.load with phase := .failed, fail := 12 } }) ∧
  (∀ s : State, s.powered = true → s.mode = .load → s.load.phase = .verified → s.load.todo = [] → s.training = false →
    Completes .loadComplete s fun t => t.mode = .run ∧ t.epoch = 0 ∧ t.load.phase = .idle
      ∧ t.get F.PB_STATUS_LOADING [] = 0) ∧
  (∀ (s : State) (e : Bool), s.powered = true → s.mode = .load → s.load.phase = .failed →
    Completes (.loadFail e) s fun t => t.load.phase = .idle ∧ t.load.want = none
      ∧ t.get F.PB_STATUS_FAIL [] = s.load.fail % 256) ∧
  (∀ s : State, s.powered = true → s.mode = .load → s.load.phase ≠ .idle → s.load.phase ≠ .failed →
    Completes (.loadFail true) s fun t => t.load.phase = .idle ∧ t.get F.PB_STATUS_FAIL [] = 13) ∧
  (∀ s : State, s.powered = true → s.mode = .load → s.load.phase ≠ .idle → 30000000000 ≤ s.since s.load.startTick →
    Completes .loadTimeout s fun t => t.load.phase = .idle ∧ t.get F.PB_STATUS_FAIL [] = 15)

/-- Reports and hangs act as their cause says, dies are isolated, and journal entries are written. (R541, R542, R544, R547).
Where a clause rests on a reading of the log (notes/assumptions), it is the model's. -/
def Obligations.FaultsComplete : Prop :=
  (∀ (s : State) (die unit : Nat) (wide : Bool) (d0 d1 : Nat), s.powered = true → s.live die = true → unit < 256 →
    s.tack.edrain = none → s.mode ≠ .halt →
    Completes (.faultReport true die unit 1 wide d0 d1) s fun t => t.ctr R.FT_CORRECTED [] = (s.ctr R.FT_CORRECTED [] + 1) % 2 ^ 64) ∧
  (∀ (s : State) (die unit : Nat) (wide : Bool) (d0 d1 : Nat), s.powered = true → s.live die = true → unit < 256 →
    s.tack.edrain = none → s.mode ≠ .halt →
    Completes (.faultReport true die unit 0xA wide d0 d1) s fun t => t.ctr R.FT_PLANE [] = (s.ctr R.FT_PLANE [] + 1) % 2 ^ 64
      ∧ t.get F.FT_EVT_PLANE [] = 1) ∧
  (∀ (s : State) (die unit cause d0 d1 : Nat), s.powered = true → s.live die = true → unit < 256 → cause < 0x10000 →
    s.tack.edrain = none → s.mode ≠ .halt → cause ≠ 1 → cause ≠ 0xA → ¬(unit = 21 ∧ cause = 2) →
    s.fatalRep { die := die, unit := unit, cause := cause, d0 := d0, d1 := d1 } = false →
    Completes (.faultReport true die unit cause false d0 d1) s fun t =>
      t.ctr R.FT_CONTAINED [] = (s.ctr R.FT_CONTAINED [] + 1) % 2 ^ 64 ∧ t.get F.FT_EVT_CONTAINED [] = 1) ∧
  (∀ (s : State) (die unit cause d0 d1 : Nat), s.powered = true → s.live die = true → unit < 256 → cause < 0x10000 →
    s.tack.edrain = none → s.mode ≠ .halt → cause ≠ 1 → cause ≠ 0xA → unit ≠ 4 → ¬(unit = 21 ∧ cause = 2) →
    s.fatalRep { die := die, unit := unit, cause := cause, dieWide := true, d0 := d0, d1 := d1 } = false →
    s.flt.iso.all (fun e => e.1 != die) = true →
    Completes (.faultReport true die unit cause true d0 d1) s fun t => t.flt.iso = s.flt.iso ++ [(die, unit, cause)]) ∧
  (∀ (s : State) (die unit cause : Nat) (wide : Bool) (d0 d1 : Nat), s.powered = true → s.live die = true → unit < 256 →
    cause < 0x10000 → s.tack.edrain = none → s.mode ≠ .halt → cause ≠ 1 → cause ≠ 0xA → ¬(unit = 21 ∧ cause = 2) →
    s.fatalRep { die := die, unit := unit, cause := cause, dieWide := wide, d0 := d0, d1 := d1 } = true →
    Completes (.faultReport true die unit cause wide d0 d1) s fun t => t.mode = .halt ∧ t.get F.FT_HALT_CAUSE [] = cause
      ∧ t.rd R.FT_HALT_SEQ [] = s.rd R.TK_JRNL_COUNT [] ∧ t.get F.FT_EVT_FATAL [] = 1) ∧
  (∀ (s : State) (die d0 d1 : Nat) (wide : Bool), s.powered = true → s.live die = true →
    Does (.faultReport true die 21 2 wide d0 d1) s (((s.countEcc { die := die, unit := 21, cause := 2, dieWide := wide, d0 := d0, d1 := d1 }).tallyEcc die
      (d0 % 16384) (d1 == 1)).takeReport
      { die := die, unit := 21, cause := 2, dieWide := wide, d0 := d0, d1 := d1 } 0)) ∧
  (∀ (s : State) (r : FaultRep) (l : List FaultRep) (die unit cause : Nat) (wide : Bool) (d0 d1 : Nat), s.powered = true →
    s.flt.reports = r :: l →
    Does (.faultReport false die unit cause wide d0 d1) s ({ s with flt.reports := l }.takeReport r (s.faultUs r))) ∧
  (∀ (s : State) (x unit i us : Nat), s.powered = true → s.live x = true → 20 ≤ us → us ≤ 40 →
    s.flt.restartAt.at 0 (key3 x unit i) = 0 →
    Completes (.unitHang x unit i us) s fun t => t.flt.restartAt.at 0 (key3 x unit i) = s.clock.tick + 1) ∧
  (∀ (s : State) (x unit i us : Nat), s.powered = true → s.live x = true → 20 ≤ us → us ≤ 40 →
    s.flt.restartAt.at 0 (key3 x unit i) ≠ 0 → s.since (s.flt.restartAt.at 0 (key3 x unit i) - 1) < 1000000000 →
    exec (.unitHang x unit i us) s = .next { s with
      flt.reports := s.flt.reports ++ [{ die := x, unit := unit, cause := 0xE, dieWide := true, d0 := i }] }) ∧
  (∀ (s : State) (x unit cause : Nat) (l : List (Nat × Nat × Nat)), s.flt.iso = (x, unit, cause) :: l → s.powered = true →
    s.live x = true →
    Completes .dieIsolate s fun t => t.live x = false ∧ t.ctr R.FT_DIE [] = (s.ctr R.FT_DIE [] + 1) % 2 ^ 64
      ∧ t.get F.FT_EVT_DIE [] = 1) ∧
  (∀ (s : State) (e : JEntry) (l : List JEntry), s.flt.jq = e :: l →
    Completes .journalWrite s fun t => t.flt.jq = l
      ∧ t.retRead (0x4000 + 64 * s.get F.TK_JRNL_HEAD_HEAD []) 64 = e.bytes (s.rd R.TK_JRNL_COUNT [])
      ∧ t.get F.TK_JRNL_HEAD_HEAD [] = (s.get F.TK_JRNL_HEAD_HEAD [] + 1) % 3840
      ∧ t.rd R.TK_JRNL_COUNT [] = min 0xFFFFFFFF (s.rd R.TK_JRNL_COUNT [] + 1))

/-- Event sources are written and delivered, vectors unmasked, counters read, selected and frozen, and bandwidth windows end.
(R524, R525, R527, R532, R533, R529, R535). Where a clause rests on a reading of the log (notes/assumptions), it is the model's. -/
def Obligations.EventsAndCountersComplete : Prop :=
  (∀ (s : State) (src v : Nat), s.ringPowered = true → src < 0x1000 → s.routeRefused src v = false →
    Completes (.eventSourceWrite src v) s fun t => t.rd R.EV_SRC [src] = v &&& R.EV_SRC.rw) ∧
  (∀ (s : State) (src : Nat), s.ringPowered = true → s.ev.due.contains src = true → (s.deliverEvent src).1 = true →
    Does (.eventDeliver src) s { (s.deliverEvent src).2 with ev.due := removeOne src (s.deliverEvent src).2.ev.due }) ∧
  (∀ (s : State) (fn v : Nat), s.ringPowered = true → (fn = 0 ∨ fn ≤ s.rc.vfs) → v < State.vectors fn →
    exec (.msixUnmask fn (some v) false) s = .next { s with ev.vecOpen := s.ev.vecOpen.put 0 (key2 fn v) 0 }) ∧
  (∀ (s : State) (fn : Nat), s.ringPowered = true → (fn = 0 ∨ fn ≤ s.rc.vfs) →
    exec (.msixUnmask fn none false) s = .next { s with ev.fnOpen := s.ev.fnOpen.put 0 fn 0 }) ∧
  (∀ (s : State) (fn v : Nat), s.ringPowered = true → (fn = 0 ∨ fn ≤ s.rc.vfs) → v < State.vectors fn →
    s.ev.fnOpen.at 0 fn = 1 →
    Does (.msixUnmask fn (some v) true) s ({ s with ev.vecOpen := s.ev.vecOpen.put 0 (key2 fn v) 1 }.sendUnmasked fn)) ∧
  (∀ (s : State) (fn : Nat), s.ringPowered = true → (fn = 0 ∨ fn ≤ s.rc.vfs) →
    Does (.msixUnmask fn none true) s ({ s with ev.fnOpen := s.ev.fnOpen.put 0 fn 1 }.sendUnmasked fn)) ∧
  (∀ (s : State) (fn : Nat) (user : Bool) (b n : Nat), s.ringPowered = true → (fn = 0 ∨ fn ≤ s.rc.vfs) → b < 176 → n < 8 →
    s.seesCounter fn user b n = true →
    Completes (.counterRead fn user b n) s fun t => t.out.readData = (s.sampleOf b n).1 % 2 ^ 32
      ∧ t.ev.cntHi.at 0 (latchKey fn user b * 8 + n) = (s.sampleOf b n).1 / 2 ^ 32 + s.clock.tick % 2 ^ 16 * 2 ^ 16
      ∧ t.ev.cnt = s.ev.cnt) ∧
  (∀ (s : State) (b n v : Nat), s.ringPowered = true → s.blockLive b = true → n < 8 →
    Completes (.counterSelect b n v) s fun t => (t.sampleOf b n).1 = 0
      ∧ (s.nowLog.events = [] → bits v 11 0 ≠ 1 → t.ev.cnt.at 0 (key2 b n) = 0) ∧ t.get F.PC_SEL_EVNUM [b, n] = bits v 11 0
      ∧ t.get F.PC_SEL_TFILT [b, n] = b2n (bit v 31)
      ∧ t.get F.PC_SEL_UNDEF [b, n] = b2n (!eventDefined (blockKind b) (bits v 11 0))) ∧
  (∀ (s : State) (v : Nat), s.ringPowered = true →
    Completes (.counterFreeze v) s fun t => t.get F.PC_FREEZE_DIES [] = bits v 12 0
      ∧ t.get F.PC_FREEZE_APPLIED [] = b2n (bits v 12 0 != 0) ∧ t.ev.cnt = s.ev.cnt) ∧
  (∀ s : State, s.ringPowered = true → s.clock.tick % (s.get F.PC_BW_WIN_WIN_US [] * 1000) = 0 → s.ev.bwAt ≠ s.clock.tick + 1 →
    Completes .bwWindow s fun t => t.ev.bwRx = [] ∧ t.ev.bwTx = [] ∧ t.ev.bwFull = true ∧ t.ev.bwAt = s.clock.tick + 1) ∧
  (∀ (s : State) (v : Nat), s.ringPowered = true →
    Completes (.bwWindowWrite v) s fun t => t.get F.PC_BW_WIN_WIN_US [] = clamp 1 1000000 (bits v 19 0) ∧ t.ev.bwFull = false
      ∧ ∀ p, p < 512 → t.get F.PC_BW_RX_VALID [p] = 0 ∧ t.get F.PC_BW_TX_VALID [p] = 0)

/-- Ports take frames, change control, negotiate, come up and go down, pop timestamps and arm or cancel a Brand injection. (R20,
R164, R166, R180, R176, R206). Where a clause rests on a reading of the log (notes/assumptions), it is the model's. -/
def Obligations.PortCommandsComplete : Prop :=
  (∀ (s : State) (p : Nat) (bytes : List Byte) (fec : List Nat) (back : Nat), s.macReceives p = true →
    s.receiving p = false → s.hears p (fun b => b == bytes) = true → s.fecFails p fec = false →
    ofLe (bytes.drop (bytes.length - 4)) = crc32 (bytes.take (bytes.length - 4)) →
    64 ≤ bytes.length → bytes.length ≤ 16000 → bytes.length ≤ s.get F.PG_PORT_LEN_MAX_LEN (pix p) →
    ofBe (slice (bytes.take (bytes.length - 4)) 12 2) ≠ 0x8808 → s.drainDiscards p (s.ingressTime p back) = false →
    s.headroomFull p (s.priorityOf p (bytes.take (bytes.length - 4))) = false →
    s.fifoBytes (p / 8) + (bytes.length - 4) ≤ 262144 →
    Completes (.frameAdmit p bytes (7, false) fec back false) s fun t =>
      t.port.fifo.at [] (p / 8) = s.port.fifo.at [] (p / 8)
        ++ [s.newFrame p (bytes.take (bytes.length - 4)) (s.ingressTime p back) false]
      ∧ t.ctr R.RX_OK_FRAMES (pix p) = (s.ctr R.RX_OK_FRAMES (pix p) + 1) % 2 ^ 64
      ∧ t.ctr R.RX_OK_OCTETS (pix p) = (s.ctr R.RX_OK_OCTETS (pix p) + bytes.length) % 2 ^ 64) ∧
  (∀ (s : State) (p : Nat) (bytes : List Byte) (e : Bool) (fec : List Nat) (back : Nat), s.macReceives p = true →
    s.receiving p = false → s.hears p (fun b => b.take bytes.length == bytes) = true → 512 ≤ bytes.length →
    ofBe (slice bytes 12 2) ≠ 0x8808 → s.drainDiscards p (s.ingressTime p back) = false →
    s.headroomFull p (s.priorityOf p bytes) = false → s.fifoBytes (p / 8) + bytes.length ≤ 262144 →
    Completes (.frameAdmit p bytes (7, e) fec back true) s fun t =>
      t.port.fifo.at [] (p / 8) = s.port.fifo.at [] (p / 8) ++ [s.newFrame p bytes (s.ingressTime p back) true]
      ∧ t.port.rxBad.at 0 p = b2n (e || s.fecFails p fec)) ∧
  (∀ (s : State) (p pre : Nat) (bytes : List Byte) (e early : Bool) (fec : List Nat) (back : Nat), s.macReceives p = true →
    pre ≠ 7 → Completes (.frameAdmit p bytes (pre, e) fec back early) s fun t => t = { s with ctrs := t.ctrs }
      ∧ t.ctr R.RX_FCS_ERR (pix p) = s.ctr R.RX_FCS_ERR (pix p)) ∧
  (∀ (s : State) (g v : Nat), s.powered = true → g < 64 → s.live (g / 8) = true → groupValid v = true →
    (s.groupPorts g).all (fun p => !s.isOn F.PG_PORT_CTRL_ADMIN_UP (pix p)) = true →
    Completes (.groupConfigWrite g v) s fun t => t.rd R.PG_GRP_CFG [g / 8, g % 8] = v &&& R.PG_GRP_CFG.rw
      ∧ t.fab.calDue.contains (g / 8) = true) ∧
  (∀ (s : State) (g v : Nat), s.powered = true → g < 64 → s.live (g / 8) = true → groupValid v = false →
    Completes (.groupConfigWrite g v) s fun t => t.rd R.PG_GRP_CFG [g / 8, g % 8] = s.rd R.PG_GRP_CFG [g / 8, g % 8]
      ∧ t.get F.PG_GRP_STAT_CFG_REFUSED [g / 8, g % 8] = 1) ∧
  (∀ (s : State) (p pause : Nat) (techs : List (Nat × Nat)) (able ask : Bool), s.powered = true → s.live (p / 64) = true →
    s.txOff = false → s.isPort p = true → s.get F.PG_PORT_CTRL_ADMIN_UP (pix p) = 1 → s.get F.PG_PORT_CTRL_AN_EN (pix p) = 1 →
    s.get F.PG_PORT_STAT_AN_DONE (pix p) = 0 → s.port.anBreak.at 0 p = 0 → techs.contains (s.technology p) = true →
    Completes (.anComplete p techs pause (able, ask)) s fun t => t.get F.PG_PORT_STAT_AN_DONE (pix p) = 1
      ∧ t.get F.PG_PORT_STAT_FEC_ACTIVE (pix p)
          = (if s.portRate p = 2 then b2n (s.usesRs p able ask) else s.get F.PG_PORT_CTRL_FEC (pix p)) % 4) ∧
  (∀ (s : State) (p pause : Nat) (techs : List (Nat × Nat)) (able ask : Bool), s.powered = true → s.live (p / 64) = true →
    s.txOff = false → s.isPort p = true → s.get F.PG_PORT_CTRL_ADMIN_UP (pix p) = 1 → s.get F.PG_PORT_CTRL_AN_EN (pix p) = 1 →
    s.get F.PG_PORT_STAT_AN_DONE (pix p) = 0 → s.port.anBreak.at 0 p = 0 → techs.contains (s.technology p) = false →
    Completes (.anComplete p techs pause (able, ask)) s fun t => t.port.anBreak.at 0 p = 1
      ∧ t.get F.PG_PORT_EVT_AN_FAIL (pix p) = 1 ∧ t.ctr R.AN_FAIL (pix p) = (s.ctr R.AN_FAIL (pix p) + 1) % 2 ^ 64) ∧
  (∀ (s : State) (p : Nat), exec (.anRestart p) s =
    .next (if s.txOff then s else { s with port.anBreak := s.port.anBreak.erase p })) ∧
  (∀ (s : State) (p lanes us : Nat) (trained : Bool), s.lineSeen p = true → s.linkUp p = false →
    s.lineGood p lanes false false trained = true → s.heldUp p us = true →
    (s.get F.PG_PORT_CTRL_AN_EN (pix p) = 0 ∨ s.get F.PG_PORT_STAT_AN_DONE (pix p) = 1) →
    Completes (.linkUp (p, lanes, false, false, trained, us)) s fun t => t.linkUp p = true ∧ t.get F.PG_PORT_STAT_LOCAL_FAULT (pix p) = 0
      ∧ t.get F.PG_PORT_STAT_REMOTE_FAULT (pix p) = 0 ∧ t.get F.PG_PORT_EVT_LINK_CHANGE (pix p) = 1) ∧
  (∀ (s : State) (p lanes us : Nat) (lf rf trained : Bool), s.lineSeen p = true → s.linkUp p = false →
    (s.lineGood p lanes lf rf trained = false ∨ s.heldUp p us = false
      ∨ (s.get F.PG_PORT_CTRL_AN_EN (pix p) = 1 ∧ s.get F.PG_PORT_STAT_AN_DONE (pix p) = 0)) →
    Does (.linkUp (p, lanes, lf, rf, trained, us)) s (s.showLine p lanes lf rf)) ∧
  (∀ (s : State) (p : Nat) (h : Nat × Nat) (r : List (Nat × Nat)), s.powered = true → s.live (p / 64) = true → s.isPort p = true →
    s.port.txts.at [] p = h :: r →
    Completes (.txtsPop p) s fun t => t.out.readData = s.rd R.PG_TXTS_HEAD (pix p) ∧ t.port.txts.at [] p = r
      ∧ t.rd R.PG_TXTS_NS (pix p) = h.2 / 65536 % 1000000000 ∧ t.rd R.PG_TXTS_FRAC (pix p) = h.2 % 65536) ∧
  (∀ (s : State) (p : Nat), s.powered = true → s.live (p / 64) = true → s.isPort p = true → s.port.txts.at [] p = [] →
    exec (.txtsPop p) s = .next { s with out.readData := s.rd R.PG_TXTS_HEAD (pix p) }) ∧
  (∀ (s : State) (d p : Nat), s.powered = true → s.live d = true → d < 8 → p < 512 →
    Completes (.brandInjectArm d p) s fun t => t.get F.BR_INJECT_GO [d] = 1 ∧ t.get F.BR_INJECT_PORT [d] = p) ∧
  (∀ (s : State) (d : Nat), s.powered = true → s.live d = true → d < 8 →
    Completes (.brandInjectCancel d) s fun t => t.get F.BR_INJECT_GO [d] = 0)

/-- PAUSE and PFC frames, their expiry and refresh, FIFO thresholds and the PFC watchdog act on the port. (R173, R168, R171,
R172, R174). Where a clause rests on a reading of the log (notes/assumptions), it is the model's. -/
def Obligations.FlowControlCompletes : Prop :=
  (∀ (s : State) (p q : Nat), s.macReceives p = true → s.hears p (isControl 1 (beBytes q 2)) = true → s.fcMode p = 1 → s.get F.PG_PORT_STAT_RX_PAUSE (pix p) = 1 →
    Completes (.pauseRx p q) s fun t => t.ctr R.RX_PAUSE (pix p) = (s.ctr R.RX_PAUSE (pix p) + 1) % 2 ^ 64
      ∧ t.port.pauseEnd.at 0 (key2 p 8) = if q % 65536 = 0 then 0 else s.clock.tick + s.quantaTicks p (q % 65536)) ∧
  (∀ (s : State) (p vec : Nat) (qs : List Nat), s.macReceives p = true →
    s.hears p (isControl 0x101 (beBytes vec 2 ++ (List.range 8).flatMap fun i => beBytes (qs.getD i 0) 2)) = true → s.fcMode p = 2 →
    Completes (.pfcRx p vec qs) s fun t => ∀ pri, pri < 8 → bit vec pri = true →
      t.ctr R.RX_PFC (pix p ++ [pri]) = (s.ctr R.RX_PFC (pix p ++ [pri]) + 1) % 2 ^ 64
      ∧ (bit (s.get F.PG_PORT_STAT_PFC_WD_ACTIVE (pix p)) pri = false →
          t.port.pauseEnd.at 0 (key2 p pri)
            = if qs.getD pri 0 % 65536 = 0 then 0 else s.clock.tick + s.quantaTicks p (qs.getD pri 0 % 65536))) ∧
  (∀ (s : State) (p : Nat), s.macReceives p = true → s.loopback p ≠ 1 →
    Completes (.macctlOtherRx p) s fun t => t = { s with ctrs := t.ctrs }
      ∧ t.ctr R.RX_MACCTL_OTHER (pix p) = (s.ctr R.RX_MACCTL_OTHER (pix p) + 1) % 2 ^ 64) ∧
  (∀ (s : State) (p pri : Nat), s.port.pauseEnd.at 0 (key2 p pri) ≠ 0 → s.paused p pri = false →
    Completes (.pauseExpiry p pri) s fun t => t.port.pauseEnd.at 0 (key2 p pri) = 0 ∧ t.port.pausedAt.at 0 (key2 p pri) = 0) ∧
  (∀ (s : State) (p pri : Nat), pri ≤ 8 → s.linkUp p = true → s.fcActs p pri = true → bit (s.port.xoff.at 0 p) pri = false →
    s.get F.PG_FC_THR_XOFF (pix p) * 64 ≤ s.fcCount p pri →
    Completes (.fcXoff p pri) s fun t => bit (t.port.xoff.at 0 p) pri = true) ∧
  (∀ (s : State) (p pri : Nat), bit (s.port.xoff.at 0 p) pri = true → s.fcCount p pri ≤ s.get F.PG_FC_THR_XON (pix p) * 64 →
    Completes (.fcXon p pri) s fun t => bit (t.port.xoff.at 0 p) pri = false) ∧
  (∀ (s : State) (p pri : Nat), bit (s.holding p) pri = true → s.sendsPause p pri = true →
    s.quanta p * 256 ≤ s.since (s.port.sentAt.at 0 (key2 p pri)) * max 1 (s.portSpeed p) →
    Completes (.pfcRefresh p pri) s fun t => t.port.sentAt.at 0 (key2 p pri) = s.clock.tick
      ∧ t.out.pauses = State.lineFrame p (s.pauseFrame p pri (s.quanta p)) true :: s.out.pauses) ∧
  (∀ (s : State) (g : Nat), s.port.fifoHold.at 0 g = 0 → s.live (g / 8) = true →
    s.get F.PG_GRP_FIFO_FIFO_XOFF [g / 8, g % 8] * 1024 ≤ s.fifoBytes g →
    Completes (.fifoXoff g) s fun t => t.port.fifoHold.at 0 g = 1) ∧
  (∀ (s : State) (g : Nat), s.port.fifoHold.at 0 g ≠ 0 →
    s.fifoBytes g ≤ s.get F.PG_GRP_FIFO_FIFO_XON [g / 8, g % 8] * 1024 →
    Completes (.fifoXon g) s fun t => t.port.fifoHold.at 0 g = 0) ∧
  (∀ (s : State) (p pri : Nat), p < 512 → pri < 8 → s.get F.PG_PFC_WD_WD_MS (pix p) ≠ 0 → s.paused p pri = true →
    s.port.pausedAt.at 0 (key2 p pri) ≠ 0 →
    s.get F.PG_PFC_WD_WD_MS (pix p) * 1000000 ≤ s.clock.tick + 1 - s.port.pausedAt.at 0 (key2 p pri) →
    Completes (.pfcWdTrip p pri) s fun t => t.port.pauseEnd.at 0 (key2 p pri) = 0
      ∧ bit (t.get F.PG_PORT_STAT_PFC_WD_ACTIVE (pix p)) pri = true ∧ t.get F.PG_PORT_EVT_PFC_WD (pix p) = 1
      ∧ t.port.wdEnd.at 0 (key2 p pri) = s.clock.tick + s.get F.PG_PFC_WD_RECOVER_MS (pix p) * 1000000
      ∧ t.ctr R.PFC_WD_TRIPS (pix p) = (s.ctr R.PFC_WD_TRIPS (pix p) + 1) % 2 ^ 64) ∧
  (∀ (s : State) (p pri : Nat), p < 512 → bit (s.get F.PG_PORT_STAT_PFC_WD_ACTIVE (pix p)) pri = true →
    s.port.wdEnd.at 0 (key2 p pri) ≤ s.clock.tick →
    Completes (.pfcWdRecover p pri) s fun t => bit (t.get F.PG_PORT_STAT_PFC_WD_ACTIVE (pix p)) pri = false
      ∧ t.port.wdEnd.at 0 (key2 p pri) = 0)

/-- A frame at the head of a slice passes or waits, tails arrive, and gates change. (R23, R335, R223). Where a clause rests on a
reading of the log (notes/assumptions), it is the model's. -/
def Obligations.IngressPassesComplete : Prop :=
  (∀ (s u : State) (sl a : Nat) (second : Bool) (nm : Nat), s.forwarding = true → s.live (sl / 4) = true → sl < 32 →
    (s.tack.edrain.any fun e => e.macsStopped) = false → u = s.checkLatches (sl / 4) nm →
    u.mayTakeSlot a (sl / 4) (8 * (sl / 4) + sl % 4) = true →
    Does (.ingressPass sl (some a) second nm) s
      (((u.countIng sl 5).takeSlot a (sl / 4) (8 * (sl / 4) + sl % 4)).keepSlot a (sl / 4))) ∧
  (∀ (s u : State) (sl g : Nat) (a : Option Nat) (second : Bool) (nm : Nat) (f : Frame) (r : List Frame), s.forwarding = true →
    s.live (sl / 4) = true → sl < 32 → (s.tack.edrain.any fun e => e.macsStopped) = false →
    u = s.checkLatches (sl / 4) nm → a.all (fun x => !u.mayTakeSlot x (sl / 4) (8 * (sl / 4) + sl % 4)) = true →
    g = (if (second && !(u.port.fifo.at [] (8 * (sl / 4) + 2 * (sl % 4) + 1)).isEmpty)
        || (u.port.fifo.at [] (8 * (sl / 4) + 2 * (sl % 4))).isEmpty
      then 8 * (sl / 4) + 2 * (sl % 4) + 1 else 8 * (sl / 4) + 2 * (sl % 4)) →
    u.port.fifo.at [] g = f :: r → f.tail = false →
    Does (.ingressPass sl a second nm) s ((u.setFifo g r).firstPass f)) ∧
  (∀ (s u : State) (sl : Nat) (a : Option Nat) (second : Bool) (nm : Nat) (f : Frame) (r : List Frame), s.forwarding = true →
    s.live (sl / 4) = true → sl < 32 → (s.tack.edrain.any fun e => e.macsStopped) = false →
    u = s.checkLatches (sl / 4) nm → a.all (fun x => !u.mayTakeSlot x (sl / 4) (8 * (sl / 4) + sl % 4)) = true →
    u.port.fifo.at [] (8 * (sl / 4) + 2 * (sl % 4)) = [] → u.port.fifo.at [] (8 * (sl / 4) + 2 * (sl % 4) + 1) = [] →
    u.sl.reinj.at [] sl = f :: r →
    Does (.ingressPass sl a second nm) s ({ u with sl.reinj := u.sl.reinj.put [] sl r }.firstPass f)) ∧
  (∀ (s u : State) (sl : Nat) (a : Option Nat) (second : Bool) (nm : Nat) (f : Frame) (r : List Frame), s.forwarding = true →
    s.live (sl / 4) = true → sl < 32 → (s.tack.edrain.any fun e => e.macsStopped) = false →
    u = s.checkLatches (sl / 4) nm → a.all (fun x => !u.mayTakeSlot x (sl / 4) (8 * (sl / 4) + sl % 4)) = true →
    u.port.fifo.at [] (8 * (sl / 4) + 2 * (sl % 4)) = [] → u.port.fifo.at [] (8 * (sl / 4) + 2 * (sl % 4) + 1) = [] →
    u.sl.reinj.at [] sl = [] → u.sl.recirc.at [] sl = f :: r →
    Does (.ingressPass sl a second nm) s ({ u with sl.recirc := u.sl.recirc.put [] sl r }.laterPass f)) ∧
  (∀ (s : State) (p : Nat) (rest body : List Byte) (e : Bool) (fec : List Nat) (f : Frame), s.loopback p ≠ 2 →
    4 ≤ rest.length → body = rest.take (rest.length - 4) → s.hears p (fun b => b.drop f.bytes.length == rest) = true →
    ((s.port.fifo.at [] (p / 8)).find? fun f => f.m.inPort == p && f.tail) = some f →
    s.macFail p ((f.bytes ++ body).length + 4)
      ((e || s.fecFails p fec || s.port.rxBad.at 0 p != 0) || ofLe (rest.drop (rest.length - 4)) != crc32 (f.bytes ++ body)) = none →
    s.fifoBytes (p / 8) + body.length ≤ 262144 →
    Completes (.tailRecord p rest (e, fec)) s fun t => t.port.fifo.at [] (p / 8) = (s.port.fifo.at [] (p / 8)).map fun q =>
      if q.m.inPort == p && q.tail then
        { f with m := { f.m with rxLen := (f.bytes ++ body).length + 4, len0 := (f.bytes ++ body).length }, bytes := f.bytes ++ body,
                 brand := crc32c (f.bytes ++ body), tail := false }
      else q) ∧
  (∀ (s u : State) (p : Nat) (rest : List Byte) (e : Bool) (fec : List Nat) (f : Frame),
    4 ≤ rest.length → s.loopback p ≠ 2 → s.hears p (fun b => b.drop f.bytes.length == rest) = true →
    ((s.port.fifo.at [] (p / 8)).find? fun f => f.m.inPort == p && f.tail) = none → s.port.ctFrame.find? p = some f →
    u = (if s.lineOpen p then s.countFec p fec else s) →
    Does (.tailRecord p rest (e, fec)) s ({ u with port.rxBad := u.port.rxBad.erase p }.unloop p |>.tailFlows p f rest
      (e || s.fecFails p fec || s.port.rxBad.at 0 p != 0))) ∧
  (∀ (s : State) (d r v : Nat), s.powered = true → s.live d = true → d < 8 → 1 ≤ r → r ≤ 63 → (r < 20 ∨ 31 < r) →
    Completes (.puntPolicerWrite d r false v) s fun t => t.rd R.CL_PUNT_RATE [d, r] = min v 200000000) ∧
  (∀ (s : State) (d r v : Nat), s.powered = true → s.live d = true → d < 8 → 1 ≤ r → r ≤ 63 → (r < 20 ∨ 31 < r) →
    v % 65536 ≠ 0 →
    Completes (.puntPolicerWrite d r true v) s fun t => t.get F.CL_PUNT_BURST_BURST [d, r] = v % 65536)

/-- Scans, flow operations, their results and timeouts, the ager, throttles and budgets act on the slice and the stores. (R248,
R257, R256, R255, R262, R298, R301, R300, R302, R294). Where a clause rests on a reading of the log (notes/assumptions), it is
the model's. -/
def Obligations.AwlAndFlowComplete : Prop :=
  (∀ (s : State) (sl : Nat) (bad : Option Nat) (p : Pass) (r : List Pass), s.forwarding = true → s.variant ≠ .e → s.live 12 = true →
    takeFirst (fun (p : Pass) => p.f.m.slice == sl) s.awl.late = some (p, r) →
    s.setState p.awlSet = 2 → (bad.all fun b => s.setOfBlock b != some p.awlSet) = true →
    Does (.awlScan sl bad) s ({ s with awl.late := r }.scanPass p).2) ∧
  (∀ (s : State) (sl i : Nat) (h : Held), s.forwarding = true → s.variant ≠ .e → s.live 12 = true →
    takeFirst (fun (p : Pass) => p.f.m.slice == sl) s.awl.late = none →
    ((s.sl.awlQ.at [] sl).findIdx? fun h => !h.ready) = some i → (s.sl.awlQ.at [] sl)[i]? = some h → s.setState h.p.awlSet = 2 →
    Does (.awlScan sl none) s { (s.scanPass h.p).2 with
      sl.awlQ := (s.scanPass h.p).2.sl.awlQ.put [] sl
        (modifyAt (fun k => { k with p := (s.scanPass h.p).1, ready := true }) i ((s.scanPass h.p).2.sl.awlQ.at [] sl)) }) ∧
  (∀ (s : State) (sl : Nat) (h : Held) (r : List Held), s.sl.awlQ.at [] sl = h :: r → h.ready = true → s.forwarding = true →
    s.since h.at_ ≤ s.get F.AW_TIMEOUT_US [] * 1000 → h.p.awlEcc = false →
    Does (.awlResult sl) s (({ s with sl.awlQ := s.sl.awlQ.put [] sl r }.treeTransfer (sl / 4) 1 (some h.p.f.m.tenant)).afterAwl h.p)) ∧
  (∀ (s u : State) (sl : Nat) (h : Held) (r : List Held), s.sl.awlQ.at [] sl = h :: r → h.ready = true → s.forwarding = true →
    s.since h.at_ ≤ s.get F.AW_TIMEOUT_US [] * 1000 → h.p.awlEcc = true →
    u = { s with sl.awlQ := s.sl.awlQ.put [] sl r }.treeTransfer (sl / 4) 1 (some h.p.f.m.tenant) →
    Does (.awlResult sl) s ((u.unscanned h.p 6).2.afterAwl (u.unscanned h.p 6).1)) ∧
  (∀ (s u : State) (sl : Nat) (h : Held) (r : List Held) (q : Pass), s.sl.awlQ.at [] sl = h :: r → s.forwarding = true →
    s.get F.AW_TIMEOUT_US [] * 1000 < s.since h.at_ →
    u = { s with sl.awlQ := s.sl.awlQ.put [] sl r, awl.late := if h.ready then s.awl.late else s.awl.late ++ [h.p] } →
    q = { h.p with verdict := 0, verdictAo := 0, awlList := [], tr := { h.p.tr with
      hits := h.p.tr.hits - (if 1 ≤ h.p.tr.awlCount then 16 else 0), awlFirst := 0, awlCount := 0 } } →
    Does (.awlTimeout sl) s ((u.unscanned q 3).2.afterAwl (u.unscanned q 3).1)) ∧
  (∀ (s : State) (temp : Int), s.powered = true → s.variant ≠ .e → s.throttleDue 12 = true →
    Completes (.awlThrottleEval temp) s fun t => t.get F.AW_THERM_TEMP [] = unsigned 16 temp
      ∧ t.osp.coolAwl = (State.thermNext (s.get F.AW_THERM_STEP []) s.osp.coolAwl temp).2) ∧
  (∀ (s : State) (d v : Nat), s.powered = true → s.live 12 = true → d < 8 → s.variant.hasDie d = true → s.variant ≠ .e →
    Completes (.awlBudgetWrite d v) s fun t => t.get F.AW_BUDGET_GBPS [d] = min 600 (v % 1024)) ∧
  (∀ (s : State) (a : Nat), a < 16 → s.setState a = 4 →
    s.ddrBad (s.shadowOff a) (s.awl.image.at [] a).length = false →
    Completes (.awlSetReloaded a false) s fun t => t.setState a = 2 ∧ t.get F.AW_EVT_SET_RELOADED [] = 1
      ∧ t.awl.image.find? a = some (s.ddrGet (s.shadowOff a) (s.awl.image.at [] a).length)) ∧
  (∀ (s : State) (a : Nat), a < 16 → s.setState a = 4 →
    Completes (.awlSetReloaded a true) s fun t => t.setState a = 3 ∧ t.awl.image = s.awl.image) ∧
  (∀ (s u : State) (sl nm : Nat) (p : Pass) (r : List Pass), s.forwarding = true → s.live 12 = true →
    u = s.checkLatches 12 nm → takeFirst (fun (p : Pass) => p.f.m.slice == sl) s.flow.late = some (p, r) →
    Does (.flowOp (sl, nm)) s ({ u with flow.late := r }.flowOp p).2) ∧
  (∀ (s u : State) (sl nm i : Nat) (h : Held), s.forwarding = true → s.live 12 = true → u = s.checkLatches 12 nm →
    takeFirst (fun (p : Pass) => p.f.m.slice == sl) s.flow.late = none →
    ((s.sl.flowQ.at [] sl).findIdx? fun h => !h.ready) = some i → (s.sl.flowQ.at [] sl)[i]? = some h →
    Does (.flowOp (sl, nm)) s { (u.flowOp h.p).2 with
      sl.flowQ := (u.flowOp h.p).2.sl.flowQ.put [] sl
        (modifyAt (fun k => { k with p := (u.flowOp h.p).1, ready := true }) i ((u.flowOp h.p).2.sl.flowQ.at [] sl)) }) ∧
  (∀ (s : State) (sl : Nat) (h : Held) (r : List Held), s.sl.flowQ.at [] sl = h :: r → h.ready = true → s.forwarding = true →
    s.since h.at_ ≤ s.get F.FC_TIMEOUT_US [] * 1000 →
    Does (.flowResult sl) s (({ s with sl.flowQ := s.sl.flowQ.put [] sl r }.treeTransfer (sl / 4) 1 (some h.p.f.m.tenant)).resolve h.p)) ∧
  (∀ (s u : State) (sl : Nat) (h : Held) (r : List Held) (q : Pass), s.sl.flowQ.at [] sl = h :: r → s.forwarding = true →
    s.get F.FC_TIMEOUT_US [] * 1000 < s.since h.at_ →
    u = { s with sl.flowQ := s.sl.flowQ.put [] sl r, flow.late := if h.ready then s.flow.late else s.flow.late ++ [h.p] } →
    q = { h.p with flowAct := 0, flowAo := 0, tr := { h.p.tr with
      hits := h.p.tr.hits % 32 + h.p.tr.hits / 128 * 128, flowState := 0 } } →
    Does (.flowTimeout sl) s ((u.flowFails q 3).2.resolve (u.flowFails q 3).1)) ∧
  (∀ (s : State) (i : Nat) (c : Flow), s.flow.ctx.find? i = some c → s.flow.read.find? i = none → s.running = true →
    s.get F.FC_PROF_B_IDLE_S [bits c.key 323 320] ≠ 0 →
    c.lastSec + s.get F.FC_PROF_B_IDLE_S [bits c.key 323 320] ≤ s.clock.sec →
    exec (.flowAgerVisit i) s = .next { s with flow.read := s.flow.read.insert i (c.lastSec, c.lastNs) }) ∧
  (∀ (s : State) (i : Nat) (c : Flow), s.flow.ctx.find? i = some c → s.flow.read.find? i = some (c.lastSec, c.lastNs) →
    ({ s with flow.read := s.flow.read.erase i }.flowRead c.key).1.isSome = true →
    Completes (.flowAgerVisit i) s fun t => t.flow.ctx.find? i = none
      ∧ t.ctr R.FC_AGED [] = (s.ctr R.FC_AGED [] + 1) % 2 ^ 64) ∧
  (∀ (s : State) (i : Nat) (c : Flow) (a b : Nat), s.flow.ctx.find? i = some c → s.flow.read.find? i = some (a, b) →
    (c.lastSec ≠ a ∨ c.lastNs ≠ b) →
    exec (.flowAgerVisit i) s = .next ({ s with flow.read := s.flow.read.erase i }.flowRead c.key).2) ∧
  (∀ (s : State) (tbl i fixed : Nat), s.variant ≠ .e → s.live 12 = true → s.mayBorrow 2 12 = true →
    Completes (.scrubBurst 12 tbl i fixed false) s fun t => t.flt.reports = s.flt.reports
      ++ List.replicate fixed { die := 12, unit := 11, cause := 1, d0 := i }) ∧
  (∀ (s : State) (x tbl i fixed : Nat) (tb : Tbl), x < 8 → s.live x = true → s.mayBorrow 2 x = true → Tbl.all[tbl]? = some tb →
    [Tbl.exact, .root, .lpWord, .vrfDef, .ao, .elist, .tenant, .os].contains tb = true →
    Completes (.scrubBurst x tbl i fixed false) s fun t => t.badTabs = s.badTabs ∧ t.flt.reports = s.flt.reports
      ++ List.replicate fixed { die := x, unit := if tb = .os then 6 else 5, cause := 1, d0 := i }) ∧
  (∀ (s : State) (x tbl i : Nat) (tb : Tbl), x < 8 → s.live x = true → s.mayBorrow 2 x = true → Tbl.all[tbl]? = some tb →
    [Tbl.exact, .root, .lpWord, .vrfDef, .ao, .elist, .tenant, .os].contains tb = true → s.tabBad x tb i = false →
    Completes (.scrubBurst x tbl i 0 true) s fun t => t.badTabs = s.badTabs ++ [tkey x tb i] ∧ t.flt.reports = s.flt.reports
      ++ [{ die := x, unit := if tb = .os then 6 else 5, cause := 2, d0 := i }])

/-- Spans are closed, time marks and cells travel, queues are visited and reported, and cells are spilled to and filled from
DDR5. (R338, R339, R352, R343, R342, R376, R364, R365, R350, R19). Where a clause rests on a reading of the log
(notes/assumptions), it is the model's. -/
def Obligations.FabricCompletes : Prop :=
  (∀ (s : State) (kind sl x : Nat) (st : Stream), st = s.fab.streams.at {} (streamKey kind sl x) → s.forwarding = true →
    s.live (sl / 4) = true → s.fab.repatAt = none → (st.cur.isSome = true ∨ st.done ≠ []) →
    s.get F.LC_CFG_HOLD_NS [sl / 4] ≤ s.since st.since →
    Does (.spanHoldExpiry kind sl x) s ((s.sendSpan (streamKey kind sl x)).inc R.LC_HOLD_CLOSED [sl / 4])) ∧
  (∀ (s : State) (d g k : Nat), s.forwarding = true → s.live d = true → s.live (8 + g) = true → d < 8 → k < s.strapsPer →
    Completes (.timeMark d g k) s fun t => t.fab.stamp.at 0 (key3 d g k)
      = max (s.fab.stamp.at 0 (key3 d g k)) (s.clock.tick + 1)) ∧
  (∀ (s u : State) (g k nm : Nat) (noCell : Bool) (c : Cell), s.forwarding = true → s.live (8 + g) = true →
    s.fab.repatAt = none → u = s.checkLatches (8 + g) nm → u.nextCommit g = some (k, c) → (State.linksOf c).length ≤ u.linksFree g →
    Does (.cellCommit g (noCell, nm)) s
      ({ u with fab.strap := u.fab.strap.put [] k ((u.fab.strap.at [] k).drop 1), fab.stamp := u.fab.stamp.put 0 k (u.delivered k) }.commit
        g c noCell)) ∧
  (∀ (s : State) (g q bad : Nat) (hdrBad : Bool), s.forwarding = true → s.live (8 + g) = true →
    ((s.gq g (deepId q)).filter fun l => l.page.isNone).length < s.get F.BM_DEEP_HEAD_COLS [g] - 37 → s.frontHeld g (deepId q) = false →
    Does (.deepFill g q bad hdrBad) s (s.fillPage g (deepId q) bad hdrBad)) ∧
  (∀ (s : State) (g d nm e : Nat), s.forwarding = true → s.live (8 + g) = true → s.live d = true → d < 8 →
    s.fab.repatAt = none → s.fab.calPos.at 0 (key2 g d) ≠ 0 →
    (s.fab.cal.at [] (key2 g d))[s.fab.calPos.at 0 (key2 g d)]? = some e →
    ∀ u : State, u = { s.checkLatches (8 + g) nm with
        fab.calPos := s.fab.calPos.put 0 (key2 g d) (if s.fab.calPos.at 0 (key2 g d) + 1 < (s.fab.cal.at [] (key2 g d)).length
          then s.fab.calPos.at 0 (key2 g d) + 1 else 0) } →
      Does (.calendarEntry g (d, nm)) s (if e < 64 then u.servePort g (64 * d + e) else u.serveMc g d (e - 64))) ∧
  (∀ (s : State) (g d nm e : Nat) (l : List Nat), s.forwarding = true → s.live (8 + g) = true → s.live d = true → d < 8 →
    s.fab.repatAt = none → s.fab.calPos.at 0 (key2 g d) = 0 → s.fab.calNew.find? (key2 g d) = some (e :: l) →
    ∀ u : State, u = { s.checkLatches (8 + g) nm with
        fab.cal := s.fab.cal.put [] (key2 g d) (e :: l), fab.calNew := s.fab.calNew.erase (key2 g d),
        fab.calPos := s.fab.calPos.put 0 (key2 g d) (if l = [] then 0 else 1) } →
      Does (.calendarEntry g (d, nm)) s (if e < 64 then u.servePort g (64 * d + e) else u.serveMc g d (e - 64))) ∧
  (∀ (s : State) (d : Nat), s.fab.calDue.contains d = true →
    Completes (.calendarRebuild d) s fun t => t.fab.calDue = removeOne d s.fab.calDue
      ∧ ∀ g, s.live (8 + g) = true → g < 4 → t.fab.calNew.at [] (key2 g d) = s.buildCal d) ∧
  (∀ (s : State) (g q bad : Nat) (l : Link) (r : List Link), s.forwarding = true → s.live (8 + g) = true → s.fab.repatAt = none →
    q < 0x1000 → s.gq g q = l :: r → l.page = none → l.at_ + s.get F.MD_RESID_LIMIT_US [] * 1000 < s.clock.tick →
    s.hasCredit g (q / 512) (q / 8 % 64) = true →
    Does (.girthQueueVisit g q bad) s ((((s.deliver g q (q / 512) (q / 8 % 64)).inc R.QM_EXPEDITED [g]).raise
      F.QM_EVT_EXPEDITE [g]).countKind (128 + 8 * g + 6) 1 1)) ∧
  (∀ (s : State) (g q : Nat), s.powered = true → s.live (8 + g) = true →
    Completes (.queueReport g q) s fun t => t.fab.repDepth.at 0 (key2 g q) = (s.gq g q).length
      ∧ t.fab.repAvg.at 0 (key2 g q) = s.fab.avg.at 0 (key2 g q)
      ∧ t.fab.repUsed.at 0 g = s.fab.used.at 0 g + s.fab.retired.at 0 g ∧ t.fab.queue = s.fab.queue) ∧
  (∀ (s : State) (g : Nat), s.powered = true → s.live (8 + g) = true → 1000 ≤ s.since (s.fab.avgAt.at 0 g) →
    Completes (.queueAvgUpdate g) s fun t => t.fab.avgAt.at 0 g = s.clock.tick ∧ t.fab.queue = s.fab.queue
      ∧ t.fab.avg.at 0 (key2 g 0) = (Int.ofNat (s.fab.avg.at 0 (key2 g 0))
          + Int.fdiv (Int.ofNat (256 * (s.gq g 0).length) - Int.ofNat (s.fab.avg.at 0 (key2 g 0)))
              (2 ^ bits (s.rd R.QM_WEIGHT [g]) 3 0)).toNat) ∧
  (∀ (s : State) (d : Nat) (n : Nat × Nat × Nat) (r : List (Nat × Nat × Nat)),
    takeFirst (fun (n : Nat × Nat × Nat) => n.1 / 64 == d) s.fab.notices = some (n, r) →
    Completes (.releaseNotice d) s fun t => t.fab.notices = r
      ∧ t.port.fcBytes.at 0 (key2 n.1 n.2.1) = s.fcHeld n.1 n.2.1 - n.2.2) ∧
  (∀ (s : State) (b o : Nat), s.powered = true → [2, 3, 7, 8].contains (blockKind b) = true →
    [2, 3, 7, 8].contains (blockKind o) = true →
    Completes (.strapCrcError b o true) s fun t => t.flt.reports = s.flt.reports ++ [{ die := blockDie b, unit := 4, cause := 1 }]) ∧
  (∀ (s : State) (b o : Nat), s.powered = true → [2, 3, 7, 8].contains (blockKind b) = true →
    [2, 3, 7, 8].contains (blockKind o) = true →
    Completes (.strapCrcError b o false) s fun t => t.flt.reports = s.flt.reports ++ [{
      die := if max (blockDie b) (blockDie o) = 12 then min (blockDie b) (blockDie o) else max (blockDie b) (blockDie o),
      unit := 4, cause := 4, dieWide := true, d0 := min (blockDie b) (blockDie o), d1 := max (blockDie b) (blockDie o) }]) ∧
  (∀ (s u v : State) (g q h : Nat) (cand : List (Link × Nat)), s.forwarding = true → s.live (8 + g) = true → s.variant.hasDdr = true →
    cand = s.spillColumns g q → cand ≠ [] →
    u = cand.foldl (fun t e => if e.1.cell.typ = 1 then t else t.parkCell g e.1.id)
      { s with fab.nextId := s.fab.nextId + (s.gq g (deepId q)).length } →
    u.takePage = (some h, v) → v.ddrHeld (v.pageAt h) 16384 = false →
    (((s.gq g (deepId q)).filterMap (·.page)).getLast?.all fun old => !v.ddrHeld (v.pageAt old) 12) = true →
    Completes (.deepSpill g q) s fun t =>
      t.ctr R.BM_SPILLED [g] = (v.ctr R.BM_SPILLED [g] + cand.length) % 2 ^ 64
      ∧ t.gq g (deepId q) = (s.gq g (deepId q)).zipIdx.map fun e =>
          if (cand.map (·.2)).contains e.2 then { s.spilled g e.1 with id := s.bareId + e.2, page := some h } else e.1) ∧
  (∀ (s u v : State) (g q : Nat) (cand : List (Link × Nat)), s.forwarding = true → s.live (8 + g) = true → s.variant.hasDdr = true →
    cand = s.spillColumns g q → cand ≠ [] →
    u = cand.foldl (fun t e => if e.1.cell.typ = 1 then t else t.parkCell g e.1.id)
      { s with fab.nextId := s.fab.nextId + (s.gq g (deepId q)).length } →
    u.takePage = (none, v) →
    Completes (.deepSpill g q) s fun t => t.gq g (deepId q) = (s.gq g (deepId q)).zipIdx.map fun e =>
      if (cand.map (·.2)).contains e.2 then { s.spilled g e.1 with id := s.bareId + e.2, lost := true } else e.1)

/-- Cells arrive and time out, flushes, releases and room signals act, patterns are rebuilt, and buffers are allocated and
freed. (R345, R347, R181, R182, R377, R353, R356, R357, R339). Where a clause rests on a reading of the log (notes/assumptions),
it is the model's. -/
def Obligations.LacingAndBuffersComplete : Prop :=
  (∀ (s : State) (d g k a : Nat), s.forwarding = true → s.live d = true → d < 8 → s.fab.repatAt = none →
    s.mayTakeSlot a d (8 * d + 4 + k / 16 % 4) = true →
    Does (.lacingCellArrive d g k (some a)) s
      ((s.countEgr (4 * d + k / 16 % 4) 5).takeSlot a d (8 * d + 4 + k / 16 % 4))) ∧
  (∀ (s : State) (d g k : Nat) (a : Option Nat) (c : Cell) (r : List Cell), s.forwarding = true → s.live d = true → d < 8 →
    s.fab.repatAt = none → a.all (fun x => !s.mayTakeSlot x d (8 * d + 4 + k / 16 % 4)) = true → s.fab.recv.at [] (recvKey d g k) = c :: r → c.typ ≠ 3 →
    s.fab.flushWait.at 0 (64 * d + k) = 0 → (s.fab.lace.at {} (key2 d c.qid)).h ≤ c.ord →
    c.ord ≤ (s.fab.lace.at {} (key2 d c.qid)).h + 3 →
    (s.fab.lace.at {} (key2 d c.qid)).gone.all (fun x => x.1 != c.ord) = true →
    Does (.lacingCellArrive d g k a) s
      ((({ s with fab.recv := s.fab.recv.put [] (recvKey d g k) r }.backCredit g d k).laceCell d c).showSlots d)) ∧
  (∀ (s : State) (d q : Nat) (p : LSpan), s.forwarding = true → s.live d = true → d < 8 →
    ((s.fab.lace.at {} (key2 d q)).spans.find? fun p =>
      decide (p.cells.length < s.cols) && decide (s.get F.LC_CFG_TIMEOUT_US [d] * 1000 ≤ s.since p.at_)) = some p →
    Completes (.lacingTimeout d q) s fun t => t.get F.LC_EVT_TIMEOUT [d] = 1) ∧
  (∀ (s : State) (p lanes us : Nat) (rx lf rf trained : Bool), s.powered = true → s.live (p / 64) = true → s.linkUp p = true →
    (s.lineGood p lanes lf rf trained = false ∨ (s.get F.PG_PORT_CTRL_AN_EN (pix p) = 1 ∧ s.get F.PG_PORT_STAT_AN_DONE (pix p) = 0)) →
    s.get F.PG_PORT_TIMERS_DOWN_DEB_US (pix p) ≤ us →
    Completes (.linkDown p rx (lanes, lf, rf, trained) us) s fun t => t.linkUp p = false ∧ t.get F.PG_PORT_STAT_LOCAL_FAULT (pix p) = b2n lf
      ∧ t.get F.PG_PORT_STAT_REMOTE_FAULT (pix p) = b2n rf ∧ t.get F.PG_PORT_EVT_LINK_CHANGE (pix p) = 1
      ∧ t.ctr R.LINK_DOWN_COUNT (pix p) = (s.ctr R.LINK_DOWN_COUNT (pix p) + 1) % 2 ^ 64) ∧
  (∀ (s : State) (p v : Nat), s.powered = true → s.live (p / 64) = true → p < 512 → s.isPort p = true →
    (bit v 31 = true → (laneFec (s.portRate p)).contains (bits v 28 27) = true) → bits v 28 27 ≠ 3 → bits v 25 24 ≠ 3 →
    bits v 23 22 ≠ 3 →
    Completes (.portCtrlWrite p v) s fun t => t.rd R.PG_PORT_CTRL (pix p) = v &&& R.PG_PORT_CTRL.rw) ∧
  (∀ (s : State) (p v : Nat), s.powered = true → s.live (p / 64) = true → p < 512 → s.isPort p = true → bits v 28 27 = 3 →
    Completes (.portCtrlWrite p v) s fun t => t.rd R.PG_PORT_CTRL (pix p) = s.rd R.PG_PORT_CTRL (pix p)
      ∧ t.get F.PG_GRP_STAT_CFG_REFUSED [p / 64, p / 8 % 8] = 1) ∧
  (∀ (s : State) (g p : Nat), bit (s.fab.flushAsk.at 0 p) g = true → s.live (8 + g) = true → s.fab.repatAt = none →
    Completes (.flushRequest g p) s fun t => bit (t.fab.flushAsk.at 0 p) g = false
      ∧ t.fab.recv.at [] (recvKey (p / 64) g (p % 64)) = s.fab.recv.at [] (recvKey (p / 64) g (p % 64)) ++ [{ typ := 3 }]) ∧
  (∀ (s : State) (g p : Nat), bit (s.fab.flushWait.at 0 p) g = true →
    (s.fab.recv.at [] (recvKey (p / 64) g (p % 64))).any (fun c => c.typ == 3) = true →
    Completes (.flushMarker g p) s fun t => bit (t.fab.flushWait.at 0 p) g = false) ∧
  (∀ s : State, s.forwarding = true → s.lostGirths ≠ 0 → s.fab.repatAt = none → s.liveGirths ≠ [] → s.tack.edrain = none →
    Completes .repattern s fun t => t.fab.repatAt = some s.clock.tick ∧ t.fab.repatLost = s.lostGirths
      ∧ t.get F.FP_REPAT_ACTIVE [] = 1 ∧ t.get F.FP_EVT_REPATTERN_START [] = 1) ∧
  (∀ (s : State) (t0 : Nat), s.fab.repatAt = some t0 → s.tack.edrain = none → s.liveGirths ≠ [] →
    Completes .repatternResume s fun t => t.fab.repatAt = none ∧ t.get F.FP_REPAT_ACTIVE [] = 0
      ∧ t.get F.FP_PATTERN_GEN [] = (s.get F.FP_PATTERN_GEN [] + 1) % 4
      ∧ t.get F.FP_PATTERN_N_M1 [] = s.liveGirths.length - 1 ∧ t.get F.FP_EVT_REPATTERN_DONE [] = 1) ∧
  (∀ (s t : State) (n h : Nat), s.powered = true → 4 ≤ n → n ≤ 8 → s.takeFrom n = some (h, t) →
    Does (.bufferAlloc n) s t) ∧
  (∀ (s : State) (n i : Nat) (r : List Nat), s.powered = true → 4 ≤ n → n ≤ 8 → s.pool.stack.at [] n = i :: r →
    Completes (.bufferAlloc n) s fun t => t.pool.used.at 0 (handle n i) = 1 ∧ t.pool.stack.at [] n = r
      ∧ t.ctr R.SB_ALLOC [n] = (s.ctr R.SB_ALLOC [n] + 1) % 2 ^ 64) ∧
  (∀ (s : State) (n i : Nat), s.powered = true → 4 ≤ n → n ≤ 8 → i < s.get F.SB_POOL_CFG_COUNT [n] → i < 2 ^ 24 →
    s.pool.used.at 0 (handle n i) ≠ 0 → s.pool.gone.contains (handle n i) = false →
    Completes (.bufferFree (handle n i)) s fun t => t.pool.used.at 0 (handle n i) = 0
      ∧ t.pool.stack.at [] n = i :: s.pool.stack.at [] n) ∧
  (∀ (s u : State) (g k nm : Nat) (noCell : Bool) (c : Cell), s.forwarding = true → s.live (8 + g) = true →
    s.fab.repatAt = none → u = s.checkLatches (8 + g) nm → u.nextCommit g = some (k, c) → u.linksFree g < (State.linksOf c).length →
    Does (.cellCommit g (noCell, nm)) s (u.noLink g))

/-- The Rein selects a frame, a transmission ends, aged frames are swept, gates and group configuration change. (R373, R398,
R410, R375, R400). Where a clause rests on a reading of the log (notes/assumptions), it is the model's. -/
def Obligations.EgressCompletes : Prop :=
  (∀ (s : State) (d c : Nat), s.forwarding = true → s.live d = true → d < 8 → c < 8 →
    Completes (.roomSignal d 64 c) s fun t => t = { s with fab.noRoom := t.fab.noRoom }
      ∧ t.fab.noRoom.at 0 (mcRoomKey d c) = b2n !(decide (s.get F.EQ_BUF_RESV [d] ≤ 32768 - s.slotsUsed d)
          && decide (((s.fab.mc.filter fun e => e.1 / 2 ^ 40 == d && e.2.2.2 == c).map fun e => e.2.2.1).sum < s.get F.EQ_CFG_ROOM [d]))) ∧
  (∀ (s : State) (d k c : Nat), s.forwarding = true → s.live d = true → d < 8 → k < 64 → c < 8 →
    Completes (.roomSignal d k c) s fun t => t = { s with fab.noRoom := t.fab.noRoom }
      ∧ t.fab.noRoom.at 0 (roomKey (64 * d + k) c) = b2n !(decide (s.get F.EQ_BUF_RESV [d] ≤ 32768 - s.slotsUsed d)
          && decide (((s.eq (64 * d + k) c).map EFrame.slots).sum < s.get F.EQ_CFG_ROOM [d])
          && s.fab.flushWait.at 0 (64 * d + k) == 0)) ∧
  (∀ (s u : State) (p c nm : Nat) (e : EFrame) (r : List EFrame), s.forwarding = true → s.live (p / 64) = true →
    s.linkUp p = true → s.port.tx.find? p = none → (s.checkLatches (p / 64) nm).offerPort p = (some c, u) → u.eq p c = e :: r →
    Does (.reinSelect p nm) s ((u.handOver p c e r).showSlots (p / 64))) ∧
  (∀ (s u : State) (p c nm : Nat) (e : EFrame) (r : List EFrame), s.forwarding = true → s.live (p / 64) = true →
    s.linkUp p = true → s.port.tx.find? p = none → (s.checkLatches (p / 64) nm).offerPort p = (some c, u) → u.eq p c = e :: r →
    e.whole = false →
    Completes (.reinSelect p nm) s fun t => t.port.tx.find? p = some { e := e, cls := c, out := [] } ∧ t.eq p c = r) ∧
  (∀ (s : State) (p back : Nat) (x : TxFrame), s.port.tx.find? p = some x → Does (.frameTxDone p back) s (s.endTx p back x)) ∧
  (∀ (s : State) (p back : Nat) (x : TxFrame), s.port.tx.find? p = some x →
    Completes (.frameTxDone p back) s fun t => t.port.tx.find? p = none) ∧
  (∀ (s : State) (p c : Nat), s.forwarding = true → s.live (p / 64) = true → c < 8 →
    Completes (.egressAgeSweep p c) s fun t => t.eq p c = (s.eq p c).dropWhile fun e => s.aged e.m) ∧
  (∀ (s : State) (p : Nat), s.powered = true → s.live (p / 64) = true → p < 512 → s.variant ≠ .e →
    Does (.gateChange p) s ((s.markOverrun p).showGates p)) ∧
  (∀ (s : State) (p : Nat), s.powered = true → s.live (p / 64) = true → p < 512 → s.variant ≠ .e → s.gaitOn p = false →
    Completes (.gateChange p) s fun t => t.get F.GA_STAT_GATES (pix p) = 0xFF ∧ t.get F.GA_STAT_ENTRY (pix p) = 0)

/-- Sequenced writes apply, learning, hits and ageing act, entries are reloaded, plans written, and compaction starts, moves,
ends or stops. (R288, R293, R292, R284, R294, R265, R403, R322, R320, R323, R325, R324). Where a clause rests on a reading of
the log (notes/assumptions), it is the model's. -/
def Obligations.TablesComplete : Prop :=
  (∀ (s : State) (key tenant port d : Nat) (r : List (Nat × Nat × Nat × Nat)), s.ts.learn = (key, tenant, port, d) :: r →
    s.running = true → s.live d = true →
    Does .learnRequest s ({ s with ts.learn := r, ts.asked := removeOne (d, key) s.ts.asked }.learnOne key tenant port)) ∧
  (∀ (s : State) (slot key port tenant n : Nat) (r : List (Nat × Nat × Nat × Nat × Nat)), s.ts.hits = (slot, key, port, tenant, n) :: r →
    s.tab 12 .exact slot ≠ 0 → s.tab 12 .exact slot / 2 ^ 32 = key →
    (s.ts.visits.any fun a => a.slot == slot && decide (n < a.m)) = false →
    Completes .hitNotice s fun t => t.ts.hits = r ∧ t.ts.periodHit.at 0 slot = 1 ∧ t.tabs = s.tabs) ∧
  (∀ (s : State) (slot key port tenant n : Nat) (r : List (Nat × Nat × Nat × Nat × Nat)), s.ts.hits = (slot, key, port, tenant, n) :: r →
    (s.tab 12 .exact slot = 0 ∨ s.tab 12 .exact slot / 2 ^ 32 ≠ key) → s.running = true →
    Does .hitNotice s (({ s with ts.hits := r }.inc R.TS_RELEARN []).learnOne key tenant port)) ∧
  (∀ (s : State) (slot : Nat), s.running = true → s.get F.TS_CTRL_AGE_EN [] = 1 → s.tab 12 .exact slot ≠ 0 →
    bit (s.tab 12 .exact slot) 29 = true → (s.ts.visits.any fun a => a.slot == slot) = false →
    (s.ts.visitAt.at 0 slot = 0 ∨ s.get F.TS_AGE_AGE_S [] * 1000000000 ≤ s.since (s.ts.visitAt.at 0 slot - 1)) →
    Completes (.agerVisit slot) s fun t => t.ts.visitAt.at 0 slot = s.clock.tick + 1 ∧ t.ts.periodHit.at 0 slot = 0
      ∧ t.ts.visits = s.ts.visits ++ [{
          slot := slot, key := s.tab 12 .exact slot / 2 ^ 32, m := s.ts.issued + 1, hit := s.ts.periodHit.at 0 slot == 1 }]) ∧
  (∀ (s : State) (slot : Nat) (a : AgeVisit) (r : List AgeVisit),
    takeFirst (fun (a : AgeVisit) => a.slot == slot && decide (a.m ≤ s.appliedAll)) s.ts.visits = some (a, r) →
    s.tab 12 .exact slot ≠ 0 → s.tab 12 .exact slot / 2 ^ 32 = a.key → bit (s.tab 12 .exact slot) 29 = true → a.hit = false →
    a.hitNew = false → s.running = true →
    Completes (.ageDecide slot) s fun t => t.ts.visits = r ∧ t.ctr R.TS_AGED [] = (s.ctr R.TS_AGED [] + 1) % 2 ^ 64) ∧
  (∀ (s : State) (slot : Nat) (a : AgeVisit) (r : List AgeVisit),
    takeFirst (fun (a : AgeVisit) => a.slot == slot && decide (a.m ≤ s.appliedAll)) s.ts.visits = some (a, r) → a.hit = true →
    exec (.ageDecide slot) s = .next { s with ts.visits := r }) ∧
  (∀ (s : State) (d : Nat), s.powered = true → s.live d = true → d < 8 → Does (.seqWriteApply d) s ((s.applyNext d).finishSeq)) ∧
  (∀ (s : State) (x i y : Nat) (tb : Tbl) (r : List Nat), s.badTabs = tkey x tb i :: r → Tbl.all[tb.num]? = some tb → tb.num < 64 →
    i < 2 ^ 200 → tb ≠ .mcast → (if tb = Tbl.os then some x else s.liveSkirts.find? fun y => y != x) = some y →
    (s.flt.reports.any fun f => f.die == x && f.cause == 2) = false →
    Does .entryReload s (({ s with badTabs := r }.setTab x tb i (s.tab y tb i)).recovered x (if tb = Tbl.os then 6 else 5) 2)) ∧
  (∀ (s : State) (d p k v : Nat), s.ringPowered = true → d < 8 → s.live d = true → p < 16 → k < 6 →
    Does (.planWrite d p k v) s (s.writeLookupPlan d p k v).2) ∧
  (∀ (s : State) (d p v : Nat), s.ringPowered = true → d < 8 → s.live d = true → p < 16 → v < 2 ^ 32 →
    Completes (.planWrite d p 4 v) s fun t => t.rd R.OS_PLAN_B [d, p] &&& R.OS_PLAN_B.rw = v &&& R.OS_PLAN_B.rw) ∧
  (∀ (s : State) (p v : Nat), s.ringPowered = true → p < 512 → s.live (p / 64) = true → s.variant ≠ .e → s.gaitCommit = false →
    s.get F.GA_CTRL_ARM (pix p) = 0 →
    Completes (.gaitArmWrite p v) s fun t => t.get F.GA_CTRL_ARM (pix p) = bits v 30 30
      ∧ t.get F.GA_CTRL_PEND_EN (pix p) = bits v 29 29 ∧ t.get F.GA_CTRL_PEND_LEN (pix p) = bits v 10 0) ∧
  (∀ s : State, s.running = true → s.osp.busy = false → (s.ts.log.all fun e => e.2.tbl != Tbl.os.num) = true →
    s.get F.PT_CTRL_CLAIMS_EN [] = 1 → (s.liveSkirts.any fun d => s.isOn F.OS_CTRL_COMPACT [d]) = true →
    Completes .compactionStart s fun t => t.osp.busy = true ∧ t.osp.again = false ∧ t.osp.moves.at [] 12 = s.osSpace.osMoveList
      ∧ t.tabs = s.tabs) ∧
  (∀ (s : State) (d src dst : Nat) (r : List (Nat × Nat)), s.osp.moves.at [] d = (src, dst) :: r → s.osp.busy = true → d < 8 →
    s.live d = true → s.mayWork 4 d = true → 4 ≤ s.pace.slots.at 0 d →
    Completes (.compactionMove d) s fun t => t.osp.moves.at [] d = r ∧ t.tabs = (s.osMoveOn d src dst).tabs
      ∧ t.ctr R.OS_MOVES [d] = (s.ctr R.OS_MOVES [d] + 1) % 2 ^ 64) ∧
  (∀ s : State, s.osp.busy = true → (s.liveSkirts.all fun d => (s.osp.moves.at [] d).isEmpty) = true →
    Completes .compactionDone s fun t => t.osp.busy = false) ∧
  (∀ s : State, s.osp.busy = true → (s.mode ≠ .run ∨ s.get F.PT_CTRL_CLAIMS_EN [] = 0) →
    Completes .compactionStop s fun t => t.osp.busy = false ∧ t.osp.again = true) ∧
  (∀ (s : State) (w : OsWait) (r : List OsWait), s.osp.waiting = w :: r → 50000000 ≤ s.since w.at_ →
    Does .osWriteWaitTimeout s (if ({ s with osp.waiting := r }.osAnswer w.ref 0x12 0).osp.busy
      then ({ s with osp.waiting := r }.osAnswer w.ref 0x12 0).showHeld
      else ({ s with osp.waiting := r }.osAnswer w.ref 0x12 0).osRelease)) ∧
  (∀ (s : State) (d : Nat) (temp : Int), s.powered = true → s.live d = true → d < 8 → s.throttleDue d = true →
    Completes (.osThrottleEval d temp) s fun t => t.get F.OS_THERM_TEMP [d] = unsigned 16 temp
      ∧ t.osp.cool.at 0 d = (State.thermNext (s.get F.OS_THERM_STEP [d]) (s.osp.cool.at 0 d) temp).2)

/-- Capture and sample records are written, minutes are cut, sets done or diverted, and their configuration is written. (R380,
R538, R381, R413, R416, R418, R422, R419). Where a clause rests on a reading of the log (notes/assumptions), it is the model's. -/
def Obligations.RecordsComplete : Prop :=
  (∀ (s : State) (x : Nat × Option (Nat × Nat) × Cell × Start) (r : List (Nat × Option (Nat × Nat) × Cell × Start)),
    s.powered = true → s.fab.captures = x :: r → s.capHeld = false →
    Completes .captureRecord s fun t => t.fab.captures = r) ∧
  (∀ (s : State) (x : List Byte × Nat) (r : List (List Byte × Nat)), s.powered = true → s.sl.samples = x :: r → s.capHeld = false →
    Completes .sampleRecord s fun t => t.sl.samples = r) ∧
  (∀ (s : State) (v : Nat), s.powered = true → s.live 12 = true → s.variant ≠ .e → s.get F.CP_DDR_CFG_EN [] = 0 →
    Completes (.captureRingEnable v) s fun t => t.get F.CP_DDR_CFG_EN [] = 1 ∧ t.get F.CP_DDR_CFG_LOG2 [] = clamp 8 20 (bits v 4 0)
      ∧ t.get F.CP_DDR_PROD_INDEX [] = 0 ∧ t.get F.CP_DDR_CONS_INDEX [] = 0 ∧ t.fab.capSeq.at 0 0 = 0) ∧
  (∀ s : State, s.tallyUp = true → s.tally.on = true → s.mode = .drain → s.modes.odrain.isSome = true → s.drained = true →
    Does .tallyCut s s.tallyCutFlush) ∧
  (∀ s : State, s.tallyUp = true → s.tally.on = true → s.mode ≠ .drain → s.tally.minuteEnd ≤ s.tallyNow →
    Does .tallyCut s s.cutBoundary) ∧
  (∀ s : State, s.tallyUp = true → s.tally.on = true → s.mode ≠ .drain → s.tallyNow < s.tally.minuteEnd →
    s.tally.nextInterim ≤ s.tallyNow → Does .tallyCut s s.cutInterim) ∧
  (∀ s : State, s.tallyUp = true →
    Does .tallySetDone s (if s.tallyRun.setWritten then s.tallyRun.setComplete else s.tallyRun)) ∧
  (∀ (s : State) (u : TallySet) (r : List TallySet), s.tally.sets = u :: r → s.tallyUp = true → 1000000000 ≤ s.since u.cutAt →
    Does .tallyDivert s s.tallyRun) ∧
  (∀ (s : State) (v : Nat), s.powered = true → s.live 12 = true →
    Completes (.tallyTimeWrite v) s fun t => t.get F.TL_TIME_INTERIM_S [] = clamp 1 60 (bits v 21 16)
      ∧ t.get F.TL_TIME_OFFSET_S [] = min 59 (bits v 5 0) ∧ (s.tally.on = true → t.get F.TL_STAT_TIME_PEND [] = 1)) ∧
  (∀ (s : State) (v : Nat), s.powered = true → s.live 12 = true → s.variant ≠ .e → s.get F.TL_LOG_CFG_EN [] = 0 →
    Completes (.tallyLogEnable v) s fun t => t.get F.TL_LOG_CFG_EN [] = 1 ∧ t.get F.TL_LOG_CFG_LOG2 [] = clamp 10 24 (bits v 4 0)
      ∧ t.get F.TL_LOG_PROD_INDEX [] = 0 ∧ t.get F.TL_LOG_CONS_INDEX [] = 0)

/-- Channels fall due for retraining and end it, patrol scrub and uncorrectable reads act, pages are retired; page responses,
translations and invalidations act. (R505, R506, R507, R508, R514, R512, R513). Where a clause rests on a reading of the log
(notes/assumptions), it is the model's. -/
def Obligations.MemoryAndTranslationComplete : Prop :=
  (∀ (s : State) (c : Nat) (temp : Int), s.running = true → c < s.variant.channels → s.get F.DM_CH_STAT_TRAINED [c] = 1 →
    s.get F.DM_RETRAIN_INTERVAL_S [] * 1000000000 ≤ s.since (s.ddr.trainAt.at 0 c - 1) →
    Completes (.retrainDue c temp) s fun t => t.get F.DM_CH_STAT_TEMP [c] = unsigned 8 temp ∧ t.ddr.due.contains c = true) ∧
  (∀ (s : State) (c : Nat), s.retraining = some c →
    Completes (.retrainDone false) s fun t => t.ddr.due = s.ddr.due.filter (· != c)
      ∧ t.ddr.trainAt.at 0 c = s.clock.tick + 1 ∧ t.ddr.trainTemp.at 0 c = signed 8 (s.get F.DM_CH_STAT_TEMP [c])) ∧
  (∀ (s : State) (c : Nat), s.retraining = some c →
    Completes (.retrainDone true) s fun t => t.ddr.due = s.ddr.due.filter (· != c) ∧ t.ddr.trainTemp = s.ddr.trainTemp
      ∧ t.ctr R.DM_RETRAIN_FAIL [c] = (s.ctr R.DM_RETRAIN_FAIL [c] + 1) % 2 ^ 64 ∧ t.get F.DM_EVT_RETRAIN_FAIL [] = 1) ∧
  (∀ (s : State) (o : Nat) (fixed : Bool), s.powered = true → s.mayBorrow 2 12 = true →
    s.scrubDue (o / 64) = true → o < s.ddrSize → s.ddrWaits o = false → s.ddr.bad.contains (o / 64) = false →
    Does (.ddrPatrolScrub o fixed false) s
      (if fixed then (s.scrubPast o).ddrCe o else s.scrubPast o)) ∧
  (∀ (s : State) (o : Nat) (fixed : Bool), s.powered = true → s.mayBorrow 2 12 = true →
    s.scrubDue (o / 64) = true → o < s.ddrSize → s.ddrWaits o = false →
    Completes (.ddrPatrolScrub o fixed true) s fun t => t.ddr.bad.contains (o / 64) = true
      ∧ t.ctr R.DM_UE_DROP [] = (s.ctr R.DM_UE_DROP [] + 1) % 2 ^ 64 ∧ t.get F.DM_EVT_UE [] = 1) ∧
  (∀ (s : State) (o req a b c : Nat), s.powered = true → s.ddrTrained = true → o < s.ddrSize →
    Does (.ddrUncorrectable o req a b c) s
      (({ s with ddr.bad := addOnce (o / 64) s.ddr.bad }.ddrUe o).ueOutcome o req a b c)) ∧
  (∀ (s : State) (p k : Nat) (r : List Nat), s.ddr.retire = p :: r →
    ((List.range (s.get F.DM_SPARE_PAGES [])).find? fun k => !s.ddr.spares.contains k) = some k →
    Completes .pageRetire s fun t => t.ddr.retire = r ∧ t.ddr.remap.at 0 p = k + 1 ∧ t.ddr.spares = k :: s.ddr.spares
      ∧ t.ddr.copying = s.ddr.copying ++ [p] ∧ t.ctr R.DM_RETIRED [] = (s.ctr R.DM_RETIRED [] + 1) % 2 ^ 64
      ∧ t.get F.DM_EVT_RETIRED [] = 1) ∧
  (∀ (s : State) (p : Nat) (r : List Nat), s.ddr.retire = p :: r →
    ((List.range (s.get F.DM_SPARE_PAGES [])).find? fun k => !s.ddr.spares.contains k) = none →
    Completes .pageRetire s fun t => t.ddr.retire = r ∧ t.ddr.spareless = p :: s.ddr.spareless ∧ t.get F.DM_EVT_SPARE_EMPTY [] = 1) ∧
  (∀ s : State, exec .retireCopyDone s = .next { s with ddr.copying := s.ddr.copying.tail }) ∧
  (∀ (s : State) (g code : Nat), s.powered = true → (s.xl.prq.any fun r => r.grp == g) = true →
    Does (.pageResponse g code) s (s.pageResponse g code)) ∧
  (∀ (s : State) (g : Nat) (r : PageReq), (s.xl.prq.find? fun r => r.grp == g) = some r → s.powered = true →
    s.get F.TR_PRI_TMO_MS [] * 1000000 ≤ s.since r.at_ →
    Completes (.priTimeout g) s fun t => t.get F.TR_EVT_PRI_TIMEOUT [] = 1) ∧
  (∀ (s : State) (k first n fn pas page : Nat) (r w : Bool), s.powered = true → s.rcHalted = false →
    s.askedPages[k]? = some (fn, pas, page) → first ≤ page → page < first + n →
    Does (.translationDone k first n r w) s (forEach
      (s.xl.asked.filter fun x => x.fn == fn && x.pas == pas && x.va / 4096 == page) (State.translated r w)
      ({ s with
          xl.asked := s.xl.asked.filter fun x => !(x.fn == fn && x.pas == pas && x.va / 4096 == page) }.tlbFill fn pas page first n r w))) ∧
  (∀ (s : State) (fn pas first n : Nat), s.powered = true →
    exec (.atsInvalidate fn pas first n) s = .next { s with
      xl.tlb := s.xl.tlb.filter (fun e => !(e.fn == fn && e.pas == pas && decide (e.base < first + n) && decide (first < e.base + e.pages))),
      xl.invals := s.xl.invals + 1 }) ∧
  (∀ s : State, s.powered = true → 0 < s.xl.invals →
    Completes .invalidateComplete s fun t => t.xl.invals = s.xl.invals - 1
      ∧ t.ctr R.TR_INVAL [] = (s.ctr R.TR_INVAL [] + 1) % 2 ^ 64 ∧ t = { s with xl.invals := t.xl.invals, ctrs := t.ctrs }) ∧
  (∀ (s : State) (fn alloc : Nat), s.powered = true → fn ≤ s.rc.vfs →
    Does (.priEnableToggle fn alloc) s (State.priRefill s.xl.priWait { s with
      xl.blocked := setBit s.xl.blocked fn false, xl.alloc := s.xl.alloc.put 256 fn alloc }))

/-- Queues are enabled and disabled, doorbells and head writes act, entries are fetched, functions and the host plane are reset.
(R464, R469, R489, R490, R472, R473, R465, R493, R119). Where a clause rests on a reading of the log (notes/assumptions), it is
the model's. -/
def Obligations.QueuesComplete : Prop :=
  (∀ s : State, s.ringPowered = true → s.driverOk 0 = false →
    ((List.range 8).all fun w => s.acceptWord 0 w &&& (if w = 0 then s.offer 0 else 0) == s.acceptWord 0 w) = true →
    Completes (.driverOk 0) s fun t => t.get F.FEAT_CTRL_DRIVER_OK [] = 1) ∧
  (∀ (s : State) (fn : Nat), s.ringPowered = true → fn ≠ 0 → fn < 16 → fn ≤ s.rc.vfs → s.driverOk fn = false →
    ((List.range 8).all fun w => s.acceptWord fn w &&& (if w = 0 then s.offer fn else 0) == s.acceptWord fn w) = true →
    Completes (.driverOk fn) s fun t => bit (t.rc.vfCtl.at 0 fn) 31 = true ∧ t.get F.RC_FN_STAT_DRIVER_OK [fn] = 1) ∧
  (∀ (s : State) (fn q v f : Nat), s.ringPowered = true → bit v 31 = true → q < 2048 → seesQueue fn (s.sqFn q) = true →
    s.get F.RC_SQ_CFG_EN [q] = 0 → f = (if fn = 0 then bits v 21 18 else s.sqFn q) → s.driverOk f = true →
    s.typeAccepted f (bits v 30 27) = true → logOk (bits v 26 22) = true → s.get F.RC_CQ_CFG_EN [bits v 10 0] = 1 →
    s.get F.RC_CQ_CFG_FN [bits v 10 0] = f →
    Completes (.queueEnable 0 fn q v) s fun t => t.rd R.RC_SQ_CFG [q] = setBits (v &&& R.RC_SQ_CFG.rw) 21 18 f) ∧
  (∀ (s : State) (fn c v f : Nat), s.ringPowered = true → bit v 31 = true → c < 2048 →
    seesQueue fn (s.get F.RC_CQ_CFG_FN [c]) = true → s.get F.RC_CQ_CFG_EN [c] = 0 →
    f = (if fn = 0 then bits v 24 21 else s.get F.RC_CQ_CFG_FN [c]) → s.ringCfgOk f v = true →
    Completes (.queueEnable 1 fn c v) s fun t => t.rd R.RC_CQ_CFG [c] = setBits (v &&& R.RC_CQ_CFG.rw) 24 21 f) ∧
  (∀ (s : State) (fn r v f : Nat), s.ringPowered = true → bit v 31 = true → r < 64 →
    seesQueue fn (s.get F.RC_ER_CFG_FN [r]) = true → s.get F.RC_ER_CFG_EN [r] = 0 →
    f = (if fn = 0 then bits v 24 21 else s.get F.RC_ER_CFG_FN [r]) → s.ringCfgOk f v = true →
    Completes (.queueEnable 2 fn r v) s fun t => t.rd R.RC_ER_CFG [r] = setBits (v &&& R.RC_ER_CFG.rw) 24 21 f) ∧
  (∀ (s : State) (q : Nat), s.ringPowered = true → q < 2048 → s.get F.RC_SQ_CFG_EN [q] = 1 →
    Completes (.sqDisable q) s fun t => t.get F.RC_SQ_CFG_EN [q] = 0 ∧ t.rc.bufs.at [] q = [] ∧ t.rc.recs.at [] q = []) ∧
  (∀ (s : State) (c : Nat), s.ringPowered = true → c < 2048 → s.get F.RC_CQ_CFG_EN [c] = 1 →
    ((List.range 2048).all fun q => s.get F.RC_SQ_CFG_CQ [q] != c || (!s.isOn F.RC_SQ_CFG_EN [q] && s.isOn F.RC_SQ_STAT_IDLE [q])) = true →
    Completes (.cqDisable c) s fun t => t.get F.RC_CQ_CFG_EN [c] = 0
      ∧ t.rc.fences = s.rc.fences.filter fun f => !(f.c.cq == c && f.due)) ∧
  (∀ (s : State) (r : Nat), s.ringPowered = true → r < 64 →
    Completes (.erDisable r) s fun t => t.get F.RC_ER_CFG_EN [r] = 0 ∧ RegsBut [R.RC_ER_CFG.addr [r]] s t) ∧
  (∀ (s : State) (q v : Nat), s.ringPowered = true → q < 2048 → s.get F.RC_SQ_CFG_EN [q] = 1 → s.rcHalted = false → s.sqLog q ≤ 16 →
    ringCount (s.sqLog q) (v % 2 ^ (s.sqLog q + 1)) (s.sqHead q) ≤ 2 ^ s.sqLog q →
    Completes (.sqDoorbell q v) s fun t => t.get F.RC_SQ_TAIL_TAIL [q] = v % 2 ^ (s.sqLog q + 1)) ∧
  (∀ (s : State) (q v : Nat), s.ringPowered = true → q < 2048 → s.get F.RC_SQ_CFG_EN [q] = 1 → s.rcHalted = false →
    2 ^ s.sqLog q < ringCount (s.sqLog q) (v % 2 ^ (s.sqLog q + 1)) (s.sqHead q) →
    Does (.sqDoorbell q v) s (s.ringHalt 8 (s.sqFn q) q (v % 2 ^ (s.sqLog q + 1)) 0)) ∧
  (∀ (s : State) (q i : Nat) (ur : Bool), s.ringUp = true → q < 2048 → s.get F.RC_SQ_CFG_EN [q] = 1 → s.sqParked q = false →
    Does (.sqEntryFetch q i ur) s ((s.fetchEntry q i ur).takeEntry q)) ∧
  (∀ (s : State) (c v : Nat), s.ringPowered = true → c < 2048 → s.get F.RC_CQ_CFG_EN [c] = 1 → s.rcHalted = false → s.cqLog c ≤ 16 →
    ringCount (s.cqLog c) (v % 2 ^ (s.cqLog c + 1)) (s.cqHead c) ≤ s.cqUsed c →
    Completes (.cqDoorbell c v) s fun t => t.get F.RC_CQ_HEAD_HEAD [c] = v % 2 ^ (s.cqLog c + 1)) ∧
  (∀ (s : State) (r v : Nat), s.ringPowered = true → r < 64 → s.erLog r ≤ 16 →
    Completes (.erHeadWrite r v) s fun t => t.get F.RC_ER_HEAD_HEAD [r] = v % 2 ^ (s.erLog r + 1)) ∧
  (∀ (s : State) (n : Nat), s.ringPowered = true → (s.accepted 0 28 = true ∨ n = 0) → n ≤ 15 →
    exec (.sriovEnable n) s = .next { s with rc.vfs := n }) ∧
  (∀ (s : State) (f : Nat), s.ringPowered = true → 1 ≤ f → f ≤ s.rc.vfs → Does (.vfFlr f) s ((s.flrJobs f).vfReset f)) ∧
  (∀ s : State, s.ringPowered = true → s.tack.edrain = none → Does .hostPlaneReset s ((s.noteReset 4 s.mode.code).ringReset))

/-- A started entry whose turn has come, which nothing bars and whose data are here, runs its operation and is answered. (R480,
R237, R261). Where a clause rests on a reading of the log (notes/assumptions), it is the model's. -/
def Obligations.RingOperationsRun : Prop :=
  RunsJob .tableRead (fun _ _ _ => true) (isOp 1) ∧ RunsJob .tableWrite (fun _ _ _ => true) (isOp 2) ∧
  RunsJob .tableInsert (fun _ _ _ => true) (isOp 3) ∧ RunsJob .tableDelete (fun _ _ _ => true) (isOp 4) ∧
  RunsJob .bankCopy (fun _ _ _ => true) (isOp 5) ∧ RunsJob .setValidate (fun _ _ _ => true) (isOp 7) ∧
  RunsJob .scan (fun _ _ _ => true) (isOp 8) ∧ RunsJob .ringNop (fun _ _ _ => true) (isOp 10) ∧
  RunsJob .ringFlashRead flashTurn (fun e => isOp 9 e && entSub e == 0) ∧
  RunsJob .ringFlashProgram flashTurn (fun e => isOp 9 e && entSub e == 1) ∧
  RunsJob .ringFlashErase flashTurn (fun e => isOp 9 e && entSub e == 2) ∧
  RunsJob .ringFlashCommit flashTurn (fun e => isOp 9 e && entSub e == 3)

/-- A set slot is written, buffers are queued and closed, frames injected or ended as FULL, and completions written and
coalesced. (R261, R484, R487, R477, R479). Where a clause rests on a reading of the log (notes/assumptions), it is the model's. -/
def Obligations.RingDataCompletes : Prop :=
  (∀ (s u : State) (q i : Nat) (ur : Bool) (j : Job) (fr : List (Nat × Nat)), s.jobOf q i (isOp 6) = some j → j.stage = 5 →
    s.mode ≠ .halt → entInd j.ent = true → j.frags = some fr → entLen j.ent ≤ j.got.length →
    u = ((s.set F.AW_SET_CFG_STATE [entSub j.ent] 1).setJob j).setJob j →
    Does (.setWrite q i ur) s ((u.setWrite (entSub j.ent) j.status j.got).2.finishJob j (u.setWrite (entSub j.ent) j.status j.got).1 0 0)) ∧
  (∀ (s : State) (q i : Nat) (ur : Bool) (j : Job), s.jobOf q i (isOp 0x20) = some j → (s.rc.jobs.find? fun k => k.q == q) = some j →
    (entInd j.ent = false ∨ j.frags.isSome = true) →
    Completes (.rxBuf q i ur) s fun t => t.rc.bufs.at [] q = s.rc.bufs.at [] q ++ [{
      idx := j.idx, ent := j.ent, cq := j.cq, fn := j.fn, pas := j.pas, frags := j.frags.getD [], len := entLen j.ent }]) ∧
  (∀ (s : State) (q : Nat) (b : RxBuf) (l : List RxBuf), s.rc.bufs.at [] q = b :: l → s.ringUp = true → 0 < b.recs →
    s.get F.RC_SQ_CFG_TYPE [q] ≠ 3 → s.sqParked q = false → s.get F.RC_RX_FLUSH_US [] * 1000 ≤ s.since b.at_ →
    Does (.rxFlushTimer q) s (s.closeBuf q 0 0 0)) ∧
  (∀ (s u v : State) (q i : Nat) (ur : Bool) (j : Job) (fr : List (Nat × Nat)), s.jobOf q i (isOp 0x40) = some j →
    s.opBarred j.fn j.ent [] = none → 60 ≤ entLen j.ent → entLen j.ent ≤ 15996 → entInd j.ent = true → j.frags = some fr →
    entLen j.ent ≤ j.got.length → u = s.setJob j → u.reinject (injectMeta j.ent) j.got = (0, v) →
    Does (.inject q i ur) s (v.finishJob j 0 0 0)) ∧
  (∀ (s : State) (q i : Nat) (j : Job), s.jobOf q i (isOp 0x40) = some j → j.stage = 4 → 100000 ≤ s.since j.at_ →
    Does (.injectFullTimeout q i) s (s.finishJob j 0x19 0 0)) ∧
  (∀ (s : State) (c : Nat) (k : Compl) (r : List Compl), s.ringUp = true →
    takeFirst (fun (k : Compl) => k.cq == c) s.rc.comp = some (k, r) →
    Does (.completionWrite c) s (({ s with rc.comp := r }.putCompletion k).showIdle k.sq)) ∧
  (∀ (s : State) (c : Nat) (f : Fence) (r : List Fence), s.ringUp = true →
    takeFirst (fun (k : Compl) => k.cq == c) s.rc.comp = none →
    takeFirst (fun (f : Fence) => f.due && f.c.cq == c) s.rc.fences = some (f, r) → s.mayStart c = true →
    Does (.completionWrite c) s ({ s with rc.fences := r }.putCompletion f.c)) ∧
  (∀ (s : State) (c t0 : Nat), s.rc.cqFirst.find? c = some t0 → s.ringUp = true → s.get F.RC_CQ_COAL_US [c] * 1000 ≤ s.since t0 →
    Does (.cqCoalTimer c) s (s.cqMessage c))

/-- In the REG form and in the IMM form, D takes A op B or A op IMM, FLAGS follow, and the instruction retires. (R437). Where a
clause rests on a reading of the log (notes/assumptions), it is the model's. -/
def Obligations.ArithmeticCompletes : Prop :=
  RunsOp .add 1 (fun _ _ i _ => regForm i = true ∧ codeWritable (insD i) = true)
    (fun e t i u => u.alu e t i 1 (u.opRead e t (insB i))) ∧
  RunsOp .sub 2 (fun _ _ i _ => regForm i = true ∧ codeWritable (insD i) = true)
    (fun e t i u => u.alu e t i 2 (u.opRead e t (insB i))) ∧
  RunsOp .and 3 (fun _ _ i _ => regForm i = true ∧ codeWritable (insD i) = true)
    (fun e t i u => u.alu e t i 3 (u.opRead e t (insB i))) ∧
  RunsOp .or 4 (fun _ _ i _ => regForm i = true ∧ codeWritable (insD i) = true)
    (fun e t i u => u.alu e t i 4 (u.opRead e t (insB i))) ∧
  RunsOp .xor 5 (fun _ _ i _ => regForm i = true ∧ codeWritable (insD i) = true)
    (fun e t i u => u.alu e t i 5 (u.opRead e t (insB i))) ∧
  RunsOp .shl 6 (fun _ _ i _ => regForm i = true ∧ codeWritable (insD i) = true)
    (fun e t i u => u.alu e t i 6 (u.opRead e t (insB i))) ∧
  RunsOp .shr 7 (fun _ _ i _ => regForm i = true ∧ codeWritable (insD i) = true)
    (fun e t i u => u.alu e t i 7 (u.opRead e t (insB i))) ∧
  RunsOp .sar 8 (fun _ _ i _ => regForm i = true ∧ codeWritable (insD i) = true)
    (fun e t i u => u.alu e t i 8 (u.opRead e t (insB i))) ∧
  RunsOp .mul 9 (fun _ _ i _ => regForm i = true ∧ codeWritable (insD i) = true)
    (fun e t i u => u.alu e t i 9 (u.opRead e t (insB i))) ∧
  RunsOp .minu 10 (fun _ _ i _ => regForm i = true ∧ codeWritable (insD i) = true)
    (fun e t i u => u.alu e t i 10 (u.opRead e t (insB i))) ∧
  RunsOp .maxu 11 (fun _ _ i _ => regForm i = true ∧ codeWritable (insD i) = true)
    (fun e t i u => u.alu e t i 11 (u.opRead e t (insB i))) ∧
  RunsOp .bswap 12 (fun _ _ i _ => regForm i = true ∧ codeWritable (insD i) = true)
    (fun e t i u => u.alu e t i 12 (u.opRead e t (insB i))) ∧
  RunsOp .clz 13 (fun _ _ i _ => regForm i = true ∧ codeWritable (insD i) = true)
    (fun e t i u => u.alu e t i 13 (u.opRead e t (insB i))) ∧
  RunsOp .popcnt 14 (fun _ _ i _ => regForm i = true ∧ codeWritable (insD i) = true)
    (fun e t i u => u.alu e t i 14 (u.opRead e t (insB i))) ∧
  RunsOp .addImm 17 (fun _ _ i _ => immForm i = true ∧ codeWritable (insD i) = true)
    (fun e t i u => u.alu e t i 1 (insImm i)) ∧
  RunsOp .subImm 18 (fun _ _ i _ => immForm i = true ∧ codeWritable (insD i) = true)
    (fun e t i u => u.alu e t i 2 (insImm i)) ∧
  RunsOp .andImm 19 (fun _ _ i _ => immForm i = true ∧ codeWritable (insD i) = true)
    (fun e t i u => u.alu e t i 3 (insImm i)) ∧
  RunsOp .orImm 20 (fun _ _ i _ => immForm i = true ∧ codeWritable (insD i) = true)
    (fun e t i u => u.alu e t i 4 (insImm i)) ∧
  RunsOp .xorImm 21 (fun _ _ i _ => immForm i = true ∧ codeWritable (insD i) = true)
    (fun e t i u => u.alu e t i 5 (insImm i)) ∧
  RunsOp .shlImm 22 (fun _ _ i _ => immForm i = true ∧ codeWritable (insD i) = true)
    (fun e t i u => u.alu e t i 6 (insImm i)) ∧
  RunsOp .shrImm 23 (fun _ _ i _ => immForm i = true ∧ codeWritable (insD i) = true)
    (fun e t i u => u.alu e t i 7 (insImm i)) ∧
  RunsOp .sarImm 24 (fun _ _ i _ => immForm i = true ∧ codeWritable (insD i) = true)
    (fun e t i u => u.alu e t i 8 (insImm i)) ∧
  RunsOp .mulImm 25 (fun _ _ i _ => immForm i = true ∧ codeWritable (insD i) = true)
    (fun e t i u => u.alu e t i 9 (insImm i)) ∧
  RunsOp .minuImm 26 (fun _ _ i _ => immForm i = true ∧ codeWritable (insD i) = true)
    (fun e t i u => u.alu e t i 10 (insImm i)) ∧
  RunsOp .maxuImm 27 (fun _ _ i _ => immForm i = true ∧ codeWritable (insD i) = true)
    (fun e t i u => u.alu e t i 11 (insImm i)) ∧
  RunsOp .bswapImm 28 (fun _ _ i _ => immForm i = true ∧ codeWritable (insD i) = true)
    (fun e t i u => u.alu e t i 12 (insImm i)) ∧
  RunsOp .clzImm 29 (fun _ _ i _ => immForm i = true ∧ codeWritable (insD i) = true)
    (fun e t i u => u.alu e t i 13 (insImm i)) ∧
  RunsOp .popcntImm 30 (fun _ _ i _ => immForm i = true ∧ codeWritable (insD i) = true)
    (fun e t i u => u.alu e t i 14 (insImm i))

/-- LI, LUI, LD, ST, the branches and the jumps have the effect of their table row and retire. (R437). Where a clause rests on a
reading of the log (notes/assumptions), it is the model's. -/
def Obligations.MovesAndBranchesComplete : Prop :=
  RunsOp .nop 0x00 (fun _ _ i _ => regForm i = true) (fun e t _ u => u.retireIns e t) ∧
  RunsOp .li 0x20 (fun _ _ i _ => codeWritable (insD i) = true) (fun e t i u => u.result e t i (sext 17 (bits i 16 0))) ∧
  RunsOp .lui 0x21 (fun _ _ i _ => codeWritable (insD i) = true ∧ bit i 16 = false)
    (fun e t i u => u.result e t i (w64 (u.opRead e t (insD i) <<< 16) ||| bits i 15 0)) ∧
  (∀ (e t i : Nat) (s u v : State) (bs : List Byte), Running e t i s u → insOp i = 0x28 → immForm i = true →
    codeWritable (insD i) = true → u.readAligned e t (u.thr e t).answered (insSize i) (u.memAddr e t i) (insSize i) = .ok bs v →
    Does (.ld e) s ((v.result e t i (ofLe bs)).settle e)) ∧
  (∀ (e t i : Nat) (s u v : State) (bs : List Byte), Running e t i s u → insOp i = 0x29 → immForm i = true →
    u.memAddr e t i % insSize i = 0 →
    u.memWrite e t (u.thr e t).answered (u.memAddr e t i) (leBytes (u.opRead e t (insD i)) (insSize i)) = .ok bs v →
    Does (.st e) s ((v.retireIns e t).settle e)) ∧
  RunsOp .beq 0x30 (fun _ _ i _ => cmpForm i = true) (fun e t i u => u.retireTo e t
    (if u.opRead e t (insD i) = u.opRead e t (insA i) then (u.thr e t).pc + insImm i else (u.thr e t).pc + 1)) ∧
  RunsOp .bne 0x31 (fun _ _ i _ => cmpForm i = true) (fun e t i u => u.retireTo e t
    (if u.opRead e t (insD i) ≠ u.opRead e t (insA i) then (u.thr e t).pc + insImm i else (u.thr e t).pc + 1)) ∧
  RunsOp .bltu 0x32 (fun _ _ i _ => cmpForm i = true) (fun e t i u => u.retireTo e t
    (if u.opRead e t (insD i) < u.opRead e t (insA i) then (u.thr e t).pc + insImm i else (u.thr e t).pc + 1)) ∧
  RunsOp .bgeu 0x33 (fun _ _ i _ => cmpForm i = true) (fun e t i u => u.retireTo e t
    (if u.opRead e t (insA i) ≤ u.opRead e t (insD i) then (u.thr e t).pc + insImm i else (u.thr e t).pc + 1)) ∧
  RunsOp .bf 0x34 (fun _ _ i _ => bits (insD i) 5 3 = 0 ∧ insA i = 0x6D) (fun e t i u => u.retireTo e t
    (if u.flag e t (bits (insD i) 2 0) = bit (insD i) 6 then (u.thr e t).pc + insImm i else (u.thr e t).pc + 1)) ∧
  RunsOp .jmp 0x35 (fun _ _ _ _ => True) (fun e t i u => u.retireTo e t ((u.thr e t).pc + sext 24 (bits i 23 0))) ∧
  RunsOp .jal 0x36 (fun _ _ _ _ => True) (fun e t i u =>
    (u.opWrite e t 31 (((u.thr e t).pc + 1) % 2 ^ 17)).retireTo e t ((u.thr e t).pc + sext 24 (bits i 23 0))) ∧
  RunsOp .jr 0x37 (fun _ _ i _ => regForm i = true) (fun e t i u => u.retireTo e t (u.opRead e t (insA i) % 2 ^ 17))

/-- WAIT ends with an event or a timeout, SIGNAL sets a latch, and the channel instructions act on a channel in the right state.
(R440, R437, R442). Where a clause rests on a reading of the log (notes/assumptions), it is the model's. -/
def Obligations.WaitsAndChannelsComplete : Prop :=
  (∀ (e t i b : Nat) (s u v : State), Running e t i s u → insOp i = 0x40 → regForm i = true → codeWritable (insD i) = true →
    u.waitMask e t i < 2 ^ 19 → v = u.setDeadline e t (u.opRead e t (insB i)) → v.waitFound e t i = some b →
    Does (.wait e) s ((v.waitEvent e t i (u.waitMask e t i) b).settle e)) ∧
  (∀ (e t i : Nat) (s u v : State), Running e t i s u → insOp i = 0x40 → regForm i = true → codeWritable (insD i) = true →
    u.waitMask e t i < 2 ^ 19 → v = u.setDeadline e t (u.opRead e t (insB i)) → v.waitFound e t i = none →
    u.opRead e t (insB i) ≠ 0 → (v.thr e t).dl ≤ v.clock.tick →
    Does (.wait e) s ((v.waitTimeout e t i).settle e)) ∧
  RunsOp .signal 0x41 (fun _ _ i _ => regForm i = true)
    (fun e t i u => (u.setThr e (u.opRead e t (insA i) % 8) fun h => { h with signal := true }).unitDone e t true) ∧
  RunsOp .chopen 0x48 (fun e _ i u => immForm i = true ∧ u.chState e (bits i 3 0) = 0) (fun e t i u =>
    ((List.range 8).foldl (fun w k => w.setThr e k fun h => { h with lost := setBit h.lost (bits i 3 0) false })
      ((u.chEmpty e (bits i 3 0)).setEng e fun g => { g with
        chan := g.chan.put 0 (bits i 3 0) 1, owner := g.owner.put 0 (bits i 3 0) t })).unitDone e t true) ∧
  RunsOp .chw 0x49 (fun e t i u => immForm i = true ∧ u.chMine e t (u.chOf e t i) = true) (fun e t i u =>
    (u.setEng e fun g => { g with
      words := g.words.put 0 (8 * u.chOf e t i + bits i 2 0) (u.opRead e t (insD i)) }).unitDone e t true) ∧
  RunsOp .chpost 0x4A (fun e t i u => immForm i = true ∧ u.chMine e t (u.chOf e t i) = true) (fun e t i u =>
    (u.setEng e fun g => { g with chan := g.chan.put 0 (u.chOf e t i) 2, owner := g.owner.erase (u.chOf e t i) }).unitDone e t true) ∧
  RunsOp .chr 0x4B (fun e t i u => immForm i = true ∧ codeWritable (insD i) = true ∧ u.chState e (u.chOf e t i) = 2)
    (fun e t i u => u.unitResult e t i ((u.eng e).words.at 0 (8 * u.chOf e t i + bits i 2 0)) true) ∧
  RunsOp .chfree 0x4C (fun e t i u => immForm i = true ∧ u.chState e (u.chOf e t i) = 2)
    (fun e t i u => (u.chEmpty e (u.chOf e t i)).unitDone e t true)

/-- Punts are taken, handed on and dropped, buffers allocated and freed, DMAs started and awaited; an instruction of a unit
stalls until it answers, and STALL_END performs it. (R437, R444, R445, R431, R440, R303). Where a clause rests on a reading of
the log (notes/assumptions), it is the model's. -/
def Obligations.PuntAndUnitInstructionsComplete : Prop :=
  (∀ (e t i h : Nat) (r : List Nat) (s u : State), Running e t i s u → insOp i = 0x50 → regForm i = true →
    codeWritable (insD i) = true → (u.eng e).pq = h :: r →
    Does (.getpunt e) s (((({ u with st.heldBy := u.st.heldBy.put 0 h (e + 1) }).setEng e fun g => { g with pq := r }).unitResult
      e t i h true).settle e)) ∧
  RunsOp .rinj 0x51 (fun e t i u => regForm i = true ∧ codeWritable (insD i) = true ∧ (u.thr e t).answered = false)
    (fun e t _ u => u.longStall e t .unit) ∧
  (∀ (e t i q h d : Nat) (bs : List Byte) (s u : State), Running e t i s u → insOp i = 0x52 → regForm i = true →
    q = u.opRead e t (insA i) → h = u.opRead e t (insB i) % 2 ^ 32 →
    (u.puntFind u.heldPart h).isSome = false → u.puntFind u.bufBad h = none → u.puntDesc h = some d →
    bs = u.puntRecord d (u.rc.punts.at 0 q % 2 ^ 32) → u.rxTakes q 3 bs.length = true →
    Does (.hpunt e) s (((({ u with rc.punts := u.rc.punts.put 0 q (u.rc.punts.at 0 q + 1) }.freePunt h d).rxGive q
      { bytes := bs, frame := u.st.held.find? h }).unitDone e t true).settle e)) ∧
  (∀ (e t i h d : Nat) (m : Meta) (s u : State), Running e t i s u → insOp i = 0x53 → regForm i = true →
    h = u.opRead e t (insA i) % 2 ^ 32 → (u.puntFind u.heldPart h).isSome = false → u.puntDesc h = some d →
    u.st.held.find? h = some m →
    Does (.fdrop e) s ((((u.tallyDrop (m.slice / 4) 2 m).freePunt h d).unitDone e t true).settle e)) ∧
  (∀ (e t i h : Nat) (s u v : State), Running e t i s u → insOp i = 0x58 → immForm i = true → codeWritable (insD i) = true →
    4 ≤ bits i 3 0 → bits i 3 0 ≤ 8 → u.alloc (bits i 3 0) = (some h, v) →
    Does (.balloc e) s ((v.unitResult e t i h true).settle e)) ∧
  (∀ (e t i : Nat) (s u v : State), Running e t i s u → insOp i = 0x59 → regForm i = true →
    u.freeBuffer (u.opRead e t (insA i) % 2 ^ 32) = (0, v) →
    Does (.bfree e) s (((v.unholdPunt (u.opRead e t (insA i) % 2 ^ 32)).unitDone e t true).settle e)) ∧
  (∀ (e t i a : Nat) (s u : State), Running e t i s u → insOp i = 0x5A → regForm i = true → codeWritable (insD i) = true →
    u.handleAddr (u.opRead e t (insA i) % 2 ^ 32) = some a → Does (.haddr e) s ((u.unitResult e t i a true).settle e)) ∧
  (∀ (e t i n d : Nat) (bs : List Byte) (s u v : State), Running e t i s u → insOp i = 0x60 → regForm i = true →
    codeWritable (insD i) = true → u.freeTag e t = some n → u.readAligned e t (u.thr e t).answered 8 (u.opRead e t (insA i)) 32 = .ok bs v →
    d = ofLe bs → bits d 255 152 = 0 → (v.windowAt (bits d 63 0) (bits d 151 128)).isSome = true →
    (v.windowAt (bits d 127 64) (bits d 151 128)).isSome = true → v.variant ≠ .e →
    Does (.dma e) s (((v.setThr e t fun h => { h with
      dma := h.dma ++ [{ tag := n, src := bits d 63 0, dst := bits d 127 64, len := bits d 151 128 }],
      tagBad := setBit h.tagBad n false }).unitResult e t i n true).settle e)) ∧
  (∀ (e t i n : Nat) (s u v : State), Running e t i s u → insOp i = 0x61 → regForm i = true → codeWritable (insD i) = true →
    n = u.opRead e t (insA i) % 16 → v = u.setDeadline e t (u.opRead e t (insB i)) → v.tagBusy e t n = false →
    Does (.dmaw e) s ((v.dmawDone e t i n).settle e)) ∧
  RunsOp .fctx 0x70 (fun e t i u => regForm i = true ∧ codeWritable (insD i) = true ∧ (u.thr e t).answered = false)
    (fun e t _ u => u.longStall e t .unit) ∧
  (∀ (e t i a h d : Nat) (bs : List Byte) (s u : State), Running e t i s u → insOp i = 0x71 → regForm i = true →
    codeWritable (insD i) = true → codeWritable (insA i) = true → a = u.opRead e t (insA i) →
    h = u.opRead e t (insB i) % 2 ^ 32 → u.puntDesc h = some d → bit d 60 = true → a < min 16 (bits d 351 344) →
    u.bufHeld h 0 64 = false → u.bufHeld (bits d 479 448) (4 * a) 4 = false → u.bufBad h 0 64 = none →
    u.bufBad (bits d 479 448) (4 * a) 4 = none → u.bufRead (bits d 479 448) (4 * a) 4 = some bs →
    Does (.mnext e) s (((u.opWrite e t (insA i) (a + 1)).unitResult e t i (ofLe bs) true).settle e)) ∧
  RunsOp .top 0x72 (fun e t i u => regForm i = true ∧ codeWritable (insD i) = true ∧ (u.thr e t).answered = false)
    (fun e t _ u => u.longStall e t .unit)

/-- CRC, BCOPY, LWALK and HINS perform one element and continue or end. (R447, R448, R449). Where a clause rests on a reading of
the log (notes/assumptions), it is the model's. -/
def Obligations.LongInstructionsComplete : Prop :=
  (∀ (e t i b n a : Nat) (bs : List Byte) (s u v w : State), Running e t i s u → insOp i = 0x68 → regForm i = true →
    codeWritable (insD i) = true → codeWritable (insA i) = true → codeWritable (insB i) = true → b = u.opRead e t (insB i) → b ≠ 0 →
    n = min 64 b → a = u.opRead e t (insA i) → u.memRead e t (u.thr e t).answered a n = .ok bs v →
    w = ((v.opWrite e t (insD i) (crcRun polyC (v.opRead e t (insD i) % 2 ^ 32) bs)).opWrite e t (insA i) (a + n)).opWrite e t (insB i)
      (b - n) →
    Does (.crc e) s ((if b = n then w.unitDone e t true else w.elementEnd e t).settle e)) ∧
  RunsOp .crc 0x68 (fun e t i u => regForm i = true ∧ codeWritable (insD i) = true ∧ codeWritable (insA i) = true
    ∧ codeWritable (insB i) = true ∧ u.opRead e t (insB i) = 0) (fun e t _ u => u.retireIns e t) ∧
  (∀ (e t i b n a d : Nat) (bs x : List Byte) (s u v y w : State), Running e t i s u → insOp i = 0x69 → regForm i = true →
    codeWritable (insD i) = true → codeWritable (insA i) = true → codeWritable (insB i) = true → b = u.opRead e t (insB i) → b ≠ 0 →
    n = min 64 b → a = u.opRead e t (insA i) → d = u.opRead e t (insD i) → u.memRead e t (u.thr e t).answered a n = .ok bs v →
    v.memWrite e t (u.thr e t).answered d bs = .ok x y →
    w = ((y.opWrite e t (insA i) (a + n)).opWrite e t (insD i) (d + n)).opWrite e t (insB i) (b - n) →
    Does (.bcopy e) s ((if b = n then w.retireIns e t else w.elementEnd e t).settle e)) ∧
  (∀ (e t i d k : Nat) (bs : List Byte) (s u v : State), Running e t i s u → insOp i = 0x6A → regForm i = true →
    codeWritable (insD i) = true → codeWritable (insB i) = true → d = u.opRead e t (insD i) → d ≠ 0 →
    u.readAligned e t (u.thr e t).answered 8 d 16 = .ok bs v → k = ofLe bs → bits k 127 64 = v.opRead e t (insA i) →
    Does (.lwalk e) s ((v.unitDone e t true).settle e)) ∧
  (∀ (e t i d k b : Nat) (bs : List Byte) (s u v : State), Running e t i s u → insOp i = 0x6A → regForm i = true →
    codeWritable (insD i) = true → codeWritable (insB i) = true → d = u.opRead e t (insD i) → d ≠ 0 →
    u.readAligned e t (u.thr e t).answered 8 d 16 = .ok bs v → k = ofLe bs → bits k 127 64 ≠ v.opRead e t (insA i) → b = v.opRead e t (insB i) →
    b ≠ 0 →
    Does (.lwalk e) s ((((v.opWrite e t (insD i) (bits k 63 0)).opWrite e t (insB i) (b - 1)).elementEnd e t).settle e)) ∧
  (∀ (e t i h k j c : Nat) (hd b0 x : List Byte) (s u v y z : State), Running e t i s u → insOp i = 0x6B → regForm i = true →
    insD i < 30 → codeWritable (insB i) = true → u.readAligned e t (u.thr e t).answered 8 (u.opRead e t (insA i)) 32 = .ok hd v → h = ofLe hd →
    bits h 127 70 = 0 → bits h 255 192 = 0 → k = v.opRead e t (insD i) → v.opRead e t (insD i + 2) = 2 ^ 64 - 1 →
    c = (hashPair (bits h 159 128) (bits h 191 160) (leBytes k 8) (bits h 69 64)).1 →
    v.bucketRead e t (u.thr e t).answered (bits h 63 0) c = .ok b0 y → freeSlot b0 = some j →
    y.memWrite e t (u.thr e t).answered (w64 (bits h 63 0 + 64 * c + 16 * j)) (leBytes (k + v.opRead e t (insD i + 1) * 2 ^ 64) 16) = .ok x z →
    Does (.hins e) s ((z.unitDone e t true).settle e))

/-- TRAP, ERET, illegal and customer opcodes, machine checks, microword rewrites, deadlines and the ends of stalls and DMAs have
their effect. (R437, R450, R454, R440, R439). Where a clause rests on a reading of the log (notes/assumptions), it is the
model's. -/
def Obligations.ExceptionsAndMicrocodeComplete : Prop :=
  RunsOp .trap 0x78 (fun _ _ i _ => immForm i = true) (fun e t i u => u.threadFault e t 6 (insImm i)) ∧
  RunsOp .eret 0x79 (fun _ _ i _ => regForm i = true) (fun e t _ u =>
    ((u.setFlag e t flagExc false).setFlag e t flagDlv false).retireTo e t (u.thr e t).epc) ∧
  (∀ (e t i : Nat) (s u : State), e < 32 → s.enginesUp = true → u = s.settle e → (u.eng e).cur = some t → u.threadReady e t = true →
    u.instrAt e t = i → (opcodeListed (insOp i) = false ∨ s.dispatched (insOp i) = false) →
    Does (.illegalOpcode e) s ((u.illegal e t).settle e)) ∧
  (∀ (e t i : Nat) (s u : State), Running e t i s u → 0xC0 ≤ insOp i → Does (.customerOpcode e) s ((u.microStep e t (u.thr e t).answered).settle e)) ∧
  (∀ (e t a : Nat) (tree : Bool) (s u : State), e < 32 → s.enginesUp = true → u = s.settle e → (u.eng e).cur = some t →
    u.threadReady e t = true → a < 65536 → Does (.machineCheck e a tree) s ((u.machineCheck e t a tree).settle e)) ∧
  (∀ (a : Nat) (s : State), s.powered = true → s.st.badWord.contains a = true →
    Completes (.microwordRewrite a) s fun t => t.st.ucode.at 0 a = s.st.copy.at 0 (key2 23 a) ∧ t.st.badWord.contains a = false) ∧
  (∀ (e t : Nat) (s : State), s.enginesUp = true → e < 32 → t < 8 → ((s.thr e t).stall = .wait ∨ (s.thr e t).stall = .dmaw) →
    (s.thr e t).dl ≤ s.clock.tick → Does (.waitDeadline e t) s (s.endStall e t)) ∧
  (∀ (e t : Nat) (s : State), s.enginesUp = true → e < 32 → t < 8 →
    ((s.thr e t).stall = .wait ∨ (s.thr e t).stall = .dmaw ∨ (s.thr e t).stall = .unit) → s.waiting (.thread e t) = false →
    Does (.stallEnd e t) s (s.endStall e t)) ∧
  (∀ (e t tag : Nat) (s : State), s.enginesUp = true → e < 32 → t < 8 → s.waiting (.tag e (16 * t + tag)) = false →
    Does (.dmaDone e t tag) s ((s.dmaRun e t tag).settle e))

/-- Threads are stopped, resumed and stepped, engines frozen, channels released, registers written by the debugger; engines are
reset; punts arrive; the host and SMBus write registers. (R456, R457, R459, R119, R433, R572). Where a clause rests on a reading
of the log (notes/assumptions), it is the model's. -/
def Obligations.EngineControlCompletes : Prop :=
  (∀ (e t : Nat) (s : State), s.powered = true → s.live 12 = true → e < 32 → t < 8 → (s.thr e t).stopped = false →
    Does (.threadStop e t) s ((s.set F.ST_ENG_CTRL_STOP [e] (setBit (s.get F.ST_ENG_CTRL_STOP [e]) t true)).settle e)) ∧
  (∀ (e t : Nat) (s : State), s.powered = true → s.live 12 = true → e < 32 → t < 8 →
    ((s.thr e t).stopped = true ∨ (s.thr e t).faulted = true) →
    Does (.threadResume e t) s
      ((s.setThr e t fun h => { h with stopped := false, faulted := h.faulted && bit h.flags flagExc }).settle e)) ∧
  (∀ (e t : Nat) (s : State), s.powered = true → s.live 12 = true → e < 32 → t < 8 → (s.thr e t).stopped = true →
    Does (.threadStep e t) s
      (((s.set F.ST_ENG_CTRL_STEP [e] (setBit (s.get F.ST_ENG_CTRL_STEP [e]) t true)).setThr e t fun h =>
        { h with stopped := false, step := true, passBrk := true, faulted := h.faulted && bit h.flags flagExc }).settle e)) ∧
  (∀ (e : Nat) (on : Bool) (s : State), s.powered = true → s.live 12 = true → e < 32 →
    Completes (.engineFreeze e on) s fun t => t.get F.ST_ENG_CTRL_FREEZE [e] = b2n on) ∧
  (∀ (e v c : Nat) (s : State), s.powered = true → s.live 12 = true → e < 32 → c < 16 → bit v c = true →
    Completes (.channelRelease e v) s fun t => t.chState e c = 0) ∧
  (∀ (e v : Nat) (s : State), s.powered = true → s.live 12 = true → e < 32 →
    exec (.debugRegWrite e false v) s = .next { s with
      staged := s.staged.insert (R.ST_DBG_DATA_LO.addr [e]) (BitVec.ofNat 32 v) }) ∧
  (∀ (e v t : Nat) (s : State), s.powered = true → s.live 12 = true → e < 32 → t = s.get F.ST_DBG_SEL_THREAD [e] →
    s.threadStopped e t = true → s.get F.ST_DBG_SEL_INDEX [e] = 0x60 →
    Completes (.debugRegWrite e true v) s fun u =>
      (u.thr e t).pc = ((s.staged.find? (R.ST_DBG_DATA_LO.addr [e])).map (·.toNat)).getD 0 % 2 ^ 17) ∧
  (∀ s : State, s.powered = true → s.live 12 = true → s.mode ≠ .load →
    (s.get F.ST_UCODE_STAT_PENDING [] = 0 ∨ s.rd R.MD_STR_MASK [] = 0xFFFFFFFF) →
    Does .stitcherReset s (forEach (setPositions (s.rd R.MD_STR_MASK []) 32) (fun e t => t.resetEngine e)
      ((s.set F.MD_RESET_REFUSED [] 0).noteReset 5 s.mode.code))) ∧
  (∀ (s : State) (l : List Nat), l = (List.range 32).filter (fun e => (s.eng e).inReset) → l ≠ [] → l.length ≠ 32 → s.powered = true →
    Does .stitcherResetDone s (forEach (List.range 32) (fun e u => if u.enginesUp || l.contains e then u.settle e else u)
      (forEach l (fun e u => u.setEng e fun g => { g with inReset := false }) s.reloadMicrocode))) ∧
  (∀ (s t : State) (p : Punt) (r : List Punt), s.sl.punts = p :: r → (s.forwarding = true ∨ s.mode = .halt) →
    { s with sl.punts := r }.puntArrive p = some t → Does .puntArrive s t) ∧
  (∀ (s : State) (fn off v : Nat), s.ringPowered = true → (fn = 0 ∨ fn ≤ s.rc.vfs) → ¬(off = R.TK_STEP_NS.base ∧ fn = 0) →
    Does (.registerWrite false fn off v) s (s.writeBar fn off v)) ∧
  (∀ (s : State) (fn off v : Nat), s.mode ≠ .off → Does (.registerWrite true fn off v) s (s.writeSmbus off v))

/-- What the protection, power and timekeeping commands may change (R69 to R101, R547); the rest of the device they leave as it
is. -/
def Obligations.PowerAndTimeFrames : Prop :=
  (∀ vin, Touches [.regs, .tack] (.vinQualified vin)) ∧
  (∀ vin, Touches [.regs, .tack] (.vinUnqualified vin)) ∧
  Touches [.regs, .tack] .softStartTimeout ∧
  Touches [.regs, .tack] .softStartRetry ∧
  Touches [.regs, .tack, .ev, .flt] .reverseTrip ∧
  Touches [.regs, .free, .tack, .ev, .flt] .overcurrentTrip ∧
  Touches [.regs, .free, .tack, .ev, .flt] .ovCut ∧
  Touches [.regs, .tack] .switchRetry ∧
  (∀ n value avg, Touches [.mode, .regs, .tack] (.comparatorWindowReturn n value avg)) ∧
  Touches [.regs, .ctrs, .tack, .ev, .port, .fab] .macStop ∧
  Touches [.tack, .tally] .tallyFreeze ∧
  (∀ d, Touches [.tack] (.dieTotalsArrive d)) ∧
  Touches [.regs, .tack] .lossMarkerSeal ∧
  Touches [.regs, .tack, .ev, .flt] .journalTailWrite ∧
  Touches [.tack] .flashCopy ∧
  Touches [.mode, .regs, .tack] .vauxReturn ∧
  Touches [.clock, .mode, .regs, .staged, .latched, .tack, .out, .pace] .vauxCycle ∧
  (∀ smbus, Touches [.regs, .tack] (.wakeNow smbus)) ∧
  Touches [.regs, .tack] .timedWake ∧
  Touches [.regs, .tack, .ev, .flt] .journalWrite ∧
  (∀ value, Touches [.regs, .tack, .ev] (.slewWrite value)) ∧
  Touches [.clock, .regs, .tack] .slewApply ∧
  (∀ value, Touches [.regs, .ev] (.addendWrite value)) ∧
  (∀ smbus frac, Touches [.latched, .out] (.timeRead smbus frac)) ∧
  (∀ rising, Touches [.clock, .regs, .ctrs, .free, .tack, .ev, .flt, .tabs, .port, .tally] (.ppsEdge rising)) ∧
  Touches [.regs, .ev] .ppsHoldover ∧
  Touches [.tack, .out] .ppsOutPulse ∧
  Touches [.tack, .out] .ppsOutEnd ∧
  (∀ offset, Touches [.tack] (.smbusSetOffset offset)) ∧
  Touches [.out] .smbusAlertResponse ∧
  (∀ smbus, Touches [.regs, .out] (.retDataRead smbus)) ∧
  (∀ v, Touches [.regs] (.tallyTimeWrite v)) ∧
  (∀ v, Touches [.regs] (.tallyLogEnable v))

/-- What the pace, wear and claim commands may change (R36 to R68). -/
def Obligations.PaceFrames : Prop :=
  (∀ m tokens, Touches [.regs, .flt, .pace] (.paceWindow m tokens)) ∧
  (∀ x paces, Touches [.regs, .ev, .pace] (.loopEval x paces)) ∧
  (∀ x values, Touches [.regs, .ev, .pace] (.sensorRead x values)) ∧
  (∀ x temp, Touches [.regs, .pace] (.wearTimeAdd x temp)) ∧
  Touches [.regs, .pace] .replanDue ∧
  (∀ mask, Touches [.regs, .pace] (.ptReplanWrite mask)) ∧
  Touches [.regs, .pace] .replanClaimTimeout ∧
  (∀ p nm, Touches [.regs, .pace] (.probeStep p nm)) ∧
  (∀ group clean, Touches [.regs, .pace] (.trimStep group clean)) ∧
  (∀ tj, Touches [.regs, .free, .ev, .pace] (.planApply tj)) ∧
  (∀ d, Touches [.tack, .pace, .flash] (.planRecordSave d)) ∧
  (∀ a x, Touches [.regs, .pace] (.claimRequest a x)) ∧
  (∀ x, Touches [.regs, .pace] (.claimGrant x)) ∧
  (∀ x, Touches [.regs, .ev, .pace] (.claimStall x)) ∧
  (∀ x, Touches [.pace] (.claimResume x)) ∧
  (∀ x, Touches [.regs, .pace] (.claimHoldLimit x)) ∧
  (∀ x, Touches [.regs, .pace] (.claimRelease x))

/-- What the commit, load, flash and fuse commands may change (R104 to R160). -/
def Obligations.ModesAndFlashFrames : Prop :=
  Touches [.regs, .modes] .commitGo ∧
  (∀ x hid, Touches [.regs, .modes] (.diePrepared x hid)) ∧
  Touches [.regs, .modes, .ev] .prepDeadline ∧
  Touches [.regs, .modes, .ev] .commitLag ∧
  Touches [.regs, .modes, .ev, .flt] .lagRetryExpiry ∧
  Touches [.regs, .ctrs, .modes, .ev, .ts, .rc] .epochDrained ∧
  Touches [.mode, .regs, .modes, .load] .resetNRelease ∧
  Touches [.regs, .load, .flash] .loadVerified ∧
  (∀ fail temps, Touches [.regs, .load, .ddr] (.ddrTrainDone fail temps)) ∧
  (∀ flashError, Touches [.regs, .tack, .ev, .flt, .load] (.loadFail flashError)) ∧
  Touches [.regs, .tack, .ev, .flt, .load] .loadTimeout ∧
  Touches [.regs, .load] .flashReadPage ∧
  Touches [.regs, .load] .flashProgramPage ∧
  Touches [.regs, .load] .flashEraseSector ∧
  Touches [.regs, .load] .flashCommit ∧
  Touches [.regs, .tack, .ev, .load, .flash] .flashOpDone ∧
  (∀ slot ok, Touches [.regs, .fuse] (.fuseKeyProgram slot ok)) ∧
  (∀ slot ok, Touches [.regs] (.fuseKeyRevoke slot ok)) ∧
  (∀ ok, Touches [.regs] (.fuseSecverRaise ok)) ∧
  Touches [.regs, .out] .reportDataRead

/-- What the port, flow-control and admission commands may change (R161 to R192). -/
def Obligations.PortFrames : Prop :=
  (∀ p bytes rx fec back early, Touches [.regs, .ctrs, .ev, .out, .port] (.frameAdmit p bytes rx fec back early)) ∧
  (∀ p techs pause rs, Touches [.regs, .ctrs, .ev, .port] (.anComplete p techs pause rs)) ∧
  (∀ p, Touches [.port] (.anRestart p)) ∧
  (∀ l, Touches [.regs, .ev, .port] (.linkUp l)) ∧
  (∀ p q, Touches [.regs, .ctrs, .port] (.pauseRx p q)) ∧
  (∀ p vec qs, Touches [.regs, .ctrs, .port] (.pfcRx p vec qs)) ∧
  (∀ p, Touches [.ctrs] (.macctlOtherRx p)) ∧
  (∀ p pri, Touches [.regs, .port] (.pauseExpiry p pri)) ∧
  (∀ p pri, Touches [.regs, .ctrs, .ev, .out, .port] (.fcXoff p pri)) ∧
  (∀ p pri, Touches [.regs, .ctrs, .ev, .out, .port] (.fcXon p pri)) ∧
  (∀ p pri, Touches [.ctrs, .ev, .out, .port] (.pfcRefresh p pri)) ∧
  (∀ g, Touches [.regs, .ctrs, .ev, .out, .port] (.fifoXoff g)) ∧
  (∀ g, Touches [.regs, .ctrs, .ev, .out, .port] (.fifoXon g)) ∧
  (∀ p pri, Touches [.regs, .ctrs, .ev, .port] (.pfcWdTrip p pri)) ∧
  (∀ p pri, Touches [.regs, .port] (.pfcWdRecover p pri)) ∧
  (∀ p, Touches [.regs, .out, .port] (.txtsPop p)) ∧
  (∀ d p, Touches [.regs] (.brandInjectArm d p)) ∧
  (∀ d, Touches [.regs] (.brandInjectCancel d)) ∧
  (∀ p, Touches [.regs, .port] (.gateChange p)) ∧
  (∀ p v, Touches [.regs, .ev] (.gaitArmWrite p v)) ∧
  (∀ b o replayed, Touches [.regs, .ev, .flt] (.strapCrcError b o replayed))

/-- What the fabric, store, learning and compaction commands may change (R239 to R357). -/
def Obligations.FabricAndTableFrames : Prop :=
  (∀ kind sl x, Touches [.regs, .ctrs, .ev, .fab] (.spanHoldExpiry kind sl x)) ∧
  (∀ d g k, Touches [.regs, .ev, .fab] (.timeMark d g k)) ∧
  (∀ g how, Touches [.regs, .ctrs, .ev, .flt, .pace, .fab, .tally] (.cellCommit g how)) ∧
  (∀ g q, Touches [.regs, .ctrs, .ev, .flt, .fab, .pool, .ddr] (.deepSpill g q)) ∧
  (∀ g q bad hdrBad, Touches [.regs, .ctrs, .ev, .flt, .fab, .pool, .tally, .ddr, .st] (.deepFill g q bad hdrBad)) ∧
  (∀ g e, Touches [.regs, .ctrs, .ev, .pace, .fab] (.calendarEntry g e)) ∧
  (∀ g q bad, Touches [.regs, .ctrs, .ev, .flt, .fab, .pool, .tally, .ddr, .st] (.girthQueueVisit g q bad)) ∧
  (∀ g q, Touches [.regs, .ev, .fab] (.queueReport g q)) ∧
  (∀ g, Touches [.fab] (.queueAvgUpdate g)) ∧
  (∀ d, Touches [.regs, .port, .fab] (.releaseNotice d)) ∧
  (∀ d k c, Touches [.fab] (.roomSignal d k c)) ∧
  (∀ g v, Touches [.regs, .fab] (.groupConfigWrite g v)) ∧
  (∀ d, Touches [.fab] (.calendarRebuild d)) ∧
  (∀ v, Touches [.regs, .fab] (.captureRingEnable v)) ∧
  (∀ op, Touches [.regs, .ctrs, .ev, .flt, .pace, .flow, .sl, .tally] (.flowOp op)) ∧
  (∀ k, Touches [.regs, .ctrs, .ev, .flt, .flow] (.flowAgerVisit k)) ∧
  (∀ sl bad, Touches [.regs, .ctrs, .ev, .flt, .awl, .sl] (.awlScan sl bad)) ∧
  (∀ temp, Touches [.regs, .ev, .osp] (.awlThrottleEval temp)) ∧
  (∀ d v, Touches [.regs, .sl] (.awlBudgetWrite d v)) ∧
  (∀ a bad, Touches [.regs, .ctrs, .tack, .ev, .flt, .awl, .ddr] (.awlSetReloaded a bad)) ∧
  (∀ d r burst v, Touches [.regs, .sl] (.puntPolicerWrite d r burst v)) ∧
  (∀ x tbl n fixed bad, Touches [.regs, .ev, .flt, .badTabs, .awl] (.scrubBurst x tbl n fixed bad)) ∧
  (∀ d, Touches [.regs, .ctrs, .ev, .tabs, .badTabs, .ts, .xl, .rc] (.seqWriteApply d)) ∧
  (∀ slot, Touches [.regs, .ev, .tabs, .ts, .awl] (.agerVisit slot)) ∧
  Touches [.regs, .tack, .ev, .flt, .tabs, .badTabs] .entryReload ∧
  (∀ d p k v, Touches [.regs, .ev] (.planWrite d p k v)) ∧
  Touches [.regs, .pace, .osp] .compactionStart ∧
  (∀ d, Touches [.regs, .ctrs, .pace, .tabs, .badTabs, .osp] (.compactionMove d)) ∧
  (∀ d temp, Touches [.regs, .ev, .osp, .sl] (.osThrottleEval d temp)) ∧
  (∀ n, Touches [.regs, .ctrs, .ev, .pool] (.bufferAlloc n)) ∧
  (∀ h, Touches [.regs, .ctrs, .ev, .pool, .st] (.bufferFree h))

/-- What the instructions without a memory access, and the commands on engines, may change (R429 to R459). -/
def Obligations.EngineFrames : Prop :=
  (∀ e, Touches [.regs, .ctrs, .free, .ev, .st] (.nop e)) ∧
  (∀ e, Touches [.regs, .ctrs, .free, .ev, .st] (.add e)) ∧
  (∀ e, Touches [.regs, .ctrs, .free, .ev, .st] (.sub e)) ∧
  (∀ e, Touches [.regs, .ctrs, .free, .ev, .st] (.and e)) ∧
  (∀ e, Touches [.regs, .ctrs, .free, .ev, .st] (.or e)) ∧
  (∀ e, Touches [.regs, .ctrs, .free, .ev, .st] (.xor e)) ∧
  (∀ e, Touches [.regs, .ctrs, .free, .ev, .st] (.shl e)) ∧
  (∀ e, Touches [.regs, .ctrs, .free, .ev, .st] (.shr e)) ∧
  (∀ e, Touches [.regs, .ctrs, .free, .ev, .st] (.sar e)) ∧
  (∀ e, Touches [.regs, .ctrs, .free, .ev, .st] (.mul e)) ∧
  (∀ e, Touches [.regs, .ctrs, .free, .ev, .st] (.minu e)) ∧
  (∀ e, Touches [.regs, .ctrs, .free, .ev, .st] (.maxu e)) ∧
  (∀ e, Touches [.regs, .ctrs, .free, .ev, .st] (.bswap e)) ∧
  (∀ e, Touches [.regs, .ctrs, .free, .ev, .st] (.clz e)) ∧
  (∀ e, Touches [.regs, .ctrs, .free, .ev, .st] (.popcnt e)) ∧
  (∀ e, Touches [.regs, .ctrs, .free, .ev, .st] (.addImm e)) ∧
  (∀ e, Touches [.regs, .ctrs, .free, .ev, .st] (.subImm e)) ∧
  (∀ e, Touches [.regs, .ctrs, .free, .ev, .st] (.andImm e)) ∧
  (∀ e, Touches [.regs, .ctrs, .free, .ev, .st] (.orImm e)) ∧
  (∀ e, Touches [.regs, .ctrs, .free, .ev, .st] (.xorImm e)) ∧
  (∀ e, Touches [.regs, .ctrs, .free, .ev, .st] (.shlImm e)) ∧
  (∀ e, Touches [.regs, .ctrs, .free, .ev, .st] (.shrImm e)) ∧
  (∀ e, Touches [.regs, .ctrs, .free, .ev, .st] (.sarImm e)) ∧
  (∀ e, Touches [.regs, .ctrs, .free, .ev, .st] (.mulImm e)) ∧
  (∀ e, Touches [.regs, .ctrs, .free, .ev, .st] (.minuImm e)) ∧
  (∀ e, Touches [.regs, .ctrs, .free, .ev, .st] (.maxuImm e)) ∧
  (∀ e, Touches [.regs, .ctrs, .free, .ev, .st] (.bswapImm e)) ∧
  (∀ e, Touches [.regs, .ctrs, .free, .ev, .st] (.clzImm e)) ∧
  (∀ e, Touches [.regs, .ctrs, .free, .ev, .st] (.popcntImm e)) ∧
  (∀ e, Touches [.regs, .ctrs, .free, .ev, .st] (.li e)) ∧
  (∀ e, Touches [.regs, .ctrs, .free, .ev, .st] (.lui e)) ∧
  (∀ e, Touches [.regs, .ctrs, .free, .ev, .st] (.beq e)) ∧
  (∀ e, Touches [.regs, .ctrs, .free, .ev, .st] (.bne e)) ∧
  (∀ e, Touches [.regs, .ctrs, .free, .ev, .st] (.bltu e)) ∧
  (∀ e, Touches [.regs, .ctrs, .free, .ev, .st] (.bgeu e)) ∧
  (∀ e, Touches [.regs, .ctrs, .free, .ev, .st] (.bf e)) ∧
  (∀ e, Touches [.regs, .ctrs, .ev, .st] (.jmp e)) ∧
  (∀ e, Touches [.regs, .ctrs, .ev, .st] (.jal e)) ∧
  (∀ e, Touches [.regs, .ctrs, .free, .ev, .st] (.jr e)) ∧
  (∀ e, Touches [.regs, .ctrs, .free, .ev, .st] (.wait e)) ∧
  (∀ e, Touches [.regs, .ctrs, .free, .ev, .st] (.signal e)) ∧
  (∀ e, Touches [.regs, .ctrs, .free, .ev, .st] (.chopen e)) ∧
  (∀ e, Touches [.regs, .ctrs, .free, .ev, .st] (.chw e)) ∧
  (∀ e, Touches [.regs, .ctrs, .free, .ev, .st] (.chpost e)) ∧
  (∀ e, Touches [.regs, .ctrs, .free, .ev, .st] (.chr e)) ∧
  (∀ e, Touches [.regs, .ctrs, .free, .ev, .st] (.chfree e)) ∧
  (∀ e, Touches [.regs, .ctrs, .free, .ev, .st] (.getpunt e)) ∧
  (∀ e, Touches [.regs, .ctrs, .free, .ev, .st] (.haddr e)) ∧
  (∀ e, Touches [.regs, .ctrs, .free, .ev, .st] (.dmaw e)) ∧
  (∀ e, Touches [.regs, .ctrs, .free, .ev, .st] (.trap e)) ∧
  (∀ e, Touches [.regs, .ctrs, .free, .ev, .st] (.eret e)) ∧
  (∀ e t, Touches [.regs, .ctrs, .ev, .st] (.threadStop e t)) ∧
  (∀ e t, Touches [.regs, .ctrs, .ev, .st] (.threadResume e t)) ∧
  (∀ e t, Touches [.regs, .ctrs, .ev, .st] (.threadStep e t)) ∧
  (∀ e on, Touches [.regs, .ctrs, .ev, .st] (.engineFreeze e on)) ∧
  (∀ e v, Touches [.st] (.channelRelease e v)) ∧
  (∀ e hi v, Touches [.staged, .st] (.debugRegWrite e hi v)) ∧
  (∀ e, Touches [.regs, .ctrs, .free, .ev, .st] (.illegalOpcode e)) ∧
  (∀ e a tree, Touches [.regs, .ctrs, .ev, .flt, .st] (.machineCheck e a tree)) ∧
  (∀ a, Touches [.regs, .ctrs, .tack, .ev, .flt, .st] (.microwordRewrite a)) ∧
  (∀ e, Touches [.regs, .ctrs, .free, .ev, .pool, .st] (.balloc e)) ∧
  (∀ e, Touches [.regs, .ctrs, .free, .ev, .pool, .st] (.bfree e)) ∧
  (∀ e, Touches [.regs, .ctrs, .free, .ev, .flt, .pool, .tally, .ddr, .st] (.fdrop e))

/-- What the ring, counter, event, translation and device-memory commands may change (R460 to R534). -/
def Obligations.HostAndCounterFrames : Prop :=
  (∀ fn, Touches [.regs, .rc] (.driverOk fn)) ∧
  (∀ kind fn q v, Touches [.regs] (.queueEnable kind fn q v)) ∧
  (∀ c, Touches [.regs, .ctrs, .xl, .rc] (.cqDisable c)) ∧
  (∀ r, Touches [.regs] (.erDisable r)) ∧
  (∀ r v, Touches [.regs, .ev] (.erHeadWrite r v)) ∧
  (∀ c, Touches [.regs, .ev, .out, .rc] (.cqCoalTimer c)) ∧
  (∀ q, Touches [.regs, .rc] (.rxFlushTimer q)) ∧
  (∀ q n, Touches [.regs, .xl, .rc] (.injectFullTimeout q n)) ∧
  (∀ fn pas first n, Touches [.xl] (.atsInvalidate fn pas first n)) ∧
  Touches [.ctrs, .xl] .invalidateComplete ∧
  (∀ fn alloc, Touches [.regs, .ctrs, .ev, .host, .fab, .tally, .xl, .rc, .st] (.priEnableToggle fn alloc)) ∧
  (∀ n, Touches [.rc] (.sriovEnable n)) ∧
  (∀ f, Touches [.regs, .ctrs, .tack, .ev, .flt, .out, .flash, .host, .tabs, .ts, .osp, .awl, .flow, .shp, .tally, .xl, .rc, .ddr, .st] (.vfFlr f)) ∧
  Touches [.regs, .ctrs, .tack, .ev, .osp, .xl, .rc] .hostPlaneReset ∧
  (∀ c temp, Touches [.regs, .pace, .ddr] (.retrainDue c temp)) ∧
  (∀ fail, Touches [.regs, .ctrs, .ev, .pace, .ddr] (.retrainDone fail)) ∧
  (∀ o fixed bad, Touches [.regs, .ctrs, .ev, .flt, .ddr] (.ddrPatrolScrub o fixed bad)) ∧
  Touches [.regs, .ctrs, .tack, .ev, .flt, .pool, .ddr] .pageRetire ∧
  Touches [.ddr] .retireCopyDone ∧
  (∀ src v, Touches [.regs, .ev] (.eventSourceWrite src v)) ∧
  (∀ fn vec isOpen, Touches [.regs, .ev, .out] (.msixUnmask fn vec isOpen)) ∧
  (∀ fn user b n, Touches [.ev, .out] (.counterRead fn user b n)) ∧
  (∀ b n v, Touches [.regs, .ev] (.counterSelect b n v)) ∧
  (∀ v, Touches [.regs, .ev] (.counterFreeze v)) ∧
  Touches [.regs, .ev] .bwWindow ∧
  (∀ v, Touches [.regs, .ev] (.bwWindowWrite v))

/-- What the resets, the drains and the falls of power leave alone (R80, R81, R101 to R120). -/
def Obligations.ResetFrames : Prop :=
  Leaves [.clock, .free, .out, .flash, .fuse, .host] .softStartDone ∧
  (∀ n value avg, Leaves [.clock, .free, .out, .flash, .fuse, .host] (.comparatorTrip n value avg)) ∧
  Leaves [.clock, .out, .fuse, .host] .railsOff ∧
  (∀ n, Leaves [.clock, .out, .fuse, .host] (.flashCopyDone n)) ∧
  (∀ straps, Leaves [.free, .flash, .fuse, .host] (.powerOnReset straps)) ∧
  Leaves [.clock, .out, .fuse, .host] .drainComplete ∧
  (∀ width takes, Leaves [.clock, .mode, .out, .fuse, .host] (.resetNAssert width takes)) ∧
  Leaves [.clock, .out, .fuse, .host] .forwardingRestart ∧
  Touches [.regs, .ctrs, .tack, .ev, .osp, .pool, .tally, .xl, .st] .stitcherReset ∧
  Leaves [.clock, .staged, .latched, .flt, .out, .fuse, .host, .ts, .awl, .flow, .port, .sl, .shp, .pool, .tally, .xl, .rc, .ddr, .st] .emergencyDrain ∧
  Leaves [.clock, .mode, .staged, .latched, .flt, .out, .pace, .load, .flash, .fuse, .host, .tabs, .badTabs, .ts, .osp, .xl, .rc, .ddr] .drainBound

/-- What the commands on the path of a frame, and those that move, sample or account for frames, may change (R15 to R35, R324 to
R426). -/
def Obligations.PathFrames : Prop :=
  (∀ sl borrow second nm, Touches [.regs, .ctrs, .ev, .pace, .ts, .port, .sl, .fab, .shp, .tally] (.ingressPass sl borrow second nm)) ∧
  (∀ sl, Touches [.regs, .ctrs, .ev, .port, .sl, .fab, .tally] (.awlResult sl)) ∧
  (∀ sl, Touches [.regs, .ctrs, .ev, .awl, .port, .sl, .fab, .tally] (.awlTimeout sl)) ∧
  (∀ sl, Touches [.regs, .ctrs, .ev, .port, .sl, .fab, .tally] (.flowResult sl)) ∧
  (∀ sl, Touches [.regs, .ctrs, .ev, .flow, .port, .sl, .fab, .tally] (.flowTimeout sl)) ∧
  (∀ p rest rx, Touches [.regs, .ctrs, .ev, .out, .port, .fab, .tally] (.tailRecord p rest rx)) ∧
  (∀ d g k borrow, Touches [.regs, .ctrs, .free, .ev, .pace, .port, .fab, .shp, .tally] (.lacingCellArrive d g k borrow)) ∧
  (∀ d q, Touches [.regs, .ctrs, .free, .ev, .flt, .port, .fab, .shp, .tally] (.lacingTimeout d q)) ∧
  (∀ p nm, Touches [.regs, .ctrs, .ev, .pace, .port, .fab, .shp, .tally] (.reinSelect p nm)) ∧
  (∀ p back, Touches [.regs, .ctrs, .ev, .out, .port, .fab, .tally] (.frameTxDone p back)) ∧
  (∀ p c, Touches [.regs, .ctrs, .ev, .fab, .shp, .tally] (.egressAgeSweep p c)) ∧
  (∀ p v, Touches [.regs, .ctrs, .free, .ev, .port, .fab, .shp, .tally] (.portCtrlWrite p v)) ∧
  (∀ p rx line us, Touches [.regs, .ctrs, .ev, .port, .fab, .shp, .tally] (.linkDown p rx line us)) ∧
  (∀ g p, Touches [.regs, .ctrs, .ev, .fab, .tally] (.flushRequest g p)) ∧
  (∀ g p, Touches [.regs, .ev, .fab, .shp, .tally] (.flushMarker g p)) ∧
  Touches [.regs, .ctrs, .ev, .host, .fab, .tally, .xl, .rc, .ddr] .captureRecord ∧
  Touches [.regs, .ctrs, .ev, .host, .sl, .fab, .tally, .xl, .rc, .ddr] .sampleRecord ∧
  Touches [.regs, .ctrs, .free, .tack, .ev, .flt, .tabs, .tally] .tallyCut ∧
  Touches [.regs, .ctrs, .free, .tack, .ev, .flt, .host, .fab, .tally, .xl, .rc, .ddr] .tallySetDone ∧
  Touches [.regs, .ctrs, .ev, .host, .fab, .tally, .xl, .rc, .ddr] .tallyDivert ∧
  Touches [.regs, .ctrs, .ev, .host, .sl, .fab, .pool, .tally, .xl, .rc, .ddr, .st] .puntArrive ∧
  Touches [.regs, .ctrs, .ev, .pace, .port, .fab, .pool, .tally, .st] .repattern ∧
  Touches [.regs, .ctrs, .tack, .ev, .flt, .pace, .port, .fab, .pool, .tally, .st] .repatternResume ∧
  Touches [.regs, .ctrs, .tack, .ev, .awl, .flow, .port, .sl, .fab, .shp, .pool, .tally, .st] .transmittersOff ∧
  (∀ value, Touches [.clock, .regs, .ctrs, .free, .tack, .ev, .flt, .tabs, .port, .tally] (.timeStep value)) ∧
  (∀ lagging, Touches [.mode, .regs, .ctrs, .modes, .ev, .pace, .tabs, .fab, .shp, .tally] (.commitApply lagging)) ∧
  (∀ x, Touches [.regs, .ctrs, .modes, .ev, .tabs, .fab, .shp, .tally] (.applyReport x))

/-- What the remaining commands, the operations on tables, rings and memory, the loader and the fault handling, may change (R135
to R160, R239 to R323, R431 to R449, R463 to R519, R535 to R545). -/
def Obligations.OperationFrames : Prop :=
  Touches [.regs, .latched, .free, .ev, .out, .port] .smbusBlockRead ∧
  Touches [.regs, .ctrs, .tack, .ev, .flt, .st] .stitcherResetDone ∧
  (∀ bad, Leaves [.clock, .free, .out, .flash, .fuse, .host] (.loadAttempt bad)) ∧
  Leaves [.clock, .out, .host] .sectionApply ∧
  Touches [.mode, .regs, .ctrs, .tack, .ev, .load, .tabs, .sl, .fab, .tally, .st] .loadComplete ∧
  Touches [.regs, .ctrs, .ev, .host, .tabs, .ts, .awl, .sl, .fab, .tally, .xl, .rc] .learnRequest ∧
  Touches [.regs, .ctrs, .ev, .host, .tabs, .ts, .awl, .sl, .fab, .tally, .xl, .rc] .hitNotice ∧
  (∀ slot, Touches [.regs, .ctrs, .ev, .host, .tabs, .ts, .awl, .fab, .tally, .xl, .rc] (.ageDecide slot)) ∧
  Touches [.regs, .ctrs, .ev, .pace, .host, .tabs, .badTabs, .ts, .osp, .awl, .xl, .rc, .st] .compactionDone ∧
  Touches [.regs, .ctrs, .ev, .pace, .host, .tabs, .badTabs, .ts, .osp, .awl, .xl, .rc, .st] .compactionStop ∧
  Touches [.regs, .ctrs, .ev, .host, .tabs, .ts, .osp, .awl, .xl, .rc, .st] .osWriteWaitTimeout ∧
  (∀ e, Touches [.regs, .ctrs, .free, .ev, .flt, .host, .xl, .ddr, .st] (.ld e)) ∧
  (∀ e, Touches [.regs, .ctrs, .free, .ev, .flt, .host, .xl, .ddr, .st] (.st e)) ∧
  (∀ e t, Leaves [.clock, .mode, .staged, .latched, .modes, .out, .pace, .load, .fuse, .badTabs, .port] (.waitDeadline e t)) ∧
  (∀ e, Touches [.regs, .ctrs, .free, .ev, .flt, .host, .sl, .pool, .xl, .ddr, .st] (.rinj e)) ∧
  (∀ e, Touches [.regs, .ctrs, .free, .ev, .flt, .host, .fab, .pool, .tally, .xl, .rc, .ddr, .st] (.hpunt e)) ∧
  (∀ e, Touches [.regs, .ctrs, .free, .ev, .flt, .host, .xl, .ddr, .st] (.dma e)) ∧
  (∀ e t tag, Touches [.regs, .ctrs, .free, .ev, .flt, .host, .xl, .ddr, .st] (.dmaDone e t tag)) ∧
  (∀ e, Touches [.regs, .ctrs, .free, .ev, .flt, .host, .xl, .ddr, .st] (.crc e)) ∧
  (∀ e, Touches [.regs, .ctrs, .free, .ev, .flt, .host, .xl, .ddr, .st] (.bcopy e)) ∧
  (∀ e, Touches [.regs, .ctrs, .free, .ev, .flt, .host, .xl, .ddr, .st] (.lwalk e)) ∧
  (∀ e, Touches [.regs, .ctrs, .free, .ev, .flt, .host, .xl, .ddr, .st] (.hins e)) ∧
  (∀ e, Touches [.regs, .ctrs, .free, .ev, .flt, .host, .flow, .xl, .ddr, .st] (.fctx e)) ∧
  (∀ e, Touches [.regs, .ctrs, .free, .ev, .flt, .ddr, .st] (.mnext e)) ∧
  (∀ e, Leaves [.clock, .mode, .staged, .latched, .modes, .out, .pace, .load, .fuse, .badTabs, .port, .sl, .fab, .pool, .rc] (.top e)) ∧
  (∀ e, Leaves [.clock, .mode, .staged, .latched, .modes, .out, .pace, .load, .fuse, .badTabs, .port] (.customerOpcode e)) ∧
  (∀ e t, Leaves [.clock, .mode, .staged, .latched, .modes, .out, .pace, .load, .fuse, .badTabs, .port] (.stallEnd e t)) ∧
  (∀ q, Touches [.regs, .ctrs, .ev, .fab, .tally, .xl, .rc] (.sqDisable q)) ∧
  (∀ q v, Touches [.regs, .ev, .flt, .out, .xl, .rc] (.sqDoorbell q v)) ∧
  (∀ q n ur, Touches [.regs, .ctrs, .ev, .flt, .out, .xl, .rc] (.sqEntryFetch q n ur)) ∧
  (∀ c v, Touches [.regs, .ctrs, .ev, .flt, .out, .host, .xl, .rc] (.cqDoorbell c v)) ∧
  (∀ c, Touches [.regs, .ctrs, .ev, .out, .host, .xl, .rc] (.completionWrite c)) ∧
  (∀ q n ur, Leaves [.clock, .mode, .staged, .latched, .free, .modes, .pace, .load, .fuse, .badTabs, .port, .sl, .fab, .pool] (.tableRead q n ur)) ∧
  (∀ q n ur, Leaves [.clock, .mode, .staged, .latched, .free, .modes, .pace, .load, .fuse, .badTabs, .port, .sl, .fab, .pool] (.tableWrite q n ur)) ∧
  (∀ q n ur, Leaves [.clock, .mode, .staged, .latched, .free, .modes, .pace, .load, .fuse, .badTabs, .port, .sl, .fab, .pool] (.tableInsert q n ur)) ∧
  (∀ q n ur, Leaves [.clock, .mode, .staged, .latched, .free, .modes, .pace, .load, .fuse, .badTabs, .port, .sl, .fab, .pool] (.tableDelete q n ur)) ∧
  (∀ q n ur, Leaves [.clock, .mode, .staged, .latched, .free, .modes, .pace, .load, .fuse, .badTabs, .port, .sl, .fab, .pool] (.bankCopy q n ur)) ∧
  (∀ q n ur, Touches [.regs, .ctrs, .ev, .flt, .out, .awl, .xl, .rc] (.setWrite q n ur)) ∧
  (∀ q n ur, Leaves [.clock, .mode, .staged, .latched, .free, .modes, .pace, .load, .fuse, .badTabs, .port, .sl, .fab, .pool] (.setValidate q n ur)) ∧
  (∀ q n ur, Leaves [.clock, .mode, .staged, .latched, .free, .modes, .pace, .load, .fuse, .badTabs, .port, .sl, .fab, .pool] (.scan q n ur)) ∧
  (∀ q n ur, Leaves [.clock, .mode, .staged, .latched, .free, .modes, .pace, .load, .fuse, .badTabs, .port, .sl, .fab, .pool] (.ringFlashRead q n ur)) ∧
  (∀ q n ur, Leaves [.clock, .mode, .staged, .latched, .free, .modes, .pace, .load, .fuse, .badTabs, .port, .sl, .fab, .pool] (.ringFlashProgram q n ur)) ∧
  (∀ q n ur, Leaves [.clock, .mode, .staged, .latched, .free, .modes, .pace, .load, .fuse, .badTabs, .port, .sl, .fab, .pool] (.ringFlashErase q n ur)) ∧
  (∀ q n ur, Leaves [.clock, .mode, .staged, .latched, .free, .modes, .pace, .load, .fuse, .badTabs, .port, .sl, .fab, .pool] (.ringFlashCommit q n ur)) ∧
  (∀ q n ur, Leaves [.clock, .mode, .staged, .latched, .free, .modes, .pace, .load, .fuse, .badTabs, .port, .sl, .fab, .pool] (.ringNop q n ur)) ∧
  (∀ q n ur, Touches [.regs, .ctrs, .ev, .flt, .out, .xl, .rc] (.rxBuf q n ur)) ∧
  (∀ q n ur, Touches [.regs, .ctrs, .ev, .flt, .out, .sl, .xl, .rc] (.inject q n ur)) ∧
  (∀ g code, Touches [.regs, .ctrs, .ev, .host, .fab, .tally, .xl, .rc, .st] (.pageResponse g code)) ∧
  (∀ g, Touches [.regs, .ctrs, .ev, .host, .fab, .tally, .xl, .rc, .st] (.priTimeout g)) ∧
  (∀ k first n r w, Touches [.regs, .ctrs, .ev, .out, .host, .fab, .tally, .xl, .rc, .st] (.translationDone k first n r w)) ∧
  (∀ o req a b c, Touches [.regs, .ctrs, .ev, .flt, .flow, .fab, .pool, .tally, .ddr, .st] (.ddrUncorrectable o req a b c)) ∧
  (∀ src, Touches [.regs, .ctrs, .ev, .out, .host, .xl] (.eventDeliver src)) ∧
  (∀ fn off, Touches [.regs, .latched, .free, .ev, .out, .port] (.latchedRead fn off)) ∧
  (∀ ext die unit cause wide d0 d1, Leaves [.clock, .staged, .latched, .out, .flash, .fuse, .host, .ts, .xl, .rc] (.faultReport ext die unit cause wide d0 d1)) ∧
  (∀ x unit n us, Leaves [.clock, .staged, .latched, .free, .out, .flash, .fuse, .host, .ts, .xl, .rc, .ddr] (.unitHang x unit n us)) ∧
  Leaves [.clock, .mode, .staged, .latched, .free, .out, .load, .flash, .fuse, .host, .tabs, .badTabs, .awl, .flow, .pool, .ddr, .st] .dieIsolate ∧
  (∀ smbus fn off v, Leaves [] (.registerWrite smbus fn off v))
end

