-- ==== Sys2Proof/Laws/Bits.lean ====
section
/-! SUPPORT. Bit fields: what a field reads as after it, or another, has been written. -/

namespace Sys2Proof.Machine

theorem bits_lt (v hi lo : Nat) : bits v hi lo < 2 ^ (hi + 1 - lo) := Nat.mod_lt _ (Nat.two_pow_pos _)

theorem bit_eq_testBit (v i : Nat) : bit v i = v.testBit i := by
  simp only [bit, Nat.testBit_eq_decide_div_mod_eq, Nat.shiftRight_eq_div_pow]
  by_cases h : v / 2 ^ i % 2 = 1 <;> simp [h]

theorem testBit_bits (v hi lo i : Nat) : (bits v hi lo).testBit i = (decide (i < hi + 1 - lo) && v.testBit (lo + i)) := by
  simp [bits, Nat.testBit_mod_two_pow, Nat.testBit_shiftRight]

/-- A word with one field replaced, as the sum of what stands above, in and below the field. -/
theorem setBits_eq (v hi lo x : Nat) (h : lo ≤ hi) :
    setBits v hi lo x = 2 ^ (hi + 1) * (v / 2 ^ (hi + 1)) + (2 ^ lo * (x % 2 ^ (hi + 1 - lo)) + v % 2 ^ lo) := by
  have hp : 2 ^ (hi + 1) = 2 ^ (hi + 1 - lo) * 2 ^ lo := by rw [← pow_add]; congr 1; omega
  have h1 : v / 2 ^ (hi + 1) = v / 2 ^ lo / 2 ^ (hi + 1 - lo) := by rw [hp, Nat.mul_comm, Nat.div_div_eq_div_mul]
  have e1 := Nat.div_add_mod v (2 ^ lo)
  have e2 := Nat.div_add_mod (v / 2 ^ lo) (2 ^ (hi + 1 - lo))
  simp only [setBits, bits, Nat.shiftRight_eq_div_pow]
  rw [h1, hp]
  generalize v / 2 ^ lo / 2 ^ (hi + 1 - lo) = a at *
  generalize v / 2 ^ lo % 2 ^ (hi + 1 - lo) = b at *
  generalize x % 2 ^ (hi + 1 - lo) = y at *
  generalize v % 2 ^ lo = c at *
  generalize 2 ^ (hi + 1 - lo) = w at *
  generalize 2 ^ lo = l at *
  have : v = w * l * a + b * l + c := by rw [← e1, ← e2]; ring
  have e3 : v - b * l = w * l * a + c := by rw [this]; exact Nat.sub_eq_of_eq_add (by ring)
  rw [e3]; ring

theorem testBit_setBits (v hi lo x i : Nat) (h : lo ≤ hi) :
    (setBits v hi lo x).testBit i = if lo ≤ i ∧ i ≤ hi then x.testBit (i - lo) else v.testBit i := by
  have hb : 2 ^ lo * (x % 2 ^ (hi + 1 - lo)) + v % 2 ^ lo < 2 ^ (hi + 1) := by
    have hp : 2 ^ (hi + 1) = 2 ^ lo * 2 ^ (hi + 1 - lo) := by rw [← pow_add]; congr 1; omega
    have h1 := Nat.mod_lt x (Nat.two_pow_pos (hi + 1 - lo))
    have h2 := Nat.mod_lt v (Nat.two_pow_pos lo)
    have h3 := Nat.mul_le_mul_left (2 ^ lo) (Nat.succ_le_of_lt h1)
    rw [hp]; rw [Nat.mul_succ] at h3; omega
  rw [setBits_eq v hi lo x h, Nat.testBit_two_pow_mul_add _ hb]
  split
  · next hi1 =>
    rw [Nat.testBit_two_pow_mul_add _ (Nat.mod_lt _ (Nat.two_pow_pos _))]
    split
    · next hlo => rw [if_neg (by omega), Nat.testBit_mod_two_pow]; simp [hlo]
    · rw [if_pos (by omega), Nat.testBit_mod_two_pow]; simp only [Bool.and_eq_right_iff_imp, decide_eq_true_eq]; omega
  · rw [if_neg (by omega), ← Nat.shiftRight_eq_div_pow, Nat.testBit_shiftRight]; congr 1; omega

/-- A field just written holds the value, as far as it is wide. -/
theorem bits_setBits_self (v hi lo x : Nat) (h : lo ≤ hi) : bits (setBits v hi lo x) hi lo = x % 2 ^ (hi + 1 - lo) := by
  apply Nat.eq_of_testBit_eq
  intro i
  rw [testBit_bits, testBit_setBits _ _ _ _ _ h, Nat.testBit_mod_two_pow]
  by_cases hi' : i < hi + 1 - lo
  · simp only [hi', decide_true, Bool.true_and]
    rw [if_pos (by omega)]; congr 1; omega
  · simp [hi']

/-- A field beside it keeps its value. -/
theorem bits_setBits_other (v hi lo x a b : Nat) (h : lo ≤ hi) (hd : a < lo ∨ hi < b) :
    bits (setBits v hi lo x) a b = bits v a b := by
  apply Nat.eq_of_testBit_eq
  intro i
  rw [testBit_bits, testBit_bits, testBit_setBits _ _ _ _ _ h]
  by_cases hi' : i < a + 1 - b
  · rw [if_neg (by omega)]
  · simp [hi']

theorem setBits_lt (v hi lo x n : Nat) (h : lo ≤ hi) (hn : hi < n) (hv : v < 2 ^ n) : setBits v hi lo x < 2 ^ n := by
  apply Nat.lt_pow_two_of_testBit
  intro i hi'
  rw [testBit_setBits _ _ _ _ _ h, if_neg (by omega)]
  exact Nat.testBit_lt_two_pow (Nat.lt_of_lt_of_le hv (Nat.pow_le_pow_right (by omega) hi'))

/-- A bit just written. -/
theorem bit_setBit_self (v i : Nat) (b : Bool) : bit (setBit v i b) i = b := by
  rw [bit_eq_testBit, setBit, testBit_setBits _ _ _ _ _ (Nat.le_refl i)]
  cases b <;> simp [b2n]

/-- The other bits keep their value. -/
theorem bit_setBit_other (v i j : Nat) (b : Bool) (h : j ≠ i) : bit (setBit v i b) j = bit v j := by
  rw [bit_eq_testBit, bit_eq_testBit, setBit, testBit_setBits _ _ _ _ _ (Nat.le_refl i), if_neg (by omega)]

theorem bits_setBit_other (v i a b : Nat) (x : Bool) (h : a < i ∨ i < b) : bits (setBit v i x) a b = bits v a b :=
  bits_setBits_other _ _ _ _ _ _ (Nat.le_refl i) h

theorem leBytes_length (n : Nat) : ∀ v, (leBytes v n).length = n := by
  induction n with
  | zero => intro; rfl
  | succ n ih => intro v; simp [leBytes, ih]

/-- Little-endian bytes give back the number. -/
theorem ofLe_leBytes (n : Nat) : ∀ v, v < 2 ^ (8 * n) → ofLe (leBytes v n) = v := by
  induction n with
  | zero => intro v h; simp at h; simp [h, leBytes, ofLe]
  | succ n ih =>
    intro v h
    simp only [leBytes, ofLe]
    rw [ih, BitVec.toNat_ofNat, Nat.shiftRight_eq_div_pow]
    · omega
    · rw [Nat.shiftRight_eq_div_pow, Nat.div_lt_iff_lt_mul (by norm_num)]
      calc v < 2 ^ (8 * (n + 1)) := h
        _ = 2 ^ (8 * n) * 2 ^ 8 := by rw [← pow_add]; congr 1

end Sys2Proof.Machine
end

