-- ==== Sys2Proof/Laws/Map.lean ====
section
/-! SUPPORT. Sparse maps: reading after writing, and the canonical form that every operation keeps. -/

namespace Sys2Proof.Machine

variable {α : Type}

/-! ## Reading after writing -/

@[simp] theorem Map.find?_nil (k : Nat) : Map.find? ([] : Map α) k = none := rfl

theorem Map.find?_cons (j : Nat) (v : α) (m : Map α) (k : Nat) :
    Map.find? ((j, v) :: m) k = if j = k then some v else Map.find? m k := rfl

@[simp] theorem Map.at_nil (d : α) (k : Nat) : Map.at ([] : Map α) d k = d := rfl

@[simp] theorem Map.find?_insert_self (m : Map α) (k : Nat) (v : α) : (m.insert k v).find? k = some v := by
  induction m with
  | nil => simp [Map.insert, Map.find?]
  | cons e m ih =>
    obtain ⟨j, w⟩ := e
    unfold Map.insert
    split
    · simp [Map.find?]
    · split
      · simp [Map.find?]
      · next _ h => simp [Map.find?, Ne.symm h, ih]

theorem Map.find?_insert_ne (m : Map α) {j k : Nat} (v : α) (h : j ≠ k) : (m.insert k v).find? j = m.find? j := by
  induction m with
  | nil => simp [Map.insert, Map.find?, Ne.symm h]
  | cons e m ih =>
    obtain ⟨i, w⟩ := e
    unfold Map.insert
    split
    · simp [Map.find?, Ne.symm h]
    · split
      · next _ e => subst e; simp [Map.find?, Ne.symm h]
      · simp [Map.find?, ih]

@[simp] theorem Map.find?_erase_self (m : Map α) (k : Nat) : (m.erase k).find? k = none := by
  induction m with
  | nil => rfl
  | cons e m ih =>
    obtain ⟨j, w⟩ := e
    by_cases h : j = k
    · simpa [Map.erase, h] using ih
    · have : (Map.erase ((j, w) :: m) k) = (j, w) :: Map.erase m k := by simp [Map.erase, h]
      rw [this, Map.find?_cons, if_neg h, ih]

theorem Map.find?_erase_ne (m : Map α) {j k : Nat} (h : j ≠ k) : (m.erase k).find? j = m.find? j := by
  induction m with
  | nil => rfl
  | cons e m ih =>
    obtain ⟨i, w⟩ := e
    by_cases hi : i = k
    · have : (Map.erase ((i, w) :: m) k) = Map.erase m k := by simp [Map.erase, hi]
      rw [this, ih, Map.find?_cons, if_neg (fun e => h (e.symm.trans hi))]
    · have : (Map.erase ((i, w) :: m) k) = (i, w) :: Map.erase m k := by simp [Map.erase, hi]
      rw [this, Map.find?_cons, Map.find?_cons, ih]

@[simp] theorem Map.at_insert_self (m : Map α) (d : α) (k : Nat) (v : α) : (m.insert k v).at d k = v := by
  simp [Map.at]

theorem Map.at_insert_ne (m : Map α) (d : α) {j k : Nat} (v : α) (h : j ≠ k) : (m.insert k v).at d j = m.at d j := by
  simp [Map.at, Map.find?_insert_ne m v h]

@[simp] theorem Map.at_erase_self (m : Map α) (d : α) (k : Nat) : (m.erase k).at d k = d := by simp [Map.at]

theorem Map.at_erase_ne (m : Map α) (d : α) {j k : Nat} (h : j ≠ k) : (m.erase k).at d j = m.at d j := by
  simp [Map.at, Map.find?_erase_ne m h]

/-- A read after a write to the same key gives the value written. -/
@[simp] theorem Map.at_put_self [DecidableEq α] (m : Map α) (d : α) (k : Nat) (v : α) : (m.put d k v).at d k = v := by
  unfold Map.put
  split
  · next h => simp [h]
  · simp

/-- A write leaves every other key alone. -/
theorem Map.at_put_ne [DecidableEq α] (m : Map α) (d d' : α) {j k : Nat} (v : α) (h : j ≠ k) :
    (m.put d k v).at d' j = m.at d' j := by
  unfold Map.put
  split
  · exact Map.at_erase_ne m d' h
  · exact Map.at_insert_ne m d' v h

theorem Map.at_put [DecidableEq α] (m : Map α) (d : α) (j k : Nat) (v : α) :
    (m.put d k v).at d j = if j = k then v else m.at d j := by
  split
  · next h => subst h; simp
  · next h => exact Map.at_put_ne m d d v h

theorem Map.at_putAll_below [DecidableEq α] (d d' : α) (vs : List α) : ∀ (m : Map α) (j k : Nat), j < k →
    (Map.putAll d m k vs).at d' j = m.at d' j := by
  induction vs with
  | nil => intros; rfl
  | cons v vs ih =>
    intro m j k h
    rw [Map.putAll, ih _ _ _ (by omega), Map.at_put_ne _ _ _ _ (by omega)]

/-- Consecutive writes leave every key outside their range alone. -/
theorem Map.at_putAll_outside [DecidableEq α] (d d' : α) (vs : List α) : ∀ (m : Map α) (j k : Nat),
    (j < k ∨ k + vs.length ≤ j) → (Map.putAll d m k vs).at d' j = m.at d' j := by
  induction vs with
  | nil => intros; rfl
  | cons v vs ih =>
    intro m j k h
    simp only [List.length_cons] at h
    rw [Map.putAll, ih _ _ _ (by omega), Map.at_put_ne _ _ _ _ (by omega)]

/-- Consecutive writes give back the values written. -/
theorem Map.run_putAll [DecidableEq α] (d : α) (vs : List α) : ∀ (m : Map α) (k : Nat),
    (Map.putAll d m k vs).run d k vs.length = vs := by
  induction vs with
  | nil => intros; rfl
  | cons v vs ih =>
    intro m k
    simp only [List.length_cons, Map.run, Map.putAll]
    rw [ih, Map.at_putAll_below _ _ _ _ _ _ (by omega), Map.at_put_self]

/-! ## The canonical form -/

theorem Map.wf_nil [DecidableEq α] (d : α) : Map.wf d ([] : Map α) = true := rfl

/-- A lower bound of all keys. -/
theorem Map.rising_weaken (m : Map α) {lo lo' : Nat} (h : lo' ≤ lo) (hm : Map.rising (some lo) m = true) :
    Map.rising (some lo') m = true := by
  cases m with
  | nil => rfl
  | cons e m =>
    obtain ⟨j, w⟩ := e
    simp only [Map.rising, Bool.and_eq_true, decide_eq_true_eq] at *
    exact ⟨by omega, hm.2⟩

theorem Map.rising_none (m : Map α) {lo : Nat} (hm : Map.rising (some lo) m = true) : Map.rising none m = true := by
  cases m with
  | nil => rfl
  | cons e m => obtain ⟨j, w⟩ := e; simpa [Map.rising] using And.right (by simpa [Map.rising] using hm)

theorem Map.rising_filter (p : Nat × α → Bool) (m : Map α) : ∀ lo, Map.rising lo m = true → Map.rising lo (m.filter p) = true := by
  induction m with
  | nil => intros; rfl
  | cons e m ih =>
    obtain ⟨j, w⟩ := e
    intro lo h
    simp only [Map.rising, Bool.and_eq_true] at h
    by_cases hp : p (j, w)
    · simp only [List.filter_cons_of_pos hp, Map.rising, Bool.and_eq_true]
      exact ⟨h.1, ih _ h.2⟩
    · simp only [List.filter_cons_of_neg hp]
      have h2 := ih _ h.2
      cases lo with
      | none => exact Map.rising_none _ h2
      | some l =>
        have : l < j := by simpa using h.1
        exact Map.rising_weaken _ (by omega) h2

theorem Map.clean_filter [DecidableEq α] (d : α) (p : Nat × α → Bool) (m : Map α) (h : Map.clean d m = true) :
    Map.clean d (m.filter p) = true := by
  induction m with
  | nil => rfl
  | cons e m ih =>
    obtain ⟨j, w⟩ := e
    simp only [Map.clean, Bool.and_eq_true] at h
    by_cases hp : p (j, w)
    · simp only [List.filter_cons_of_pos hp, Map.clean, Bool.and_eq_true]; exact ⟨h.1, ih h.2⟩
    · simpa only [List.filter_cons_of_neg hp] using ih h.2

theorem Map.wf_filter [DecidableEq α] (d : α) (p : Nat × α → Bool) (m : Map α) (h : Map.wf d m = true) :
    Map.wf d (m.filter p) = true := by
  simp only [Map.wf, Bool.and_eq_true] at *
  exact ⟨Map.rising_filter p m _ h.1, Map.clean_filter d p m h.2⟩

/-- Every operation that drops entries keeps the form. -/
theorem Map.wf_erase [DecidableEq α] (d : α) (m : Map α) (k : Nat) (h : Map.wf d m = true) : Map.wf d (m.erase k) = true :=
  Map.wf_filter d _ m h

theorem Map.wf_keep [DecidableEq α] (d : α) (p : Nat → Bool) (m : Map α) (h : Map.wf d m = true) :
    Map.wf d (m.keep p) = true := Map.wf_filter d _ m h

theorem Map.wf_dropRange [DecidableEq α] (d : α) (m : Map α) (lo hi : Nat) (h : Map.wf d m = true) :
    Map.wf d (m.dropRange lo hi) = true := Map.wf_filter d _ m h

theorem Map.rising_insert (m : Map α) (k : Nat) (v : α) : ∀ lo, (match lo with | none => true | some l => decide (l < k)) = true →
    Map.rising lo m = true → Map.rising lo (m.insert k v) = true := by
  induction m with
  | nil =>
    intro lo hk _
    simp only [Map.insert, Map.rising, Bool.and_true]
    exact hk
  | cons e m ih =>
    obtain ⟨j, w⟩ := e
    intro lo hk h
    simp only [Map.rising, Bool.and_eq_true] at h
    unfold Map.insert
    split
    · next hkj =>
      simp only [Map.rising, Bool.and_eq_true]
      exact ⟨hk, by simpa using hkj, h.2⟩
    · split
      · next _ e => subst e; simp only [Map.rising, Bool.and_eq_true]; exact h
      · next h1 h2 =>
        simp only [Map.rising, Bool.and_eq_true]
        exact ⟨h.1, ih (some j) (by simp; omega) h.2⟩

theorem Map.clean_insert [DecidableEq α] (d : α) (m : Map α) (k : Nat) (v : α) (hv : v ≠ d) (h : Map.clean d m = true) :
    Map.clean d (m.insert k v) = true := by
  induction m with
  | nil => simp [Map.insert, Map.clean, hv]
  | cons e m ih =>
    obtain ⟨j, w⟩ := e
    simp only [Map.clean, Bool.and_eq_true] at h
    unfold Map.insert
    split
    · simp only [Map.clean, Bool.and_eq_true]; exact ⟨by simpa using hv, h.1, h.2⟩
    · split
      · simp only [Map.clean, Bool.and_eq_true]; exact ⟨by simpa using hv, h.2⟩
      · simp only [Map.clean, Bool.and_eq_true]; exact ⟨h.1, ih h.2⟩

/-- A write keeps the form: writing the value an unlisted key reads as removes the entry. -/
theorem Map.wf_put [DecidableEq α] (d : α) (m : Map α) (k : Nat) (v : α) (h : Map.wf d m = true) :
    Map.wf d (m.put d k v) = true := by
  unfold Map.put
  split
  · exact Map.wf_erase d m k h
  · next hv =>
    simp only [Map.wf, Bool.and_eq_true] at *
    exact ⟨Map.rising_insert m k v none rfl h.1, Map.clean_insert d m k v hv h.2⟩

theorem Map.wf_putAll [DecidableEq α] (d : α) (vs : List α) : ∀ (m : Map α) (k : Nat), Map.wf d m = true →
    Map.wf d (Map.putAll d m k vs) = true := by
  induction vs with
  | nil => intro m k h; exact h
  | cons v vs ih => intro m k h; exact ih _ _ (Map.wf_put d m k v h)

/-- A key below every listed one is not listed. -/
theorem Map.find?_lt (m : Map α) : ∀ {lo k : Nat}, k ≤ lo → Map.rising (some lo) m = true → m.find? k = none := by
  induction m with
  | nil => intros; rfl
  | cons e m ih =>
    obtain ⟨j, w⟩ := e
    intro lo k hk h
    simp only [Map.rising, Bool.and_eq_true, decide_eq_true_eq] at h
    rw [Map.find?_cons, if_neg (by omega)]
    exact ih (lo := j) (by omega) h.2

end Sys2Proof.Machine
end

