-- ==== Sys2Proof/Laws/Ops.lean ====
section
/-! SUPPORT. The shared operations: what a register, a field or a counter reads as after a write, and what the operations on
event sources, counting blocks and the journal can change. -/

namespace Sys2Proof.Machine

namespace State

/-! ## Registers and fields -/

theorem rd_lt (s : State) (r : RegSpec) (ix : List Nat) : s.rd r ix < 2 ^ 32 := BitVec.isLt _

@[simp] theorem rd_wr_self (s : State) (r : RegSpec) (ix : List Nat) (v : Nat) : (s.wr r ix v).rd r ix = v % 2 ^ 32 := by
  simp [rd, wr, Map.at_put_self]

theorem rd_wr_ne (s : State) (r q : RegSpec) (ix jx : List Nat) (v : Nat) (h : q.addr jx ≠ r.addr ix) :
    (s.wr r ix v).rd q jx = s.rd q jx := by
  simp only [rd, wr]
  rw [Map.at_put_ne _ _ _ _ h]

/-- A field just set holds the value, as far as it is wide. -/
theorem get_set_self (s : State) (f : Fld) (ix : List Nat) (v : Nat) (h : f.lo ≤ f.hi) (hw : f.hi < 32) :
    (s.set f ix v).get f ix = v % 2 ^ (f.hi + 1 - f.lo) := by
  rw [get, set, rd_wr_self, Nat.mod_eq_of_lt (setBits_lt _ _ _ _ 32 h hw (s.rd_lt _ _)), bits_setBits_self _ _ _ _ h]

/-- Setting a field leaves the other fields of its register alone. -/
theorem get_set_field (s : State) (f g : Fld) (ix : List Nat) (v : Nat) (h : f.lo ≤ f.hi) (hw : f.hi < 32) (hr : g.reg = f.reg)
    (hd : g.hi < f.lo ∨ f.hi < g.lo) : (s.set f ix v).get g ix = s.get g ix := by
  rw [get, hr, set, rd_wr_self, Nat.mod_eq_of_lt (setBits_lt _ _ _ _ 32 h hw (s.rd_lt _ _)), bits_setBits_other _ _ _ _ _ _ h hd,
    get, hr]

/-- Setting a field leaves every other register alone. -/
theorem get_set_reg (s : State) (f g : Fld) (ix jx : List Nat) (v : Nat) (h : g.reg.addr jx ≠ f.reg.addr ix) :
    (s.set f ix v).get g jx = s.get g jx := by
  rw [get, set, rd_wr_ne _ _ _ _ _ _ h, get]

theorem rd_set_ne (s : State) (f : Fld) (q : RegSpec) (ix jx : List Nat) (v : Nat) (h : q.addr jx ≠ f.reg.addr ix) :
    (s.set f ix v).rd q jx = s.rd q jx := rd_wr_ne _ _ _ _ _ _ h

/-! ## Counters -/

@[simp] theorem ctr_inc_self (s : State) (r : RegSpec) (ix : List Nat) (n : Nat) :
    (s.inc r ix n).ctr r ix = (s.ctr r ix + n) % 2 ^ 64 := by simp [ctr, inc]

theorem ctr_inc_ne (s : State) (r q : RegSpec) (ix jx : List Nat) (n : Nat) (h : q.addr jx ≠ r.addr ix) :
    (s.inc r ix n).ctr q jx = s.ctr q jx := by
  simp only [ctr, inc]; exact Map.at_put_ne _ _ _ _ h

@[simp] theorem ctr_zeroCtr_self (s : State) (r : RegSpec) (ix : List Nat) : (s.zeroCtr r ix).ctr r ix = 0 := by
  simp [ctr, zeroCtr]

/-! ## What the shared operations can change -/

/-- A register write changes the registers. -/
theorem wr_frame (s : State) (r : RegSpec) (ix : List Nat) (v : Nat) : ∃ m, s.wr r ix v = { s with regs := m } := ⟨_, rfl⟩

theorem set_frame (s : State) (f : Fld) (ix : List Nat) (v : Nat) : ∃ m, s.set f ix v = { s with regs := m } := ⟨_, rfl⟩

theorem addSat_frame (s : State) (f : Fld) (ix : List Nat) (n : Nat) : ∃ m, s.addSat f ix n = { s with regs := m } := ⟨_, rfl⟩

theorem inc_frame (s : State) (r : RegSpec) (ix : List Nat) (n : Nat) : ∃ m, s.inc r ix n = { s with ctrs := m } := ⟨_, rfl⟩

/-- A delivery that falls due changes nothing but the list of due deliveries. -/
theorem due_frame (s : State) (n : Nat) : ∃ d, s.due n = { s with ev.due := d } := by
  unfold due
  split
  · exact ⟨_, rfl⟩
  · exact ⟨s.ev.due, rfl⟩

/-- An event bit changes its register and the list of due deliveries. -/
theorem raise_frame (s : State) (f : Fld) (ix : List Nat) :
    ∃ d, s.raise f ix = { s with regs := (s.set f ix 1).regs, ev.due := d } := by
  unfold raise
  split
  · exact ⟨s.ev.due, rfl⟩
  · split
    · exact ⟨s.ev.due, rfl⟩
    · obtain ⟨d, h⟩ := (s.set f ix 1).due_frame _; exact ⟨d, by rw [h]; rfl⟩

theorem regs_raise (s : State) (f : Fld) (ix : List Nat) : (s.raise f ix).regs = (s.set f ix 1).regs := by
  obtain ⟨d, h⟩ := s.raise_frame f ix; rw [h]

theorem level_frame (s : State) (f : Fld) (ix : List Nat) (n : Nat) (b : Bool) :
    ∃ m d, s.level f ix n b = { s with regs := m, ev.due := d } := by
  unfold level
  split
  · split
    · exact ⟨s.regs, s.ev.due, rfl⟩
    · obtain ⟨d, h⟩ := (s.set f ix 1).due_frame n; exact ⟨_, d, by rw [h]; rfl⟩
  · exact ⟨_, s.ev.due, rfl⟩

/-- A counter of a counting block changes the counts, its overflow register and the list of due deliveries. -/
theorem addCount_frame (s : State) (b n k : Nat) :
    ∃ m c d l, s.addCount b n k = { s with regs := m, ev.cnt := c, ev.due := d, ev.now := l } := by
  unfold addCount
  dsimp only
  generalize s.ev.cnt.put 0 (key2 b n) _ = c
  generalize s.keepSample b n = l
  split
  · obtain ⟨m, hm⟩ := wr_frame { s with ev.cnt := c, ev.now := l } R.PC_OVF [b]
      (setBit (rd { s with ev.cnt := c, ev.now := l } R.PC_OVF [b]) n true)
    rw [hm]
    split
    · exact ⟨m, c, s.ev.due, l, rfl⟩
    · obtain ⟨d, hd⟩ := due_frame { s with regs := m, ev.cnt := c, ev.now := l } (ovfSource b)
      exact ⟨m, c, d, l, hd⟩
  · exact ⟨s.regs, c, s.ev.due, l, rfl⟩

end State

/-! ## Repetition -/

@[simp] theorem forEach_nil {α : Type} (f : α → State → State) (s : State) : forEach [] f s = s := rfl

@[simp] theorem forEach_cons {α : Type} (a : α) (l : List α) (f : α → State → State) (s : State) :
    forEach (a :: l) f s = forEach l f (f a s) := rfl

/-- What every element's change keeps, the whole repetition keeps. -/
theorem forEach_induct {α : Type} (P : State → Prop) (f : α → State → State) (hf : ∀ a s, P s → P (f a s)) :
    ∀ (l : List α) (s : State), P s → P (forEach l f s) := by
  intro l
  induction l with
  | nil => intro s h; exact h
  | cons a l ih => intro s h; exact ih _ (hf a s h)

/-- A projection that every element's change keeps is kept. -/
theorem forEach_keeps {α β : Type} (g : State → β) (f : α → State → State) (hf : ∀ a s, g (f a s) = g s) (l : List α) (s : State) :
    g (forEach l f s) = g s :=
  forEach_induct (fun t => g t = g s) f (fun a t h => (hf a t).trans h) l s rfl

theorem onlyIf_true (f : State → State) (s : State) : onlyIf true f s = f s := rfl

theorem onlyIf_false (f : State → State) (s : State) : onlyIf false f s = s := rfl

theorem onlyIf_of {b : Bool} (f : State → State) (s : State) (h : b = true) : onlyIf b f s = f s := by simp [onlyIf, h]

namespace State

theorem count_frame (s : State) (b ev k : Nat) (who : Option Nat) :
    ∃ m c d l, s.count b ev k who = { s with regs := m, ev.cnt := c, ev.due := d, ev.now := l } := by
  unfold count
  split
  · refine forEach_induct (fun t => ∃ m c d l, t = { s with regs := m, ev.cnt := c, ev.due := d, ev.now := l }) _ ?_ _ _ ⟨_, _, _, _, rfl⟩
    rintro a t ⟨m, c, d, l, rfl⟩
    split
    · obtain ⟨m', c', d', l', h⟩ := addCount_frame { s with regs := m, ev.cnt := c, ev.due := d, ev.now := l } b a k
      exact ⟨m', c', d', l', by rw [h]⟩
    · exact ⟨m, c, d, l, rfl⟩
  · exact ⟨s.regs, s.ev.cnt, s.ev.due, s.ev.now, rfl⟩

theorem retWrite_frame (s : State) (a : Nat) (bs : List Byte) : ∃ m, s.retWrite a bs = { s with tack.ret := m } := ⟨_, rfl⟩

/-- An entry written into the journal changes retention memory, the journal's registers and, on a wrap, an event. -/
theorem journalWrite_frame (s : State) (e : JEntry) :
    ∃ m r d, s.journalWrite e = { s with regs := m, tack.ret := r, ev.due := d } := by
  unfold journalWrite
  extract_lets head seq t1 t2 t3
  obtain ⟨r, h1⟩ := s.retWrite_frame (0x4000 + 64 * head) (e.bytes seq)
  have h1 : t1 = _ := h1
  obtain ⟨m2, h2⟩ := t1.wr_frame R.FT_LAST [] seq
  have h2 : t2 = _ := h2
  obtain ⟨m3, h3⟩ := t2.set_frame F.TK_JRNL_HEAD_HEAD [] ((head + 1) % 3840)
  obtain ⟨m4, h4⟩ := (t2.set F.TK_JRNL_HEAD_HEAD [] ((head + 1) % 3840)).wr_frame R.TK_JRNL_COUNT [] (satAdd 0xFFFFFFFF seq 1)
  have h4 : t3 = _ := h4
  generalize t1 = u1, t2 = u2, t3 = u3 at *
  have h5 : u3 = { s with regs := m4, tack.ret := r } := by rw [h4, h3, h2, h1]
  split
  · obtain ⟨d, hd⟩ := u3.raise_frame F.TK_EVT_JOURNAL_WRAP []
    rw [hd, h5]
    exact ⟨_, _, _, rfl⟩
  · exact ⟨m4, r, s.ev.due, h5⟩

/-- Recording an entry changes what writing one changes, and the queue of entries. -/
theorem journal_frame (s : State) (e : JEntry) :
    ∃ m r d q, s.journal e = { s with regs := m, tack.ret := r, ev.due := d, flt.jq := q } := by
  unfold journal
  split
  · split
    · exact ⟨s.regs, s.tack.ret, s.ev.due, _, rfl⟩
    · next o r _ =>
      split
      · exact ⟨s.regs, s.tack.ret, s.ev.due, _, rfl⟩
      · obtain ⟨m, r', d, h⟩ := s.journalWrite_frame o
        exact ⟨m, r', d, _, by rw [h]⟩
  · obtain ⟨m, r, d, h⟩ := s.journalWrite_frame e
    exact ⟨m, r, d, s.flt.jq, by rw [h]⟩

end State

end Sys2Proof.Machine
end

