-- ==== Sys2Proof/Laws/Frames.lean ====
section
/-! SUPPORT. What the operations on events, counting blocks and the journal leave alone, field by field. -/

namespace Sys2Proof.Machine.State

theorem countKind_frame (s : State) (b i k : Nat) (who : Option Nat) :
    ∃ m c d l, s.countKind b i k who = { s with regs := m, ev.cnt := c, ev.due := d, ev.now := l } := count_frame s b _ k who

@[simp] theorem due_pending (s : State) (n : Nat) : (s.due n).pending = s.pending := by
  obtain ⟨_, h⟩ := s.due_frame n; rw [h]
@[simp] theorem due_variant (s : State) (n : Nat) : (s.due n).variant = s.variant := by
  obtain ⟨_, h⟩ := s.due_frame n; rw [h]
@[simp] theorem due_clock (s : State) (n : Nat) : (s.due n).clock = s.clock := by
  obtain ⟨_, h⟩ := s.due_frame n; rw [h]
@[simp] theorem due_mode (s : State) (n : Nat) : (s.due n).mode = s.mode := by
  obtain ⟨_, h⟩ := s.due_frame n; rw [h]
@[simp] theorem due_regs (s : State) (n : Nat) : (s.due n).regs = s.regs := by
  obtain ⟨_, h⟩ := s.due_frame n; rw [h]
@[simp] theorem due_ctrs (s : State) (n : Nat) : (s.due n).ctrs = s.ctrs := by
  obtain ⟨_, h⟩ := s.due_frame n; rw [h]
@[simp] theorem due_staged (s : State) (n : Nat) : (s.due n).staged = s.staged := by
  obtain ⟨_, h⟩ := s.due_frame n; rw [h]
@[simp] theorem due_latched (s : State) (n : Nat) : (s.due n).latched = s.latched := by
  obtain ⟨_, h⟩ := s.due_frame n; rw [h]
@[simp] theorem due_free (s : State) (n : Nat) : (s.due n).free = s.free := by
  obtain ⟨_, h⟩ := s.due_frame n; rw [h]
@[simp] theorem due_tack (s : State) (n : Nat) : (s.due n).tack = s.tack := by
  obtain ⟨_, h⟩ := s.due_frame n; rw [h]
@[simp] theorem due_modes (s : State) (n : Nat) : (s.due n).modes = s.modes := by
  obtain ⟨_, h⟩ := s.due_frame n; rw [h]
@[simp] theorem due_flt (s : State) (n : Nat) : (s.due n).flt = s.flt := by
  obtain ⟨_, h⟩ := s.due_frame n; rw [h]
@[simp] theorem due_out (s : State) (n : Nat) : (s.due n).out = s.out := by
  obtain ⟨_, h⟩ := s.due_frame n; rw [h]
@[simp] theorem due_pace (s : State) (n : Nat) : (s.due n).pace = s.pace := by
  obtain ⟨_, h⟩ := s.due_frame n; rw [h]
@[simp] theorem due_load (s : State) (n : Nat) : (s.due n).load = s.load := by
  obtain ⟨_, h⟩ := s.due_frame n; rw [h]
@[simp] theorem due_flash (s : State) (n : Nat) : (s.due n).flash = s.flash := by
  obtain ⟨_, h⟩ := s.due_frame n; rw [h]
@[simp] theorem due_fuse (s : State) (n : Nat) : (s.due n).fuse = s.fuse := by
  obtain ⟨_, h⟩ := s.due_frame n; rw [h]
@[simp] theorem due_host (s : State) (n : Nat) : (s.due n).host = s.host := by
  obtain ⟨_, h⟩ := s.due_frame n; rw [h]
@[simp] theorem due_tabs (s : State) (n : Nat) : (s.due n).tabs = s.tabs := by
  obtain ⟨_, h⟩ := s.due_frame n; rw [h]
@[simp] theorem due_badTabs (s : State) (n : Nat) : (s.due n).badTabs = s.badTabs := by
  obtain ⟨_, h⟩ := s.due_frame n; rw [h]
@[simp] theorem due_ts (s : State) (n : Nat) : (s.due n).ts = s.ts := by
  obtain ⟨_, h⟩ := s.due_frame n; rw [h]
@[simp] theorem due_osp (s : State) (n : Nat) : (s.due n).osp = s.osp := by
  obtain ⟨_, h⟩ := s.due_frame n; rw [h]
@[simp] theorem due_awl (s : State) (n : Nat) : (s.due n).awl = s.awl := by
  obtain ⟨_, h⟩ := s.due_frame n; rw [h]
@[simp] theorem due_flow (s : State) (n : Nat) : (s.due n).flow = s.flow := by
  obtain ⟨_, h⟩ := s.due_frame n; rw [h]
@[simp] theorem due_port (s : State) (n : Nat) : (s.due n).port = s.port := by
  obtain ⟨_, h⟩ := s.due_frame n; rw [h]
@[simp] theorem due_sl (s : State) (n : Nat) : (s.due n).sl = s.sl := by
  obtain ⟨_, h⟩ := s.due_frame n; rw [h]
@[simp] theorem due_fab (s : State) (n : Nat) : (s.due n).fab = s.fab := by
  obtain ⟨_, h⟩ := s.due_frame n; rw [h]
@[simp] theorem due_shp (s : State) (n : Nat) : (s.due n).shp = s.shp := by
  obtain ⟨_, h⟩ := s.due_frame n; rw [h]
@[simp] theorem due_pool (s : State) (n : Nat) : (s.due n).pool = s.pool := by
  obtain ⟨_, h⟩ := s.due_frame n; rw [h]
@[simp] theorem due_tally (s : State) (n : Nat) : (s.due n).tally = s.tally := by
  obtain ⟨_, h⟩ := s.due_frame n; rw [h]
@[simp] theorem due_xl (s : State) (n : Nat) : (s.due n).xl = s.xl := by
  obtain ⟨_, h⟩ := s.due_frame n; rw [h]
@[simp] theorem due_rc (s : State) (n : Nat) : (s.due n).rc = s.rc := by
  obtain ⟨_, h⟩ := s.due_frame n; rw [h]
@[simp] theorem due_ddr (s : State) (n : Nat) : (s.due n).ddr = s.ddr := by
  obtain ⟨_, h⟩ := s.due_frame n; rw [h]
@[simp] theorem due_st (s : State) (n : Nat) : (s.due n).st = s.st := by
  obtain ⟨_, h⟩ := s.due_frame n; rw [h]

@[simp] theorem raise_pending (s : State) (f : Fld) (ix : List Nat) : (s.raise f ix).pending = s.pending := by
  obtain ⟨_, h⟩ := s.raise_frame f ix; rw [h]
@[simp] theorem raise_variant (s : State) (f : Fld) (ix : List Nat) : (s.raise f ix).variant = s.variant := by
  obtain ⟨_, h⟩ := s.raise_frame f ix; rw [h]
@[simp] theorem raise_clock (s : State) (f : Fld) (ix : List Nat) : (s.raise f ix).clock = s.clock := by
  obtain ⟨_, h⟩ := s.raise_frame f ix; rw [h]
@[simp] theorem raise_mode (s : State) (f : Fld) (ix : List Nat) : (s.raise f ix).mode = s.mode := by
  obtain ⟨_, h⟩ := s.raise_frame f ix; rw [h]
@[simp] theorem raise_ctrs (s : State) (f : Fld) (ix : List Nat) : (s.raise f ix).ctrs = s.ctrs := by
  obtain ⟨_, h⟩ := s.raise_frame f ix; rw [h]
@[simp] theorem raise_staged (s : State) (f : Fld) (ix : List Nat) : (s.raise f ix).staged = s.staged := by
  obtain ⟨_, h⟩ := s.raise_frame f ix; rw [h]
@[simp] theorem raise_latched (s : State) (f : Fld) (ix : List Nat) : (s.raise f ix).latched = s.latched := by
  obtain ⟨_, h⟩ := s.raise_frame f ix; rw [h]
@[simp] theorem raise_free (s : State) (f : Fld) (ix : List Nat) : (s.raise f ix).free = s.free := by
  obtain ⟨_, h⟩ := s.raise_frame f ix; rw [h]
@[simp] theorem raise_tack (s : State) (f : Fld) (ix : List Nat) : (s.raise f ix).tack = s.tack := by
  obtain ⟨_, h⟩ := s.raise_frame f ix; rw [h]
@[simp] theorem raise_modes (s : State) (f : Fld) (ix : List Nat) : (s.raise f ix).modes = s.modes := by
  obtain ⟨_, h⟩ := s.raise_frame f ix; rw [h]
@[simp] theorem raise_flt (s : State) (f : Fld) (ix : List Nat) : (s.raise f ix).flt = s.flt := by
  obtain ⟨_, h⟩ := s.raise_frame f ix; rw [h]
@[simp] theorem raise_out (s : State) (f : Fld) (ix : List Nat) : (s.raise f ix).out = s.out := by
  obtain ⟨_, h⟩ := s.raise_frame f ix; rw [h]
@[simp] theorem raise_pace (s : State) (f : Fld) (ix : List Nat) : (s.raise f ix).pace = s.pace := by
  obtain ⟨_, h⟩ := s.raise_frame f ix; rw [h]
@[simp] theorem raise_load (s : State) (f : Fld) (ix : List Nat) : (s.raise f ix).load = s.load := by
  obtain ⟨_, h⟩ := s.raise_frame f ix; rw [h]
@[simp] theorem raise_flash (s : State) (f : Fld) (ix : List Nat) : (s.raise f ix).flash = s.flash := by
  obtain ⟨_, h⟩ := s.raise_frame f ix; rw [h]
@[simp] theorem raise_fuse (s : State) (f : Fld) (ix : List Nat) : (s.raise f ix).fuse = s.fuse := by
  obtain ⟨_, h⟩ := s.raise_frame f ix; rw [h]
@[simp] theorem raise_host (s : State) (f : Fld) (ix : List Nat) : (s.raise f ix).host = s.host := by
  obtain ⟨_, h⟩ := s.raise_frame f ix; rw [h]
@[simp] theorem raise_tabs (s : State) (f : Fld) (ix : List Nat) : (s.raise f ix).tabs = s.tabs := by
  obtain ⟨_, h⟩ := s.raise_frame f ix; rw [h]
@[simp] theorem raise_badTabs (s : State) (f : Fld) (ix : List Nat) : (s.raise f ix).badTabs = s.badTabs := by
  obtain ⟨_, h⟩ := s.raise_frame f ix; rw [h]
@[simp] theorem raise_ts (s : State) (f : Fld) (ix : List Nat) : (s.raise f ix).ts = s.ts := by
  obtain ⟨_, h⟩ := s.raise_frame f ix; rw [h]
@[simp] theorem raise_osp (s : State) (f : Fld) (ix : List Nat) : (s.raise f ix).osp = s.osp := by
  obtain ⟨_, h⟩ := s.raise_frame f ix; rw [h]
@[simp] theorem raise_awl (s : State) (f : Fld) (ix : List Nat) : (s.raise f ix).awl = s.awl := by
  obtain ⟨_, h⟩ := s.raise_frame f ix; rw [h]
@[simp] theorem raise_flow (s : State) (f : Fld) (ix : List Nat) : (s.raise f ix).flow = s.flow := by
  obtain ⟨_, h⟩ := s.raise_frame f ix; rw [h]
@[simp] theorem raise_port (s : State) (f : Fld) (ix : List Nat) : (s.raise f ix).port = s.port := by
  obtain ⟨_, h⟩ := s.raise_frame f ix; rw [h]
@[simp] theorem raise_sl (s : State) (f : Fld) (ix : List Nat) : (s.raise f ix).sl = s.sl := by
  obtain ⟨_, h⟩ := s.raise_frame f ix; rw [h]
@[simp] theorem raise_fab (s : State) (f : Fld) (ix : List Nat) : (s.raise f ix).fab = s.fab := by
  obtain ⟨_, h⟩ := s.raise_frame f ix; rw [h]
@[simp] theorem raise_shp (s : State) (f : Fld) (ix : List Nat) : (s.raise f ix).shp = s.shp := by
  obtain ⟨_, h⟩ := s.raise_frame f ix; rw [h]
@[simp] theorem raise_pool (s : State) (f : Fld) (ix : List Nat) : (s.raise f ix).pool = s.pool := by
  obtain ⟨_, h⟩ := s.raise_frame f ix; rw [h]
@[simp] theorem raise_tally (s : State) (f : Fld) (ix : List Nat) : (s.raise f ix).tally = s.tally := by
  obtain ⟨_, h⟩ := s.raise_frame f ix; rw [h]
@[simp] theorem raise_xl (s : State) (f : Fld) (ix : List Nat) : (s.raise f ix).xl = s.xl := by
  obtain ⟨_, h⟩ := s.raise_frame f ix; rw [h]
@[simp] theorem raise_rc (s : State) (f : Fld) (ix : List Nat) : (s.raise f ix).rc = s.rc := by
  obtain ⟨_, h⟩ := s.raise_frame f ix; rw [h]
@[simp] theorem raise_ddr (s : State) (f : Fld) (ix : List Nat) : (s.raise f ix).ddr = s.ddr := by
  obtain ⟨_, h⟩ := s.raise_frame f ix; rw [h]
@[simp] theorem raise_st (s : State) (f : Fld) (ix : List Nat) : (s.raise f ix).st = s.st := by
  obtain ⟨_, h⟩ := s.raise_frame f ix; rw [h]

@[simp] theorem level_pending (s : State) (f : Fld) (ix : List Nat) (n : Nat) (b : Bool) : (s.level f ix n b).pending = s.pending := by
  obtain ⟨_, _, h⟩ := s.level_frame f ix n b; rw [h]
@[simp] theorem level_variant (s : State) (f : Fld) (ix : List Nat) (n : Nat) (b : Bool) : (s.level f ix n b).variant = s.variant := by
  obtain ⟨_, _, h⟩ := s.level_frame f ix n b; rw [h]
@[simp] theorem level_clock (s : State) (f : Fld) (ix : List Nat) (n : Nat) (b : Bool) : (s.level f ix n b).clock = s.clock := by
  obtain ⟨_, _, h⟩ := s.level_frame f ix n b; rw [h]
@[simp] theorem level_mode (s : State) (f : Fld) (ix : List Nat) (n : Nat) (b : Bool) : (s.level f ix n b).mode = s.mode := by
  obtain ⟨_, _, h⟩ := s.level_frame f ix n b; rw [h]
@[simp] theorem level_ctrs (s : State) (f : Fld) (ix : List Nat) (n : Nat) (b : Bool) : (s.level f ix n b).ctrs = s.ctrs := by
  obtain ⟨_, _, h⟩ := s.level_frame f ix n b; rw [h]
@[simp] theorem level_staged (s : State) (f : Fld) (ix : List Nat) (n : Nat) (b : Bool) : (s.level f ix n b).staged = s.staged := by
  obtain ⟨_, _, h⟩ := s.level_frame f ix n b; rw [h]
@[simp] theorem level_latched (s : State) (f : Fld) (ix : List Nat) (n : Nat) (b : Bool) : (s.level f ix n b).latched = s.latched := by
  obtain ⟨_, _, h⟩ := s.level_frame f ix n b; rw [h]
@[simp] theorem level_free (s : State) (f : Fld) (ix : List Nat) (n : Nat) (b : Bool) : (s.level f ix n b).free = s.free := by
  obtain ⟨_, _, h⟩ := s.level_frame f ix n b; rw [h]
@[simp] theorem level_tack (s : State) (f : Fld) (ix : List Nat) (n : Nat) (b : Bool) : (s.level f ix n b).tack = s.tack := by
  obtain ⟨_, _, h⟩ := s.level_frame f ix n b; rw [h]
@[simp] theorem level_modes (s : State) (f : Fld) (ix : List Nat) (n : Nat) (b : Bool) : (s.level f ix n b).modes = s.modes := by
  obtain ⟨_, _, h⟩ := s.level_frame f ix n b; rw [h]
@[simp] theorem level_flt (s : State) (f : Fld) (ix : List Nat) (n : Nat) (b : Bool) : (s.level f ix n b).flt = s.flt := by
  obtain ⟨_, _, h⟩ := s.level_frame f ix n b; rw [h]
@[simp] theorem level_out (s : State) (f : Fld) (ix : List Nat) (n : Nat) (b : Bool) : (s.level f ix n b).out = s.out := by
  obtain ⟨_, _, h⟩ := s.level_frame f ix n b; rw [h]
@[simp] theorem level_pace (s : State) (f : Fld) (ix : List Nat) (n : Nat) (b : Bool) : (s.level f ix n b).pace = s.pace := by
  obtain ⟨_, _, h⟩ := s.level_frame f ix n b; rw [h]
@[simp] theorem level_load (s : State) (f : Fld) (ix : List Nat) (n : Nat) (b : Bool) : (s.level f ix n b).load = s.load := by
  obtain ⟨_, _, h⟩ := s.level_frame f ix n b; rw [h]
@[simp] theorem level_flash (s : State) (f : Fld) (ix : List Nat) (n : Nat) (b : Bool) : (s.level f ix n b).flash = s.flash := by
  obtain ⟨_, _, h⟩ := s.level_frame f ix n b; rw [h]
@[simp] theorem level_fuse (s : State) (f : Fld) (ix : List Nat) (n : Nat) (b : Bool) : (s.level f ix n b).fuse = s.fuse := by
  obtain ⟨_, _, h⟩ := s.level_frame f ix n b; rw [h]
@[simp] theorem level_host (s : State) (f : Fld) (ix : List Nat) (n : Nat) (b : Bool) : (s.level f ix n b).host = s.host := by
  obtain ⟨_, _, h⟩ := s.level_frame f ix n b; rw [h]
@[simp] theorem level_tabs (s : State) (f : Fld) (ix : List Nat) (n : Nat) (b : Bool) : (s.level f ix n b).tabs = s.tabs := by
  obtain ⟨_, _, h⟩ := s.level_frame f ix n b; rw [h]
@[simp] theorem level_badTabs (s : State) (f : Fld) (ix : List Nat) (n : Nat) (b : Bool) : (s.level f ix n b).badTabs = s.badTabs := by
  obtain ⟨_, _, h⟩ := s.level_frame f ix n b; rw [h]
@[simp] theorem level_ts (s : State) (f : Fld) (ix : List Nat) (n : Nat) (b : Bool) : (s.level f ix n b).ts = s.ts := by
  obtain ⟨_, _, h⟩ := s.level_frame f ix n b; rw [h]
@[simp] theorem level_osp (s : State) (f : Fld) (ix : List Nat) (n : Nat) (b : Bool) : (s.level f ix n b).osp = s.osp := by
  obtain ⟨_, _, h⟩ := s.level_frame f ix n b; rw [h]
@[simp] theorem level_awl (s : State) (f : Fld) (ix : List Nat) (n : Nat) (b : Bool) : (s.level f ix n b).awl = s.awl := by
  obtain ⟨_, _, h⟩ := s.level_frame f ix n b; rw [h]
@[simp] theorem level_flow (s : State) (f : Fld) (ix : List Nat) (n : Nat) (b : Bool) : (s.level f ix n b).flow = s.flow := by
  obtain ⟨_, _, h⟩ := s.level_frame f ix n b; rw [h]
@[simp] theorem level_port (s : State) (f : Fld) (ix : List Nat) (n : Nat) (b : Bool) : (s.level f ix n b).port = s.port := by
  obtain ⟨_, _, h⟩ := s.level_frame f ix n b; rw [h]
@[simp] theorem level_sl (s : State) (f : Fld) (ix : List Nat) (n : Nat) (b : Bool) : (s.level f ix n b).sl = s.sl := by
  obtain ⟨_, _, h⟩ := s.level_frame f ix n b; rw [h]
@[simp] theorem level_fab (s : State) (f : Fld) (ix : List Nat) (n : Nat) (b : Bool) : (s.level f ix n b).fab = s.fab := by
  obtain ⟨_, _, h⟩ := s.level_frame f ix n b; rw [h]
@[simp] theorem level_shp (s : State) (f : Fld) (ix : List Nat) (n : Nat) (b : Bool) : (s.level f ix n b).shp = s.shp := by
  obtain ⟨_, _, h⟩ := s.level_frame f ix n b; rw [h]
@[simp] theorem level_pool (s : State) (f : Fld) (ix : List Nat) (n : Nat) (b : Bool) : (s.level f ix n b).pool = s.pool := by
  obtain ⟨_, _, h⟩ := s.level_frame f ix n b; rw [h]
@[simp] theorem level_tally (s : State) (f : Fld) (ix : List Nat) (n : Nat) (b : Bool) : (s.level f ix n b).tally = s.tally := by
  obtain ⟨_, _, h⟩ := s.level_frame f ix n b; rw [h]
@[simp] theorem level_xl (s : State) (f : Fld) (ix : List Nat) (n : Nat) (b : Bool) : (s.level f ix n b).xl = s.xl := by
  obtain ⟨_, _, h⟩ := s.level_frame f ix n b; rw [h]
@[simp] theorem level_rc (s : State) (f : Fld) (ix : List Nat) (n : Nat) (b : Bool) : (s.level f ix n b).rc = s.rc := by
  obtain ⟨_, _, h⟩ := s.level_frame f ix n b; rw [h]
@[simp] theorem level_ddr (s : State) (f : Fld) (ix : List Nat) (n : Nat) (b : Bool) : (s.level f ix n b).ddr = s.ddr := by
  obtain ⟨_, _, h⟩ := s.level_frame f ix n b; rw [h]
@[simp] theorem level_st (s : State) (f : Fld) (ix : List Nat) (n : Nat) (b : Bool) : (s.level f ix n b).st = s.st := by
  obtain ⟨_, _, h⟩ := s.level_frame f ix n b; rw [h]

@[simp] theorem addCount_pending (s : State) (b n k : Nat) : (s.addCount b n k).pending = s.pending := by
  obtain ⟨_, _, _, _, h⟩ := s.addCount_frame b n k; rw [h]
@[simp] theorem addCount_variant (s : State) (b n k : Nat) : (s.addCount b n k).variant = s.variant := by
  obtain ⟨_, _, _, _, h⟩ := s.addCount_frame b n k; rw [h]
@[simp] theorem addCount_clock (s : State) (b n k : Nat) : (s.addCount b n k).clock = s.clock := by
  obtain ⟨_, _, _, _, h⟩ := s.addCount_frame b n k; rw [h]
@[simp] theorem addCount_mode (s : State) (b n k : Nat) : (s.addCount b n k).mode = s.mode := by
  obtain ⟨_, _, _, _, h⟩ := s.addCount_frame b n k; rw [h]
@[simp] theorem addCount_ctrs (s : State) (b n k : Nat) : (s.addCount b n k).ctrs = s.ctrs := by
  obtain ⟨_, _, _, _, h⟩ := s.addCount_frame b n k; rw [h]
@[simp] theorem addCount_staged (s : State) (b n k : Nat) : (s.addCount b n k).staged = s.staged := by
  obtain ⟨_, _, _, _, h⟩ := s.addCount_frame b n k; rw [h]
@[simp] theorem addCount_latched (s : State) (b n k : Nat) : (s.addCount b n k).latched = s.latched := by
  obtain ⟨_, _, _, _, h⟩ := s.addCount_frame b n k; rw [h]
@[simp] theorem addCount_free (s : State) (b n k : Nat) : (s.addCount b n k).free = s.free := by
  obtain ⟨_, _, _, _, h⟩ := s.addCount_frame b n k; rw [h]
@[simp] theorem addCount_tack (s : State) (b n k : Nat) : (s.addCount b n k).tack = s.tack := by
  obtain ⟨_, _, _, _, h⟩ := s.addCount_frame b n k; rw [h]
@[simp] theorem addCount_modes (s : State) (b n k : Nat) : (s.addCount b n k).modes = s.modes := by
  obtain ⟨_, _, _, _, h⟩ := s.addCount_frame b n k; rw [h]
@[simp] theorem addCount_flt (s : State) (b n k : Nat) : (s.addCount b n k).flt = s.flt := by
  obtain ⟨_, _, _, _, h⟩ := s.addCount_frame b n k; rw [h]
@[simp] theorem addCount_out (s : State) (b n k : Nat) : (s.addCount b n k).out = s.out := by
  obtain ⟨_, _, _, _, h⟩ := s.addCount_frame b n k; rw [h]
@[simp] theorem addCount_pace (s : State) (b n k : Nat) : (s.addCount b n k).pace = s.pace := by
  obtain ⟨_, _, _, _, h⟩ := s.addCount_frame b n k; rw [h]
@[simp] theorem addCount_load (s : State) (b n k : Nat) : (s.addCount b n k).load = s.load := by
  obtain ⟨_, _, _, _, h⟩ := s.addCount_frame b n k; rw [h]
@[simp] theorem addCount_flash (s : State) (b n k : Nat) : (s.addCount b n k).flash = s.flash := by
  obtain ⟨_, _, _, _, h⟩ := s.addCount_frame b n k; rw [h]
@[simp] theorem addCount_fuse (s : State) (b n k : Nat) : (s.addCount b n k).fuse = s.fuse := by
  obtain ⟨_, _, _, _, h⟩ := s.addCount_frame b n k; rw [h]
@[simp] theorem addCount_host (s : State) (b n k : Nat) : (s.addCount b n k).host = s.host := by
  obtain ⟨_, _, _, _, h⟩ := s.addCount_frame b n k; rw [h]
@[simp] theorem addCount_tabs (s : State) (b n k : Nat) : (s.addCount b n k).tabs = s.tabs := by
  obtain ⟨_, _, _, _, h⟩ := s.addCount_frame b n k; rw [h]
@[simp] theorem addCount_badTabs (s : State) (b n k : Nat) : (s.addCount b n k).badTabs = s.badTabs := by
  obtain ⟨_, _, _, _, h⟩ := s.addCount_frame b n k; rw [h]
@[simp] theorem addCount_ts (s : State) (b n k : Nat) : (s.addCount b n k).ts = s.ts := by
  obtain ⟨_, _, _, _, h⟩ := s.addCount_frame b n k; rw [h]
@[simp] theorem addCount_osp (s : State) (b n k : Nat) : (s.addCount b n k).osp = s.osp := by
  obtain ⟨_, _, _, _, h⟩ := s.addCount_frame b n k; rw [h]
@[simp] theorem addCount_awl (s : State) (b n k : Nat) : (s.addCount b n k).awl = s.awl := by
  obtain ⟨_, _, _, _, h⟩ := s.addCount_frame b n k; rw [h]
@[simp] theorem addCount_flow (s : State) (b n k : Nat) : (s.addCount b n k).flow = s.flow := by
  obtain ⟨_, _, _, _, h⟩ := s.addCount_frame b n k; rw [h]
@[simp] theorem addCount_port (s : State) (b n k : Nat) : (s.addCount b n k).port = s.port := by
  obtain ⟨_, _, _, _, h⟩ := s.addCount_frame b n k; rw [h]
@[simp] theorem addCount_sl (s : State) (b n k : Nat) : (s.addCount b n k).sl = s.sl := by
  obtain ⟨_, _, _, _, h⟩ := s.addCount_frame b n k; rw [h]
@[simp] theorem addCount_fab (s : State) (b n k : Nat) : (s.addCount b n k).fab = s.fab := by
  obtain ⟨_, _, _, _, h⟩ := s.addCount_frame b n k; rw [h]
@[simp] theorem addCount_shp (s : State) (b n k : Nat) : (s.addCount b n k).shp = s.shp := by
  obtain ⟨_, _, _, _, h⟩ := s.addCount_frame b n k; rw [h]
@[simp] theorem addCount_pool (s : State) (b n k : Nat) : (s.addCount b n k).pool = s.pool := by
  obtain ⟨_, _, _, _, h⟩ := s.addCount_frame b n k; rw [h]
@[simp] theorem addCount_tally (s : State) (b n k : Nat) : (s.addCount b n k).tally = s.tally := by
  obtain ⟨_, _, _, _, h⟩ := s.addCount_frame b n k; rw [h]
@[simp] theorem addCount_xl (s : State) (b n k : Nat) : (s.addCount b n k).xl = s.xl := by
  obtain ⟨_, _, _, _, h⟩ := s.addCount_frame b n k; rw [h]
@[simp] theorem addCount_rc (s : State) (b n k : Nat) : (s.addCount b n k).rc = s.rc := by
  obtain ⟨_, _, _, _, h⟩ := s.addCount_frame b n k; rw [h]
@[simp] theorem addCount_ddr (s : State) (b n k : Nat) : (s.addCount b n k).ddr = s.ddr := by
  obtain ⟨_, _, _, _, h⟩ := s.addCount_frame b n k; rw [h]
@[simp] theorem addCount_st (s : State) (b n k : Nat) : (s.addCount b n k).st = s.st := by
  obtain ⟨_, _, _, _, h⟩ := s.addCount_frame b n k; rw [h]

@[simp] theorem count_pending (s : State) (b ev k : Nat) (who : Option Nat) : (s.count b ev k who).pending = s.pending := by
  obtain ⟨_, _, _, _, h⟩ := s.count_frame b ev k who; rw [h]
@[simp] theorem count_variant (s : State) (b ev k : Nat) (who : Option Nat) : (s.count b ev k who).variant = s.variant := by
  obtain ⟨_, _, _, _, h⟩ := s.count_frame b ev k who; rw [h]
@[simp] theorem count_clock (s : State) (b ev k : Nat) (who : Option Nat) : (s.count b ev k who).clock = s.clock := by
  obtain ⟨_, _, _, _, h⟩ := s.count_frame b ev k who; rw [h]
@[simp] theorem count_mode (s : State) (b ev k : Nat) (who : Option Nat) : (s.count b ev k who).mode = s.mode := by
  obtain ⟨_, _, _, _, h⟩ := s.count_frame b ev k who; rw [h]
@[simp] theorem count_ctrs (s : State) (b ev k : Nat) (who : Option Nat) : (s.count b ev k who).ctrs = s.ctrs := by
  obtain ⟨_, _, _, _, h⟩ := s.count_frame b ev k who; rw [h]
@[simp] theorem count_staged (s : State) (b ev k : Nat) (who : Option Nat) : (s.count b ev k who).staged = s.staged := by
  obtain ⟨_, _, _, _, h⟩ := s.count_frame b ev k who; rw [h]
@[simp] theorem count_latched (s : State) (b ev k : Nat) (who : Option Nat) : (s.count b ev k who).latched = s.latched := by
  obtain ⟨_, _, _, _, h⟩ := s.count_frame b ev k who; rw [h]
@[simp] theorem count_free (s : State) (b ev k : Nat) (who : Option Nat) : (s.count b ev k who).free = s.free := by
  obtain ⟨_, _, _, _, h⟩ := s.count_frame b ev k who; rw [h]
@[simp] theorem count_tack (s : State) (b ev k : Nat) (who : Option Nat) : (s.count b ev k who).tack = s.tack := by
  obtain ⟨_, _, _, _, h⟩ := s.count_frame b ev k who; rw [h]
@[simp] theorem count_modes (s : State) (b ev k : Nat) (who : Option Nat) : (s.count b ev k who).modes = s.modes := by
  obtain ⟨_, _, _, _, h⟩ := s.count_frame b ev k who; rw [h]
@[simp] theorem count_flt (s : State) (b ev k : Nat) (who : Option Nat) : (s.count b ev k who).flt = s.flt := by
  obtain ⟨_, _, _, _, h⟩ := s.count_frame b ev k who; rw [h]
@[simp] theorem count_out (s : State) (b ev k : Nat) (who : Option Nat) : (s.count b ev k who).out = s.out := by
  obtain ⟨_, _, _, _, h⟩ := s.count_frame b ev k who; rw [h]
@[simp] theorem count_pace (s : State) (b ev k : Nat) (who : Option Nat) : (s.count b ev k who).pace = s.pace := by
  obtain ⟨_, _, _, _, h⟩ := s.count_frame b ev k who; rw [h]
@[simp] theorem count_load (s : State) (b ev k : Nat) (who : Option Nat) : (s.count b ev k who).load = s.load := by
  obtain ⟨_, _, _, _, h⟩ := s.count_frame b ev k who; rw [h]
@[simp] theorem count_flash (s : State) (b ev k : Nat) (who : Option Nat) : (s.count b ev k who).flash = s.flash := by
  obtain ⟨_, _, _, _, h⟩ := s.count_frame b ev k who; rw [h]
@[simp] theorem count_fuse (s : State) (b ev k : Nat) (who : Option Nat) : (s.count b ev k who).fuse = s.fuse := by
  obtain ⟨_, _, _, _, h⟩ := s.count_frame b ev k who; rw [h]
@[simp] theorem count_host (s : State) (b ev k : Nat) (who : Option Nat) : (s.count b ev k who).host = s.host := by
  obtain ⟨_, _, _, _, h⟩ := s.count_frame b ev k who; rw [h]
@[simp] theorem count_tabs (s : State) (b ev k : Nat) (who : Option Nat) : (s.count b ev k who).tabs = s.tabs := by
  obtain ⟨_, _, _, _, h⟩ := s.count_frame b ev k who; rw [h]
@[simp] theorem count_badTabs (s : State) (b ev k : Nat) (who : Option Nat) : (s.count b ev k who).badTabs = s.badTabs := by
  obtain ⟨_, _, _, _, h⟩ := s.count_frame b ev k who; rw [h]
@[simp] theorem count_ts (s : State) (b ev k : Nat) (who : Option Nat) : (s.count b ev k who).ts = s.ts := by
  obtain ⟨_, _, _, _, h⟩ := s.count_frame b ev k who; rw [h]
@[simp] theorem count_osp (s : State) (b ev k : Nat) (who : Option Nat) : (s.count b ev k who).osp = s.osp := by
  obtain ⟨_, _, _, _, h⟩ := s.count_frame b ev k who; rw [h]
@[simp] theorem count_awl (s : State) (b ev k : Nat) (who : Option Nat) : (s.count b ev k who).awl = s.awl := by
  obtain ⟨_, _, _, _, h⟩ := s.count_frame b ev k who; rw [h]
@[simp] theorem count_flow (s : State) (b ev k : Nat) (who : Option Nat) : (s.count b ev k who).flow = s.flow := by
  obtain ⟨_, _, _, _, h⟩ := s.count_frame b ev k who; rw [h]
@[simp] theorem count_port (s : State) (b ev k : Nat) (who : Option Nat) : (s.count b ev k who).port = s.port := by
  obtain ⟨_, _, _, _, h⟩ := s.count_frame b ev k who; rw [h]
@[simp] theorem count_sl (s : State) (b ev k : Nat) (who : Option Nat) : (s.count b ev k who).sl = s.sl := by
  obtain ⟨_, _, _, _, h⟩ := s.count_frame b ev k who; rw [h]
@[simp] theorem count_fab (s : State) (b ev k : Nat) (who : Option Nat) : (s.count b ev k who).fab = s.fab := by
  obtain ⟨_, _, _, _, h⟩ := s.count_frame b ev k who; rw [h]
@[simp] theorem count_shp (s : State) (b ev k : Nat) (who : Option Nat) : (s.count b ev k who).shp = s.shp := by
  obtain ⟨_, _, _, _, h⟩ := s.count_frame b ev k who; rw [h]
@[simp] theorem count_pool (s : State) (b ev k : Nat) (who : Option Nat) : (s.count b ev k who).pool = s.pool := by
  obtain ⟨_, _, _, _, h⟩ := s.count_frame b ev k who; rw [h]
@[simp] theorem count_tally (s : State) (b ev k : Nat) (who : Option Nat) : (s.count b ev k who).tally = s.tally := by
  obtain ⟨_, _, _, _, h⟩ := s.count_frame b ev k who; rw [h]
@[simp] theorem count_xl (s : State) (b ev k : Nat) (who : Option Nat) : (s.count b ev k who).xl = s.xl := by
  obtain ⟨_, _, _, _, h⟩ := s.count_frame b ev k who; rw [h]
@[simp] theorem count_rc (s : State) (b ev k : Nat) (who : Option Nat) : (s.count b ev k who).rc = s.rc := by
  obtain ⟨_, _, _, _, h⟩ := s.count_frame b ev k who; rw [h]
@[simp] theorem count_ddr (s : State) (b ev k : Nat) (who : Option Nat) : (s.count b ev k who).ddr = s.ddr := by
  obtain ⟨_, _, _, _, h⟩ := s.count_frame b ev k who; rw [h]
@[simp] theorem count_st (s : State) (b ev k : Nat) (who : Option Nat) : (s.count b ev k who).st = s.st := by
  obtain ⟨_, _, _, _, h⟩ := s.count_frame b ev k who; rw [h]

@[simp] theorem countKind_pending (s : State) (b i k : Nat) (who : Option Nat) : (s.countKind b i k who).pending = s.pending := by
  obtain ⟨_, _, _, _, h⟩ := s.countKind_frame b i k who; rw [h]
@[simp] theorem countKind_variant (s : State) (b i k : Nat) (who : Option Nat) : (s.countKind b i k who).variant = s.variant := by
  obtain ⟨_, _, _, _, h⟩ := s.countKind_frame b i k who; rw [h]
@[simp] theorem countKind_clock (s : State) (b i k : Nat) (who : Option Nat) : (s.countKind b i k who).clock = s.clock := by
  obtain ⟨_, _, _, _, h⟩ := s.countKind_frame b i k who; rw [h]
@[simp] theorem countKind_mode (s : State) (b i k : Nat) (who : Option Nat) : (s.countKind b i k who).mode = s.mode := by
  obtain ⟨_, _, _, _, h⟩ := s.countKind_frame b i k who; rw [h]
@[simp] theorem countKind_ctrs (s : State) (b i k : Nat) (who : Option Nat) : (s.countKind b i k who).ctrs = s.ctrs := by
  obtain ⟨_, _, _, _, h⟩ := s.countKind_frame b i k who; rw [h]
@[simp] theorem countKind_staged (s : State) (b i k : Nat) (who : Option Nat) : (s.countKind b i k who).staged = s.staged := by
  obtain ⟨_, _, _, _, h⟩ := s.countKind_frame b i k who; rw [h]
@[simp] theorem countKind_latched (s : State) (b i k : Nat) (who : Option Nat) : (s.countKind b i k who).latched = s.latched := by
  obtain ⟨_, _, _, _, h⟩ := s.countKind_frame b i k who; rw [h]
@[simp] theorem countKind_free (s : State) (b i k : Nat) (who : Option Nat) : (s.countKind b i k who).free = s.free := by
  obtain ⟨_, _, _, _, h⟩ := s.countKind_frame b i k who; rw [h]
@[simp] theorem countKind_tack (s : State) (b i k : Nat) (who : Option Nat) : (s.countKind b i k who).tack = s.tack := by
  obtain ⟨_, _, _, _, h⟩ := s.countKind_frame b i k who; rw [h]
@[simp] theorem countKind_modes (s : State) (b i k : Nat) (who : Option Nat) : (s.countKind b i k who).modes = s.modes := by
  obtain ⟨_, _, _, _, h⟩ := s.countKind_frame b i k who; rw [h]
@[simp] theorem countKind_flt (s : State) (b i k : Nat) (who : Option Nat) : (s.countKind b i k who).flt = s.flt := by
  obtain ⟨_, _, _, _, h⟩ := s.countKind_frame b i k who; rw [h]
@[simp] theorem countKind_out (s : State) (b i k : Nat) (who : Option Nat) : (s.countKind b i k who).out = s.out := by
  obtain ⟨_, _, _, _, h⟩ := s.countKind_frame b i k who; rw [h]
@[simp] theorem countKind_pace (s : State) (b i k : Nat) (who : Option Nat) : (s.countKind b i k who).pace = s.pace := by
  obtain ⟨_, _, _, _, h⟩ := s.countKind_frame b i k who; rw [h]
@[simp] theorem countKind_load (s : State) (b i k : Nat) (who : Option Nat) : (s.countKind b i k who).load = s.load := by
  obtain ⟨_, _, _, _, h⟩ := s.countKind_frame b i k who; rw [h]
@[simp] theorem countKind_flash (s : State) (b i k : Nat) (who : Option Nat) : (s.countKind b i k who).flash = s.flash := by
  obtain ⟨_, _, _, _, h⟩ := s.countKind_frame b i k who; rw [h]
@[simp] theorem countKind_fuse (s : State) (b i k : Nat) (who : Option Nat) : (s.countKind b i k who).fuse = s.fuse := by
  obtain ⟨_, _, _, _, h⟩ := s.countKind_frame b i k who; rw [h]
@[simp] theorem countKind_host (s : State) (b i k : Nat) (who : Option Nat) : (s.countKind b i k who).host = s.host := by
  obtain ⟨_, _, _, _, h⟩ := s.countKind_frame b i k who; rw [h]
@[simp] theorem countKind_tabs (s : State) (b i k : Nat) (who : Option Nat) : (s.countKind b i k who).tabs = s.tabs := by
  obtain ⟨_, _, _, _, h⟩ := s.countKind_frame b i k who; rw [h]
@[simp] theorem countKind_badTabs (s : State) (b i k : Nat) (who : Option Nat) : (s.countKind b i k who).badTabs = s.badTabs := by
  obtain ⟨_, _, _, _, h⟩ := s.countKind_frame b i k who; rw [h]
@[simp] theorem countKind_ts (s : State) (b i k : Nat) (who : Option Nat) : (s.countKind b i k who).ts = s.ts := by
  obtain ⟨_, _, _, _, h⟩ := s.countKind_frame b i k who; rw [h]
@[simp] theorem countKind_osp (s : State) (b i k : Nat) (who : Option Nat) : (s.countKind b i k who).osp = s.osp := by
  obtain ⟨_, _, _, _, h⟩ := s.countKind_frame b i k who; rw [h]
@[simp] theorem countKind_awl (s : State) (b i k : Nat) (who : Option Nat) : (s.countKind b i k who).awl = s.awl := by
  obtain ⟨_, _, _, _, h⟩ := s.countKind_frame b i k who; rw [h]
@[simp] theorem countKind_flow (s : State) (b i k : Nat) (who : Option Nat) : (s.countKind b i k who).flow = s.flow := by
  obtain ⟨_, _, _, _, h⟩ := s.countKind_frame b i k who; rw [h]
@[simp] theorem countKind_port (s : State) (b i k : Nat) (who : Option Nat) : (s.countKind b i k who).port = s.port := by
  obtain ⟨_, _, _, _, h⟩ := s.countKind_frame b i k who; rw [h]
@[simp] theorem countKind_sl (s : State) (b i k : Nat) (who : Option Nat) : (s.countKind b i k who).sl = s.sl := by
  obtain ⟨_, _, _, _, h⟩ := s.countKind_frame b i k who; rw [h]
@[simp] theorem countKind_fab (s : State) (b i k : Nat) (who : Option Nat) : (s.countKind b i k who).fab = s.fab := by
  obtain ⟨_, _, _, _, h⟩ := s.countKind_frame b i k who; rw [h]
@[simp] theorem countKind_shp (s : State) (b i k : Nat) (who : Option Nat) : (s.countKind b i k who).shp = s.shp := by
  obtain ⟨_, _, _, _, h⟩ := s.countKind_frame b i k who; rw [h]
@[simp] theorem countKind_pool (s : State) (b i k : Nat) (who : Option Nat) : (s.countKind b i k who).pool = s.pool := by
  obtain ⟨_, _, _, _, h⟩ := s.countKind_frame b i k who; rw [h]
@[simp] theorem countKind_tally (s : State) (b i k : Nat) (who : Option Nat) : (s.countKind b i k who).tally = s.tally := by
  obtain ⟨_, _, _, _, h⟩ := s.countKind_frame b i k who; rw [h]
@[simp] theorem countKind_xl (s : State) (b i k : Nat) (who : Option Nat) : (s.countKind b i k who).xl = s.xl := by
  obtain ⟨_, _, _, _, h⟩ := s.countKind_frame b i k who; rw [h]
@[simp] theorem countKind_rc (s : State) (b i k : Nat) (who : Option Nat) : (s.countKind b i k who).rc = s.rc := by
  obtain ⟨_, _, _, _, h⟩ := s.countKind_frame b i k who; rw [h]
@[simp] theorem countKind_ddr (s : State) (b i k : Nat) (who : Option Nat) : (s.countKind b i k who).ddr = s.ddr := by
  obtain ⟨_, _, _, _, h⟩ := s.countKind_frame b i k who; rw [h]
@[simp] theorem countKind_st (s : State) (b i k : Nat) (who : Option Nat) : (s.countKind b i k who).st = s.st := by
  obtain ⟨_, _, _, _, h⟩ := s.countKind_frame b i k who; rw [h]

@[simp] theorem journalWrite_pending (s : State) (e : JEntry) : (s.journalWrite e).pending = s.pending := by
  obtain ⟨_, _, _, h⟩ := s.journalWrite_frame e; rw [h]
@[simp] theorem journalWrite_variant (s : State) (e : JEntry) : (s.journalWrite e).variant = s.variant := by
  obtain ⟨_, _, _, h⟩ := s.journalWrite_frame e; rw [h]
@[simp] theorem journalWrite_clock (s : State) (e : JEntry) : (s.journalWrite e).clock = s.clock := by
  obtain ⟨_, _, _, h⟩ := s.journalWrite_frame e; rw [h]
@[simp] theorem journalWrite_mode (s : State) (e : JEntry) : (s.journalWrite e).mode = s.mode := by
  obtain ⟨_, _, _, h⟩ := s.journalWrite_frame e; rw [h]
@[simp] theorem journalWrite_ctrs (s : State) (e : JEntry) : (s.journalWrite e).ctrs = s.ctrs := by
  obtain ⟨_, _, _, h⟩ := s.journalWrite_frame e; rw [h]
@[simp] theorem journalWrite_staged (s : State) (e : JEntry) : (s.journalWrite e).staged = s.staged := by
  obtain ⟨_, _, _, h⟩ := s.journalWrite_frame e; rw [h]
@[simp] theorem journalWrite_latched (s : State) (e : JEntry) : (s.journalWrite e).latched = s.latched := by
  obtain ⟨_, _, _, h⟩ := s.journalWrite_frame e; rw [h]
@[simp] theorem journalWrite_free (s : State) (e : JEntry) : (s.journalWrite e).free = s.free := by
  obtain ⟨_, _, _, h⟩ := s.journalWrite_frame e; rw [h]
@[simp] theorem journalWrite_modes (s : State) (e : JEntry) : (s.journalWrite e).modes = s.modes := by
  obtain ⟨_, _, _, h⟩ := s.journalWrite_frame e; rw [h]
@[simp] theorem journalWrite_flt (s : State) (e : JEntry) : (s.journalWrite e).flt = s.flt := by
  obtain ⟨_, _, _, h⟩ := s.journalWrite_frame e; rw [h]
@[simp] theorem journalWrite_out (s : State) (e : JEntry) : (s.journalWrite e).out = s.out := by
  obtain ⟨_, _, _, h⟩ := s.journalWrite_frame e; rw [h]
@[simp] theorem journalWrite_pace (s : State) (e : JEntry) : (s.journalWrite e).pace = s.pace := by
  obtain ⟨_, _, _, h⟩ := s.journalWrite_frame e; rw [h]
@[simp] theorem journalWrite_load (s : State) (e : JEntry) : (s.journalWrite e).load = s.load := by
  obtain ⟨_, _, _, h⟩ := s.journalWrite_frame e; rw [h]
@[simp] theorem journalWrite_flash (s : State) (e : JEntry) : (s.journalWrite e).flash = s.flash := by
  obtain ⟨_, _, _, h⟩ := s.journalWrite_frame e; rw [h]
@[simp] theorem journalWrite_fuse (s : State) (e : JEntry) : (s.journalWrite e).fuse = s.fuse := by
  obtain ⟨_, _, _, h⟩ := s.journalWrite_frame e; rw [h]
@[simp] theorem journalWrite_host (s : State) (e : JEntry) : (s.journalWrite e).host = s.host := by
  obtain ⟨_, _, _, h⟩ := s.journalWrite_frame e; rw [h]
@[simp] theorem journalWrite_tabs (s : State) (e : JEntry) : (s.journalWrite e).tabs = s.tabs := by
  obtain ⟨_, _, _, h⟩ := s.journalWrite_frame e; rw [h]
@[simp] theorem journalWrite_badTabs (s : State) (e : JEntry) : (s.journalWrite e).badTabs = s.badTabs := by
  obtain ⟨_, _, _, h⟩ := s.journalWrite_frame e; rw [h]
@[simp] theorem journalWrite_ts (s : State) (e : JEntry) : (s.journalWrite e).ts = s.ts := by
  obtain ⟨_, _, _, h⟩ := s.journalWrite_frame e; rw [h]
@[simp] theorem journalWrite_osp (s : State) (e : JEntry) : (s.journalWrite e).osp = s.osp := by
  obtain ⟨_, _, _, h⟩ := s.journalWrite_frame e; rw [h]
@[simp] theorem journalWrite_awl (s : State) (e : JEntry) : (s.journalWrite e).awl = s.awl := by
  obtain ⟨_, _, _, h⟩ := s.journalWrite_frame e; rw [h]
@[simp] theorem journalWrite_flow (s : State) (e : JEntry) : (s.journalWrite e).flow = s.flow := by
  obtain ⟨_, _, _, h⟩ := s.journalWrite_frame e; rw [h]
@[simp] theorem journalWrite_port (s : State) (e : JEntry) : (s.journalWrite e).port = s.port := by
  obtain ⟨_, _, _, h⟩ := s.journalWrite_frame e; rw [h]
@[simp] theorem journalWrite_sl (s : State) (e : JEntry) : (s.journalWrite e).sl = s.sl := by
  obtain ⟨_, _, _, h⟩ := s.journalWrite_frame e; rw [h]
@[simp] theorem journalWrite_fab (s : State) (e : JEntry) : (s.journalWrite e).fab = s.fab := by
  obtain ⟨_, _, _, h⟩ := s.journalWrite_frame e; rw [h]
@[simp] theorem journalWrite_shp (s : State) (e : JEntry) : (s.journalWrite e).shp = s.shp := by
  obtain ⟨_, _, _, h⟩ := s.journalWrite_frame e; rw [h]
@[simp] theorem journalWrite_pool (s : State) (e : JEntry) : (s.journalWrite e).pool = s.pool := by
  obtain ⟨_, _, _, h⟩ := s.journalWrite_frame e; rw [h]
@[simp] theorem journalWrite_tally (s : State) (e : JEntry) : (s.journalWrite e).tally = s.tally := by
  obtain ⟨_, _, _, h⟩ := s.journalWrite_frame e; rw [h]
@[simp] theorem journalWrite_xl (s : State) (e : JEntry) : (s.journalWrite e).xl = s.xl := by
  obtain ⟨_, _, _, h⟩ := s.journalWrite_frame e; rw [h]
@[simp] theorem journalWrite_rc (s : State) (e : JEntry) : (s.journalWrite e).rc = s.rc := by
  obtain ⟨_, _, _, h⟩ := s.journalWrite_frame e; rw [h]
@[simp] theorem journalWrite_ddr (s : State) (e : JEntry) : (s.journalWrite e).ddr = s.ddr := by
  obtain ⟨_, _, _, h⟩ := s.journalWrite_frame e; rw [h]
@[simp] theorem journalWrite_st (s : State) (e : JEntry) : (s.journalWrite e).st = s.st := by
  obtain ⟨_, _, _, h⟩ := s.journalWrite_frame e; rw [h]

@[simp] theorem journal_pending (s : State) (e : JEntry) : (s.journal e).pending = s.pending := by
  obtain ⟨_, _, _, _, h⟩ := s.journal_frame e; rw [h]
@[simp] theorem journal_variant (s : State) (e : JEntry) : (s.journal e).variant = s.variant := by
  obtain ⟨_, _, _, _, h⟩ := s.journal_frame e; rw [h]
@[simp] theorem journal_clock (s : State) (e : JEntry) : (s.journal e).clock = s.clock := by
  obtain ⟨_, _, _, _, h⟩ := s.journal_frame e; rw [h]
@[simp] theorem journal_mode (s : State) (e : JEntry) : (s.journal e).mode = s.mode := by
  obtain ⟨_, _, _, _, h⟩ := s.journal_frame e; rw [h]
@[simp] theorem journal_ctrs (s : State) (e : JEntry) : (s.journal e).ctrs = s.ctrs := by
  obtain ⟨_, _, _, _, h⟩ := s.journal_frame e; rw [h]
@[simp] theorem journal_staged (s : State) (e : JEntry) : (s.journal e).staged = s.staged := by
  obtain ⟨_, _, _, _, h⟩ := s.journal_frame e; rw [h]
@[simp] theorem journal_latched (s : State) (e : JEntry) : (s.journal e).latched = s.latched := by
  obtain ⟨_, _, _, _, h⟩ := s.journal_frame e; rw [h]
@[simp] theorem journal_free (s : State) (e : JEntry) : (s.journal e).free = s.free := by
  obtain ⟨_, _, _, _, h⟩ := s.journal_frame e; rw [h]
@[simp] theorem journal_modes (s : State) (e : JEntry) : (s.journal e).modes = s.modes := by
  obtain ⟨_, _, _, _, h⟩ := s.journal_frame e; rw [h]
@[simp] theorem journal_out (s : State) (e : JEntry) : (s.journal e).out = s.out := by
  obtain ⟨_, _, _, _, h⟩ := s.journal_frame e; rw [h]
@[simp] theorem journal_pace (s : State) (e : JEntry) : (s.journal e).pace = s.pace := by
  obtain ⟨_, _, _, _, h⟩ := s.journal_frame e; rw [h]
@[simp] theorem journal_load (s : State) (e : JEntry) : (s.journal e).load = s.load := by
  obtain ⟨_, _, _, _, h⟩ := s.journal_frame e; rw [h]
@[simp] theorem journal_flash (s : State) (e : JEntry) : (s.journal e).flash = s.flash := by
  obtain ⟨_, _, _, _, h⟩ := s.journal_frame e; rw [h]
@[simp] theorem journal_fuse (s : State) (e : JEntry) : (s.journal e).fuse = s.fuse := by
  obtain ⟨_, _, _, _, h⟩ := s.journal_frame e; rw [h]
@[simp] theorem journal_host (s : State) (e : JEntry) : (s.journal e).host = s.host := by
  obtain ⟨_, _, _, _, h⟩ := s.journal_frame e; rw [h]
@[simp] theorem journal_tabs (s : State) (e : JEntry) : (s.journal e).tabs = s.tabs := by
  obtain ⟨_, _, _, _, h⟩ := s.journal_frame e; rw [h]
@[simp] theorem journal_badTabs (s : State) (e : JEntry) : (s.journal e).badTabs = s.badTabs := by
  obtain ⟨_, _, _, _, h⟩ := s.journal_frame e; rw [h]
@[simp] theorem journal_ts (s : State) (e : JEntry) : (s.journal e).ts = s.ts := by
  obtain ⟨_, _, _, _, h⟩ := s.journal_frame e; rw [h]
@[simp] theorem journal_osp (s : State) (e : JEntry) : (s.journal e).osp = s.osp := by
  obtain ⟨_, _, _, _, h⟩ := s.journal_frame e; rw [h]
@[simp] theorem journal_awl (s : State) (e : JEntry) : (s.journal e).awl = s.awl := by
  obtain ⟨_, _, _, _, h⟩ := s.journal_frame e; rw [h]
@[simp] theorem journal_flow (s : State) (e : JEntry) : (s.journal e).flow = s.flow := by
  obtain ⟨_, _, _, _, h⟩ := s.journal_frame e; rw [h]
@[simp] theorem journal_port (s : State) (e : JEntry) : (s.journal e).port = s.port := by
  obtain ⟨_, _, _, _, h⟩ := s.journal_frame e; rw [h]
@[simp] theorem journal_sl (s : State) (e : JEntry) : (s.journal e).sl = s.sl := by
  obtain ⟨_, _, _, _, h⟩ := s.journal_frame e; rw [h]
@[simp] theorem journal_fab (s : State) (e : JEntry) : (s.journal e).fab = s.fab := by
  obtain ⟨_, _, _, _, h⟩ := s.journal_frame e; rw [h]
@[simp] theorem journal_shp (s : State) (e : JEntry) : (s.journal e).shp = s.shp := by
  obtain ⟨_, _, _, _, h⟩ := s.journal_frame e; rw [h]
@[simp] theorem journal_pool (s : State) (e : JEntry) : (s.journal e).pool = s.pool := by
  obtain ⟨_, _, _, _, h⟩ := s.journal_frame e; rw [h]
@[simp] theorem journal_tally (s : State) (e : JEntry) : (s.journal e).tally = s.tally := by
  obtain ⟨_, _, _, _, h⟩ := s.journal_frame e; rw [h]
@[simp] theorem journal_xl (s : State) (e : JEntry) : (s.journal e).xl = s.xl := by
  obtain ⟨_, _, _, _, h⟩ := s.journal_frame e; rw [h]
@[simp] theorem journal_rc (s : State) (e : JEntry) : (s.journal e).rc = s.rc := by
  obtain ⟨_, _, _, _, h⟩ := s.journal_frame e; rw [h]
@[simp] theorem journal_ddr (s : State) (e : JEntry) : (s.journal e).ddr = s.ddr := by
  obtain ⟨_, _, _, _, h⟩ := s.journal_frame e; rw [h]
@[simp] theorem journal_st (s : State) (e : JEntry) : (s.journal e).st = s.st := by
  obtain ⟨_, _, _, _, h⟩ := s.journal_frame e; rw [h]

end Sys2Proof.Machine.State
end

