-- ==== Sys2Proof/Laws/State.lean ====
section
/-! SUPPORT. State: what each plain update leaves alone, field by field, so that no proof unfolds a record update. -/

namespace Sys2Proof.Machine.State

@[simp] theorem wr_pending (s : State) (r : RegSpec) (ix : List Nat) (v : Nat) : (s.wr r ix v).pending = s.pending := (rfl)
@[simp] theorem wr_variant (s : State) (r : RegSpec) (ix : List Nat) (v : Nat) : (s.wr r ix v).variant = s.variant := (rfl)
@[simp] theorem wr_clock (s : State) (r : RegSpec) (ix : List Nat) (v : Nat) : (s.wr r ix v).clock = s.clock := (rfl)
@[simp] theorem wr_mode (s : State) (r : RegSpec) (ix : List Nat) (v : Nat) : (s.wr r ix v).mode = s.mode := (rfl)
@[simp] theorem wr_ctrs (s : State) (r : RegSpec) (ix : List Nat) (v : Nat) : (s.wr r ix v).ctrs = s.ctrs := (rfl)
@[simp] theorem wr_staged (s : State) (r : RegSpec) (ix : List Nat) (v : Nat) : (s.wr r ix v).staged = s.staged := (rfl)
@[simp] theorem wr_latched (s : State) (r : RegSpec) (ix : List Nat) (v : Nat) : (s.wr r ix v).latched = s.latched := (rfl)
@[simp] theorem wr_free (s : State) (r : RegSpec) (ix : List Nat) (v : Nat) : (s.wr r ix v).free = s.free := (rfl)
@[simp] theorem wr_tack (s : State) (r : RegSpec) (ix : List Nat) (v : Nat) : (s.wr r ix v).tack = s.tack := (rfl)
@[simp] theorem wr_modes (s : State) (r : RegSpec) (ix : List Nat) (v : Nat) : (s.wr r ix v).modes = s.modes := (rfl)
@[simp] theorem wr_ev (s : State) (r : RegSpec) (ix : List Nat) (v : Nat) : (s.wr r ix v).ev = s.ev := (rfl)
@[simp] theorem wr_flt (s : State) (r : RegSpec) (ix : List Nat) (v : Nat) : (s.wr r ix v).flt = s.flt := (rfl)
@[simp] theorem wr_out (s : State) (r : RegSpec) (ix : List Nat) (v : Nat) : (s.wr r ix v).out = s.out := (rfl)
@[simp] theorem wr_pace (s : State) (r : RegSpec) (ix : List Nat) (v : Nat) : (s.wr r ix v).pace = s.pace := (rfl)
@[simp] theorem wr_load (s : State) (r : RegSpec) (ix : List Nat) (v : Nat) : (s.wr r ix v).load = s.load := (rfl)
@[simp] theorem wr_flash (s : State) (r : RegSpec) (ix : List Nat) (v : Nat) : (s.wr r ix v).flash = s.flash := (rfl)
@[simp] theorem wr_fuse (s : State) (r : RegSpec) (ix : List Nat) (v : Nat) : (s.wr r ix v).fuse = s.fuse := (rfl)
@[simp] theorem wr_host (s : State) (r : RegSpec) (ix : List Nat) (v : Nat) : (s.wr r ix v).host = s.host := (rfl)
@[simp] theorem wr_tabs (s : State) (r : RegSpec) (ix : List Nat) (v : Nat) : (s.wr r ix v).tabs = s.tabs := (rfl)
@[simp] theorem wr_badTabs (s : State) (r : RegSpec) (ix : List Nat) (v : Nat) : (s.wr r ix v).badTabs = s.badTabs := (rfl)
@[simp] theorem wr_ts (s : State) (r : RegSpec) (ix : List Nat) (v : Nat) : (s.wr r ix v).ts = s.ts := (rfl)
@[simp] theorem wr_osp (s : State) (r : RegSpec) (ix : List Nat) (v : Nat) : (s.wr r ix v).osp = s.osp := (rfl)
@[simp] theorem wr_awl (s : State) (r : RegSpec) (ix : List Nat) (v : Nat) : (s.wr r ix v).awl = s.awl := (rfl)
@[simp] theorem wr_flow (s : State) (r : RegSpec) (ix : List Nat) (v : Nat) : (s.wr r ix v).flow = s.flow := (rfl)
@[simp] theorem wr_port (s : State) (r : RegSpec) (ix : List Nat) (v : Nat) : (s.wr r ix v).port = s.port := (rfl)
@[simp] theorem wr_sl (s : State) (r : RegSpec) (ix : List Nat) (v : Nat) : (s.wr r ix v).sl = s.sl := (rfl)
@[simp] theorem wr_fab (s : State) (r : RegSpec) (ix : List Nat) (v : Nat) : (s.wr r ix v).fab = s.fab := (rfl)
@[simp] theorem wr_shp (s : State) (r : RegSpec) (ix : List Nat) (v : Nat) : (s.wr r ix v).shp = s.shp := (rfl)
@[simp] theorem wr_pool (s : State) (r : RegSpec) (ix : List Nat) (v : Nat) : (s.wr r ix v).pool = s.pool := (rfl)
@[simp] theorem wr_tally (s : State) (r : RegSpec) (ix : List Nat) (v : Nat) : (s.wr r ix v).tally = s.tally := (rfl)
@[simp] theorem wr_xl (s : State) (r : RegSpec) (ix : List Nat) (v : Nat) : (s.wr r ix v).xl = s.xl := (rfl)
@[simp] theorem wr_rc (s : State) (r : RegSpec) (ix : List Nat) (v : Nat) : (s.wr r ix v).rc = s.rc := (rfl)
@[simp] theorem wr_ddr (s : State) (r : RegSpec) (ix : List Nat) (v : Nat) : (s.wr r ix v).ddr = s.ddr := (rfl)
@[simp] theorem wr_st (s : State) (r : RegSpec) (ix : List Nat) (v : Nat) : (s.wr r ix v).st = s.st := (rfl)

@[simp] theorem set_pending (s : State) (f : Fld) (ix : List Nat) (v : Nat) : (s.set f ix v).pending = s.pending := (rfl)
@[simp] theorem set_variant (s : State) (f : Fld) (ix : List Nat) (v : Nat) : (s.set f ix v).variant = s.variant := (rfl)
@[simp] theorem set_clock (s : State) (f : Fld) (ix : List Nat) (v : Nat) : (s.set f ix v).clock = s.clock := (rfl)
@[simp] theorem set_mode (s : State) (f : Fld) (ix : List Nat) (v : Nat) : (s.set f ix v).mode = s.mode := (rfl)
@[simp] theorem set_ctrs (s : State) (f : Fld) (ix : List Nat) (v : Nat) : (s.set f ix v).ctrs = s.ctrs := (rfl)
@[simp] theorem set_staged (s : State) (f : Fld) (ix : List Nat) (v : Nat) : (s.set f ix v).staged = s.staged := (rfl)
@[simp] theorem set_latched (s : State) (f : Fld) (ix : List Nat) (v : Nat) : (s.set f ix v).latched = s.latched := (rfl)
@[simp] theorem set_free (s : State) (f : Fld) (ix : List Nat) (v : Nat) : (s.set f ix v).free = s.free := (rfl)
@[simp] theorem set_tack (s : State) (f : Fld) (ix : List Nat) (v : Nat) : (s.set f ix v).tack = s.tack := (rfl)
@[simp] theorem set_modes (s : State) (f : Fld) (ix : List Nat) (v : Nat) : (s.set f ix v).modes = s.modes := (rfl)
@[simp] theorem set_ev (s : State) (f : Fld) (ix : List Nat) (v : Nat) : (s.set f ix v).ev = s.ev := (rfl)
@[simp] theorem set_flt (s : State) (f : Fld) (ix : List Nat) (v : Nat) : (s.set f ix v).flt = s.flt := (rfl)
@[simp] theorem set_out (s : State) (f : Fld) (ix : List Nat) (v : Nat) : (s.set f ix v).out = s.out := (rfl)
@[simp] theorem set_pace (s : State) (f : Fld) (ix : List Nat) (v : Nat) : (s.set f ix v).pace = s.pace := (rfl)
@[simp] theorem set_load (s : State) (f : Fld) (ix : List Nat) (v : Nat) : (s.set f ix v).load = s.load := (rfl)
@[simp] theorem set_flash (s : State) (f : Fld) (ix : List Nat) (v : Nat) : (s.set f ix v).flash = s.flash := (rfl)
@[simp] theorem set_fuse (s : State) (f : Fld) (ix : List Nat) (v : Nat) : (s.set f ix v).fuse = s.fuse := (rfl)
@[simp] theorem set_host (s : State) (f : Fld) (ix : List Nat) (v : Nat) : (s.set f ix v).host = s.host := (rfl)
@[simp] theorem set_tabs (s : State) (f : Fld) (ix : List Nat) (v : Nat) : (s.set f ix v).tabs = s.tabs := (rfl)
@[simp] theorem set_badTabs (s : State) (f : Fld) (ix : List Nat) (v : Nat) : (s.set f ix v).badTabs = s.badTabs := (rfl)
@[simp] theorem set_ts (s : State) (f : Fld) (ix : List Nat) (v : Nat) : (s.set f ix v).ts = s.ts := (rfl)
@[simp] theorem set_osp (s : State) (f : Fld) (ix : List Nat) (v : Nat) : (s.set f ix v).osp = s.osp := (rfl)
@[simp] theorem set_awl (s : State) (f : Fld) (ix : List Nat) (v : Nat) : (s.set f ix v).awl = s.awl := (rfl)
@[simp] theorem set_flow (s : State) (f : Fld) (ix : List Nat) (v : Nat) : (s.set f ix v).flow = s.flow := (rfl)
@[simp] theorem set_port (s : State) (f : Fld) (ix : List Nat) (v : Nat) : (s.set f ix v).port = s.port := (rfl)
@[simp] theorem set_sl (s : State) (f : Fld) (ix : List Nat) (v : Nat) : (s.set f ix v).sl = s.sl := (rfl)
@[simp] theorem set_fab (s : State) (f : Fld) (ix : List Nat) (v : Nat) : (s.set f ix v).fab = s.fab := (rfl)
@[simp] theorem set_shp (s : State) (f : Fld) (ix : List Nat) (v : Nat) : (s.set f ix v).shp = s.shp := (rfl)
@[simp] theorem set_pool (s : State) (f : Fld) (ix : List Nat) (v : Nat) : (s.set f ix v).pool = s.pool := (rfl)
@[simp] theorem set_tally (s : State) (f : Fld) (ix : List Nat) (v : Nat) : (s.set f ix v).tally = s.tally := (rfl)
@[simp] theorem set_xl (s : State) (f : Fld) (ix : List Nat) (v : Nat) : (s.set f ix v).xl = s.xl := (rfl)
@[simp] theorem set_rc (s : State) (f : Fld) (ix : List Nat) (v : Nat) : (s.set f ix v).rc = s.rc := (rfl)
@[simp] theorem set_ddr (s : State) (f : Fld) (ix : List Nat) (v : Nat) : (s.set f ix v).ddr = s.ddr := (rfl)
@[simp] theorem set_st (s : State) (f : Fld) (ix : List Nat) (v : Nat) : (s.set f ix v).st = s.st := (rfl)

@[simp] theorem addSat_pending (s : State) (f : Fld) (ix : List Nat) (n : Nat) : (s.addSat f ix n).pending = s.pending := (rfl)
@[simp] theorem addSat_variant (s : State) (f : Fld) (ix : List Nat) (n : Nat) : (s.addSat f ix n).variant = s.variant := (rfl)
@[simp] theorem addSat_clock (s : State) (f : Fld) (ix : List Nat) (n : Nat) : (s.addSat f ix n).clock = s.clock := (rfl)
@[simp] theorem addSat_mode (s : State) (f : Fld) (ix : List Nat) (n : Nat) : (s.addSat f ix n).mode = s.mode := (rfl)
@[simp] theorem addSat_ctrs (s : State) (f : Fld) (ix : List Nat) (n : Nat) : (s.addSat f ix n).ctrs = s.ctrs := (rfl)
@[simp] theorem addSat_staged (s : State) (f : Fld) (ix : List Nat) (n : Nat) : (s.addSat f ix n).staged = s.staged := (rfl)
@[simp] theorem addSat_latched (s : State) (f : Fld) (ix : List Nat) (n : Nat) : (s.addSat f ix n).latched = s.latched := (rfl)
@[simp] theorem addSat_free (s : State) (f : Fld) (ix : List Nat) (n : Nat) : (s.addSat f ix n).free = s.free := (rfl)
@[simp] theorem addSat_tack (s : State) (f : Fld) (ix : List Nat) (n : Nat) : (s.addSat f ix n).tack = s.tack := (rfl)
@[simp] theorem addSat_modes (s : State) (f : Fld) (ix : List Nat) (n : Nat) : (s.addSat f ix n).modes = s.modes := (rfl)
@[simp] theorem addSat_ev (s : State) (f : Fld) (ix : List Nat) (n : Nat) : (s.addSat f ix n).ev = s.ev := (rfl)
@[simp] theorem addSat_flt (s : State) (f : Fld) (ix : List Nat) (n : Nat) : (s.addSat f ix n).flt = s.flt := (rfl)
@[simp] theorem addSat_out (s : State) (f : Fld) (ix : List Nat) (n : Nat) : (s.addSat f ix n).out = s.out := (rfl)
@[simp] theorem addSat_pace (s : State) (f : Fld) (ix : List Nat) (n : Nat) : (s.addSat f ix n).pace = s.pace := (rfl)
@[simp] theorem addSat_load (s : State) (f : Fld) (ix : List Nat) (n : Nat) : (s.addSat f ix n).load = s.load := (rfl)
@[simp] theorem addSat_flash (s : State) (f : Fld) (ix : List Nat) (n : Nat) : (s.addSat f ix n).flash = s.flash := (rfl)
@[simp] theorem addSat_fuse (s : State) (f : Fld) (ix : List Nat) (n : Nat) : (s.addSat f ix n).fuse = s.fuse := (rfl)
@[simp] theorem addSat_host (s : State) (f : Fld) (ix : List Nat) (n : Nat) : (s.addSat f ix n).host = s.host := (rfl)
@[simp] theorem addSat_tabs (s : State) (f : Fld) (ix : List Nat) (n : Nat) : (s.addSat f ix n).tabs = s.tabs := (rfl)
@[simp] theorem addSat_badTabs (s : State) (f : Fld) (ix : List Nat) (n : Nat) : (s.addSat f ix n).badTabs = s.badTabs := (rfl)
@[simp] theorem addSat_ts (s : State) (f : Fld) (ix : List Nat) (n : Nat) : (s.addSat f ix n).ts = s.ts := (rfl)
@[simp] theorem addSat_osp (s : State) (f : Fld) (ix : List Nat) (n : Nat) : (s.addSat f ix n).osp = s.osp := (rfl)
@[simp] theorem addSat_awl (s : State) (f : Fld) (ix : List Nat) (n : Nat) : (s.addSat f ix n).awl = s.awl := (rfl)
@[simp] theorem addSat_flow (s : State) (f : Fld) (ix : List Nat) (n : Nat) : (s.addSat f ix n).flow = s.flow := (rfl)
@[simp] theorem addSat_port (s : State) (f : Fld) (ix : List Nat) (n : Nat) : (s.addSat f ix n).port = s.port := (rfl)
@[simp] theorem addSat_sl (s : State) (f : Fld) (ix : List Nat) (n : Nat) : (s.addSat f ix n).sl = s.sl := (rfl)
@[simp] theorem addSat_fab (s : State) (f : Fld) (ix : List Nat) (n : Nat) : (s.addSat f ix n).fab = s.fab := (rfl)
@[simp] theorem addSat_shp (s : State) (f : Fld) (ix : List Nat) (n : Nat) : (s.addSat f ix n).shp = s.shp := (rfl)
@[simp] theorem addSat_pool (s : State) (f : Fld) (ix : List Nat) (n : Nat) : (s.addSat f ix n).pool = s.pool := (rfl)
@[simp] theorem addSat_tally (s : State) (f : Fld) (ix : List Nat) (n : Nat) : (s.addSat f ix n).tally = s.tally := (rfl)
@[simp] theorem addSat_xl (s : State) (f : Fld) (ix : List Nat) (n : Nat) : (s.addSat f ix n).xl = s.xl := (rfl)
@[simp] theorem addSat_rc (s : State) (f : Fld) (ix : List Nat) (n : Nat) : (s.addSat f ix n).rc = s.rc := (rfl)
@[simp] theorem addSat_ddr (s : State) (f : Fld) (ix : List Nat) (n : Nat) : (s.addSat f ix n).ddr = s.ddr := (rfl)
@[simp] theorem addSat_st (s : State) (f : Fld) (ix : List Nat) (n : Nat) : (s.addSat f ix n).st = s.st := (rfl)

@[simp] theorem inc_pending (s : State) (r : RegSpec) (ix : List Nat) (n : Nat) : (s.inc r ix n).pending = s.pending := (rfl)
@[simp] theorem inc_variant (s : State) (r : RegSpec) (ix : List Nat) (n : Nat) : (s.inc r ix n).variant = s.variant := (rfl)
@[simp] theorem inc_clock (s : State) (r : RegSpec) (ix : List Nat) (n : Nat) : (s.inc r ix n).clock = s.clock := (rfl)
@[simp] theorem inc_mode (s : State) (r : RegSpec) (ix : List Nat) (n : Nat) : (s.inc r ix n).mode = s.mode := (rfl)
@[simp] theorem inc_regs (s : State) (r : RegSpec) (ix : List Nat) (n : Nat) : (s.inc r ix n).regs = s.regs := (rfl)
@[simp] theorem inc_staged (s : State) (r : RegSpec) (ix : List Nat) (n : Nat) : (s.inc r ix n).staged = s.staged := (rfl)
@[simp] theorem inc_latched (s : State) (r : RegSpec) (ix : List Nat) (n : Nat) : (s.inc r ix n).latched = s.latched := (rfl)
@[simp] theorem inc_free (s : State) (r : RegSpec) (ix : List Nat) (n : Nat) : (s.inc r ix n).free = s.free := (rfl)
@[simp] theorem inc_tack (s : State) (r : RegSpec) (ix : List Nat) (n : Nat) : (s.inc r ix n).tack = s.tack := (rfl)
@[simp] theorem inc_modes (s : State) (r : RegSpec) (ix : List Nat) (n : Nat) : (s.inc r ix n).modes = s.modes := (rfl)
@[simp] theorem inc_ev (s : State) (r : RegSpec) (ix : List Nat) (n : Nat) : (s.inc r ix n).ev = s.ev := (rfl)
@[simp] theorem inc_flt (s : State) (r : RegSpec) (ix : List Nat) (n : Nat) : (s.inc r ix n).flt = s.flt := (rfl)
@[simp] theorem inc_out (s : State) (r : RegSpec) (ix : List Nat) (n : Nat) : (s.inc r ix n).out = s.out := (rfl)
@[simp] theorem inc_pace (s : State) (r : RegSpec) (ix : List Nat) (n : Nat) : (s.inc r ix n).pace = s.pace := (rfl)
@[simp] theorem inc_load (s : State) (r : RegSpec) (ix : List Nat) (n : Nat) : (s.inc r ix n).load = s.load := (rfl)
@[simp] theorem inc_flash (s : State) (r : RegSpec) (ix : List Nat) (n : Nat) : (s.inc r ix n).flash = s.flash := (rfl)
@[simp] theorem inc_fuse (s : State) (r : RegSpec) (ix : List Nat) (n : Nat) : (s.inc r ix n).fuse = s.fuse := (rfl)
@[simp] theorem inc_host (s : State) (r : RegSpec) (ix : List Nat) (n : Nat) : (s.inc r ix n).host = s.host := (rfl)
@[simp] theorem inc_tabs (s : State) (r : RegSpec) (ix : List Nat) (n : Nat) : (s.inc r ix n).tabs = s.tabs := (rfl)
@[simp] theorem inc_badTabs (s : State) (r : RegSpec) (ix : List Nat) (n : Nat) : (s.inc r ix n).badTabs = s.badTabs := (rfl)
@[simp] theorem inc_ts (s : State) (r : RegSpec) (ix : List Nat) (n : Nat) : (s.inc r ix n).ts = s.ts := (rfl)
@[simp] theorem inc_osp (s : State) (r : RegSpec) (ix : List Nat) (n : Nat) : (s.inc r ix n).osp = s.osp := (rfl)
@[simp] theorem inc_awl (s : State) (r : RegSpec) (ix : List Nat) (n : Nat) : (s.inc r ix n).awl = s.awl := (rfl)
@[simp] theorem inc_flow (s : State) (r : RegSpec) (ix : List Nat) (n : Nat) : (s.inc r ix n).flow = s.flow := (rfl)
@[simp] theorem inc_port (s : State) (r : RegSpec) (ix : List Nat) (n : Nat) : (s.inc r ix n).port = s.port := (rfl)
@[simp] theorem inc_sl (s : State) (r : RegSpec) (ix : List Nat) (n : Nat) : (s.inc r ix n).sl = s.sl := (rfl)
@[simp] theorem inc_fab (s : State) (r : RegSpec) (ix : List Nat) (n : Nat) : (s.inc r ix n).fab = s.fab := (rfl)
@[simp] theorem inc_shp (s : State) (r : RegSpec) (ix : List Nat) (n : Nat) : (s.inc r ix n).shp = s.shp := (rfl)
@[simp] theorem inc_pool (s : State) (r : RegSpec) (ix : List Nat) (n : Nat) : (s.inc r ix n).pool = s.pool := (rfl)
@[simp] theorem inc_tally (s : State) (r : RegSpec) (ix : List Nat) (n : Nat) : (s.inc r ix n).tally = s.tally := (rfl)
@[simp] theorem inc_xl (s : State) (r : RegSpec) (ix : List Nat) (n : Nat) : (s.inc r ix n).xl = s.xl := (rfl)
@[simp] theorem inc_rc (s : State) (r : RegSpec) (ix : List Nat) (n : Nat) : (s.inc r ix n).rc = s.rc := (rfl)
@[simp] theorem inc_ddr (s : State) (r : RegSpec) (ix : List Nat) (n : Nat) : (s.inc r ix n).ddr = s.ddr := (rfl)
@[simp] theorem inc_st (s : State) (r : RegSpec) (ix : List Nat) (n : Nat) : (s.inc r ix n).st = s.st := (rfl)

@[simp] theorem zeroCtr_pending (s : State) (r : RegSpec) (ix : List Nat) : (s.zeroCtr r ix).pending = s.pending := (rfl)
@[simp] theorem zeroCtr_variant (s : State) (r : RegSpec) (ix : List Nat) : (s.zeroCtr r ix).variant = s.variant := (rfl)
@[simp] theorem zeroCtr_clock (s : State) (r : RegSpec) (ix : List Nat) : (s.zeroCtr r ix).clock = s.clock := (rfl)
@[simp] theorem zeroCtr_mode (s : State) (r : RegSpec) (ix : List Nat) : (s.zeroCtr r ix).mode = s.mode := (rfl)
@[simp] theorem zeroCtr_regs (s : State) (r : RegSpec) (ix : List Nat) : (s.zeroCtr r ix).regs = s.regs := (rfl)
@[simp] theorem zeroCtr_staged (s : State) (r : RegSpec) (ix : List Nat) : (s.zeroCtr r ix).staged = s.staged := (rfl)
@[simp] theorem zeroCtr_latched (s : State) (r : RegSpec) (ix : List Nat) : (s.zeroCtr r ix).latched = s.latched := (rfl)
@[simp] theorem zeroCtr_free (s : State) (r : RegSpec) (ix : List Nat) : (s.zeroCtr r ix).free = s.free := (rfl)
@[simp] theorem zeroCtr_tack (s : State) (r : RegSpec) (ix : List Nat) : (s.zeroCtr r ix).tack = s.tack := (rfl)
@[simp] theorem zeroCtr_modes (s : State) (r : RegSpec) (ix : List Nat) : (s.zeroCtr r ix).modes = s.modes := (rfl)
@[simp] theorem zeroCtr_ev (s : State) (r : RegSpec) (ix : List Nat) : (s.zeroCtr r ix).ev = s.ev := (rfl)
@[simp] theorem zeroCtr_flt (s : State) (r : RegSpec) (ix : List Nat) : (s.zeroCtr r ix).flt = s.flt := (rfl)
@[simp] theorem zeroCtr_out (s : State) (r : RegSpec) (ix : List Nat) : (s.zeroCtr r ix).out = s.out := (rfl)
@[simp] theorem zeroCtr_pace (s : State) (r : RegSpec) (ix : List Nat) : (s.zeroCtr r ix).pace = s.pace := (rfl)
@[simp] theorem zeroCtr_load (s : State) (r : RegSpec) (ix : List Nat) : (s.zeroCtr r ix).load = s.load := (rfl)
@[simp] theorem zeroCtr_flash (s : State) (r : RegSpec) (ix : List Nat) : (s.zeroCtr r ix).flash = s.flash := (rfl)
@[simp] theorem zeroCtr_fuse (s : State) (r : RegSpec) (ix : List Nat) : (s.zeroCtr r ix).fuse = s.fuse := (rfl)
@[simp] theorem zeroCtr_host (s : State) (r : RegSpec) (ix : List Nat) : (s.zeroCtr r ix).host = s.host := (rfl)
@[simp] theorem zeroCtr_tabs (s : State) (r : RegSpec) (ix : List Nat) : (s.zeroCtr r ix).tabs = s.tabs := (rfl)
@[simp] theorem zeroCtr_badTabs (s : State) (r : RegSpec) (ix : List Nat) : (s.zeroCtr r ix).badTabs = s.badTabs := (rfl)
@[simp] theorem zeroCtr_ts (s : State) (r : RegSpec) (ix : List Nat) : (s.zeroCtr r ix).ts = s.ts := (rfl)
@[simp] theorem zeroCtr_osp (s : State) (r : RegSpec) (ix : List Nat) : (s.zeroCtr r ix).osp = s.osp := (rfl)
@[simp] theorem zeroCtr_awl (s : State) (r : RegSpec) (ix : List Nat) : (s.zeroCtr r ix).awl = s.awl := (rfl)
@[simp] theorem zeroCtr_flow (s : State) (r : RegSpec) (ix : List Nat) : (s.zeroCtr r ix).flow = s.flow := (rfl)
@[simp] theorem zeroCtr_port (s : State) (r : RegSpec) (ix : List Nat) : (s.zeroCtr r ix).port = s.port := (rfl)
@[simp] theorem zeroCtr_sl (s : State) (r : RegSpec) (ix : List Nat) : (s.zeroCtr r ix).sl = s.sl := (rfl)
@[simp] theorem zeroCtr_fab (s : State) (r : RegSpec) (ix : List Nat) : (s.zeroCtr r ix).fab = s.fab := (rfl)
@[simp] theorem zeroCtr_shp (s : State) (r : RegSpec) (ix : List Nat) : (s.zeroCtr r ix).shp = s.shp := (rfl)
@[simp] theorem zeroCtr_pool (s : State) (r : RegSpec) (ix : List Nat) : (s.zeroCtr r ix).pool = s.pool := (rfl)
@[simp] theorem zeroCtr_tally (s : State) (r : RegSpec) (ix : List Nat) : (s.zeroCtr r ix).tally = s.tally := (rfl)
@[simp] theorem zeroCtr_xl (s : State) (r : RegSpec) (ix : List Nat) : (s.zeroCtr r ix).xl = s.xl := (rfl)
@[simp] theorem zeroCtr_rc (s : State) (r : RegSpec) (ix : List Nat) : (s.zeroCtr r ix).rc = s.rc := (rfl)
@[simp] theorem zeroCtr_ddr (s : State) (r : RegSpec) (ix : List Nat) : (s.zeroCtr r ix).ddr = s.ddr := (rfl)
@[simp] theorem zeroCtr_st (s : State) (r : RegSpec) (ix : List Nat) : (s.zeroCtr r ix).st = s.st := (rfl)

@[simp] theorem retWrite_pending (s : State) (a : Nat) (bs : List Byte) : (s.retWrite a bs).pending = s.pending := (rfl)
@[simp] theorem retWrite_variant (s : State) (a : Nat) (bs : List Byte) : (s.retWrite a bs).variant = s.variant := (rfl)
@[simp] theorem retWrite_clock (s : State) (a : Nat) (bs : List Byte) : (s.retWrite a bs).clock = s.clock := (rfl)
@[simp] theorem retWrite_mode (s : State) (a : Nat) (bs : List Byte) : (s.retWrite a bs).mode = s.mode := (rfl)
@[simp] theorem retWrite_regs (s : State) (a : Nat) (bs : List Byte) : (s.retWrite a bs).regs = s.regs := (rfl)
@[simp] theorem retWrite_ctrs (s : State) (a : Nat) (bs : List Byte) : (s.retWrite a bs).ctrs = s.ctrs := (rfl)
@[simp] theorem retWrite_staged (s : State) (a : Nat) (bs : List Byte) : (s.retWrite a bs).staged = s.staged := (rfl)
@[simp] theorem retWrite_latched (s : State) (a : Nat) (bs : List Byte) : (s.retWrite a bs).latched = s.latched := (rfl)
@[simp] theorem retWrite_free (s : State) (a : Nat) (bs : List Byte) : (s.retWrite a bs).free = s.free := (rfl)
@[simp] theorem retWrite_modes (s : State) (a : Nat) (bs : List Byte) : (s.retWrite a bs).modes = s.modes := (rfl)
@[simp] theorem retWrite_ev (s : State) (a : Nat) (bs : List Byte) : (s.retWrite a bs).ev = s.ev := (rfl)
@[simp] theorem retWrite_flt (s : State) (a : Nat) (bs : List Byte) : (s.retWrite a bs).flt = s.flt := (rfl)
@[simp] theorem retWrite_out (s : State) (a : Nat) (bs : List Byte) : (s.retWrite a bs).out = s.out := (rfl)
@[simp] theorem retWrite_pace (s : State) (a : Nat) (bs : List Byte) : (s.retWrite a bs).pace = s.pace := (rfl)
@[simp] theorem retWrite_load (s : State) (a : Nat) (bs : List Byte) : (s.retWrite a bs).load = s.load := (rfl)
@[simp] theorem retWrite_flash (s : State) (a : Nat) (bs : List Byte) : (s.retWrite a bs).flash = s.flash := (rfl)
@[simp] theorem retWrite_fuse (s : State) (a : Nat) (bs : List Byte) : (s.retWrite a bs).fuse = s.fuse := (rfl)
@[simp] theorem retWrite_host (s : State) (a : Nat) (bs : List Byte) : (s.retWrite a bs).host = s.host := (rfl)
@[simp] theorem retWrite_tabs (s : State) (a : Nat) (bs : List Byte) : (s.retWrite a bs).tabs = s.tabs := (rfl)
@[simp] theorem retWrite_badTabs (s : State) (a : Nat) (bs : List Byte) : (s.retWrite a bs).badTabs = s.badTabs := (rfl)
@[simp] theorem retWrite_ts (s : State) (a : Nat) (bs : List Byte) : (s.retWrite a bs).ts = s.ts := (rfl)
@[simp] theorem retWrite_osp (s : State) (a : Nat) (bs : List Byte) : (s.retWrite a bs).osp = s.osp := (rfl)
@[simp] theorem retWrite_awl (s : State) (a : Nat) (bs : List Byte) : (s.retWrite a bs).awl = s.awl := (rfl)
@[simp] theorem retWrite_flow (s : State) (a : Nat) (bs : List Byte) : (s.retWrite a bs).flow = s.flow := (rfl)
@[simp] theorem retWrite_port (s : State) (a : Nat) (bs : List Byte) : (s.retWrite a bs).port = s.port := (rfl)
@[simp] theorem retWrite_sl (s : State) (a : Nat) (bs : List Byte) : (s.retWrite a bs).sl = s.sl := (rfl)
@[simp] theorem retWrite_fab (s : State) (a : Nat) (bs : List Byte) : (s.retWrite a bs).fab = s.fab := (rfl)
@[simp] theorem retWrite_shp (s : State) (a : Nat) (bs : List Byte) : (s.retWrite a bs).shp = s.shp := (rfl)
@[simp] theorem retWrite_pool (s : State) (a : Nat) (bs : List Byte) : (s.retWrite a bs).pool = s.pool := (rfl)
@[simp] theorem retWrite_tally (s : State) (a : Nat) (bs : List Byte) : (s.retWrite a bs).tally = s.tally := (rfl)
@[simp] theorem retWrite_xl (s : State) (a : Nat) (bs : List Byte) : (s.retWrite a bs).xl = s.xl := (rfl)
@[simp] theorem retWrite_rc (s : State) (a : Nat) (bs : List Byte) : (s.retWrite a bs).rc = s.rc := (rfl)
@[simp] theorem retWrite_ddr (s : State) (a : Nat) (bs : List Byte) : (s.retWrite a bs).ddr = s.ddr := (rfl)
@[simp] theorem retWrite_st (s : State) (a : Nat) (bs : List Byte) : (s.retWrite a bs).st = s.st := (rfl)

@[simp] theorem report_pending (s : State) (f : FaultRep) : (s.report f).pending = s.pending := (rfl)
@[simp] theorem report_variant (s : State) (f : FaultRep) : (s.report f).variant = s.variant := (rfl)
@[simp] theorem report_clock (s : State) (f : FaultRep) : (s.report f).clock = s.clock := (rfl)
@[simp] theorem report_mode (s : State) (f : FaultRep) : (s.report f).mode = s.mode := (rfl)
@[simp] theorem report_regs (s : State) (f : FaultRep) : (s.report f).regs = s.regs := (rfl)
@[simp] theorem report_ctrs (s : State) (f : FaultRep) : (s.report f).ctrs = s.ctrs := (rfl)
@[simp] theorem report_staged (s : State) (f : FaultRep) : (s.report f).staged = s.staged := (rfl)
@[simp] theorem report_latched (s : State) (f : FaultRep) : (s.report f).latched = s.latched := (rfl)
@[simp] theorem report_free (s : State) (f : FaultRep) : (s.report f).free = s.free := (rfl)
@[simp] theorem report_tack (s : State) (f : FaultRep) : (s.report f).tack = s.tack := (rfl)
@[simp] theorem report_modes (s : State) (f : FaultRep) : (s.report f).modes = s.modes := (rfl)
@[simp] theorem report_ev (s : State) (f : FaultRep) : (s.report f).ev = s.ev := (rfl)
@[simp] theorem report_out (s : State) (f : FaultRep) : (s.report f).out = s.out := (rfl)
@[simp] theorem report_pace (s : State) (f : FaultRep) : (s.report f).pace = s.pace := (rfl)
@[simp] theorem report_load (s : State) (f : FaultRep) : (s.report f).load = s.load := (rfl)
@[simp] theorem report_flash (s : State) (f : FaultRep) : (s.report f).flash = s.flash := (rfl)
@[simp] theorem report_fuse (s : State) (f : FaultRep) : (s.report f).fuse = s.fuse := (rfl)
@[simp] theorem report_host (s : State) (f : FaultRep) : (s.report f).host = s.host := (rfl)
@[simp] theorem report_tabs (s : State) (f : FaultRep) : (s.report f).tabs = s.tabs := (rfl)
@[simp] theorem report_badTabs (s : State) (f : FaultRep) : (s.report f).badTabs = s.badTabs := (rfl)
@[simp] theorem report_ts (s : State) (f : FaultRep) : (s.report f).ts = s.ts := (rfl)
@[simp] theorem report_osp (s : State) (f : FaultRep) : (s.report f).osp = s.osp := (rfl)
@[simp] theorem report_awl (s : State) (f : FaultRep) : (s.report f).awl = s.awl := (rfl)
@[simp] theorem report_flow (s : State) (f : FaultRep) : (s.report f).flow = s.flow := (rfl)
@[simp] theorem report_port (s : State) (f : FaultRep) : (s.report f).port = s.port := (rfl)
@[simp] theorem report_sl (s : State) (f : FaultRep) : (s.report f).sl = s.sl := (rfl)
@[simp] theorem report_fab (s : State) (f : FaultRep) : (s.report f).fab = s.fab := (rfl)
@[simp] theorem report_shp (s : State) (f : FaultRep) : (s.report f).shp = s.shp := (rfl)
@[simp] theorem report_pool (s : State) (f : FaultRep) : (s.report f).pool = s.pool := (rfl)
@[simp] theorem report_tally (s : State) (f : FaultRep) : (s.report f).tally = s.tally := (rfl)
@[simp] theorem report_xl (s : State) (f : FaultRep) : (s.report f).xl = s.xl := (rfl)
@[simp] theorem report_rc (s : State) (f : FaultRep) : (s.report f).rc = s.rc := (rfl)
@[simp] theorem report_ddr (s : State) (f : FaultRep) : (s.report f).ddr = s.ddr := (rfl)
@[simp] theorem report_st (s : State) (f : FaultRep) : (s.report f).st = s.st := (rfl)

end Sys2Proof.Machine.State
end

