-- ==== Sys2Proof/Laws/Safety.lean ====
section
/-! SUPPORT. Completion, and what the shared operations leave alone, in the terms of claims. -/

namespace Sys2Proof.Machine

/-! ## Completion -/

/-- A command whose effect leaves the time alone completes with it. -/
theorem completes_done {c : Instr} {s : State} {f : State → State} {P : State → Prop} (h : exec c s = done f s)
    (hp : P { f s with clock := s.clock, variant := s.variant, pending := s.pending }) : Completes c s P := ⟨_, h, hp⟩

theorem completes_doneTimed {c : Instr} {s : State} {f : State → State} {P : State → Prop} (h : exec c s = doneTimed f s)
    (hp : P { f s with variant := s.variant, pending := s.pending }) : Completes c s P := ⟨_, h, hp⟩

/-- A command does what its meaning computes. -/
theorem does_of {c : Instr} {s u : State} {f : State → State} (h : exec c s = done f s) (hf : f s = u) : Does c s u := by
  subst hf; exact h

/-- An instruction of the running thread does its effect, and the engine is brought up to now again (R430, R450). -/
theorem State.runIns_of {e t i : Nat} {s u : State} (h : Running e t i s u) (is : Nat → Bool) (f : Nat → Nat → State → State)
    (hi : is (insOp i) = true) : s.runIns e is f = (f t i u).settle e := by
  obtain ⟨h1, h2, h3, h4, h5, h6, _⟩ := h
  unfold State.runIns
  rw [if_neg (by rintro (h | h) <;> [omega; (rw [h2] at h; cases h)])]
  dsimp only
  have hc : (u.eng e).cur.filter (u.threadReady e) = some t := by rw [h4]; exact if_pos h5
  rw [← h3, hc]
  dsimp only
  rw [h6, if_pos hi]

theorem State.runOp_of {e t i op : Nat} {s u : State} (h : Running e t i s u) (ho : insOp i = op)
    (f : Nat → Nat → State → State) : s.runOp e op f = (f t i u).settle e := by
  refine State.runIns_of h _ f ?_
  have h7 := h.2.2.2.2.2.2
  rw [ho] at h7 ⊢
  rw [h7, beq_self_eq_true]; rfl

/-- A well-formed instruction word runs. -/
theorem State.formed_of {ok : Bool} {e t : Nat} {f : State → State} {s : State} (h : ok = true) :
    s.formed ok e t f = f s := if_pos h

/-- What a state shows depends on its registers and its variant alone. -/
theorem State.rd_congr {s t : State} (hr : t.regs = s.regs) (hv : t.variant = s.variant) (r : RegSpec) (ix : List Nat) :
    t.rd r ix = s.rd r ix := by simp only [State.rd, hr, hv]

theorem State.get_congr {s t : State} (hr : t.regs = s.regs) (hv : t.variant = s.variant) (f : Fld) (ix : List Nat) :
    t.get f ix = s.get f ix := by simp only [State.get, State.rd_congr hr hv]

theorem State.isOn_congr {s t : State} (hr : t.regs = s.regs) (hv : t.variant = s.variant) (f : Fld) (ix : List Nat) :
    t.isOn f ix = s.isOn f ix := by simp only [State.isOn, State.get_congr hr hv]

/-! ## Registers left alone -/

theorem RegsBut.refl (l : List Nat) (s : State) : RegsBut l s s := fun _ _ _ => rfl

theorem RegsBut.trans {l : List Nat} {s t u : State} (h1 : RegsBut l s t) (h2 : RegsBut l t u) : RegsBut l s u :=
  fun a d h => (h2 a d h).trans (h1 a d h)

theorem RegsBut.of_regs {l : List Nat} {s t u : State} (h : RegsBut l s t) (he : u.regs = t.regs) : RegsBut l s u :=
  fun a d ha => by rw [he]; exact h a d ha

theorem RegsBut.wr {l : List Nat} {s t : State} (h : RegsBut l s t) (r : RegSpec) (ix : List Nat) (v : Nat)
    (hm : r.addr ix ∈ l) : RegsBut l s (t.wr r ix v) := fun a d ha => by
  rw [State.wr]
  exact (Map.at_put_ne _ _ _ _ (fun e : a = _ => ha (by rw [e]; exact hm))).trans (h a d ha)

theorem RegsBut.set {l : List Nat} {s t : State} (h : RegsBut l s t) (f : Fld) (ix : List Nat) (v : Nat)
    (hm : f.reg.addr ix ∈ l) : RegsBut l s (t.set f ix v) := h.wr _ _ _ hm

theorem RegsBut.raise {l : List Nat} {s t : State} (h : RegsBut l s t) (f : Fld) (ix : List Nat)
    (hm : f.reg.addr ix ∈ l) : RegsBut l s (t.raise f ix) := (h.set f ix 1 hm).of_regs (State.regs_raise t f ix)

/-- A register outside the list reads the same. -/
theorem RegsBut.rd {l : List Nat} {s t : State} (h : RegsBut l s t) (hv : t.variant = s.variant) (r : RegSpec) (ix : List Nat)
    (hm : r.addr ix ∉ l) : t.rd r ix = s.rd r ix := by simp only [State.rd, hv, h _ _ hm]

theorem CtrsBut.refl (l : List Nat) (s : State) : CtrsBut l s s := fun _ _ => rfl

theorem CtrsBut.inc {l : List Nat} {s t : State} (h : CtrsBut l s t) (r : RegSpec) (ix : List Nat) (n : Nat)
    (hm : r.addr ix ∈ l) : CtrsBut l s (t.inc r ix n) := fun a ha => by
  rw [State.inc]
  exact (Map.at_put_ne _ _ _ _ (fun e : a = _ => ha (by rw [e]; exact hm))).trans (h a ha)

end Sys2Proof.Machine
end

