-- ==== Sys2Proof/Laws/Regs.lean ====
section
/-! SUPPORT. Registers as a function of the register file and the variant alone: reads and writes of a state come down to
reads and writes of its map, whatever else a command changes. -/

namespace Sys2Proof.Machine

/-- A word of the register file. -/
def rdR (m : Map Word) (v : Variant) (r : RegSpec) (ix : List Nat) : Nat :=
  (m.at (BitVec.ofNat 32 (resetOf v r ix)) (r.addr ix)).toNat

/-- The register file with a word written. -/
def wrR (m : Map Word) (v : Variant) (r : RegSpec) (ix : List Nat) (x : Nat) : Map Word :=
  m.put (BitVec.ofNat 32 (resetOf v r ix)) (r.addr ix) (BitVec.ofNat 32 x)

/-- A field of the register file. -/
def getR (m : Map Word) (v : Variant) (f : Fld) (ix : List Nat) : Nat := bits (rdR m v f.reg ix) f.hi f.lo

/-- The register file with a field set. -/
def setR (m : Map Word) (v : Variant) (f : Fld) (ix : List Nat) (x : Nat) : Map Word :=
  wrR m v f.reg ix (setBits (rdR m v f.reg ix) f.hi f.lo x)

/-- The word of a field's register after the field is set. -/
theorem rdR_lt (m : Map Word) (v : Variant) (r : RegSpec) (ix : List Nat) : rdR m v r ix < 2 ^ 32 := BitVec.isLt _

theorem State.rd_eq (s : State) (r : RegSpec) (ix : List Nat) : s.rd r ix = rdR s.regs s.variant r ix := (rfl)
theorem State.get_eq (s : State) (f : Fld) (ix : List Nat) : s.get f ix = getR s.regs s.variant f ix := (rfl)
theorem State.isOn_eq (s : State) (f : Fld) (ix : List Nat) : s.isOn f ix = (getR s.regs s.variant f ix != 0) := (rfl)
theorem State.regs_wr (s : State) (r : RegSpec) (ix : List Nat) (x : Nat) : (s.wr r ix x).regs = wrR s.regs s.variant r ix x := (rfl)
theorem State.regs_set (s : State) (f : Fld) (ix : List Nat) (x : Nat) : (s.set f ix x).regs = setR s.regs s.variant f ix x := (rfl)
theorem State.regs_addSat (s : State) (f : Fld) (ix : List Nat) (n : Nat) : (s.addSat f ix n).regs =
    setR s.regs s.variant f ix (satAdd (2 ^ (f.hi + 1 - f.lo) - 1) (getR s.regs s.variant f ix) n) := (rfl)
theorem State.regs_raise' (s : State) (f : Fld) (ix : List Nat) : (s.raise f ix).regs = setR s.regs s.variant f ix 1 :=
  State.regs_raise s f ix

@[simp] theorem rdR_wrR_self (m : Map Word) (v : Variant) (r : RegSpec) (ix : List Nat) (x : Nat) :
    rdR (wrR m v r ix x) v r ix = x % 2 ^ 32 := by simp [rdR, wrR, Map.at_put_self]

theorem rdR_wrR_ne (m : Map Word) (v w : Variant) (r q : RegSpec) (ix jx : List Nat) (x : Nat) (h : q.addr jx ≠ r.addr ix) :
    rdR (wrR m w r ix x) v q jx = rdR m v q jx := by
  simp only [rdR, wrR]; rw [Map.at_put_ne _ _ _ _ h]

/-- A field just set holds the value, as far as it is wide. -/
theorem getR_setR_self (m : Map Word) (v : Variant) (f : Fld) (ix : List Nat) (x : Nat) (h : f.lo ≤ f.hi ∧ f.hi < 32) :
    getR (setR m v f ix x) v f ix = x % 2 ^ (f.hi + 1 - f.lo) := by
  rw [getR, setR, rdR_wrR_self, Nat.mod_eq_of_lt (setBits_lt _ _ _ _ 32 h.1 h.2 (rdR_lt _ _ _ _)), bits_setBits_self _ _ _ _ h.1]

/-- Setting a field leaves the other fields of its register alone. -/
theorem getR_setR_field (m : Map Word) (v : Variant) (f g : Fld) (ix : List Nat) (x : Nat)
    (h : g.reg = f.reg ∧ f.lo ≤ f.hi ∧ f.hi < 32 ∧ (g.hi < f.lo ∨ f.hi < g.lo)) :
    getR (setR m v f ix x) v g ix = getR m v g ix := by
  rw [getR, h.1, setR, rdR_wrR_self, Nat.mod_eq_of_lt (setBits_lt _ _ _ _ 32 h.2.1 h.2.2.1 (rdR_lt _ _ _ _)),
    bits_setBits_other _ _ _ _ _ _ h.2.1 h.2.2.2, getR, h.1]

/-- Setting a field leaves every other register alone. -/
theorem getR_setR_reg (m : Map Word) (v w : Variant) (f g : Fld) (ix jx : List Nat) (x : Nat) (h : g.reg.addr jx ≠ f.reg.addr ix) :
    getR (setR m w f ix x) v g jx = getR m v g jx := by rw [getR, setR, rdR_wrR_ne _ _ _ _ _ _ _ _ h, getR]

/-- The same for a word written. -/
theorem getR_wrR_reg (m : Map Word) (v w : Variant) (r : RegSpec) (g : Fld) (ix jx : List Nat) (x : Nat) (h : g.reg.addr jx ≠ r.addr ix) :
    getR (wrR m w r ix x) v g jx = getR m v g jx := by rw [getR, rdR_wrR_ne _ _ _ _ _ _ _ _ h, getR]

theorem rdR_setR_reg (m : Map Word) (v w : Variant) (f : Fld) (q : RegSpec) (ix jx : List Nat) (x : Nat)
    (h : q.addr jx ≠ f.reg.addr ix) : rdR (setR m w f ix x) v q jx = rdR m v q jx := rdR_wrR_ne _ _ _ _ _ _ _ _ h

/-- A field of a word just written. -/
theorem getR_wrR_self (m : Map Word) (v : Variant) (f : Fld) (ix : List Nat) (x : Nat) :
    getR (wrR m v f.reg ix x) v f ix = bits (x % 2 ^ 32) f.hi f.lo := by rw [getR, rdR_wrR_self]

/-- A register file from which other registers have been dropped reads the same at those kept. -/
theorem Map.at_keep {α : Type} (p : Nat → Bool) (m : Map α) (d : α) (k : Nat) (h : p k = true) : (m.keep p).at d k = m.at d k := by
  simp only [Map.at]
  congr 1
  induction m with
  | nil => rfl
  | cons e m ih =>
    obtain ⟨j, w⟩ := e
    by_cases hj : j = k
    · subst hj; simp [Map.keep, h, Map.find?]
    · by_cases hp : p j
      · have : Map.keep p ((j, w) :: m) = (j, w) :: Map.keep p m := by simp [Map.keep, hp]
        rw [this, Map.find?_cons, Map.find?_cons, ih]
      · have : Map.keep p ((j, w) :: m) = Map.keep p m := by simp [Map.keep, hp]
        rw [this, Map.find?_cons, if_neg hj, ih]

theorem Map.at_keep_out {α : Type} (p : Nat → Bool) (m : Map α) (d : α) (k : Nat) (h : p k = false) : (m.keep p).at d k = d := by
  simp only [Map.at]
  have : (m.keep p).find? k = none := by
    induction m with
    | nil => rfl
    | cons e m ih =>
      obtain ⟨j, w⟩ := e
      by_cases hp : p j
      · have : Map.keep p ((j, w) :: m) = (j, w) :: Map.keep p m := by simp [Map.keep, hp]
        rw [this, Map.find?_cons, if_neg (fun e => by rw [e, h] at hp; exact absurd hp (by decide)), ih]
      · have : Map.keep p ((j, w) :: m) = Map.keep p m := by simp [Map.keep, hp]
        rw [this, ih]
  rw [this]; rfl

theorem getR_keep (p : Nat → Bool) (m : Map Word) (v : Variant) (f : Fld) (ix : List Nat) (h : p (f.reg.addr ix) = true) :
    getR (m.keep p) v f ix = getR m v f ix := by simp only [getR, rdR, Map.at_keep p m _ _ h]

/-! ## Registers that the journal and the counting blocks touch -/

/-- The registers that an entry written into the journal may change. -/
def journalRegs : List Nat := [R.FT_LAST.base, R.TK_JRNL_HEAD.base, R.TK_JRNL_COUNT.base, R.TK_EVT.base]

theorem State.journalWrite_regsBut (s : State) (e : JEntry) : RegsBut journalRegs s (s.journalWrite e) := by
  unfold State.journalWrite
  extract_lets head seq t1 t2 t3
  have h1 : RegsBut journalRegs s t1 := (RegsBut.refl _ s).of_regs (State.retWrite_regs s _ _)
  clear_value t1
  have h2 : RegsBut journalRegs s t2 := h1.wr _ _ _ (by decide)
  clear_value t2
  have h3 : RegsBut journalRegs s t3 := (h2.set _ _ _ (by decide)).wr _ _ _ (by decide)
  clear_value t3
  split
  · exact h3.raise _ _ (by decide)
  · exact h3

theorem State.journal_regsBut (s : State) (e : JEntry) : RegsBut journalRegs s (s.journal e) := by
  unfold State.journal
  split
  · split
    · exact RegsBut.refl _ _
    · split
      · exact RegsBut.refl _ _
      · exact (s.journalWrite_regsBut _).of_regs rfl
  · exact s.journalWrite_regsBut e

theorem State.getR_journal (s : State) (e : JEntry) (v : Variant) (g : Fld) (jx : List Nat) (h : g.reg.addr jx ∉ journalRegs) :
    getR (s.journal e).regs v g jx = getR s.regs v g jx := by
  simp only [getR, rdR, s.journal_regsBut e _ _ h]

theorem State.getR_journalWrite (s : State) (e : JEntry) (v : Variant) (g : Fld) (jx : List Nat)
    (h : g.reg.addr jx ∉ journalRegs) : getR (s.journalWrite e).regs v g jx = getR s.regs v g jx := by
  simp only [getR, rdR, s.journalWrite_regsBut e _ _ h]

theorem State.addCount_regsBut (s : State) (b n k : Nat) : RegsBut [R.PC_OVF.addr [b]] s (s.addCount b n k) := by
  unfold State.addCount
  dsimp only
  generalize s.ev.cnt.put 0 (key2 b n) _ = c
  generalize s.keepSample b n = l
  split
  · have h : RegsBut [R.PC_OVF.addr [b]] s (State.wr { s with ev.cnt := c, ev.now := l }
        R.PC_OVF [b] (setBit (State.rd { s with ev.cnt := c, ev.now := l } R.PC_OVF [b]) n true)) :=
      RegsBut.wr ((RegsBut.refl _ s).of_regs rfl) _ _ _ (by simp)
    split
    · exact h
    · obtain ⟨d, hd⟩ := State.due_frame (State.wr { s with ev.cnt := c, ev.now := l }
        R.PC_OVF [b] (setBit (State.rd { s with ev.cnt := c, ev.now := l } R.PC_OVF [b]) n true)) (ovfSource b)
      exact h.of_regs (by rw [hd])
  · exact (RegsBut.refl _ s).of_regs rfl

theorem State.count_regsBut (s : State) (b ev k : Nat) (who : Option Nat) :
    RegsBut [R.PC_OVF.addr [b]] s (s.count b ev k who) := by
  unfold State.count
  split
  · refine forEach_induct (fun t => RegsBut [R.PC_OVF.addr [b]] s t) _ ?_ _ _ ((RegsBut.refl _ s).of_regs rfl)
    intro a t h
    split
    · exact h.trans (t.addCount_regsBut b a k)
    · exact h
  · exact RegsBut.refl _ _

theorem State.getR_countKind (s : State) (b i k : Nat) (who : Option Nat) (v : Variant) (g : Fld) (jx : List Nat)
    (h : g.reg.addr jx ≠ R.PC_OVF.addr [b]) : getR (s.countKind b i k who).regs v g jx = getR s.regs v g jx := by
  simp only [getR, rdR, State.countKind, s.count_regsBut _ _ _ _ _ _ (by simpa using h : g.reg.addr jx ∉ [R.PC_OVF.addr [b]])]

end Sys2Proof.Machine
end

