-- ==== Sys2Proof/Laws/Shared.lean ====
section
/-! SUPPORT. What the shared operations of the units can do, one lemma each: the Tack Room's starts and falls, the reset
header, resets of the dies and the commit registers. -/

namespace Sys2Proof.Machine.State

/-! ## Soft start, wakes and the way into STANDBY (R69, R97) -/

/-- A start either finds its conditions and sets SS_STATE to 1, or does nothing. -/
theorem tryStart_cases (s : State) : s.tryStart = s ∨ s.tryStart = s.set F.PS_STATUS_SS_STATE [] 1 := by
  unfold tryStart; split <;> simp

@[simp] theorem tryStart_variant (s : State) : s.tryStart.variant = s.variant := by
  rcases s.tryStart_cases with h | h <;> rw [h]; simp

@[simp] theorem tryStart_tack (s : State) : s.tryStart.tack = s.tack := by
  rcases s.tryStart_cases with h | h <;> rw [h]; simp

@[simp] theorem tryStart_mode (s : State) : s.tryStart.mode = s.mode := by
  rcases s.tryStart_cases with h | h <;> rw [h]; simp

theorem getR_tryStart (s : State) (g : Fld) (jx : List Nat)
    (h : g.reg.addr jx ≠ R.PS_STATUS.addr [] ∨ (g.reg = R.PS_STATUS ∧ 1 < g.lo ∧ jx = [])) :
    getR s.tryStart.regs s.variant g jx = getR s.regs s.variant g jx := by
  rcases s.tryStart_cases with e | e <;> rw [e]
  rw [regs_set]
  rcases h with h | ⟨h, h1, rfl⟩
  · exact getR_setR_reg _ _ _ _ _ _ _ _ h
  · exact getR_setR_field _ _ _ _ _ _ ⟨h, by decide, by decide, .inr h1⟩

/-- A wake is recorded in STANDBY alone; the stage may then start. -/
theorem wakeBy_mode (s : State) (c : Nat) : (s.wakeBy c).mode = s.mode := by
  unfold wakeBy; split <;> simp

@[simp] theorem wakeBy_variant (s : State) (c : Nat) : (s.wakeBy c).variant = s.variant := by
  unfold wakeBy; split <;> simp

/-- The fall to STANDBY ends in STANDBY. -/
@[simp] theorem enterStandby_mode (s : State) : s.enterStandby.mode = .standby := by
  unfold enterStandby; dsimp only; split <;> simp [wakeBy_mode]

@[simp] theorem enterStandby_variant (s : State) : s.enterStandby.variant = s.variant := by
  unfold enterStandby; dsimp only; split <;> simp

/-! ## The start of an emergency DRAIN (R78) -/

@[simp] theorem beginEmergency_regs (s : State) (c a : Nat) : (s.beginEmergency c a).regs = s.regs := by
  unfold beginEmergency; repeat' split
  all_goals rfl

@[simp] theorem beginEmergency_variant (s : State) (c a : Nat) : (s.beginEmergency c a).variant = s.variant := by
  unfold beginEmergency; repeat' split
  all_goals rfl

@[simp] theorem beginEmergency_mode (s : State) (c a : Nat) : (s.beginEmergency c a).mode = s.mode := by
  unfold beginEmergency; repeat' split
  all_goals rfl

theorem beginEmergency_held (s : State) (c a : Nat) : (s.beginEmergency c a).tack.switchHeld = s.tack.switchHeld := by
  unfold beginEmergency; repeat' split
  all_goals rfl

end Sys2Proof.Machine.State
end

