-- ==== Sys2Proof/WellFormed.lean ====
section
/-! DEFINITION. Which operands a command may carry: the ranges of dies, ports, slices, queues, engines, words and offsets (R1,
R3, R16, R65, R362, R429, R461, R494, R522, R528). A command outside its range has no effect in the machine. -/

namespace Sys2Proof

/-- The operands of a command lie in their ranges. -/
def Instr.wellFormed : Instr → Bool
  | .frameAdmit p _ _ _ _ _ => decide (p < 512)
  | .ingressPass sl borrow _ _ => decide (sl < 32) && borrow.all (decide <| · < 6)
  | .awlResult sl => decide (sl < 32)
  | .awlTimeout sl => decide (sl < 32)
  | .awlScan sl bad => decide (sl < 32) && bad.all (decide <| · < 512)
  | .flowOp (sl, _) => decide (sl < 32)
  | .flowResult sl => decide (sl < 32)
  | .flowTimeout sl => decide (sl < 32)
  | .flowAgerVisit i => decide (i < 0x400000)
  | .spanHoldExpiry kind sl x => decide (kind < 3) && decide (sl < 32) && decide (x < 0x4000)
  | .tailRecord p _ _ => decide (p < 512)
  | .timeMark d g k => decide (d < 8) && decide (g < 4) && decide (k < 64)
  | .cellCommit g _ => decide (g < 4)
  | .deepSpill g q => decide (g < 4) && decide (q < 0x8000)
  | .deepFill g q _ _ => decide (g < 4) && decide (q < 0x8000)
  | .calendarEntry g (d, _) => decide (g < 4) && decide (d < 8)
  | .girthQueueVisit g q _ => decide (g < 4) && decide (q < 0x8000)
  | .queueReport g q => decide (g < 4) && decide (q < 0x8000)
  | .queueAvgUpdate g => decide (g < 4)
  | .lacingCellArrive d g k borrow => decide (d < 8) && decide (g < 4) && decide (k < 64) && borrow.all (decide <| · < 6)
  | .lacingTimeout d q => decide (d < 8) && decide (q < 0x8000)
  | .releaseNotice d => decide (d < 8)
  | .roomSignal d k c => decide (d < 8) && decide (k < 65) && decide (c < 8)
  | .reinSelect p _ => decide (p < 512)
  | .frameTxDone p _ => decide (p < 512)
  | .egressAgeSweep p c => decide (p < 512) && decide (c < 8)
  | .gateChange p => decide (p < 512)
  | .paceWindow _ _ => true
  | .loopEval x _ => decide (x < 13)
  | .sensorRead x _ => decide (x < 13)
  | .wearTimeAdd x _ => decide (x < 13)
  | .replanDue => true
  | .ptReplanWrite mask => decide (mask < 0x100000000)
  | .replanClaimTimeout => true
  | .probeStep _ _ => true
  | .trimStep _ _ => true
  | .planApply _ => true
  | .planRecordSave (x, us) => decide (x < 13) && decide (us ≤ 50000)
  | .claimRequest a x => decide (a < 6) && decide (x < 13)
  | .claimGrant x => decide (x < 13)
  | .claimStall x => decide (x < 13)
  | .claimResume x => decide (x < 13)
  | .claimHoldLimit x => decide (x < 13)
  | .claimRelease x => decide (x < 13)
  | .vinQualified _ => true
  | .softStartDone => true
  | .softStartTimeout => true
  | .softStartRetry => true
  | .reverseTrip => true
  | .overcurrentTrip => true
  | .ovCut => true
  | .switchRetry => true
  | .comparatorTrip n _ _ => decide (n < 8)
  | .emergencyDrain => true
  | .macStop => true
  | .tallyFreeze => true
  | .transmittersOff => true
  | .dieTotalsArrive d => decide (d < 8)
  | .lossMarkerSeal => true
  | .journalTailWrite => true
  | .railsOff => true
  | .flashCopy => true
  | .flashCopyDone _ => true
  | .vauxReturn => true
  | .vauxCycle => true
  | .powerOnReset straps => decide (straps < 8)
  | .timeStep value => decide (value < 0x100000000)
  | .slewWrite value => decide (value < 0x100000000)
  | .slewApply => true
  | .addendWrite value => decide (value < 0x10000000000)
  | .timeRead _ frac => decide (frac < 0x10000)
  | .ppsEdge _ => true
  | .ppsHoldover => true
  | .ppsOutPulse => true
  | .ppsOutEnd => true
  | .journalWrite => true
  | .smbusSetOffset offset => decide (offset < 0x100000000)
  | .smbusBlockRead => true
  | .retDataRead _ => true
  | .wakeNow _ => true
  | .timedWake => true
  | .commitGo => true
  | .diePrepared x _ => decide (x < 13)
  | .prepDeadline => true
  | .commitApply lagging => decide (lagging < 0x2000)
  | .applyReport x => decide (x < 13)
  | .commitLag => true
  | .lagRetryExpiry => true
  | .drainComplete => true
  | .drainBound => true
  | .epochDrained => true
  | .resetNAssert _ _ => true
  | .resetNRelease => true
  | .hostPlaneReset => true
  | .stitcherReset => true
  | .stitcherResetDone => true
  | .forwardingRestart => true
  | .vfFlr f => decide (f < 16)
  | .loadAttempt bad => decide (bad < 0x2000)
  | .loadVerified => true
  | .sectionApply => true
  | .ddrTrainDone _ _ => true
  | .loadComplete => true
  | .loadFail _ => true
  | .loadTimeout => true
  | .flashReadPage => true
  | .flashProgramPage => true
  | .flashEraseSector => true
  | .flashCommit => true
  | .flashOpDone => true
  | .fuseKeyProgram slot _ => decide (slot < 4)
  | .fuseKeyRevoke slot _ => decide (slot < 4)
  | .fuseSecverRaise _ => true
  | .reportDataRead => true
  | .groupConfigWrite g v => decide (g < 64) && decide (v < 0x100000000)
  | .calendarRebuild d => decide (d < 8)
  | .portCtrlWrite p v => decide (p < 512) && decide (v < 0x100000000)
  | .anComplete p _ pause _ => decide (p < 512) && decide (pause < 4)
  | .anRestart p => decide (p < 512)
  | .linkUp (p, _) => decide (p < 512)
  | .linkDown p _ _ _ => decide (p < 512)
  | .flushRequest g p => decide (g < 4) && decide (p < 512)
  | .flushMarker g p => decide (g < 4) && decide (p < 512)
  | .pauseRx p q => decide (p < 512) && decide (q < 0x10000)
  | .pfcRx p vec _ => decide (p < 512) && decide (vec < 256)
  | .macctlOtherRx p => decide (p < 512)
  | .pauseExpiry p pri => decide (p < 512) && decide (pri < 9)
  | .fcXoff p pri => decide (p < 512) && decide (pri < 9)
  | .fcXon p pri => decide (p < 512) && decide (pri < 9)
  | .pfcRefresh p pri => decide (p < 512) && decide (pri < 9)
  | .fifoXoff g => decide (g < 64)
  | .fifoXon g => decide (g < 64)
  | .pfcWdTrip p pri => decide (p < 512) && decide (pri < 8)
  | .pfcWdRecover p pri => decide (p < 512) && decide (pri < 8)
  | .txtsPop p => decide (p < 512)
  | .brandInjectArm d p => decide (d < 8) && decide (p < 512)
  | .brandInjectCancel d => decide (d < 8)
  | .puntArrive => true
  | .puntPolicerWrite d r _ v => decide (d < 8) && decide (r < 64) && decide (v < 0x100000000)
  | .awlThrottleEval _ => true
  | .awlBudgetWrite d v => decide (d < 8) && decide (v < 0x100000000)
  | .awlSetReloaded a _ => decide (a < 16)
  | .scrubBurst x tbl _ _ _ => decide (x < 13) && decide (tbl < 64)
  | .seqWriteApply d => decide (d < 8)
  | .learnRequest => true
  | .hitNotice => true
  | .agerVisit slot => decide (slot < 0x200000)
  | .ageDecide slot => decide (slot < 0x200000)
  | .entryReload => true
  | .planWrite d p k v => decide (d < 8) && decide (p < 16) && decide (k < 6) && decide (v < 0x100000000)
  | .compactionStart => true
  | .compactionMove d => decide (d < 8)
  | .compactionDone => true
  | .compactionStop => true
  | .osWriteWaitTimeout => true
  | .osThrottleEval d _ => decide (d < 8)
  | .repattern => true
  | .repatternResume => true
  | .bufferAlloc n => decide (n < 16)
  | .bufferFree h => decide (h < 0x100000000)
  | .captureRecord => true
  | .sampleRecord => true
  | .captureRingEnable v => decide (v < 0x100000000)
  | .gaitArmWrite p v => decide (p < 512) && decide (v < 0x100000000)
  | .tallyCut => true
  | .tallySetDone => true
  | .tallyDivert => true
  | .tallyTimeWrite v => decide (v < 0x100000000)
  | .tallyLogEnable v => decide (v < 0x100000000)
  | .nop e => decide (e < 32)
  | .add e => decide (e < 32)
  | .sub e => decide (e < 32)
  | .and e => decide (e < 32)
  | .or e => decide (e < 32)
  | .xor e => decide (e < 32)
  | .shl e => decide (e < 32)
  | .shr e => decide (e < 32)
  | .sar e => decide (e < 32)
  | .mul e => decide (e < 32)
  | .minu e => decide (e < 32)
  | .maxu e => decide (e < 32)
  | .bswap e => decide (e < 32)
  | .clz e => decide (e < 32)
  | .popcnt e => decide (e < 32)
  | .addImm e => decide (e < 32)
  | .subImm e => decide (e < 32)
  | .andImm e => decide (e < 32)
  | .orImm e => decide (e < 32)
  | .xorImm e => decide (e < 32)
  | .shlImm e => decide (e < 32)
  | .shrImm e => decide (e < 32)
  | .sarImm e => decide (e < 32)
  | .mulImm e => decide (e < 32)
  | .minuImm e => decide (e < 32)
  | .maxuImm e => decide (e < 32)
  | .bswapImm e => decide (e < 32)
  | .clzImm e => decide (e < 32)
  | .popcntImm e => decide (e < 32)
  | .li e => decide (e < 32)
  | .lui e => decide (e < 32)
  | .ld e => decide (e < 32)
  | .st e => decide (e < 32)
  | .beq e => decide (e < 32)
  | .bne e => decide (e < 32)
  | .bltu e => decide (e < 32)
  | .bgeu e => decide (e < 32)
  | .bf e => decide (e < 32)
  | .jmp e => decide (e < 32)
  | .jal e => decide (e < 32)
  | .jr e => decide (e < 32)
  | .wait e => decide (e < 32)
  | .waitDeadline e t => decide (e < 32) && decide (t < 8)
  | .signal e => decide (e < 32)
  | .chopen e => decide (e < 32)
  | .chw e => decide (e < 32)
  | .chpost e => decide (e < 32)
  | .chr e => decide (e < 32)
  | .chfree e => decide (e < 32)
  | .getpunt e => decide (e < 32)
  | .rinj e => decide (e < 32)
  | .hpunt e => decide (e < 32)
  | .fdrop e => decide (e < 32)
  | .balloc e => decide (e < 32)
  | .bfree e => decide (e < 32)
  | .haddr e => decide (e < 32)
  | .dma e => decide (e < 32)
  | .dmaDone e t tag => decide (e < 32) && decide (t < 8) && decide (tag < 16)
  | .dmaw e => decide (e < 32)
  | .crc e => decide (e < 32)
  | .bcopy e => decide (e < 32)
  | .lwalk e => decide (e < 32)
  | .hins e => decide (e < 32)
  | .fctx e => decide (e < 32)
  | .mnext e => decide (e < 32)
  | .top e => decide (e < 32)
  | .trap e => decide (e < 32)
  | .eret e => decide (e < 32)
  | .customerOpcode e => decide (e < 32)
  | .stallEnd e t => decide (e < 32) && decide (t < 8)
  | .machineCheck e a _ => decide (e < 32) && decide (a < 0x10000)
  | .microwordRewrite a => decide (a < 0x10000)
  | .threadStop e t => decide (e < 32) && decide (t < 8)
  | .threadResume e t => decide (e < 32) && decide (t < 8)
  | .threadStep e t => decide (e < 32) && decide (t < 8)
  | .engineFreeze e _ => decide (e < 32)
  | .channelRelease e v => decide (e < 32) && decide (v < 0x100000000)
  | .debugRegWrite e _ v => decide (e < 32) && decide (v < 0x100000000)
  | .driverOk fn => decide (fn < 16)
  | .queueEnable kind fn q v => decide (kind < 3) && decide (fn < 16) && decide (q < 2048) && decide (v < 0x100000000)
  | .sqDisable q => decide (q < 2048)
  | .cqDisable c => decide (c < 2048)
  | .erDisable r => decide (r < 64)
  | .sqDoorbell q v => decide (q < 2048) && decide (v < 0x100000000)
  | .sqEntryFetch q i _ => decide (q < 2048) && decide (i < 0x10000)
  | .cqDoorbell c v => decide (c < 2048) && decide (v < 0x100000000)
  | .erHeadWrite r v => decide (r < 64) && decide (v < 0x100000000)
  | .completionWrite c => decide (c < 2048)
  | .cqCoalTimer c => decide (c < 2048)
  | .tableRead q i _ => decide (q < 2048) && decide (i < 0x10000)
  | .tableWrite q i _ => decide (q < 2048) && decide (i < 0x10000)
  | .tableInsert q i _ => decide (q < 2048) && decide (i < 0x10000)
  | .tableDelete q i _ => decide (q < 2048) && decide (i < 0x10000)
  | .bankCopy q i _ => decide (q < 2048) && decide (i < 0x10000)
  | .setWrite q i _ => decide (q < 2048) && decide (i < 0x10000)
  | .setValidate q i _ => decide (q < 2048) && decide (i < 0x10000)
  | .scan q i _ => decide (q < 2048) && decide (i < 0x10000)
  | .ringFlashRead q i _ => decide (q < 2048) && decide (i < 0x10000)
  | .ringFlashProgram q i _ => decide (q < 2048) && decide (i < 0x10000)
  | .ringFlashErase q i _ => decide (q < 2048) && decide (i < 0x10000)
  | .ringFlashCommit q i _ => decide (q < 2048) && decide (i < 0x10000)
  | .ringNop q i _ => decide (q < 2048) && decide (i < 0x10000)
  | .rxBuf q i _ => decide (q < 2048) && decide (i < 0x10000)
  | .rxFlushTimer q => decide (q < 2048)
  | .inject q i _ => decide (q < 2048) && decide (i < 0x10000)
  | .injectFullTimeout q i => decide (q < 2048) && decide (i < 0x10000)
  | .pageResponse g code => decide (g < 512) && decide (code < 16)
  | .priTimeout g => decide (g < 512)
  | .translationDone _ first _ _ _ => decide (first < 0x10000000000000)
  | .atsInvalidate fn pas first _ => decide (fn < 16) && decide (pas < 0x100001) && decide (first < 0x10000000000000)
  | .invalidateComplete => true
  | .retrainDue c _ => decide (c < 8)
  | .retrainDone _ => true
  | .ddrPatrolScrub o _ _ => decide (o < 0x4000000000)
  | .ddrUncorrectable o _ _ _ _ => decide (o < 0x4000000000)
  | .pageRetire => true
  | .retireCopyDone => true
  | .eventSourceWrite src v => decide (src < 0x1000) && decide (v < 0x100000000)
  | .eventDeliver src => decide (src < 0x1000)
  | .msixUnmask fn vec _ => decide (fn < 16) && vec.all (decide <| · < 2048)
  | .counterRead fn _ b n => decide (fn < 16) && decide (b < 176) && decide (n < 8)
  | .latchedRead fn off => decide (fn < 16) && decide (off < 0x4000000)
  | .counterSelect b n v => decide (b < 176) && decide (n < 8) && decide (v < 0x100000000)
  | .counterFreeze v => decide (v < 0x100000000)
  | .bwWindow => true
  | .bwWindowWrite v => decide (v < 0x100000000)
  | .strapCrcError b o _ => decide (b < 176) && decide (o < 176)
  | .faultReport _ die unit cause _ d0 d1 => decide (die < 13) && decide (unit < 256) && decide (cause < 0x10000) && decide (d0 < 0x10000000000000000) && decide (d1 < 0x10000000000000000)
  | .unitHang x unit _ _ => decide (x < 13) && decide (unit < 256)
  | .dieIsolate => true
  | .registerWrite _ fn off v => decide (fn < 16) && decide (off < 0x4000000) && decide (v < 0x100000000)
  | .comparatorWindowReturn n _ _ => decide (n < 8)
  | .vinUnqualified _ => true
  | .smbusAlertResponse => true
  | .illegalOpcode e => decide (e < 32)
  | .sriovEnable n => decide (n < 16)
  | .priEnableToggle fn _ => decide (fn < 16)

end Sys2Proof
end

