-- ==== Sys2Proof/Tests/Slice0.lean ====
section
/-! SUPPORT. Tests: operands out of range, single steps with the values the spec gives, and for every statement with hypotheses a
state and operands that meet them. -/

open Sys2Proof Sys2Proof.Machine Sys2Proof.Machine.State

set_option Elab.async false


namespace Sys2Proof.Machine.State
/-- A state with fields of registers set. -/
def on (s : State) (l : List (Fld × List Nat × Nat)) : State := l.foldl (fun s x => s.set x.1 x.2.1 x.2.2) s
end Sys2Proof.Machine.State
namespace Sys2Proof.Tests
/-- The device after power-on. -/
def rst : State := State.reset
/-- A device in RUN that has been up for a long time. -/
def up : State := { rst.on [(F.PS_STATUS_SS_STATE, [], 2), (F.PS_STATUS_RAILS_ON, [], 1)] with mode := .run, clock := { sec := 1000, tick := 10 ^ 15 } }
/-- Port 0 alone in its group, up. -/
def port0 : State :=
  (up.wr R.PG_GRP_CFG [0, 0] 0x00000001).on [(F.PG_PORT_CTRL_ADMIN_UP, [0, 0], 1), (F.PG_PORT_STAT_LINK_UP, [0, 0], 1), (F.PG_PORT_LEN_MAX_LEN, [0, 0], 1518)]
/-- 60 zero bytes with their FCS. -/
def goodFrame : List Byte := List.replicate 60 0 ++ leBytes (crc32 (List.replicate 60 0)) 4
/-- Every monitor at 60,000 sixteenths of a token per µs. -/
def fastPace : Map Nat := (List.range 74).map fun m => (m, 60000)
/-- Flash cells from runs of bytes. -/
def cells (l : List (Nat × List Byte)) : Map Byte := l.foldl (fun m x => m.putAll 0xFF x.1 x.2) []
def blk (h : Nat) : List Byte := leBytes (0x53424B43 + 1 * 2 ^ 32 + 0 * 2 ^ 48 + 1 * 2 ^ 64 + 0x200 * 2 ^ 96) 16 ++ beBytes h 48
def slotFlash (h : Nat) : FlashDev :=
  { cells := cells [(0, blk h ++ leBytes (crc32c (blk h)) 4), (0x100, leBytes 0x434F4D54 4), (0x10000C, [0, 0, 0, 0, 0, 1, 0, 0]), (0x100028, [0, 0, 0, 0])] }
/-- A flash whose slot 0 holds an image without payload, and one whose digest is wrong. -/
def oneSlot : FlashDev := slotFlash (sha384 [])
def badSlot : FlashDev := slotFlash 0
/-- Every DDR5 channel trained, with 1 MiB to see. -/
def mem : State := (List.range 8).foldl (fun s c => s.set F.DM_CH_STAT_TRAINED [c] 1) (up.on [(F.DM_CFG_MTS, [], 1), (F.DM_SIZE_VISIBLE_MIB, [], 1)])
/-- A frame that waits in an egress queue, whole and with its tail still on its way. -/
def waitingFrame : EFrame := { m := { t16 := 65536 * 10 ^ 12 }, bytes := List.replicate 64 0, brand := 0 }
def cutFrame : EFrame := { m := { t16 := 65536 * 10 ^ 12 }, bytes := List.replicate 64 0, brand := 0, whole := false, ct := true }
def sending : State := { port0 with fab.egq := [(key2 0 0, [waitingFrame])] }
def sendingCut : State := { port0 with fab.egq := [(key2 0 0, [cutFrame])] }
/-- A Girth queue with columns to spill. -/
def spilling : State := { up with fab.queue := [(key2 0 (deepId 0), (List.range 200).map fun i => { id := i, kind := 0, at_ := 0, cell := {} })] }
/-- `s` with thread 7 of engine 31 running at instruction `i`, its A registers `a`. -/
def engineOf (s : State) (i : Nat) (a : Map Nat) : State :=
  { s with st := { s.st with
    thr := s.st.thr.put {} 255 { s.st.thr.at {} 255 with a := a }, eng := s.st.eng.put {} 31 { s.st.eng.at {} 31 with cur := some 7 }
    prog := Map.put [] 0 0 i, disp := [(insOp i, 2 ^ 16)] } }
def engine (i : Nat) (a : Map Nat) : State := engineOf up i a
/-- An instruction of the REG form on A1, A2 and A3, and one of the IMM form. -/
def reg (op : Nat) : Nat := op * 2 ^ 24 + 1 * 2 ^ 17 + 2 * 2 ^ 10 + 3 * 2 ^ 3
def imm (op n : Nat) : Nat := op * 2 ^ 24 + 1 * 2 ^ 17 + 2 * 2 ^ 10 + n
def runsAt (s : State) (i : Nat) : Bool :=
  s.enginesUp && ((s.settle 31).eng 31).cur == some 7 && (s.settle 31).threadReady 31 7 && (s.settle 31).instrAt 31 7 == i
    && s.dispatched (insOp i)
theorem running_of {s : State} {i : Nat} (h : runsAt s i = true) : Running 31 7 i s (s.settle 31) := by
  simp only [runsAt, Bool.and_eq_true, beq_iff_eq] at h
  exact ⟨by decide, h.1.1.1.1, rfl, h.1.1.1.2, h.1.1.2, h.1.2, h.2⟩
/-- The parts of an access that went well. -/
def accBytes : Acc → List Byte | .ok bs _ => bs | _ => []
def accState (s : State) : Acc → State | .ok _ t => t | _ => s
def accOk : Acc → Bool | .ok _ _ => true | _ => false
theorem acc_eq {a : Acc} (s : State) (h : accOk a = true) : a = .ok (accBytes a) (accState s a) := by
  cases a <;> first | rfl | cases h
/-- A running thread whose next instruction a command of opcode `op` carries out. -/
def OpWitness (op : Nat) (p : Nat → Nat → Nat → State → Prop) : Prop := ∃ e t i s u, Running e t i s u ∧ insOp i = op ∧ p e t i u
theorem opWitness_of {op : Nat} {p : Nat → Nat → Nat → State → Prop} (i : Nat) (s : State) (h : runsAt s i = true) (ho : insOp i = op)
    (hp : p 31 7 i (s.settle 31)) : OpWitness op p := ⟨31, 7, i, s, s.settle 31, running_of h, ho, hp⟩
/-- A started entry, without data and with its data here, that an operation carries out. -/
def JobWitness (turn : State → Nat → Nat → Bool) (is : Nat → Bool) : Prop :=
  (∃ (s : State) (q i : Nat) (j : Job), turn s q i = true ∧ s.jobOf q i is = some j ∧ j.stage = 0 ∧
    (opReads j.ent = 0 → s.opBarred j.fn j.ent [] = none) ∧ entInd j.ent = false ∧ s.opBarred j.fn j.ent j.got = none) ∧
  (∃ (s u : State) (q i : Nat) (j : Job) (fr : List (Nat × Nat)), turn s q i = true ∧ s.jobOf q i is = some j ∧
    j.stage = 0 ∧ (opReads j.ent = 0 → s.opBarred j.fn j.ent [] = none) ∧ entInd j.ent = true ∧ j.frags = some fr ∧
    (opReads j.ent = 0 ∨ entLen j.ent ≤ j.got.length) ∧ u = s.setJob j ∧ u.opBarred j.fn j.ent j.got = none)
/-- A device with every feature of function 0 accepted and one started entry on SQ 2047. -/
def busy (j : Job) : State :=
  { (up.wr R.FEAT_ACCEPT [0] 0xFFFFFFFF).on [(F.FEAT_CTRL_DRIVER_OK, [], 1)] with rc.jobs := [j] }
def job (ent : Nat) : Job := { q := 2047, idx := 5, ent := ent, cq := 3, fn := 0, pas := 0, at_ := 0 }
def jobData (ent : Nat) (bs : List Byte) : Job := { job (ent + 2 ^ 9 + bs.length * 2 ^ 192) with frags := some [(0x1000, bs.length)], got := bs }
theorem jobWitness_of {turn : State → Nat → Nat → Bool} {is : Nat → Bool} (j k : Job)
    (hj : turn (busy j) 2047 5 = true ∧ (busy j).jobOf 2047 5 is = some j ∧ j.stage = 0 ∧
      (opReads j.ent = 0 → (busy j).opBarred j.fn j.ent [] = none) ∧ entInd j.ent = false ∧ (busy j).opBarred j.fn j.ent j.got = none)
    (fr : List (Nat × Nat)) (hk : turn (busy k) 2047 5 = true ∧ (busy k).jobOf 2047 5 is = some k ∧ k.stage = 0 ∧
      (opReads k.ent = 0 → (busy k).opBarred k.fn k.ent [] = none) ∧ entInd k.ent = true ∧ k.frags = some fr ∧
      (opReads k.ent = 0 ∨ entLen k.ent ≤ k.got.length) ∧ ((busy k).setJob k).opBarred k.fn k.ent k.got = none) : JobWitness turn is :=
  ⟨⟨_, _, _, j, hj⟩, ⟨_, _, _, _, k, fr, hk.1, hk.2.1, hk.2.2.1, hk.2.2.2.1, hk.2.2.2.2.1, hk.2.2.2.2.2.1, hk.2.2.2.2.2.2.1, rfl, hk.2.2.2.2.2.2.2⟩⟩
theorem some_eq {α : Type} {o : Option α} (h : o.isSome = true) : o = some (o.get h) := by simp
theorem pair_eq {α β : Type} {p : α × β} {a : α} (h : p.1 = a) : p = (a, p.2) := by cases p; simp_all

/-! ## Commands with an operand out of its range, one for each check of WellFormed.lean -/

theorem test_ill_formed_1 : (
  [.frameAdmit 512 [] (0, false) [] 0 false, .ingressPass 32 none false 0, .ingressPass 0 (some 6) false 0, .awlResult 32,
   .awlTimeout 32, .awlScan 32 none, .awlScan 0 (some 512), .flowOp (32, 0), .flowResult 32, .flowTimeout 32,
   .flowAgerVisit 0x400000, .spanHoldExpiry 3 0 0, .spanHoldExpiry 0 32 0, .spanHoldExpiry 0 0 0x4000,
   .tailRecord 512 [] (false, []), .timeMark 8 0 0, .timeMark 0 4 0, .timeMark 0 0 64, .cellCommit 4 (false, 0),
   .deepSpill 4 0, .deepSpill 0 0x8000, .deepFill 4 0 0 false, .deepFill 0 0x8000 0 false, .calendarEntry 4 (0, 0),
   .calendarEntry 0 (8, 0), .girthQueueVisit 4 0 0, .girthQueueVisit 0 0x8000 0, .queueReport 4 0, .queueReport 0 0x8000,
   .queueAvgUpdate 4, .lacingCellArrive 8 0 0 none, .lacingCellArrive 0 4 0 none, .lacingCellArrive 0 0 64 none,
   .lacingCellArrive 0 0 0 (some 6), .lacingTimeout 8 0, .lacingTimeout 0 0x8000, .releaseNotice 8, .roomSignal 8 0 0,
   .roomSignal 0 65 0, .roomSignal 0 0 8, .reinSelect 512 0, .frameTxDone 512 0, .egressAgeSweep 512 0, .egressAgeSweep 0 8,
   .gateChange 512, .loopEval 13 [], .sensorRead 13 [], .wearTimeAdd 13 0, .ptReplanWrite 0x100000000,
   .planRecordSave (13, 0), .planRecordSave (0, 50001), .claimRequest 6 0, .claimRequest 0 13, .claimGrant 13,
   .claimStall 13, .claimResume 13, .claimHoldLimit 13, .claimRelease 13, .comparatorTrip 8 0 0, .dieTotalsArrive 8] : List Instr).all (fun c => !c.wellFormed) = true := by decide +kernel

theorem test_ill_formed_2 : (
  [.powerOnReset 8, .timeStep 0x100000000, .slewWrite 0x100000000, .addendWrite 0x10000000000, .timeRead false 0x10000,
   .smbusSetOffset 0x100000000, .diePrepared 13 false, .commitApply 0x2000, .applyReport 13, .vfFlr 16, .loadAttempt 0x2000,
   .fuseKeyProgram 4 false, .fuseKeyRevoke 4 false, .groupConfigWrite 64 0, .groupConfigWrite 0 0x100000000,
   .calendarRebuild 8, .portCtrlWrite 512 0, .portCtrlWrite 0 0x100000000, .anComplete 512 [] 0 (false, false),
   .anComplete 0 [] 4 (false, false), .anRestart 512, .linkUp (512, 0, false, false, false, 0),
   .linkDown 512 false (0, false, false, false) 0, .flushRequest 4 0, .flushRequest 0 512, .flushMarker 4 0,
   .flushMarker 0 512, .pauseRx 512 0, .pauseRx 0 0x10000, .pfcRx 512 0 [], .pfcRx 0 256 [], .macctlOtherRx 512,
   .pauseExpiry 512 0, .pauseExpiry 0 9, .fcXoff 512 0, .fcXoff 0 9, .fcXon 512 0, .fcXon 0 9, .pfcRefresh 512 0,
   .pfcRefresh 0 9, .fifoXoff 64, .fifoXon 64, .pfcWdTrip 512 0, .pfcWdTrip 0 8, .pfcWdRecover 512 0, .pfcWdRecover 0 8,
   .txtsPop 512, .brandInjectArm 8 0, .brandInjectArm 0 512, .brandInjectCancel 8, .puntPolicerWrite 8 0 false 0,
   .puntPolicerWrite 0 64 false 0, .puntPolicerWrite 0 0 false 0x100000000, .awlBudgetWrite 8 0,
   .awlBudgetWrite 0 0x100000000, .awlSetReloaded 16 false, .scrubBurst 13 0 0 0 false, .scrubBurst 0 64 0 0 false,
   .seqWriteApply 8, .agerVisit 0x200000] : List Instr).all (fun c => !c.wellFormed) = true := by decide +kernel

theorem test_ill_formed_3 : (
  [.ageDecide 0x200000, .planWrite 8 0 0 0, .planWrite 0 16 0 0, .planWrite 0 0 6 0, .planWrite 0 0 0 0x100000000,
   .compactionMove 8, .osThrottleEval 8 0, .bufferAlloc 16, .bufferFree 0x100000000, .captureRingEnable 0x100000000,
   .gaitArmWrite 512 0, .gaitArmWrite 0 0x100000000, .tallyTimeWrite 0x100000000, .tallyLogEnable 0x100000000, .nop 32,
   .add 32, .sub 32, .and 32, .or 32, .xor 32, .shl 32, .shr 32, .sar 32, .mul 32, .minu 32, .maxu 32, .bswap 32, .clz 32,
   .popcnt 32, .addImm 32, .subImm 32, .andImm 32, .orImm 32, .xorImm 32, .shlImm 32, .shrImm 32, .sarImm 32, .mulImm 32,
   .minuImm 32, .maxuImm 32, .bswapImm 32, .clzImm 32, .popcntImm 32, .li 32, .lui 32, .ld 32, .st 32, .beq 32, .bne 32,
   .bltu 32, .bgeu 32, .bf 32, .jmp 32, .jal 32, .jr 32, .wait 32, .waitDeadline 32 0, .waitDeadline 0 8, .signal 32,
   .chopen 32] : List Instr).all (fun c => !c.wellFormed) = true := by decide +kernel

theorem test_ill_formed_4 : (
  [.chw 32, .chpost 32, .chr 32, .chfree 32, .getpunt 32, .rinj 32, .hpunt 32, .fdrop 32, .balloc 32, .bfree 32, .haddr 32,
   .dma 32, .dmaDone 32 0 0, .dmaDone 0 8 0, .dmaDone 0 0 16, .dmaw 32, .crc 32, .bcopy 32, .lwalk 32, .hins 32, .fctx 32,
   .mnext 32, .top 32, .trap 32, .eret 32, .customerOpcode 32, .stallEnd 32 0, .stallEnd 0 8, .machineCheck 32 0 false,
   .machineCheck 0 0x10000 false, .microwordRewrite 0x10000, .threadStop 32 0, .threadStop 0 8, .threadResume 32 0,
   .threadResume 0 8, .threadStep 32 0, .threadStep 0 8, .engineFreeze 32 false, .channelRelease 32 0,
   .channelRelease 0 0x100000000, .debugRegWrite 32 false 0, .debugRegWrite 0 false 0x100000000, .driverOk 16,
   .queueEnable 3 0 0 0, .queueEnable 0 16 0 0, .queueEnable 0 0 2048 0, .queueEnable 0 0 0 0x100000000, .sqDisable 2048,
   .cqDisable 2048, .erDisable 64, .sqDoorbell 2048 0, .sqDoorbell 0 0x100000000, .sqEntryFetch 2048 0 false,
   .sqEntryFetch 0 0x10000 false, .cqDoorbell 2048 0, .cqDoorbell 0 0x100000000, .erHeadWrite 64 0,
   .erHeadWrite 0 0x100000000, .completionWrite 2048, .cqCoalTimer 2048] : List Instr).all (fun c => !c.wellFormed) = true := by decide +kernel

theorem test_ill_formed_5 : (
  [.tableRead 2048 0 false, .tableRead 0 0x10000 false, .tableWrite 2048 0 false, .tableWrite 0 0x10000 false,
   .tableInsert 2048 0 false, .tableInsert 0 0x10000 false, .tableDelete 2048 0 false, .tableDelete 0 0x10000 false,
   .bankCopy 2048 0 false, .bankCopy 0 0x10000 false, .setWrite 2048 0 false, .setWrite 0 0x10000 false,
   .setValidate 2048 0 false, .setValidate 0 0x10000 false, .scan 2048 0 false, .scan 0 0x10000 false,
   .ringFlashRead 2048 0 false, .ringFlashRead 0 0x10000 false, .ringFlashProgram 2048 0 false,
   .ringFlashProgram 0 0x10000 false, .ringFlashErase 2048 0 false, .ringFlashErase 0 0x10000 false,
   .ringFlashCommit 2048 0 false, .ringFlashCommit 0 0x10000 false, .ringNop 2048 0 false, .ringNop 0 0x10000 false,
   .rxBuf 2048 0 false, .rxBuf 0 0x10000 false, .rxFlushTimer 2048, .inject 2048 0 false, .inject 0 0x10000 false,
   .injectFullTimeout 2048 0, .injectFullTimeout 0 0x10000, .pageResponse 512 0, .pageResponse 0 16, .priTimeout 512,
   .translationDone 0 0x10000000000000 0 false false, .atsInvalidate 16 0 0 0, .atsInvalidate 0 0x100001 0 0,
   .atsInvalidate 0 0 0x10000000000000 0, .retrainDue 8 0, .ddrPatrolScrub 0x4000000000 false false,
   .ddrUncorrectable 0x4000000000 0 0 0 0, .eventSourceWrite 0x1000 0, .eventSourceWrite 0 0x100000000, .eventDeliver 0x1000,
   .msixUnmask 16 none false, .msixUnmask 0 (some 2048) false, .counterRead 16 false 0 0, .counterRead 0 false 176 0,
   .counterRead 0 false 0 8, .latchedRead 16 0, .latchedRead 0 0x4000000, .counterSelect 176 0 0, .counterSelect 0 8 0,
   .counterSelect 0 0 0x100000000, .counterFreeze 0x100000000, .bwWindowWrite 0x100000000, .strapCrcError 176 0 false,
   .strapCrcError 0 176 false] : List Instr).all (fun c => !c.wellFormed) = true := by decide +kernel

theorem test_ill_formed_6 : (
  [.faultReport false 13 0 0 false 0 0, .faultReport false 0 256 0 false 0 0, .faultReport false 0 0 0x10000 false 0 0,
   .faultReport false 0 0 0 false 0x10000000000000000 0, .faultReport false 0 0 0 false 0 0x10000000000000000,
   .unitHang 13 0 0 0, .unitHang 0 256 0 0, .registerWrite false 16 0 0, .registerWrite false 0 0x4000000 0,
   .registerWrite false 0 0 0x100000000, .comparatorWindowReturn 8 0 0, .illegalOpcode 32, .sriovEnable 16,
   .priEnableToggle 16 0] : List Instr).all (fun c => !c.wellFormed) = true := by decide +kernel

/-! ## One-step tests; each expected value is the cited rule's -/

/-- The state after one command. -/
def next (c : Instr) (s : State) : State :=
  match exec c s with
  | .next t => t
  | _ => s
/-- A register, and a flag, of thread 7 of engine 31. -/
def aReg (s : State) (k : Nat) : Nat := s.opRead 31 7 k

-- R437: MUL keeps the low 64 bits; ADD sets C; Z and N follow D
theorem test_add_wraps : let t := next (.add 31) (engine (reg 1) [(2, 2 ^ 64 - 1), (3, 1)])
    aReg t 1 = 0 ∧ t.flag 31 7 flagZ = true ∧ t.flag 31 7 flagC = true ∧ (t.thr 31 7).pc = 1 := by decide +kernel
theorem test_sub_negative : let t := next (.sub 31) (engine (reg 2) [(2, 3), (3, 5)])
    aReg t 1 = 2 ^ 64 - 2 ∧ (t.thr 31 7).pc = 1 := by decide +kernel
-- R437: shifts use B[5:0]
theorem test_shl_by_65 : aReg (next (.shl 31) (engine (reg 6) [(2, 3), (3, 65)])) 1 = 6 := by decide +kernel
theorem test_sar_keeps_the_sign : aReg (next (.sar 31) (engine (reg 8) [(2, 2 ^ 63), (3, 62)])) 1 = 2 ^ 64 - 2 := by decide +kernel
theorem test_mul_low : aReg (next (.mul 31) (engine (reg 9) [(2, 2 ^ 63), (3, 3)])) 1 = 2 ^ 63 := by decide +kernel
theorem test_bswap : aReg (next (.bswap 31) (engine (reg 12) [(2, 0x0102030405060708)])) 1 = 0x0807060504030201 := by decide +kernel
theorem test_clz_and_popcnt : aReg (next (.clz 31) (engine (reg 13) [(2, 1)])) 1 = 63 ∧
    aReg (next (.popcnt 31) (engine (reg 14) [(2, 0xF0F)])) 1 = 8 := by decide +kernel
-- R437: the immediate is sign-extended
theorem test_add_imm_minus_one : aReg (next (.addImm 31) (engine (imm 17 0x3FF) [(2, 5)])) 1 = 4 := by decide +kernel
theorem test_li_negative : aReg (next (.li 31) (engine (0x20 * 2 ^ 24 + 1 * 2 ^ 17 + 0x1FFFF) [])) 1 = 2 ^ 64 - 1 := by decide +kernel
theorem test_lui : aReg (next (.lui 31) (engine (0x21 * 2 ^ 24 + 1 * 2 ^ 17 + 0x1234) [(1, 5)])) 1 = 0x51234 := by decide +kernel
-- R436, R438: a write of TICK is ILLEGAL
theorem test_write_of_tick_faults : ((next (.add 31) (engine (0x01 * 2 ^ 24 + 0x6E * 2 ^ 17) [])).thr 31 7).ecause = 1 := by decide +kernel
-- R437: BLTU is unsigned; JAL keeps PC + 1 in A31; JR takes A[16:0]
theorem test_bltu_not_taken : ((next (.bltu 31) (engine (imm 0x32 9) [(1, 2 ^ 64 - 1), (2, 1)])).thr 31 7).pc = 1 := by decide +kernel
theorem test_bgeu_taken : ((next (.bgeu 31) (engine (imm 0x33 9) [(1, 2 ^ 64 - 1), (2, 1)])).thr 31 7).pc = 9 := by decide +kernel
theorem test_jal : let t := next (.jal 31) (engine (0x36 * 2 ^ 24 + 100) [])
    (t.thr 31 7).pc = 100 ∧ aReg t 31 = 1 := by decide +kernel
theorem test_jr : ((next (.jr 31) (engine (reg 0x37) [(2, 0x3FFFF)])).thr 31 7).pc = 0x1FFFF := by decide +kernel
-- R431: little-endian, zero-extended; a misaligned access faults ADDRESS with the address in EADDR
theorem test_st_then_ld :
    let t := next (.st 31) (engine (imm 0x29 0x100) [(1, 0x1234), (2, 0x200)])
    t.st.mem.at 0 0x200 = 0x34 ∧ t.st.mem.at 0 0x201 = 0x12 ∧ t.st.mem.at 0 0x202 = 0 := by decide +kernel
theorem test_ld_misaligned : let t := next (.ld 31) (engine (imm 0x28 0x300) [(2, 0x201)])
    (t.thr 31 7).ecause = 2 ∧ (t.thr 31 7).eaddr = 0x201 ∧ (t.thr 31 7).epc = 0 := by decide +kernel
-- R437, R438: TRAP raises SOFT with IMM in EADDR
theorem test_trap : let t := next (.trap 31) (engine (imm 0x78 7) [])
    (t.thr 31 7).ecause = 6 ∧ (t.thr 31 7).eaddr = 7 ∧ t.flag 31 7 flagExc = true := by decide +kernel
-- R440: with B zero WAIT tests once; D takes the lowest event, or 0xFF with TO
theorem test_wait_tests_once : let t := next (.wait 31) (engine (reg 0x40) [(2, 2 ^ 17)])
    aReg t 1 = 0xFF ∧ t.flag 31 7 flagTo = true ∧ (t.thr 31 7).pc = 1 := by decide +kernel
-- R442: CHOPEN of an EMPTY channel
theorem test_chopen : let t := next (.chopen 31) (engine (imm 0x48 5) [])
    t.chState 31 5 = 1 ∧ t.flag 31 7 flagOk = true := by decide +kernel
-- R471, R472: a doorbell moves the tail
theorem test_sq_doorbell : (next (.sqDoorbell 2047 5)
    (up.on [(F.RC_SQ_CFG_EN, [2047], 1), (F.RC_SQ_CFG_LOG2, [2047], 4)])).get F.RC_SQ_TAIL_TAIL [2047] = 5 := by decide +kernel
-- R469: a queue of a function without DRIVER_OK is refused
theorem test_queue_enable_refused : let t := next (.queueEnable 0 0 9 (2 ^ 31 + 1 * 2 ^ 27 + 4 * 2 ^ 22)) up
    t.get F.RC_SQ_STAT_CFG_REFUSED [9] = 1 ∧ t.get F.RC_SQ_CFG_EN [9] = 0 := by decide +kernel
-- R83: TK_ADDEND is clamped to within 500 ppm
theorem test_addend_clamped : (next (.addendWrite (2 ^ 40 - 1)) up).addend ≤ 0x2800000000 + 0x2800000000 / 2000 ∧
    0x2800000000 < (next (.addendWrite (2 ^ 40 - 1)) up).addend := by decide +kernel
-- R85: nanoseconds of 1,000,000,000 or more refuse a step
theorem test_step_refused : let t := next (.timeStep (2 ^ 31 + 1000000000)) up
    t.get F.TK_EVT_ADJ_REFUSED [] = 1 ∧ t.clock = up.clock := by decide +kernel
-- R60: a request for a die whose claim is held waits and is counted
theorem test_claim_waits : (next (.claimRequest 2 12) (up.on [(F.PT_CLAIM_HOLDER, [12], 3)])).get F.PT_CLAIMCNT_WAITS [12] = 1 := by
  decide +kernel
-- R357: freeing a free buffer raises DOUBLE_FREE
theorem test_double_free : (next (.bufferFree 0x40000003) (up.on [(F.SB_POOL_CFG_COUNT, [4], 16)])).get F.SB_EVT_DOUBLE_FREE [] = 1 := by
  decide +kernel
-- R366: a frame of 1,514 bytes that shares its span needs 7 cells
theorem test_cells : up.cellsFor 1514 false = 7 := by decide +kernel
-- R193: the Brand of the nine ASCII digits, and the CRC-32 of the FCS over the same
theorem test_brand : crc32c [0x31, 0x32, 0x33, 0x34, 0x35, 0x36, 0x37, 0x38, 0x39] = 0xE3069283 := by decide +kernel
theorem test_fcs : crc32 [0x31, 0x32, 0x33, 0x34, 0x35, 0x36, 0x37, 0x38, 0x39] = 0xCBF43926 := by decide +kernel
-- FIPS 180-4: the SHA-384 digest of "abc" begins with these 64 bits
theorem test_sha384 : sha384 [0x61, 0x62, 0x63] >>> 320 = 0xCB00753F45A35E8B := by decide +kernel
-- a command outside its range, and one whose condition does not hold, change nothing
theorem test_out_of_range_does_nothing : next (.nop 32) up = up ∧ next .softStartDone up = up := by decide +kernel

-- R552, R554, R555: the example of R555; row 95 is EA
theorem test_land_of_a_lane : landAt 88 44 = .serdes 5 40 3 true true ∧ laneLand 40 3 true true = (88, 44) ∧
    rowName 88 = ['D', 'N'] ∧ rowName 95 = ['E', 'A'] := by decide +kernel
-- R556 to R560: SMB_ALERT_N at C91, PE_REFCLK_P at J2, the centre tile's first land, and a T's die 4
theorem test_corner_lands : landAt 2 91 = .aux .smbAlertN ∧ landAt 8 2 = .pcieClock true ∧ landAt 36 37 = .vin ∧
    Variant.t.connects (.serdesClock 4 true) = false := by decide +kernel
-- R558: the first slots of tile 0's sub-channel A lie where t + w is odd
theorem test_memory_lands : landAt 12 14 = .mem 0 false (.ck true) ∧ landAt 12 16 = .mem 0 false (.ck false) ∧
    landAt 13 13 = .mem 0 false (.ca 2) ∧ landAt 12 26 = .mem 0 true (.ck true) := by decide +kernel
/-! ## Hypotheses are met: one conjunct for each clause that has hypotheses -/

theorem witness_PowerCommandsComplete :
    (∃ (s : State) (vin : Nat), s.mode ≠ .off ∧ s.get F.TK_CMP_THR_LOW [0] + 30 < vin ∧ vin < 6400) ∧
    (∃ (s : State) (vin : Nat), (vin ≤ s.get F.TK_CMP_THR_LOW [0] + 30 ∨ 6400 ≤ vin)) ∧
    (∃ (s : State), s.mode = .standby ∧ s.get F.PS_STATUS_SS_STATE [] = 1) ∧
    (∃ (s : State), s.mode = .standby ∧ s.get F.PS_STATUS_SS_STATE [] = 1 ∧ s.tack.ssTries < 2) ∧
    (∃ (s : State), s.mode = .standby ∧ s.get F.PS_STATUS_SS_STATE [] = 1 ∧ s.tack.ssTries = 2) ∧
    (∃ (s : State) (n : Nat), s.tack.ssRetryAt = some n ∧ n ≤ s.clock.tick ∧ s.mode = .standby ∧ s.tack.wake.isSome = true ∧
      s.get F.PS_STATUS_VIN_OK [] = 1 ∧ s.tack.switchHeld = false ∧ s.get F.PS_STATUS_SS_STATE [] = 0) ∧
    (∃ (s : State), s.mode ≠ .off) ∧
    (∃ (s : State), (s.get F.PS_STATUS_SS_STATE [] = 1 ∨ s.get F.PS_STATUS_SS_STATE [] = 2)) ∧
    (∃ (s : State), (s.get F.PS_STATUS_SS_STATE [] = 1 ∨ s.get F.PS_STATUS_SS_STATE [] = 2)) ∧
    (∃ (s : State), s.mode = .standby) :=
  ⟨⟨up, 4800, by decide +kernel⟩,
   ⟨up, 0, by decide +kernel⟩,
   ⟨(rst.on [(F.PS_STATUS_SS_STATE, [], 1)]), by decide +kernel⟩,
   ⟨(rst.on [(F.PS_STATUS_SS_STATE, [], 1)]), by decide +kernel⟩,
   ⟨{ rst.on [(F.PS_STATUS_SS_STATE, [], 1)] with tack.ssTries := 2 }, by decide +kernel⟩,
   ⟨{ rst.on [(F.PS_STATUS_VIN_OK, [], 1)] with tack.ssRetryAt := some 0, tack.wake := some 2 }, 0, by decide +kernel⟩,
   ⟨rst, by decide +kernel⟩,
   ⟨up, by decide +kernel⟩,
   ⟨up, by decide +kernel⟩,
   ⟨rst, by decide +kernel⟩⟩

theorem witness_ProtectionCommandsComplete :
    (∃ (s : State) (n value avg : Nat), n < 8 ∧ s.tackRuns = true ∧ s.compArmed n = true ∧ bit s.tack.excursion n = false ∧
      s.compOutside n (compReading n value) avg = true) ∧
    (∃ (s : State) (n value avg : Nat), n < 8 ∧ s.compOutside n (compReading n value) avg = false) ∧
    (∃ (s : State), s.tackRuns = true ∧ s.mode = .standby) ∧
    (∃ (s : State), s.tackRuns = true ∧ s.mode = .standby ∧ s.get F.TK_WAKE_CTRL_TIMED_EN [] = 1 ∧ (s.clock.sec % 2 ^ 32 + 2 ^
      32 - s.get F.TK_WAKE_SEC_ALL []) % 2 ^ 32 < 2 ^ 31) ∧
    (∃ (s : State), s.tackRuns = true) ∧
    (∃ (s : State), s.tackRuns = true ∧ s.smbAlert = true) ∧
    (∃ (s : State) (e : EDrain), s.tack.edrain = some e ∧ e.entered = false ∧ 300 ≤ s.since e.t0) ∧
    (∃ (s : State) (e : EDrain), s.tack.edrain = some e ∧ e.entered = true ∧ e.macsStopped = false ∧ 1000 ≤ s.since e.t0) ∧
    (∃ (s : State) (e : EDrain), s.tack.edrain = some e ∧ e.macsStopped = true ∧ e.frozen = false ∧ 2000 ≤ s.since e.t0) ∧
    (∃ (s : State) (e : EDrain), s.tack.edrain = some e ∧ e.frozen = true ∧ e.txOff = false ∧ 5000 ≤ s.since e.t0) ∧
    (∃ (s : State) (e : EDrain) (d : Nat), s.tack.edrain = some e ∧ e.frozen = true ∧ e.sealed = false ∧ s.live d = true ∧ d < 8
      ∧ (∀ x ∈ e.totals, x.1 ≠ d) ∧ 2000 ≤ s.since e.t0) ∧
    (∃ (s : State) (e : EDrain), s.tack.edrain = some e ∧ e.txOff = true ∧ e.sealed = false ∧ 8000 ≤ s.since e.t0) ∧
    (∃ (s : State) (e : EDrain), s.tack.haltFall = false ∧ s.tack.edrain = some e ∧ e.sealed = true ∧ e.tail = false ∧ 12000 ≤
      s.since e.t0) ∧
    (∃ (s : State) (e : EDrain), s.tack.copy = .none ∧ s.tack.haltFall = false ∧ s.tack.edrain = some e ∧ e.tail = true ∧ 15000
      ≤ s.since e.t0 ∧ s.tack.copyCalled = false ∧ s.tack.vauxLowAt = none) ∧
    (∃ (s : State) (e : EDrain), s.tack.copy = .none ∧ s.tack.haltFall = false ∧ s.tack.edrain = some e ∧ e.tail = true ∧ 15000
      ≤ s.since e.t0 ∧ s.tack.copyCalled = true) :=
  ⟨⟨(up.on [(F.TK_CMP_CFG_EN, [5], 1)]), 5, 0, 0, by decide +kernel⟩,
   ⟨up, 7, 0, 0, by decide +kernel⟩,
   ⟨rst, by decide +kernel⟩,
   ⟨(rst.on [(F.TK_WAKE_CTRL_TIMED_EN, [], 1)]), by decide +kernel⟩,
   ⟨rst, by decide +kernel⟩,
   ⟨(up.on [(F.PS_STATUS_OV_CUT, [], 1)]), by decide +kernel⟩,
   ⟨{ up with tack.edrain := some {  } }, {  }, by decide +kernel⟩,
   ⟨{ up with tack.edrain := some { entered := true } }, { entered := true }, by decide +kernel⟩,
   ⟨{ up with tack.edrain := some { macsStopped := true } }, { macsStopped := true }, by decide +kernel⟩,
   ⟨{ up with tack.edrain := some { frozen := true } }, { frozen := true }, by decide +kernel⟩,
   ⟨{ up with tack.edrain := some { frozen := true, totals := [(6, 1, 1)] } }, { frozen := true, totals := [(6, 1, 1)] }, 7,
     by decide +kernel⟩,
   ⟨{ up with tack.edrain := some { txOff := true } }, { txOff := true }, by decide +kernel⟩,
   ⟨{ up with tack.edrain := some { sealed := true } }, { sealed := true }, by decide +kernel⟩,
   ⟨{ up with tack.edrain := some { tail := true } }, { tail := true }, by decide +kernel⟩,
   ⟨{ up with tack.edrain := some { tail := true }, tack.copyCalled := true }, { tail := true }, by decide +kernel⟩⟩

theorem witness_VauxAndFlashCopyComplete :
    (∃ (s : State), s.tack.copy = .due) ∧
    (∃ (s : State), s.tack.copy = .writing) ∧
    (∃ (s : State) (n : Nat), s.tack.vauxLowAt = some n ∧ s.clock.tick - n ≤ 100000 ∧ s.mode = .off ∧ s.tack.copy = .none) ∧
    (∃ (s : State) (n : Nat), s.tack.vauxLowAt = some n ∧ 100000 < s.clock.tick - n ∧ s.mode = .off ∧ s.tack.copy = .none ∧
      s.tack.vauxCycled = false) :=
  ⟨⟨{ rst with tack.copy := .due }, by decide +kernel⟩,
   ⟨{ rst with tack.copy := .writing }, by decide +kernel⟩,
   ⟨{ rst with mode := .off, clock.tick := 100000, tack.vauxLowAt := some 0 }, 0, by decide +kernel⟩,
   ⟨{ rst with mode := .off, clock.tick := 100001, tack.vauxLowAt := some 0 }, 0, by decide +kernel⟩⟩

theorem witness_TimekeeperCompletes :
    (∃ (s : State) (v : Nat), s.powered = true ∧ bit v 31 = true ∧ bits v 29 0 < 1000000000) ∧
    (∃ (s : State), s.powered = true ∧ s.get F.TK_PPS_CTRL_MODE [] ≠ 2) ∧
    (∃ (s : State), s.tackRuns = true ∧ 1000000 ≤ s.since s.tack.slewAt ∧ s.slewLeft ≠ 0) ∧
    (∃ (s : State), s.powered = true ∧ s.get F.TK_PPS_CTRL_MODE [] ≠ 2) ∧
    (∃ (s : State) (rising : Bool), s.tackRuns = true ∧ s.get F.TK_PPS_CTRL_MODE [] = 1 ∧ rising ≠ s.isOn F.TK_PPS_CTRL_POL [] ∧
      s.ppsAccepts = true) ∧
    (∃ (s : State), s.tackRuns = true ∧ s.get F.TK_PPS_CTRL_MODE [] ≠ 0 ∧ s.get F.TK_STATUS_HOLDOVER [] = 0 ∧ 2000000000 ≤
      s.since (s.tack.ppsAccepted.getD s.tack.ppsModeAt)) ∧
    (∃ (s : State), s.tackRuns = true ∧ s.get F.TK_PPS_OUT_EN [] = 1 ∧ s.get F.TK_PPS_OFS_OFFSET_NS [] ≤ s.clock.tai ∧
      s.tack.ppsOutSec ≤ (s.clock.tai - s.get F.TK_PPS_OFS_OFFSET_NS []) / 1000000000) ∧
    (∃ (s : State) (n : Nat), s.tack.ppsOutEnd = some n ∧ n ≤ s.clock.tick) :=
  ⟨⟨up, (2 ^ 31 + 999999999), by decide +kernel⟩,
   ⟨up, by decide +kernel⟩,
   ⟨(up.on [(F.TK_SLEW_ALL, [], 51)]), by decide +kernel⟩,
   ⟨up, by decide +kernel⟩,
   ⟨(up.on [(F.TK_PPS_CTRL_MODE, [], 1)]), true, by decide +kernel⟩,
   ⟨(up.on [(F.TK_PPS_CTRL_MODE, [], 2)]), by decide +kernel⟩,
   ⟨(up.on [(F.TK_PPS_OUT_EN, [], 1)]), by decide +kernel⟩,
   ⟨{ up with tack.ppsOutEnd := some 0 }, 0, by decide +kernel⟩⟩

theorem witness_PaceAndClaimsComplete :
    (∃ (s : State) (m : Nat), m < 74 ∧ s.powered = true ∧ s.mode ≠ .halt ∧ s.live (monitorDie m) = true ∧ 2 ^ s.get
      F.PT_WINDOW_WIN_LOG [] * 1000 ≤ s.since (s.pace.winAt.at 0 m)) ∧
    (∃ (s : State) (x : Nat) (paces : List Nat), s.powered = true ∧ s.mode ≠ .halt ∧ s.live x = true ∧ paces.length =
      (monitorsOf x).length ∧ 16000 ≤ s.since (s.pace.evalAt.at 0 x) ∧ s.get F.PT_VCORE_VNOW [x] ≤ 800) ∧
    (∃ (s : State) (x i : Nat) (v : Int), s.powered = true ∧ s.live x = true ∧ 10000000000 ≤ s.since (s.pace.sensedAt.at 0 x) ∧
      bit s.pace.rebuild x = false ∧ i < sensorsOf x ∧ s.pace.excluded.at 0 (key2 x i) = 0 ∧ (v < 0 ∨ 255000 < v)) ∧
    (∃ (s : State) (x i : Nat) (v : Int), s.powered = true ∧ s.live x = true ∧ 10000000000 ≤ s.since (s.pace.sensedAt.at 0 x) ∧
      bit s.pace.rebuild x = false ∧ i < sensorsOf x ∧ s.pace.excluded.at 0 (key2 x i) = 0 ∧ s.pace.sensor.at 0 (key2 x i) = 0 ∧
      0 ≤ v ∧ v ≤ 255000) ∧
    (∃ (s : State) (x : Nat), s.running = true ∧ s.live x = true) ∧
    (∃ (s : State) (a x : Nat), s.running = true ∧ s.live x = true ∧ claimDie a x = true ∧ s.holder x ≠ a ∧ s.get
      F.PT_CLAIM_PARKED [x] ≠ a ∧ (∀ r ∈ s.pace.queue.at [] x, r.act ≠ a) ∧ s.variant ≠ .e) ∧
    (∃ (s : State) (x : Nat) (q : ClaimReq) (r : List ClaimReq), s.pace.queue.at [] x = q :: r ∧ s.running = true ∧ s.live x =
      true ∧ s.holder x = 0 ∧ s.get F.PT_CTRL_CLAIMS_EN [] = 1 ∧ s.claimRoom q.act x = true ∧ q.act < 6) ∧
    (∃ (s : State) (x : Nat), x < 13 ∧ s.holder x ≠ 0 ∧ s.holder x ≠ 5 ∧ bit s.pace.paused x = false ∧ s.claimRoom (s.holder x)
      x = false) ∧
    (∃ (s : State) (x : Nat), bit s.pace.paused x = true ∧ s.holder x ≠ 5 ∧ s.claimRoom (s.holder x) x = true) ∧
    (∃ (s : State) (x : Nat), s.holder x ≠ 0 ∧ s.holder x ≠ 5 ∧ s.get F.PT_ACT_HOLD_US [s.holder x] ≠ 0 ∧ s.get F.PT_ACT_HOLD_US
      [s.holder x] * 1000 ≤ s.since (s.pace.grantAt.at 0 x)) ∧
    (∃ (s : State) (x : Nat), s.holder x ≠ 0) :=
  ⟨⟨up, 73, by decide +kernel⟩,
   ⟨up, 12, (List.replicate (monitorsOf 12).length 1), by decide +kernel⟩,
   ⟨up, 0, 0, 255001, by decide +kernel⟩,
   ⟨up, 0, 0, 255000, by decide +kernel⟩,
   ⟨up, 12, by decide +kernel⟩,
   ⟨(up.on [(F.PT_CTRL_CLAIMS_EN, [], 1)]), 3, 12, by decide +kernel⟩,
   ⟨{ up.on [(F.PT_CTRL_CLAIMS_EN, [], 1)] with pace.queue := [(8, [{ at_ := 0, act := 1 }])], pace.pace16 := fastPace }, 8,
     { at_ := 0, act := 1 }, [], by decide +kernel⟩,
   ⟨(up.on [(F.PT_CLAIM_HOLDER, [0], 4)]), 0, by decide +kernel⟩,
   ⟨{ up.on [(F.PT_CLAIM_HOLDER, [8], 1)] with pace.paused := 256, pace.pace16 := fastPace }, 8, by decide +kernel⟩,
   ⟨(up.on [(F.PT_CLAIM_HOLDER, [0], 4), (F.PT_ACT_HOLD_US, [4], 1)]), 0, by decide +kernel⟩,
   ⟨(up.on [(F.PT_CLAIM_HOLDER, [0], 5)]), 0, by decide +kernel⟩⟩

theorem witness_ReplanStagesComplete :
    (∃ (s : State) (x : Nat), s.running = true ∧ s.pace.replan = none ∧ s.liveDies.find? (s.replanDue ·) = some x) ∧
    (∃ (s : State), s.powered = true) ∧
    (∃ (s : State) (r : Replan), s.pace.replan = some r ∧ r.granted = false ∧ r.sensorOnly = false ∧ 10000000000 ≤ s.since
      r.askedAt) ∧
    (∃ (s : State) (r : Replan), s.pace.replan = some r ∧ r.granted = true ∧ r.sensed = true ∧ r.probing = true ∧ r.sensorOnly =
      false ∧ s.mayWork 1 r.die = true ∧ 64000 ≤ s.since r.stepAt) ∧
    (∃ (s : State) (r : Replan) (g : Nat), s.pace.replan = some r ∧ r.granted = true ∧ r.sensed = true ∧ r.probing = false ∧
      r.sensorOnly = false ∧ s.mayWork 1 r.die = true ∧ g < trimGroups ∧ s.pace.trimSteps.at 0 (key2 r.die g) < 4) ∧
    (∃ (s : State) (r : Replan) (g : Nat), s.pace.replan = some r ∧ r.granted = true ∧ r.sensed = true ∧ r.probing = false ∧
      r.sensorOnly = false ∧ s.mayWork 1 r.die = true ∧ g < trimGroups ∧ 100000 ≤ s.since r.stepAt ∧ s.pace.trimSteps.at 0 (key2
      r.die g) < 3) ∧
    (∃ (s : State) (r : Replan), s.pace.replan = some r ∧ r.granted = true ∧ r.sensed = true ∧ r.probing = false ∧ r.sensorOnly
      = false ∧ s.mayWork 1 r.die = true ∧ s.trimsDone r.die = true ∧ r.die < 13 ∧ r.vClean ≤ 800) :=
  ⟨⟨(up.on [(F.PT_REPLAN_DIE_MASK, [], 4096)]), 12, by decide +kernel⟩,
   ⟨up, by decide +kernel⟩,
   ⟨{ up with pace.replan := some { die := 12 } }, { die := 12 }, by decide +kernel⟩,
   ⟨{ up.on [(F.PT_CLAIM_HOLDER, [12], 1)] with pace.pace16 := fastPace, pace.replan := some { die := 12, granted := true, sensed := true } },
     { die := 12, granted := true, sensed := true }, by decide +kernel⟩,
   ⟨{ up.on [(F.PT_CLAIM_HOLDER, [12], 1)] with pace.pace16 := fastPace, pace.replan := some { die := 12, granted := true, sensed := true, probing := false } },
     { die := 12, granted := true, sensed := true, probing := false }, 27, by decide +kernel⟩,
   ⟨{ up.on [(F.PT_CLAIM_HOLDER, [12], 1)] with pace.pace16 := fastPace, pace.replan := some { die := 12, granted := true, sensed := true, probing := false } },
     { die := 12, granted := true, sensed := true, probing := false }, 27, by decide +kernel⟩,
   ⟨{ up.on [(F.PT_CLAIM_HOLDER, [12], 1)] with pace.pace16 := fastPace, pace.replan := some { die := 12, granted := true, sensed := true, probing := false, vClean := 800 }, pace.trimSteps := (List.range trimGroups).map fun g => (key2 12 g, 4) },
     { die := 12, granted := true, sensed := true, probing := false, vClean := 800 }, by decide +kernel⟩⟩

theorem witness_ReadsComplete :
    (∃ (s : State), s.ringPowered = true) ∧
    (∃ (s : State), s.tackRuns = true) ∧
    (∃ (s : State), s.ringPowered = true) ∧
    (∃ (s : State), s.tackRuns = true) ∧
    (∃ (s : State), s.tackRuns = true) ∧
    (∃ (s : State) (fn : Nat), s.ringPowered = true ∧ (fn = 0 ∨ fn ≤ s.rc.vfs)) ∧
    (∃ (s : State), s.powered = true) :=
  ⟨⟨up, by decide +kernel⟩,
   ⟨rst, by decide +kernel⟩,
   ⟨up, by decide +kernel⟩,
   ⟨rst, by decide +kernel⟩,
   ⟨rst, by decide +kernel⟩,
   ⟨{ up with rc.vfs := 15 }, 15, by decide +kernel⟩,
   ⟨up, by decide +kernel⟩⟩

theorem witness_FlashAndFusesComplete :
    (∃ (s : State), s.powered = true ∧ s.get F.PB_FLASH_CMD_GO [] = 0 ∧ s.flashRefused 0 (s.get F.PB_FLASH_ADDR_PAGE [] * 256) =
      false) ∧
    (∃ (s : State), s.powered = true ∧ s.get F.PB_FLASH_CMD_GO [] = 0 ∧ s.flashRefused 1 (s.get F.PB_FLASH_ADDR_PAGE [] * 256) =
      false) ∧
    (∃ (s : State), s.powered = true ∧ s.get F.PB_FLASH_CMD_GO [] = 0 ∧ s.flashRefused 2 (s.get F.PB_FLASH_ADDR_PAGE [] * 256) =
      false) ∧
    (∃ (s : State), s.powered = true ∧ s.get F.PB_FLASH_CMD_GO [] = 0 ∧ s.flashRefused 3 (s.get F.PB_FLASH_ADDR_PAGE [] * 256) =
      false) ∧
    (∃ (s : State) (a : Nat), s.patinaWrites = false ∧ s.load.flashOp = some (0, a)) ∧
    (∃ (s : State) (a : Nat), s.patinaWrites = false ∧ s.load.flashOp = some (1, a)) ∧
    (∃ (s : State) (a : Nat), s.patinaWrites = false ∧ s.load.flashOp = some (2, a)) ∧
    (∃ (s : State) (a : Nat), s.patinaWrites = false ∧ s.load.flashOp = some (3, a)) ∧
    (∃ (s : State) (slot : Nat), s.fuseOpen = true ∧ bit (s.get F.PB_FUSE_KEYS_PROGRAMMED []) (slot % 4) = false) ∧
    (∃ (s : State), s.fuseOpen = true) ∧
    (∃ (s : State), s.fuseOpen = true ∧ s.get F.PB_FUSE_SECVER_MIN [] < 64) ∧
    (∃ (s : State) (x us : Nat), s.powered = true ∧ s.live x = true ∧ bit s.pace.saveDue x = true ∧ s.patinaWrites = false ∧ us
      ≤ 50000) :=
  ⟨⟨up, by decide +kernel⟩,
   ⟨(up.on [(F.PB_STATUS_ACTIVE, [], 1)]), by decide +kernel⟩,
   ⟨(up.on [(F.PB_STATUS_ACTIVE, [], 1)]), by decide +kernel⟩,
   ⟨(up.on [(F.PB_STATUS_ACTIVE, [], 1)]), by decide +kernel⟩,
   ⟨{ up with load.flashOp := some (0, 0) }, 0, by decide +kernel⟩,
   ⟨{ up with load.flashOp := some (1, 0) }, 0, by decide +kernel⟩,
   ⟨{ up with load.flashOp := some (2, 0) }, 0, by decide +kernel⟩,
   ⟨{ up with load.flashOp := some (3, 0) }, 0, by decide +kernel⟩,
   ⟨((up.wr R.FEAT_ACCEPT [0] 0x1000000).on [(F.FEAT_CTRL_DRIVER_OK, [], 1), (F.PB_FUSE_SECVER_MIN, [], 63)]), 3,
     by decide +kernel⟩,
   ⟨((up.wr R.FEAT_ACCEPT [0] 0x1000000).on [(F.FEAT_CTRL_DRIVER_OK, [], 1), (F.PB_FUSE_SECVER_MIN, [], 63)]),
     by decide +kernel⟩,
   ⟨((up.wr R.FEAT_ACCEPT [0] 0x1000000).on [(F.FEAT_CTRL_DRIVER_OK, [], 1), (F.PB_FUSE_SECVER_MIN, [], 63)]),
     by decide +kernel⟩,
   ⟨{ up with pace.saveDue := 4096 }, 12, 50000, by decide +kernel⟩⟩

theorem witness_CommitStagesComplete :
    (∃ (s : State), s.powered = true ∧ s.mode = .run ∧ s.timeValid = true ∧ s.modes.commit = none ∧ s.modes.hidden = none ∧
      s.clock.tai + 100000 ≤ s.commitInstant ∧ s.commitInstant ≤ s.clock.tai + 60000000000 ∧ (s.get F.MD_COMMIT_CTRL_EPOCH [] =
      1 → s.get F.MD_DRAIN_CNT_COUNT [(s.epoch + 1) % 2] = 0) ∧ (s.get F.MD_COMMIT_CTRL_GAIT [] = 1 → s.variant ≠ .e) ∧
      s.commitKinds ≠ 0) ∧
    (∃ (s : State) (c : Commit) (x : Nat), s.modes.commit = some c ∧ c.state = 1 ∧ s.live x = true ∧ s.pastDeadline c = false ∧
      s.commitReady c x = true ∧ bit c.prep x = false) ∧
    (∃ (s : State) (c : Commit) (x : Nat), s.modes.hidden = some c ∧ c.state = 1 ∧ s.live x = true ∧ s.pastDeadline c = false ∧
      s.commitReady c x = true ∧ bit c.prep x = false) ∧
    (∃ (s : State) (c : Commit), s.modes.commit = some c ∧ c.state = 1 ∧ s.modes.hidden = none ∧ c.instant ≤ s.clock.tai + s.get
      F.MD_PREP_GUARD_GUARD_US [] * 1000) ∧
    (∃ (s : State) (h : Commit), s.modes.hidden = some h ∧ s.missed h = true ∧ (∀ c, s.modes.commit = some c → s.missed c =
      false)) ∧
    (∃ (s : State) (c : Commit), s.modes.commit = some c ∧ c.state = 2 ∧ c.reached = false ∧ c.instant ≤ s.clock.tai ∧ bit
      c.kinds 0 = true ∧ bit c.kinds 1 = false ∧ bit c.kinds 2 = false) ∧
    (∃ (s : State) (c : Commit), s.modes.commit = some c ∧ c.state = 2 ∧ c.reached = false ∧ c.instant ≤ s.clock.tai ∧ bit
      c.kinds 0 = false ∧ bit c.kinds 1 = false ∧ bit c.kinds 2 = true) ∧
    (∃ (s : State) (c : Commit), s.modes.commit = some c ∧ c.state = 2 ∧ c.reached = false ∧ c.instant ≤ s.clock.tai ∧ bit
      c.kinds 0 = false ∧ bit c.kinds 1 = true ∧ bit c.kinds 2 = false) ∧
    (∃ (s : State) (c : Commit) (x : Nat), s.modes.commit = some c ∧ c.reached = true ∧ s.live x = true ∧ bit c.applied x =
      false ∧ bit c.did x = true ∧ s.modes.hidden = none) ∧
    (∃ (s : State) (c : Commit) (x : Nat), s.modes.commit = some c ∧ c.reached = true ∧ s.live x = true ∧ bit c.applied x =
      false ∧ bit c.did x = false ∧ c.state = 3 ∧ bit c.kinds 2 = true) ∧
    (∃ (s : State) (c : Commit), s.modes.commit = some c ∧ c.reached = true ∧ c.state = 2 ∧ 1000 ≤ s.since c.reachedAt) ∧
    (∃ (s : State) (c : Commit), s.modes.commit = some c ∧ c.state = 3 ∧ 10000 ≤ s.since c.lagAt ∧ s.modes.hidden = none) :=
  ⟨⟨(up.on [(F.TK_STATUS_TIME_VALID, [], 1), (F.MD_COMMIT_CTRL_EPOCH, [], 1), (F.MD_COMMIT_SEC_LO_ALL, [], 1060)]),
     by decide +kernel⟩,
   ⟨{ up with modes.commit := some { kinds := 4, instant := 10 ^ 12 + 20000 } }, { kinds := 4, instant := 10 ^ 12 + 20000 }, 12,
     by decide +kernel⟩,
   ⟨{ up with modes.hidden := some { kinds := 4, instant := 10 ^ 12 + 20000 } }, { kinds := 4, instant := 10 ^ 12 + 20000 }, 12,
     by decide +kernel⟩,
   ⟨{ up with modes.commit := some { kinds := 4 } }, { kinds := 4 }, by decide +kernel⟩,
   ⟨{ up with modes.hidden := some { kinds := 4, instant := 10 ^ 12 + 19999 } }, { kinds := 4, instant := 10 ^ 12 + 19999 },
     by decide +kernel⟩,
   ⟨{ up with modes.commit := some { kinds := 1, state := 2 } }, { kinds := 1, state := 2 }, by decide +kernel⟩,
   ⟨{ up with modes.commit := some { kinds := 4, state := 2 } }, { kinds := 4, state := 2 }, by decide +kernel⟩,
   ⟨{ up with modes.commit := some { kinds := 2, state := 2 } }, { kinds := 2, state := 2 }, by decide +kernel⟩,
   ⟨{ up with modes.commit := some { kinds := 2, state := 2, reached := true, did := 4096 } },
     { kinds := 2, state := 2, reached := true, did := 4096 }, 12, by decide +kernel⟩,
   ⟨{ up with modes.commit := some { kinds := 4, state := 3, reached := true } }, { kinds := 4, state := 3, reached := true },
     12, by decide +kernel⟩,
   ⟨{ up with modes.commit := some { kinds := 1, state := 2, reached := true } }, { kinds := 1, state := 2, reached := true },
     by decide +kernel⟩,
   ⟨{ up with modes.commit := some { kinds := 1, state := 3, reached := true } }, { kinds := 1, state := 3, reached := true },
     by decide +kernel⟩⟩

theorem witness_DrainsAndResetsComplete :
    (∃ (s : State) (o : ODrain), s.modes.odrain = some o ∧ s.mode = .drain ∧ (o.ended = true ∨ s.drained = true) ∧
      s.tallyFlushed = true ∧ o.after = 0) ∧
    (∃ (s : State) (o : ODrain), s.modes.odrain = some o ∧ s.mode = .drain ∧ (o.ended = true ∨ s.drained = true) ∧
      s.tallyFlushed = true ∧ o.after ≠ 0) ∧
    (∃ (s : State) (o : ODrain), s.modes.odrain = some o ∧ s.mode = .drain ∧ o.ended = false ∧ o.boundTick ≤ s.clock.tick) ∧
    (∃ (s : State) (e : Nat) (r : List Nat), s.modes.draining = e :: r ∧ s.get F.MD_DRAIN_CNT_COUNT [e % 2] = 0) ∧
    (∃ (s : State) (width : Nat) (takes : Bool), s.powered = true ∧ s.tack.edrain = none ∧ 200 ≤ width ∧ (1000 ≤ width ∨ takes =
      true)) ∧
    (∃ (s : State), s.modes.inReset = true ∧ s.tack.copy = .none) ∧
    (∃ (s : State), s.powered = true ∧ s.tack.edrain = none ∧ s.mode = .run ∧ s.modes.commit = none) ∧
    (∃ (s : State), s.powered = true ∧ s.tack.edrain = none ∧ (s.mode = .load ∨ s.mode = .halt ∨ s.mode = .drain)) :=
  ⟨⟨{ up with mode := .drain, modes.odrain := some { ended := true } }, { ended := true }, by decide +kernel⟩,
   ⟨{ up with mode := .drain, modes.odrain := some { ended := true, after := 1 } }, { ended := true, after := 1 },
     by decide +kernel⟩,
   ⟨{ up with mode := .drain, modes.odrain := some {  } }, {  }, by decide +kernel⟩,
   ⟨{ up with modes.draining := [1] }, 1, [], by decide +kernel⟩,
   ⟨up, 200, true, by decide +kernel⟩,
   ⟨{ up with modes.inReset := true }, by decide +kernel⟩,
   ⟨up, by decide +kernel⟩,
   ⟨{ up with mode := .load }, by decide +kernel⟩⟩

theorem witness_LoaderCompletes :
    (∃ (s : State) (bad : Nat), s.powered = true ∧ s.mode = .load ∧ s.load.phase = .idle ∧ s.load.applying = false ∧
      s.preferredSlot < 2 ∧ (s.slotUsable s.preferredSlot = true ∨ s.slotUsable (1 - s.preferredSlot) = true) ∧ bit bad 12 =
      false ∧ ((List.range s.variant.girths).any fun g => !bit bad (8 + g)) = true) ∧
    (∃ (s : State), s.mode = .load ∧ s.load.phase = .checked ∧ s.authFail = 0) ∧
    (∃ (s : State), s.mode = .load ∧ s.load.phase = .checked ∧ s.authFail ≠ 0) ∧
    (∃ (s : State) (e : SecEntry) (l : List SecEntry), s.load.todo = e :: l ∧ s.powered = true ∧ s.mode = .load ∧ s.load.phase =
      .verified ∧ (e.typ = 0x0070 → s.training = false)) ∧
    (∃ (s : State), s.powered = true ∧ s.mode = .load ∧ s.load.phase = .verified ∧ s.training = true) ∧
    (∃ (s : State), s.powered = true ∧ s.mode = .load ∧ s.load.phase = .verified ∧ s.training = true) ∧
    (∃ (s : State), s.powered = true ∧ s.mode = .load ∧ s.load.phase = .verified ∧ s.load.todo = [] ∧ s.training = false) ∧
    (∃ (s : State), s.powered = true ∧ s.mode = .load ∧ s.load.phase = .failed) ∧
    (∃ (s : State), s.powered = true ∧ s.mode = .load ∧ s.load.phase ≠ .idle ∧ s.load.phase ≠ .failed) ∧
    (∃ (s : State), s.powered = true ∧ s.mode = .load ∧ s.load.phase ≠ .idle ∧ 30000000000 ≤ s.since s.load.startTick) :=
  ⟨⟨{ up with mode := .load, flash := oneSlot }, 0, by decide +kernel⟩,
   ⟨{ up with mode := .load, flash := oneSlot, load.phase := .checked }, by decide +kernel⟩,
   ⟨{ up with mode := .load, flash := badSlot, load.phase := .checked }, by decide +kernel⟩,
   ⟨{ up with mode := .load, load.phase := .verified, load.todo := [{ typ := 0x9999, required := false, die := 0xFF, inst := 0, off := 0, len := 0, crc := 0 }] },
     { typ := 0x9999, required := false, die := 0xFF, inst := 0, off := 0, len := 0, crc := 0 }, [], by decide +kernel⟩,
   ⟨{ up.on [(F.DM_CFG_MTS, [], 1)] with mode := .load, load.phase := .verified }, by decide +kernel⟩,
   ⟨{ up.on [(F.DM_CFG_MTS, [], 1)] with mode := .load, load.phase := .verified }, by decide +kernel⟩,
   ⟨{ up with mode := .load, load.phase := .verified }, by decide +kernel⟩,
   ⟨{ up with mode := .load, load.phase := .failed }, by decide +kernel⟩,
   ⟨{ up with mode := .load, load.phase := .checked }, by decide +kernel⟩,
   ⟨{ up with mode := .load, load.phase := .checked }, by decide +kernel⟩⟩

theorem witness_FaultsComplete :
    (∃ (s : State) (die unit : Nat), s.powered = true ∧ s.live die = true ∧ unit < 256 ∧ s.tack.edrain = none ∧ s.mode ≠ .halt) ∧
    (∃ (s : State) (die unit : Nat), s.powered = true ∧ s.live die = true ∧ unit < 256 ∧ s.tack.edrain = none ∧ s.mode ≠ .halt) ∧
    (∃ (s : State) (die unit cause d0 d1 : Nat), s.powered = true ∧ s.live die = true ∧ unit < 256 ∧ cause < 0x10000 ∧
      s.tack.edrain = none ∧ s.mode ≠ .halt ∧ cause ≠ 1 ∧ cause ≠ 0xA ∧ ¬(unit = 21 ∧ cause = 2) ∧ s.fatalRep
      { die := die, unit := unit, cause := cause, d0 := d0, d1 := d1 } = false) ∧
    (∃ (s : State) (die unit cause d0 d1 : Nat), s.powered = true ∧ s.live die = true ∧ unit < 256 ∧ cause < 0x10000 ∧
      s.tack.edrain = none ∧ s.mode ≠ .halt ∧ cause ≠ 1 ∧ cause ≠ 0xA ∧ unit ≠ 4 ∧ ¬(unit = 21 ∧ cause = 2) ∧ s.fatalRep
      { die := die, unit := unit, cause := cause, dieWide := true, d0 := d0, d1 := d1 } = false ∧ s.flt.iso.all (fun e => e.1 !=
      die) = true) ∧
    (∃ (s : State) (die unit cause : Nat) (wide : Bool) (d0 d1 : Nat), s.powered = true ∧ s.live die = true ∧ unit < 256 ∧ cause
      < 0x10000 ∧ s.tack.edrain = none ∧ s.mode ≠ .halt ∧ cause ≠ 1 ∧ cause ≠ 0xA ∧ ¬(unit = 21 ∧ cause = 2) ∧ s.fatalRep
      { die := die, unit := unit, cause := cause, dieWide := wide, d0 := d0, d1 := d1 } = true) ∧
    (∃ (s : State) (die : Nat), s.powered = true ∧ s.live die = true) ∧
    (∃ (s : State) (r : FaultRep) (l : List FaultRep), s.powered = true ∧ s.flt.reports = r :: l) ∧
    (∃ (s : State) (x unit i us : Nat), s.powered = true ∧ s.live x = true ∧ 20 ≤ us ∧ us ≤ 40 ∧ s.flt.restartAt.at 0 (key3 x
      unit i) = 0) ∧
    (∃ (s : State) (x unit i us : Nat), s.powered = true ∧ s.live x = true ∧ 20 ≤ us ∧ us ≤ 40 ∧ s.flt.restartAt.at 0 (key3 x
      unit i) ≠ 0 ∧ s.since (s.flt.restartAt.at 0 (key3 x unit i) - 1) < 1000000000) ∧
    (∃ (s : State) (x unit cause : Nat) (l : List (Nat × Nat × Nat)), s.flt.iso = (x, unit, cause) :: l ∧ s.powered = true ∧
      s.live x = true) ∧
    (∃ (s : State) (e : JEntry) (l : List JEntry), s.flt.jq = e :: l) :=
  ⟨⟨up, 12, 255, by decide +kernel⟩,
   ⟨up, 12, 255, by decide +kernel⟩,
   ⟨up, 0, 0, 0xFFFF, 0, 0, by decide +kernel⟩,
   ⟨up, 0, 0, 2, 0, 0, by decide +kernel⟩,
   ⟨up, 12, 17, 2, true, 0, 0, by decide +kernel⟩,
   ⟨up, 12, by decide +kernel⟩,
   ⟨{ up with flt.reports := [{ die := 0, unit := 0, cause := 2 }] }, { die := 0, unit := 0, cause := 2 }, [],
     by decide +kernel⟩,
   ⟨up, 12, 13, 0, 20, by decide +kernel⟩,
   ⟨{ up with flt.restartAt := [(key3 12 13 0, 10 ^ 15)] }, 12, 13, 0, 40, by decide +kernel⟩,
   ⟨{ up with flt.iso := [(0, 1, 2)] }, 0, 1, 2, [], by decide +kernel⟩,
   ⟨{ up with flt.jq := [{ cls := 1 }] }, { cls := 1 }, [], by decide +kernel⟩⟩

theorem witness_EventsAndCountersComplete :
    (∃ (s : State) (src v : Nat), s.ringPowered = true ∧ src < 0x1000 ∧ s.routeRefused src v = false) ∧
    (∃ (s : State) (src : Nat), s.ringPowered = true ∧ s.ev.due.contains src = true ∧ (s.deliverEvent src).1 = true) ∧
    (∃ (s : State) (fn v : Nat), s.ringPowered = true ∧ (fn = 0 ∨ fn ≤ s.rc.vfs) ∧ v < State.vectors fn) ∧
    (∃ (s : State) (fn : Nat), s.ringPowered = true ∧ (fn = 0 ∨ fn ≤ s.rc.vfs)) ∧
    (∃ (s : State) (fn v : Nat), s.ringPowered = true ∧ (fn = 0 ∨ fn ≤ s.rc.vfs) ∧ v < State.vectors fn ∧ s.ev.fnOpen.at 0 fn =
      1) ∧
    (∃ (s : State) (fn : Nat), s.ringPowered = true ∧ (fn = 0 ∨ fn ≤ s.rc.vfs)) ∧
    (∃ (s : State) (fn : Nat) (user : Bool) (b n : Nat), s.ringPowered = true ∧ (fn = 0 ∨ fn ≤ s.rc.vfs) ∧ b < 176 ∧ n < 8 ∧
      s.seesCounter fn user b n = true) ∧
    (∃ (s : State) (b n : Nat), s.ringPowered = true ∧ s.blockLive b = true ∧ n < 8) ∧
    (∃ (s : State), s.ringPowered = true) ∧
    (∃ (s : State), s.ringPowered = true ∧ s.clock.tick % (s.get F.PC_BW_WIN_WIN_US [] * 1000) = 0 ∧ s.ev.bwAt ≠ s.clock.tick +
      1) ∧
    (∃ (s : State), s.ringPowered = true) :=
  ⟨⟨up, 4095, 0, by decide +kernel⟩,
   ⟨{ up with ev.due := [0] }, 0, by decide +kernel⟩,
   ⟨{ up with rc.vfs := 15 }, 15, 63, by decide +kernel⟩,
   ⟨up, 0, by decide +kernel⟩,
   ⟨{ up with ev.fnOpen := [(0, 1)] }, 0, 2047, by decide +kernel⟩,
   ⟨up, 0, by decide +kernel⟩,
   ⟨up, 0, false, 0, 7, by decide +kernel⟩,
   ⟨up, 0, 7, by decide +kernel⟩,
   ⟨up, by decide +kernel⟩,
   ⟨up, by decide +kernel⟩,
   ⟨up, by decide +kernel⟩⟩

theorem witness_PortCommandsComplete :
    (∃ (s : State) (p : Nat) (bytes : List Byte) (fec : List Nat) (back : Nat), s.macReceives p = true ∧ s.receiving p = false ∧
      s.hears p (fun b => b == bytes) = true ∧ s.fecFails p fec = false ∧ ofLe (bytes.drop (bytes.length - 4)) = crc32
      (bytes.take (bytes.length - 4)) ∧ 64 ≤ bytes.length ∧ bytes.length ≤ 16000 ∧ bytes.length ≤ s.get F.PG_PORT_LEN_MAX_LEN
      (pix p) ∧ ofBe (slice (bytes.take (bytes.length - 4)) 12 2) ≠ 0x8808 ∧ s.drainDiscards p (s.ingressTime p back) = false ∧
      s.headroomFull p (s.priorityOf p (bytes.take (bytes.length - 4))) = false ∧ s.fifoBytes (p / 8) + (bytes.length - 4) ≤
      262144) ∧
    (∃ (s : State) (p : Nat) (bytes : List Byte) (back : Nat), s.macReceives p = true ∧ s.receiving p = false ∧ s.hears p (fun b
      => b.take bytes.length == bytes) = true ∧ 512 ≤ bytes.length ∧ ofBe (slice bytes 12 2) ≠ 0x8808 ∧ s.drainDiscards p
      (s.ingressTime p back) = false ∧ s.headroomFull p (s.priorityOf p bytes) = false ∧ s.fifoBytes (p / 8) + bytes.length ≤
      262144) ∧
    (∃ (s : State) (p pre : Nat), s.macReceives p = true ∧ pre ≠ 7) ∧
    (∃ (s : State) (g v : Nat), s.powered = true ∧ g < 64 ∧ s.live (g / 8) = true ∧ groupValid v = true ∧ (s.groupPorts g).all
      (fun p => !s.isOn F.PG_PORT_CTRL_ADMIN_UP (pix p)) = true) ∧
    (∃ (s : State) (g v : Nat), s.powered = true ∧ g < 64 ∧ s.live (g / 8) = true ∧ groupValid v = false) ∧
    (∃ (s : State) (p : Nat) (techs : List (Nat × Nat)), s.powered = true ∧ s.live (p / 64) = true ∧ s.txOff = false ∧ s.isPort
      p = true ∧ s.get F.PG_PORT_CTRL_ADMIN_UP (pix p) = 1 ∧ s.get F.PG_PORT_CTRL_AN_EN (pix p) = 1 ∧ s.get
      F.PG_PORT_STAT_AN_DONE (pix p) = 0 ∧ s.port.anBreak.at 0 p = 0 ∧ techs.contains (s.technology p) = true) ∧
    (∃ (s : State) (p : Nat) (techs : List (Nat × Nat)), s.powered = true ∧ s.live (p / 64) = true ∧ s.txOff = false ∧ s.isPort
      p = true ∧ s.get F.PG_PORT_CTRL_ADMIN_UP (pix p) = 1 ∧ s.get F.PG_PORT_CTRL_AN_EN (pix p) = 1 ∧ s.get
      F.PG_PORT_STAT_AN_DONE (pix p) = 0 ∧ s.port.anBreak.at 0 p = 0 ∧ techs.contains (s.technology p) = false) ∧
    (∃ (s : State) (p lanes us : Nat) (trained : Bool), s.lineSeen p = true ∧ s.linkUp p = false ∧ s.lineGood p lanes false
      false trained = true ∧ s.heldUp p us = true ∧ (s.get F.PG_PORT_CTRL_AN_EN (pix p) = 0 ∨ s.get F.PG_PORT_STAT_AN_DONE (pix
      p) = 1)) ∧
    (∃ (s : State) (p lanes us : Nat) (lf rf trained : Bool), s.lineSeen p = true ∧ s.linkUp p = false ∧ (s.lineGood p lanes lf
      rf trained = false ∨ s.heldUp p us = false ∨ (s.get F.PG_PORT_CTRL_AN_EN (pix p) = 1 ∧ s.get F.PG_PORT_STAT_AN_DONE (pix
      p) = 0))) ∧
    (∃ (s : State) (p : Nat) (h : Nat × Nat) (r : List (Nat × Nat)), s.powered = true ∧ s.live (p / 64) = true ∧ s.isPort p =
      true ∧ s.port.txts.at [] p = h :: r) ∧
    (∃ (s : State) (p : Nat), s.powered = true ∧ s.live (p / 64) = true ∧ s.isPort p = true ∧ s.port.txts.at [] p = []) ∧
    (∃ (s : State) (d p : Nat), s.powered = true ∧ s.live d = true ∧ d < 8 ∧ p < 512) ∧
    (∃ (s : State) (d : Nat), s.powered = true ∧ s.live d = true ∧ d < 8) :=
  ⟨⟨port0, 0, goodFrame, [], 0, by decide +kernel⟩,
   ⟨port0, 0, (List.replicate 512 0), 0, by decide +kernel⟩,
   ⟨port0, 0, 6, by decide +kernel⟩,
   ⟨up, 63, 0x00000000, by decide +kernel⟩,
   ⟨up, 63, 0x00FF0000, by decide +kernel⟩,
   ⟨(port0.on [(F.PG_PORT_CTRL_AN_EN, [0, 0], 1)]), 0, [(0, 8)], by decide +kernel⟩,
   ⟨(port0.on [(F.PG_PORT_CTRL_AN_EN, [0, 0], 1)]), 0, [(0, 4)], by decide +kernel⟩,
   ⟨(port0.on [(F.PG_PORT_STAT_LINK_UP, [0, 0], 0)]), 0, 255, 0, false, by decide +kernel⟩,
   ⟨(port0.on [(F.PG_PORT_STAT_LINK_UP, [0, 0], 0), (F.PG_PORT_TIMERS_UP_HOLD_MS, [0, 0], 1)]), 0, 255, 999, false, false, true,
     by decide +kernel⟩,
   ⟨{ port0 with port.txts := [(0, [(1, 2)])] }, 0, (1, 2), [], by decide +kernel⟩,
   ⟨port0, 0, by decide +kernel⟩,
   ⟨up, 7, 511, by decide +kernel⟩,
   ⟨up, 7, by decide +kernel⟩⟩

theorem witness_FlowControlCompletes :
    (∃ (s : State) (p q : Nat), s.macReceives p = true ∧ s.hears p (isControl 1 (beBytes q 2)) = true ∧ s.fcMode p = 1 ∧ s.get
      F.PG_PORT_STAT_RX_PAUSE (pix p) = 1) ∧
    (∃ (s : State) (p vec : Nat) (qs : List Nat), s.macReceives p = true ∧ s.hears p (isControl 0x101 (beBytes vec 2 ++
      (List.range 8).flatMap fun i => beBytes (qs.getD i 0) 2)) = true ∧ s.fcMode p = 2) ∧
    (∃ (s : State) (p : Nat), s.macReceives p = true ∧ s.loopback p ≠ 1) ∧
    (∃ (s : State) (p pri : Nat), s.port.pauseEnd.at 0 (key2 p pri) ≠ 0 ∧ s.paused p pri = false) ∧
    (∃ (s : State) (p pri : Nat), pri ≤ 8 ∧ s.linkUp p = true ∧ s.fcActs p pri = true ∧ bit (s.port.xoff.at 0 p) pri = false ∧
      s.get F.PG_FC_THR_XOFF (pix p) * 64 ≤ s.fcCount p pri) ∧
    (∃ (s : State) (p pri : Nat), bit (s.port.xoff.at 0 p) pri = true ∧ s.fcCount p pri ≤ s.get F.PG_FC_THR_XON (pix p) * 64) ∧
    (∃ (s : State) (p pri : Nat), bit (s.holding p) pri = true ∧ s.sendsPause p pri = true ∧ s.quanta p * 256 ≤ s.since
      (s.port.sentAt.at 0 (key2 p pri)) * max 1 (s.portSpeed p)) ∧
    (∃ (s : State) (g : Nat), s.port.fifoHold.at 0 g = 0 ∧ s.live (g / 8) = true ∧ s.get F.PG_GRP_FIFO_FIFO_XOFF [g / 8, g % 8]
      * 1024 ≤ s.fifoBytes g) ∧
    (∃ (s : State) (g : Nat), s.port.fifoHold.at 0 g ≠ 0 ∧ s.fifoBytes g ≤ s.get F.PG_GRP_FIFO_FIFO_XON [g / 8, g % 8] * 1024) ∧
    (∃ (s : State) (p pri : Nat), p < 512 ∧ pri < 8 ∧ s.get F.PG_PFC_WD_WD_MS (pix p) ≠ 0 ∧ s.paused p pri = true ∧
      s.port.pausedAt.at 0 (key2 p pri) ≠ 0 ∧ s.get F.PG_PFC_WD_WD_MS (pix p) * 1000000 ≤ s.clock.tick + 1 - s.port.pausedAt.at
      0 (key2 p pri)) ∧
    (∃ (s : State) (p pri : Nat), p < 512 ∧ bit (s.get F.PG_PORT_STAT_PFC_WD_ACTIVE (pix p)) pri = true ∧ s.port.wdEnd.at 0
      (key2 p pri) ≤ s.clock.tick) :=
  ⟨⟨(port0.on [(F.PG_PORT_CTRL_FC_MODE, [0, 0], 1), (F.PG_PORT_STAT_RX_PAUSE, [0, 0], 1)]), 0, 65535, by decide +kernel⟩,
   ⟨(port0.on [(F.PG_PORT_CTRL_FC_MODE, [0, 0], 2)]), 0, 255, [1, 0, 2, 0, 0, 0, 0, 65535], by decide +kernel⟩,
   ⟨port0, 0, by decide +kernel⟩,
   ⟨{ port0 with port.pauseEnd := [(8, 1)] }, 0, 8, by decide +kernel⟩,
   ⟨(port0.on [(F.PG_PORT_CTRL_FC_MODE, [0, 0], 1), (F.PG_FC_THR_XOFF, [0, 0], 0)]), 0, 8, by decide +kernel⟩,
   ⟨{ port0 with port.xoff := [(0, 256)] }, 0, 8, by decide +kernel⟩,
   ⟨{ port0.on [(F.PG_PORT_CTRL_FC_MODE, [0, 0], 1), (F.PG_PORT_STAT_TX_PAUSE, [0, 0], 1)] with port.xoff := [(0, 256)] }, 0, 8,
     by decide +kernel⟩,
   ⟨(up.on [(F.PG_GRP_FIFO_FIFO_XOFF, [7, 7], 0)]), 63, by decide +kernel⟩,
   ⟨{ up with port.fifoHold := [(63, 1)] }, 63, by decide +kernel⟩,
   ⟨{ up.on [(F.PG_PFC_WD_WD_MS, [7, 63], 1)] with port.pauseEnd := [(key2 511 7, 10 ^ 16)], port.pausedAt := [(key2 511 7, 1)] },
     511, 7, by decide +kernel⟩,
   ⟨(up.on [(F.PG_PORT_STAT_PFC_WD_ACTIVE, [7, 63], 128)]), 511, 7, by decide +kernel⟩⟩

theorem witness_IngressPassesComplete :
    (∃ (s u : State) (sl a : Nat) (nm : Nat), s.forwarding = true ∧ s.live (sl / 4) = true ∧ sl < 32 ∧ (s.tack.edrain.any fun e
      => e.macsStopped) = false ∧ u = s.checkLatches (sl / 4) nm ∧ u.mayTakeSlot a (sl / 4) (8 * (sl / 4) + sl % 4) = true) ∧
    (∃ (s u : State) (sl g : Nat) (a : Option Nat) (second : Bool) (nm : Nat) (f : Frame) (r : List Frame), s.forwarding = true
      ∧ s.live (sl / 4) = true ∧ sl < 32 ∧ (s.tack.edrain.any fun e => e.macsStopped) = false ∧ u = s.checkLatches (sl / 4) nm ∧
      a.all (fun x => !u.mayTakeSlot x (sl / 4) (8 * (sl / 4) + sl % 4)) = true ∧ g = (if (second && !(u.port.fifo.at [] (8 *
      (sl / 4) + 2 * (sl % 4) + 1)).isEmpty) || (u.port.fifo.at [] (8 * (sl / 4) + 2 * (sl % 4))).isEmpty then 8 * (sl / 4) + 2
      * (sl % 4) + 1 else 8 * (sl / 4) + 2 * (sl % 4)) ∧ u.port.fifo.at [] g = f :: r ∧ f.tail = false) ∧
    (∃ (s u : State) (sl : Nat) (a : Option Nat) (nm : Nat) (f : Frame) (r : List Frame), s.forwarding = true ∧ s.live (sl / 4)
      = true ∧ sl < 32 ∧ (s.tack.edrain.any fun e => e.macsStopped) = false ∧ u = s.checkLatches (sl / 4) nm ∧ a.all (fun x =>
      !u.mayTakeSlot x (sl / 4) (8 * (sl / 4) + sl % 4)) = true ∧ u.port.fifo.at [] (8 * (sl / 4) + 2 * (sl % 4)) = [] ∧
      u.port.fifo.at [] (8 * (sl / 4) + 2 * (sl % 4) + 1) = [] ∧ u.sl.reinj.at [] sl = f :: r) ∧
    (∃ (s u : State) (sl : Nat) (a : Option Nat) (nm : Nat) (f : Frame) (r : List Frame), s.forwarding = true ∧ s.live (sl / 4)
      = true ∧ sl < 32 ∧ (s.tack.edrain.any fun e => e.macsStopped) = false ∧ u = s.checkLatches (sl / 4) nm ∧ a.all (fun x =>
      !u.mayTakeSlot x (sl / 4) (8 * (sl / 4) + sl % 4)) = true ∧ u.port.fifo.at [] (8 * (sl / 4) + 2 * (sl % 4)) = [] ∧
      u.port.fifo.at [] (8 * (sl / 4) + 2 * (sl % 4) + 1) = [] ∧ u.sl.reinj.at [] sl = [] ∧ u.sl.recirc.at [] sl = f :: r) ∧
    (∃ (s : State) (p : Nat) (rest body : List Byte) (e : Bool) (fec : List Nat) (f : Frame), s.loopback p ≠ 2 ∧ 4 ≤ rest.length
      ∧ body = rest.take (rest.length - 4) ∧ s.hears p (fun b => b.drop f.bytes.length == rest) = true ∧ ((s.port.fifo.at [] (p
      / 8)).find? fun f => f.m.inPort == p && f.tail) = some f ∧ s.macFail p ((f.bytes ++ body).length + 4) ((e || s.fecFails p
      fec || s.port.rxBad.at 0 p != 0) || ofLe (rest.drop (rest.length - 4)) != crc32 (f.bytes ++ body)) = none ∧ s.fifoBytes (p
      / 8) + body.length ≤ 262144) ∧
    (∃ (s u : State) (p : Nat) (rest : List Byte) (fec : List Nat) (f : Frame), 4 ≤ rest.length ∧ s.loopback p ≠ 2 ∧ s.hears p
      (fun b => b.drop f.bytes.length == rest) = true ∧ ((s.port.fifo.at [] (p / 8)).find? fun f => f.m.inPort == p && f.tail) =
      none ∧ s.port.ctFrame.find? p = some f ∧ u = (if s.lineOpen p then s.countFec p fec else s)) ∧
    (∃ (s : State) (d r : Nat), s.powered = true ∧ s.live d = true ∧ d < 8 ∧ 1 ≤ r ∧ r ≤ 63 ∧ (r < 20 ∨ 31 < r)) ∧
    (∃ (s : State) (d r v : Nat), s.powered = true ∧ s.live d = true ∧ d < 8 ∧ 1 ≤ r ∧ r ≤ 63 ∧ (r < 20 ∨ 31 < r) ∧ v % 65536 ≠
      0) :=
  ⟨⟨{ up.on [(F.PT_CLAIM_HOLDER, [7], 4)] with pace.pace16 := fastPace }, _, 31, 4, 1, by decide +kernel, by decide +kernel,
     by decide +kernel, by decide +kernel, rfl, by decide +kernel⟩,
   ⟨{ up with port.fifo := [(63, [{ m := {}, bytes := [1, 2, 3, 4], brand := 0 }])] }, _, 31, 63, none, true, 1,
     { m := {}, bytes := [1, 2, 3, 4], brand := 0 }, [], by decide +kernel, by decide +kernel, by decide +kernel,
     by decide +kernel, rfl, by decide +kernel, by decide +kernel, by decide +kernel, by decide +kernel⟩,
   ⟨{ up with sl.reinj := [(31, [{ m := {}, bytes := [1, 2, 3, 4], brand := 0 }])] }, _, 31, none, 1,
     { m := {}, bytes := [1, 2, 3, 4], brand := 0 }, [], by decide +kernel, by decide +kernel, by decide +kernel,
     by decide +kernel, rfl, by decide +kernel, by decide +kernel, by decide +kernel, by decide +kernel⟩,
   ⟨{ up with sl.recirc := [(31, [{ m := {}, bytes := [1, 2, 3, 4], brand := 0 }])] }, _, 31, none, 1,
     { m := {}, bytes := [1, 2, 3, 4], brand := 0 }, [], by decide +kernel, by decide +kernel, by decide +kernel,
     by decide +kernel, rfl, by decide +kernel, by decide +kernel, by decide +kernel, by decide +kernel, by decide +kernel⟩,
   ⟨{ port0 with port.fifo := [(0, [{ m := {}, bytes := List.replicate 64 0, brand := 0, tail := true }])] }, 0, (leBytes (crc32
     (List.replicate 64 0)) 4), _, false, [], { m := {}, bytes := List.replicate 64 0, brand := 0, tail := true },
     by decide +kernel, by decide +kernel, rfl, by decide +kernel, by decide +kernel, by decide +kernel, by decide +kernel⟩,
   ⟨{ port0 with port.ctFrame := [(0, { m := {}, bytes := List.replicate 64 0, brand := 0, tail := true })] }, _, 0, [0, 0, 0,
     0], [], { m := {}, bytes := List.replicate 64 0, brand := 0, tail := true }, by decide +kernel, by decide +kernel,
     by decide +kernel, by decide +kernel, by decide +kernel, rfl⟩,
   ⟨up, 7, 63, by decide +kernel⟩,
   ⟨up, 7, 1, 65535, by decide +kernel⟩⟩

theorem witness_AwlAndFlowComplete :
    (∃ (s : State) (sl : Nat) (bad : Option Nat) (p : Pass) (r : List Pass), s.forwarding = true ∧ s.variant ≠ .e ∧ s.live 12 =
      true ∧ takeFirst (fun (p : Pass) => p.f.m.slice == sl) s.awl.late = some (p, r) ∧ s.setState p.awlSet = 2 ∧ (bad.all fun b
      => s.setOfBlock b != some p.awlSet) = true) ∧
    (∃ (s : State) (sl i : Nat) (h : Held), s.forwarding = true ∧ s.variant ≠ .e ∧ s.live 12 = true ∧ takeFirst (fun (p : Pass)
      => p.f.m.slice == sl) s.awl.late = none ∧ ((s.sl.awlQ.at [] sl).findIdx? fun h => !h.ready) = some i ∧ (s.sl.awlQ.at []
      sl)[i]? = some h ∧ s.setState h.p.awlSet = 2) ∧
    (∃ (s : State) (sl : Nat) (h : Held) (r : List Held), s.sl.awlQ.at [] sl = h :: r ∧ h.ready = true ∧ s.forwarding = true ∧
      s.since h.at_ ≤ s.get F.AW_TIMEOUT_US [] * 1000 ∧ h.p.awlEcc = false) ∧
    (∃ (s u : State) (sl : Nat) (h : Held) (r : List Held), s.sl.awlQ.at [] sl = h :: r ∧ h.ready = true ∧ s.forwarding = true ∧
      s.since h.at_ ≤ s.get F.AW_TIMEOUT_US [] * 1000 ∧ h.p.awlEcc = true ∧ u =
      { s with sl.awlQ := s.sl.awlQ.put [] sl r }.treeTransfer (sl / 4) 1 (some h.p.f.m.tenant)) ∧
    (∃ (s u : State) (sl : Nat) (h : Held) (r : List Held) (q : Pass), s.sl.awlQ.at [] sl = h :: r ∧ s.forwarding = true ∧ s.get
      F.AW_TIMEOUT_US [] * 1000 < s.since h.at_ ∧ u =
      { s with sl.awlQ := s.sl.awlQ.put [] sl r, awl.late := if h.ready then s.awl.late else s.awl.late ++ [h.p] } ∧ q =
      { h.p with verdict := 0, verdictAo := 0, awlList := [], tr := { h.p.tr with hits := h.p.tr.hits - (if 1 ≤ h.p.tr.awlCount then 16 else 0), awlFirst := 0, awlCount := 0 } }) ∧
    (∃ (s : State), s.powered = true ∧ s.variant ≠ .e ∧ s.throttleDue 12 = true) ∧
    (∃ (s : State) (d : Nat), s.powered = true ∧ s.live 12 = true ∧ d < 8 ∧ s.variant.hasDie d = true ∧ s.variant ≠ .e) ∧
    (∃ (s : State) (a : Nat), a < 16 ∧ s.setState a = 4 ∧ s.ddrBad (s.shadowOff a) (s.awl.image.at [] a).length = false) ∧
    (∃ (s : State) (a : Nat), a < 16 ∧ s.setState a = 4) ∧
    (∃ (s u : State) (sl nm : Nat) (p : Pass) (r : List Pass), s.forwarding = true ∧ s.live 12 = true ∧ u = s.checkLatches 12 nm
      ∧ takeFirst (fun (p : Pass) => p.f.m.slice == sl) s.flow.late = some (p, r)) ∧
    (∃ (s u : State) (sl nm i : Nat) (h : Held), s.forwarding = true ∧ s.live 12 = true ∧ u = s.checkLatches 12 nm ∧ takeFirst
      (fun (p : Pass) => p.f.m.slice == sl) s.flow.late = none ∧ ((s.sl.flowQ.at [] sl).findIdx? fun h => !h.ready) = some i ∧
      (s.sl.flowQ.at [] sl)[i]? = some h) ∧
    (∃ (s : State) (sl : Nat) (h : Held) (r : List Held), s.sl.flowQ.at [] sl = h :: r ∧ h.ready = true ∧ s.forwarding = true ∧
      s.since h.at_ ≤ s.get F.FC_TIMEOUT_US [] * 1000) ∧
    (∃ (s u : State) (sl : Nat) (h : Held) (r : List Held) (q : Pass), s.sl.flowQ.at [] sl = h :: r ∧ s.forwarding = true ∧
      s.get F.FC_TIMEOUT_US [] * 1000 < s.since h.at_ ∧ u =
      { s with sl.flowQ := s.sl.flowQ.put [] sl r, flow.late := if h.ready then s.flow.late else s.flow.late ++ [h.p] } ∧ q =
      { h.p with flowAct := 0, flowAo := 0, tr := { h.p.tr with hits := h.p.tr.hits % 32 + h.p.tr.hits / 128 * 128, flowState := 0 } }) ∧
    (∃ (s : State) (i : Nat) (c : Flow), s.flow.ctx.find? i = some c ∧ s.flow.read.find? i = none ∧ s.running = true ∧ s.get
      F.FC_PROF_B_IDLE_S [bits c.key 323 320] ≠ 0 ∧ c.lastSec + s.get F.FC_PROF_B_IDLE_S [bits c.key 323 320] ≤ s.clock.sec) ∧
    (∃ (s : State) (i : Nat) (c : Flow), s.flow.ctx.find? i = some c ∧ s.flow.read.find? i = some (c.lastSec, c.lastNs) ∧
      ({ s with flow.read := s.flow.read.erase i }.flowRead c.key).1.isSome = true) ∧
    (∃ (s : State) (i : Nat) (c : Flow) (a b : Nat), s.flow.ctx.find? i = some c ∧ s.flow.read.find? i = some (a, b) ∧
      (c.lastSec ≠ a ∨ c.lastNs ≠ b)) ∧
    (∃ (s : State), s.variant ≠ .e ∧ s.live 12 = true ∧ s.mayBorrow 2 12 = true) ∧
    (∃ (s : State) (x tbl : Nat) (tb : Tbl), x < 8 ∧ s.live x = true ∧ s.mayBorrow 2 x = true ∧ Tbl.all[tbl]? = some tb ∧
      [Tbl.exact, .root, .lpWord, .vrfDef, .ao, .elist, .tenant, .os].contains tb = true) ∧
    (∃ (s : State) (x tbl i : Nat) (tb : Tbl), x < 8 ∧ s.live x = true ∧ s.mayBorrow 2 x = true ∧ Tbl.all[tbl]? = some tb ∧
      [Tbl.exact, .root, .lpWord, .vrfDef, .ao, .elist, .tenant, .os].contains tb = true ∧ s.tabBad x tb i = false) :=
  ⟨⟨{ up.on [(F.AW_SET_CFG_STATE, [0], 2)] with awl.late := [{ f := { m := {}, bytes := [1, 2, 3, 4], brand := 0 } }] }, 0,
     none, { f := { m := {}, bytes := [1, 2, 3, 4], brand := 0 } }, [], by decide +kernel⟩,
   ⟨{ up.on [(F.AW_SET_CFG_STATE, [0], 2)] with sl.awlQ := [(0, [{ p := { f := { m := {}, bytes := [1, 2, 3, 4], brand := 0 } }, at_ := 0 }])] },
     0, 0, { p := { f := { m := {}, bytes := [1, 2, 3, 4], brand := 0 } }, at_ := 0 }, by decide +kernel⟩,
   ⟨{ up with sl.awlQ := [(0, [{ p := { f := { m := {}, bytes := [1, 2, 3, 4], brand := 0 } }, at_ := 10 ^ 15 - 20000, ready := true }])] },
     0, { p := { f := { m := {}, bytes := [1, 2, 3, 4], brand := 0 } }, at_ := 10 ^ 15 - 20000, ready := true }, [],
     by decide +kernel⟩,
   ⟨{ up with sl.awlQ := [(0, [{ p := { f := { m := {}, bytes := [1, 2, 3, 4], brand := 0 }, awlEcc := true }, at_ := 10 ^ 15 - 20000, ready := true }])] },
     _, 0,
     { p := { f := { m := {}, bytes := [1, 2, 3, 4], brand := 0 }, awlEcc := true }, at_ := 10 ^ 15 - 20000, ready := true },
     [], by decide +kernel, by decide +kernel, by decide +kernel, by decide +kernel, by decide +kernel, rfl⟩,
   ⟨{ up with sl.awlQ := [(0, [{ p := { f := { m := {}, bytes := [1, 2, 3, 4], brand := 0 } }, at_ := 10 ^ 15 - 20001, ready := true }])] },
     _, 0, { p := { f := { m := {}, bytes := [1, 2, 3, 4], brand := 0 } }, at_ := 10 ^ 15 - 20001, ready := true }, [], _,
     by decide +kernel, by decide +kernel, by decide +kernel, rfl, rfl⟩,
   ⟨up, by decide +kernel⟩,
   ⟨up, 7, by decide +kernel⟩,
   ⟨(up.on [(F.AW_SET_CFG_STATE, [15], 4)]), 15, by decide +kernel⟩,
   ⟨(up.on [(F.AW_SET_CFG_STATE, [15], 4)]), 15, by decide +kernel⟩,
   ⟨{ up with flow.late := [{ f := { m := {}, bytes := [1, 2, 3, 4], brand := 0 } }] }, _, 0, 1,
     { f := { m := {}, bytes := [1, 2, 3, 4], brand := 0 } }, [], by decide +kernel, by decide +kernel, rfl, by decide +kernel⟩,
   ⟨{ up with sl.flowQ := [(0, [{ p := { f := { m := {}, bytes := [1, 2, 3, 4], brand := 0 } }, at_ := 0 }])] }, _, 0, 1, 0,
     { p := { f := { m := {}, bytes := [1, 2, 3, 4], brand := 0 } }, at_ := 0 }, by decide +kernel, by decide +kernel, rfl,
     by decide +kernel, by decide +kernel, by decide +kernel⟩,
   ⟨{ up with sl.flowQ := [(0, [{ p := { f := { m := {}, bytes := [1, 2, 3, 4], brand := 0 } }, at_ := 10 ^ 15 - 20000, ready := true }])] },
     0, { p := { f := { m := {}, bytes := [1, 2, 3, 4], brand := 0 } }, at_ := 10 ^ 15 - 20000, ready := true }, [],
     by decide +kernel⟩,
   ⟨{ up with sl.flowQ := [(0, [{ p := { f := { m := {}, bytes := [1, 2, 3, 4], brand := 0 } }, at_ := 10 ^ 15 - 20001, ready := true }])] },
     _, 0, { p := { f := { m := {}, bytes := [1, 2, 3, 4], brand := 0 } }, at_ := 10 ^ 15 - 20001, ready := true }, [], _,
     by decide +kernel, by decide +kernel, by decide +kernel, rfl, rfl⟩,
   ⟨{ up.on [(F.FC_PROF_B_IDLE_S, [0], 1)] with flow.ctx := [(0, { key := 0, lastSec := 1 })] }, 0, { key := 0, lastSec := 1 },
     by decide +kernel⟩,
   ⟨{ up with flow.ctx := [(3429968, { key := 0, lastSec := 1 })], flow.read := [(3429968, (1, 0))] }, 3429968,
     { key := 0, lastSec := 1 }, by decide +kernel⟩,
   ⟨{ up with flow.ctx := [(0, { key := 0, lastSec := 1 })], flow.read := [(0, (0, 0))] }, 0, { key := 0, lastSec := 1 }, 0, 0,
     by decide +kernel⟩,
   ⟨{ up.on [(F.PT_CLAIM_HOLDER, [12], 2)] with pace.pace16 := fastPace }, by decide +kernel⟩,
   ⟨{ up.on [(F.PT_CLAIM_HOLDER, [7], 2)] with pace.pace16 := fastPace }, 7, (Tbl.all.idxOf .lpWord), .lpWord,
     by decide +kernel⟩,
   ⟨{ up.on [(F.PT_CLAIM_HOLDER, [7], 2)] with pace.pace16 := fastPace }, 7, (Tbl.all.idxOf .lpWord), 0, .lpWord,
     by decide +kernel⟩⟩

theorem witness_FabricCompletes :
    (∃ (s : State) (kind sl x : Nat) (st : Stream), st = s.fab.streams.at {} (streamKey kind sl x) ∧ s.forwarding = true ∧
      s.live (sl / 4) = true ∧ s.fab.repatAt = none ∧ (st.cur.isSome = true ∨ st.done ≠ []) ∧ s.get F.LC_CFG_HOLD_NS [sl / 4] ≤
      s.since st.since) ∧
    (∃ (s : State) (d g k : Nat), s.forwarding = true ∧ s.live d = true ∧ s.live (8 + g) = true ∧ d < 8 ∧ k < s.strapsPer) ∧
    (∃ (s u : State) (g k nm : Nat) (c : Cell), s.forwarding = true ∧ s.live (8 + g) = true ∧ s.fab.repatAt = none ∧ u =
      s.checkLatches (8 + g) nm ∧ u.nextCommit g = some (k, c) ∧ (State.linksOf c).length ≤ u.linksFree g) ∧
    (∃ (s : State) (g q : Nat), s.forwarding = true ∧ s.live (8 + g) = true ∧ ((s.gq g (deepId q)).filter fun l =>
      l.page.isNone).length < s.get F.BM_DEEP_HEAD_COLS [g] - 37 ∧ s.frontHeld g (deepId q) = false) ∧
    (∃ (s : State) (g d e : Nat), s.forwarding = true ∧ s.live (8 + g) = true ∧ s.live d = true ∧ d < 8 ∧ s.fab.repatAt = none ∧
      s.fab.calPos.at 0 (key2 g d) ≠ 0 ∧ (s.fab.cal.at [] (key2 g d))[s.fab.calPos.at 0 (key2 g d)]? = some e) ∧
    (∃ (s : State) (g d e : Nat) (l : List Nat), s.forwarding = true ∧ s.live (8 + g) = true ∧ s.live d = true ∧ d < 8 ∧
      s.fab.repatAt = none ∧ s.fab.calPos.at 0 (key2 g d) = 0 ∧ s.fab.calNew.find? (key2 g d) = some (e :: l)) ∧
    (∃ (s : State) (d : Nat), s.fab.calDue.contains d = true) ∧
    (∃ (s : State) (g q : Nat) (l : Link) (r : List Link), s.forwarding = true ∧ s.live (8 + g) = true ∧ s.fab.repatAt = none ∧
      q < 0x1000 ∧ s.gq g q = l :: r ∧ l.page = none ∧ l.at_ + s.get F.MD_RESID_LIMIT_US [] * 1000 < s.clock.tick ∧ s.hasCredit
      g (q / 512) (q / 8 % 64) = true) ∧
    (∃ (s : State) (g : Nat), s.powered = true ∧ s.live (8 + g) = true) ∧
    (∃ (s : State) (g : Nat), s.powered = true ∧ s.live (8 + g) = true ∧ 1000 ≤ s.since (s.fab.avgAt.at 0 g)) ∧
    (∃ (s : State) (d : Nat) (n : Nat × Nat × Nat) (r : List (Nat × Nat × Nat)), takeFirst (fun (n : Nat × Nat × Nat) => n.1 /
      64 == d) s.fab.notices = some (n, r)) ∧
    (∃ (s : State) (b o : Nat), s.powered = true ∧ [2, 3, 7, 8].contains (blockKind b) = true ∧ [2, 3, 7, 8].contains (blockKind
      o) = true) ∧
    (∃ (s : State) (b o : Nat), s.powered = true ∧ [2, 3, 7, 8].contains (blockKind b) = true ∧ [2, 3, 7, 8].contains (blockKind
      o) = true) ∧
    (∃ (s u v : State) (g q h : Nat) (cand : List (Link × Nat)), s.forwarding = true ∧ s.live (8 + g) = true ∧ s.variant.hasDdr
      = true ∧ cand = s.spillColumns g q ∧ cand ≠ [] ∧ u = cand.foldl (fun t e => if e.1.cell.typ = 1 then t else t.parkCell g
      e.1.id) { s with fab.nextId := s.fab.nextId + (s.gq g (deepId q)).length } ∧ u.takePage = (some h, v) ∧ v.ddrHeld
      (v.pageAt h) 16384 = false ∧ (((s.gq g (deepId q)).filterMap (·.page)).getLast?.all fun old => !v.ddrHeld (v.pageAt old)
      12) = true) ∧
    (∃ (s u v : State) (g q : Nat) (cand : List (Link × Nat)), s.forwarding = true ∧ s.live (8 + g) = true ∧ s.variant.hasDdr =
      true ∧ cand = s.spillColumns g q ∧ cand ≠ [] ∧ u = cand.foldl (fun t e => if e.1.cell.typ = 1 then t else t.parkCell g
      e.1.id) { s with fab.nextId := s.fab.nextId + (s.gq g (deepId q)).length } ∧ u.takePage = (none, v)) :=
  ⟨⟨{ up with fab.streams := [(streamKey 0 31 0, { done := [{}] })] }, 0, 31, 0, _, rfl, by decide +kernel, by decide +kernel,
     by decide +kernel, by decide +kernel, by decide +kernel⟩,
   ⟨up, 7, 3, 0, by decide +kernel⟩,
   ⟨{ up with fab.strap := [(key3 0 0 0, [{ tick := 1 }])], fab.stamp := (List.range 8).map fun d => (key3 d 0 0, 3) }, _, 0,
     (key3 0 0 0), 1, { tick := 1 }, by decide +kernel, by decide +kernel, by decide +kernel, rfl, by decide +kernel,
     by decide +kernel⟩,
   ⟨(up.on [(F.BM_DEEP_HEAD_COLS, [3], 38)]), 3, 0, by decide +kernel⟩,
   ⟨{ up with fab.cal := [(key2 3 7, [1, 2])], fab.calPos := [(key2 3 7, 1)] }, 3, 7, 2, by decide +kernel⟩,
   ⟨{ up with fab.calNew := [(key2 3 7, [64])] }, 3, 7, 64, [], by decide +kernel⟩,
   ⟨{ up with fab.calDue := [7] }, 7, by decide +kernel⟩,
   ⟨{ up with fab.queue := [(key2 3 0xFFF, [{ id := 1, kind := 0, at_ := 0, cell := {} }])] }, 3, 0xFFF,
     { id := 1, kind := 0, at_ := 0, cell := {} }, [], by decide +kernel⟩,
   ⟨up, 3, by decide +kernel⟩,
   ⟨up, 3, by decide +kernel⟩,
   ⟨{ up with fab.notices := [(511, 0, 0)] }, 7, (511, 0, 0), [], by decide +kernel⟩,
   ⟨up, 8, 8, by decide +kernel⟩,
   ⟨up, 8, 8, by decide +kernel⟩,
   ⟨{ mem.on [(F.SB_DEEP_RESV_PAGES, [], 4)] with fab.queue := spilling.fab.queue }, _, _, 0, 0, (State.handle 7 (mem.poolSize
     7)), (({ mem.on [(F.SB_DEEP_RESV_PAGES, [], 4)] with fab.queue := spilling.fab.queue } : State).spillColumns 0 0),
     by decide +kernel, by decide +kernel, by decide +kernel, by decide +kernel, by decide +kernel, rfl, pair_eq
     (by decide +kernel), by decide +kernel, by decide +kernel⟩,
   ⟨(spilling.on [(F.SB_DEEP_RESV_PAGES, [], 0)]), _, _, 0, 0, ((spilling.on [(F.SB_DEEP_RESV_PAGES, [], 0)]).spillColumns 0 0),
     by decide +kernel, by decide +kernel, by decide +kernel, by decide +kernel, by decide +kernel, rfl, pair_eq
     (by decide +kernel)⟩⟩

theorem witness_LacingAndBuffersComplete :
    (∃ (s : State) (d k a : Nat), s.forwarding = true ∧ s.live d = true ∧ d < 8 ∧ s.fab.repatAt = none ∧ s.mayTakeSlot a d (8 *
      d + 4 + k / 16 % 4) = true) ∧
    (∃ (s : State) (d g k : Nat) (a : Option Nat) (c : Cell) (r : List Cell), s.forwarding = true ∧ s.live d = true ∧ d < 8 ∧
      s.fab.repatAt = none ∧ a.all (fun x => !s.mayTakeSlot x d (8 * d + 4 + k / 16 % 4)) = true ∧ s.fab.recv.at [] (recvKey d g
      k) = c :: r ∧ c.typ ≠ 3 ∧ s.fab.flushWait.at 0 (64 * d + k) = 0 ∧ (s.fab.lace.at {} (key2 d c.qid)).h ≤ c.ord ∧ c.ord ≤
      (s.fab.lace.at {} (key2 d c.qid)).h + 3 ∧ (s.fab.lace.at {} (key2 d c.qid)).gone.all (fun x => x.1 != c.ord) = true) ∧
    (∃ (s : State) (d q : Nat) (p : LSpan), s.forwarding = true ∧ s.live d = true ∧ d < 8 ∧ ((s.fab.lace.at {} (key2 d
      q)).spans.find? fun p => decide (p.cells.length < s.cols) && decide (s.get F.LC_CFG_TIMEOUT_US [d] * 1000 ≤ s.since
      p.at_)) = some p) ∧
    (∃ (s : State) (p lanes us : Nat) (lf rf trained : Bool), s.powered = true ∧ s.live (p / 64) = true ∧ s.linkUp p = true ∧
      (s.lineGood p lanes lf rf trained = false ∨ (s.get F.PG_PORT_CTRL_AN_EN (pix p) = 1 ∧ s.get F.PG_PORT_STAT_AN_DONE (pix p)
      = 0)) ∧ s.get F.PG_PORT_TIMERS_DOWN_DEB_US (pix p) ≤ us) ∧
    (∃ (s : State) (p v : Nat), s.powered = true ∧ s.live (p / 64) = true ∧ p < 512 ∧ s.isPort p = true ∧ (bit v 31 = true →
      (laneFec (s.portRate p)).contains (bits v 28 27) = true) ∧ bits v 28 27 ≠ 3 ∧ bits v 25 24 ≠ 3 ∧ bits v 23 22 ≠ 3) ∧
    (∃ (s : State) (p v : Nat), s.powered = true ∧ s.live (p / 64) = true ∧ p < 512 ∧ s.isPort p = true ∧ bits v 28 27 = 3) ∧
    (∃ (s : State) (g p : Nat), bit (s.fab.flushAsk.at 0 p) g = true ∧ s.live (8 + g) = true ∧ s.fab.repatAt = none) ∧
    (∃ (s : State) (g p : Nat), bit (s.fab.flushWait.at 0 p) g = true ∧ (s.fab.recv.at [] (recvKey (p / 64) g (p % 64))).any
      (fun c => c.typ == 3) = true) ∧
    (∃ (s : State), s.forwarding = true ∧ s.lostGirths ≠ 0 ∧ s.fab.repatAt = none ∧ s.liveGirths ≠ [] ∧ s.tack.edrain = none) ∧
    (∃ (s : State) (t0 : Nat), s.fab.repatAt = some t0 ∧ s.tack.edrain = none ∧ s.liveGirths ≠ []) ∧
    (∃ (s t : State) (n h : Nat), s.powered = true ∧ 4 ≤ n ∧ n ≤ 8 ∧ s.takeFrom n = some (h, t)) ∧
    (∃ (s : State) (n i : Nat) (r : List Nat), s.powered = true ∧ 4 ≤ n ∧ n ≤ 8 ∧ s.pool.stack.at [] n = i :: r) ∧
    (∃ (s : State) (n i : Nat), s.powered = true ∧ 4 ≤ n ∧ n ≤ 8 ∧ i < s.get F.SB_POOL_CFG_COUNT [n] ∧ i < 2 ^ 24 ∧
      s.pool.used.at 0 (handle n i) ≠ 0 ∧ s.pool.gone.contains (handle n i) = false) :=
  ⟨⟨{ up.on [(F.PT_CLAIM_HOLDER, [7], 4)] with pace.pace16 := fastPace }, 7, 0, 4, by decide +kernel⟩,
   ⟨{ up with fab.recv := [(recvKey 7 3 63, [{}])] }, 7, 3, 63, none, {}, [], by decide +kernel⟩,
   ⟨{ up with fab.lace := [(key2 7 0, { spans := [{ ord := 0, at_ := 0, cells := [] }] })] }, 7, 0,
     { ord := 0, at_ := 0, cells := [] }, by decide +kernel⟩,
   ⟨port0, 0, 254, 50, false, false, true, by decide +kernel⟩,
   ⟨port0, 0, 0, by decide +kernel⟩,
   ⟨port0, 0, 0x18000000, by decide +kernel⟩,
   ⟨{ up with fab.flushAsk := [(511, 8)] }, 3, 511, by decide +kernel⟩,
   ⟨{ up with fab.flushWait := [(511, 8)], fab.recv := [(recvKey 7 3 63, [{ typ := 3 }])] }, 3, 511, by decide +kernel⟩,
   ⟨(up.on [(F.FT_DIE_STAT_ISOLATED, [], 0x100)]), by decide +kernel⟩,
   ⟨{ up with fab.repatAt := some 0 }, 0, by decide +kernel⟩,
   ⟨{ up.on [(F.SB_POOL_CFG_COUNT, [8], 2)] with pool.stack := [(8, [1])] },
     ((({ up.on [(F.SB_POOL_CFG_COUNT, [8], 2)] with pool.stack := [(8, [1])] } : State).takeFrom 8).getD (0, up)).2, 8, (handle
     8 1), by decide +kernel⟩,
   ⟨{ up.on [(F.SB_POOL_CFG_COUNT, [8], 2)] with pool.stack := [(8, [1])] }, 8, 1, [], by decide +kernel⟩,
   ⟨{ up.on [(F.SB_POOL_CFG_COUNT, [8], 2)] with pool.used := [(handle 8 1, 1)] }, 8, 1, by decide +kernel⟩⟩

theorem witness_EgressCompletes :
    (∃ (s : State) (d c : Nat), s.forwarding = true ∧ s.live d = true ∧ d < 8 ∧ c < 8) ∧
    (∃ (s : State) (d k c : Nat), s.forwarding = true ∧ s.live d = true ∧ d < 8 ∧ k < 64 ∧ c < 8) ∧
    (∃ (s u : State) (p c nm : Nat) (e : EFrame) (r : List EFrame), s.forwarding = true ∧ s.live (p / 64) = true ∧ s.linkUp p =
      true ∧ s.port.tx.find? p = none ∧ (s.checkLatches (p / 64) nm).offerPort p = (some c, u) ∧ u.eq p c = e :: r) ∧
    (∃ (s u : State) (p c nm : Nat) (e : EFrame) (r : List EFrame), s.forwarding = true ∧ s.live (p / 64) = true ∧ s.linkUp p =
      true ∧ s.port.tx.find? p = none ∧ (s.checkLatches (p / 64) nm).offerPort p = (some c, u) ∧ u.eq p c = e :: r ∧ e.whole =
      false) ∧
    (∃ (s : State) (p : Nat) (x : TxFrame), s.port.tx.find? p = some x) ∧
    (∃ (s : State) (p : Nat) (x : TxFrame), s.port.tx.find? p = some x) ∧
    (∃ (s : State) (p c : Nat), s.forwarding = true ∧ s.live (p / 64) = true ∧ c < 8) ∧
    (∃ (s : State) (p : Nat), s.powered = true ∧ s.live (p / 64) = true ∧ p < 512 ∧ s.variant ≠ .e) ∧
    (∃ (s : State) (p : Nat), s.powered = true ∧ s.live (p / 64) = true ∧ p < 512 ∧ s.variant ≠ .e ∧ s.gaitOn p = false) :=
  ⟨⟨up, 7, 7, by decide +kernel⟩,
   ⟨up, 7, 63, 7, by decide +kernel⟩,
   ⟨sending, _, 0, 0, 0, waitingFrame, [], by decide +kernel, by decide +kernel, by decide +kernel, by decide +kernel, pair_eq
     (by decide +kernel), by decide +kernel⟩,
   ⟨sendingCut, _, 0, 0, 0, cutFrame, [], by decide +kernel, by decide +kernel, by decide +kernel, by decide +kernel, pair_eq
     (by decide +kernel), by decide +kernel, by decide +kernel⟩,
   ⟨{ port0 with port.tx := [(0, { e := waitingFrame, cls := 0, out := [] })] }, 0, { e := waitingFrame, cls := 0, out := [] },
     by decide +kernel⟩,
   ⟨{ port0 with port.tx := [(0, { e := waitingFrame, cls := 0, out := [] })] }, 0, { e := waitingFrame, cls := 0, out := [] },
     by decide +kernel⟩,
   ⟨up, 511, 7, by decide +kernel⟩,
   ⟨up, 511, by decide +kernel⟩,
   ⟨up, 511, by decide +kernel⟩⟩

theorem witness_TablesComplete :
    (∃ (s : State) (key tenant port d : Nat) (r : List (Nat × Nat × Nat × Nat)), s.ts.learn = (key, tenant, port, d) :: r ∧
      s.running = true ∧ s.live d = true) ∧
    (∃ (s : State) (slot key port tenant n : Nat) (r : List (Nat × Nat × Nat × Nat × Nat)), s.ts.hits = (slot, key, port,
      tenant, n) :: r ∧ s.tab 12 .exact slot ≠ 0 ∧ s.tab 12 .exact slot / 2 ^ 32 = key ∧ (s.ts.visits.any fun a => a.slot ==
      slot && decide (n < a.m)) = false) ∧
    (∃ (s : State) (slot key port tenant n : Nat) (r : List (Nat × Nat × Nat × Nat × Nat)), s.ts.hits = (slot, key, port,
      tenant, n) :: r ∧ (s.tab 12 .exact slot = 0 ∨ s.tab 12 .exact slot / 2 ^ 32 ≠ key) ∧ s.running = true) ∧
    (∃ (s : State) (slot : Nat), s.running = true ∧ s.get F.TS_CTRL_AGE_EN [] = 1 ∧ s.tab 12 .exact slot ≠ 0 ∧ bit (s.tab 12
      .exact slot) 29 = true ∧ (s.ts.visits.any fun a => a.slot == slot) = false ∧ (s.ts.visitAt.at 0 slot = 0 ∨ s.get
      F.TS_AGE_AGE_S [] * 1000000000 ≤ s.since (s.ts.visitAt.at 0 slot - 1))) ∧
    (∃ (s : State) (slot : Nat) (a : AgeVisit) (r : List AgeVisit), takeFirst (fun (a : AgeVisit) => a.slot == slot && decide
      (a.m ≤ s.appliedAll)) s.ts.visits = some (a, r) ∧ s.tab 12 .exact slot ≠ 0 ∧ s.tab 12 .exact slot / 2 ^ 32 = a.key ∧ bit
      (s.tab 12 .exact slot) 29 = true ∧ a.hit = false ∧ a.hitNew = false ∧ s.running = true) ∧
    (∃ (s : State) (slot : Nat) (a : AgeVisit) (r : List AgeVisit), takeFirst (fun (a : AgeVisit) => a.slot == slot && decide
      (a.m ≤ s.appliedAll)) s.ts.visits = some (a, r) ∧ a.hit = true) ∧
    (∃ (s : State) (d : Nat), s.powered = true ∧ s.live d = true ∧ d < 8) ∧
    (∃ (s : State) (x i y : Nat) (tb : Tbl) (r : List Nat), s.badTabs = tkey x tb i :: r ∧ Tbl.all[tb.num]? = some tb ∧ tb.num <
      64 ∧ i < 2 ^ 200 ∧ tb ≠ .mcast ∧ (if tb = Tbl.os then some x else s.liveSkirts.find? fun y => y != x) = some y ∧
      (s.flt.reports.any fun f => f.die == x && f.cause == 2) = false) ∧
    (∃ (s : State) (d p k : Nat), s.ringPowered = true ∧ d < 8 ∧ s.live d = true ∧ p < 16 ∧ k < 6) ∧
    (∃ (s : State) (d p v : Nat), s.ringPowered = true ∧ d < 8 ∧ s.live d = true ∧ p < 16 ∧ v < 2 ^ 32) ∧
    (∃ (s : State) (p : Nat), s.ringPowered = true ∧ p < 512 ∧ s.live (p / 64) = true ∧ s.variant ≠ .e ∧ s.gaitCommit = false ∧
      s.get F.GA_CTRL_ARM (pix p) = 0) ∧
    (∃ (s : State), s.running = true ∧ s.osp.busy = false ∧ (s.ts.log.all fun e => e.2.tbl != Tbl.os.num) = true ∧ s.get
      F.PT_CTRL_CLAIMS_EN [] = 1 ∧ (s.liveSkirts.any fun d => s.isOn F.OS_CTRL_COMPACT [d]) = true) ∧
    (∃ (s : State) (d src dst : Nat) (r : List (Nat × Nat)), s.osp.moves.at [] d = (src, dst) :: r ∧ s.osp.busy = true ∧ d < 8 ∧
      s.live d = true ∧ s.mayWork 4 d = true ∧ 4 ≤ s.pace.slots.at 0 d) ∧
    (∃ (s : State), s.osp.busy = true ∧ (s.liveSkirts.all fun d => (s.osp.moves.at [] d).isEmpty) = true) ∧
    (∃ (s : State), s.osp.busy = true ∧ (s.mode ≠ .run ∨ s.get F.PT_CTRL_CLAIMS_EN [] = 0)) ∧
    (∃ (s : State) (w : OsWait) (r : List OsWait), s.osp.waiting = w :: r ∧ 50000000 ≤ s.since w.at_) ∧
    (∃ (s : State) (d : Nat), s.powered = true ∧ s.live d = true ∧ d < 8 ∧ s.throttleDue d = true) :=
  ⟨⟨{ up with ts.learn := [(5, 1, 2, 7)] }, 5, 1, 2, 7, [], by decide +kernel⟩,
   ⟨{ up with ts.hits := [(3, 5, 0, 0, 1)], tabs := [(tkey 12 .exact 3, 5 * 2 ^ 32 + 2 ^ 29)] }, 3, 5, 0, 0, 1, [],
     by decide +kernel⟩,
   ⟨{ up with ts.hits := [(3, 5, 0, 0, 1)] }, 3, 5, 0, 0, 1, [], by decide +kernel⟩,
   ⟨{ up.on [(F.TS_CTRL_AGE_EN, [], 1)] with tabs := [(tkey 12 .exact 3, 5 * 2 ^ 32 + 2 ^ 29)] }, 3, by decide +kernel⟩,
   ⟨{ up with ts.visits := [{ slot := 3, key := 5, m := 0 }], tabs := [(tkey 12 .exact 3, 5 * 2 ^ 32 + 2 ^ 29)] }, 3,
     { slot := 3, key := 5, m := 0 }, [], by decide +kernel⟩,
   ⟨{ up with ts.visits := [{ slot := 3, key := 5, m := 0, hit := true }] }, 3, { slot := 3, key := 5, m := 0, hit := true },
     [], by decide +kernel⟩,
   ⟨up, 7, by decide +kernel⟩,
   ⟨{ up with badTabs := [tkey 7 .lpm 3] }, 7, 3, 0, .lpm, [], by decide +kernel⟩,
   ⟨up, 7, 15, 5, by decide +kernel⟩,
   ⟨up, 7, 15, (2 ^ 32 - 1), by decide +kernel⟩,
   ⟨up, 511, by decide +kernel⟩,
   ⟨(up.on [(F.PT_CTRL_CLAIMS_EN, [], 1), (F.OS_CTRL_COMPACT, [7], 1)]), by decide +kernel⟩,
   ⟨{ up.on [(F.PT_CLAIM_HOLDER, [7], 4)] with pace.pace16 := fastPace, osp.busy := true, osp.moves := [(7, [(1, 0)])], pace.slots := [(7, 4)] },
     7, 1, 0, [], by decide +kernel⟩,
   ⟨{ up with osp.busy := true }, by decide +kernel⟩,
   ⟨{ up.on [(F.PT_CTRL_CLAIMS_EN, [], 0)] with osp.busy := true }, by decide +kernel⟩,
   ⟨{ up with osp.waiting := [{ ref := .entry 0 0, kind := 0, id := 0, val := 0, at_ := 0 }] },
     { ref := .entry 0 0, kind := 0, id := 0, val := 0, at_ := 0 }, [], by decide +kernel⟩,
   ⟨up, 7, by decide +kernel⟩⟩

theorem witness_RecordsComplete :
    (∃ (s : State) (x : Nat × Option (Nat × Nat) × Cell × Start) (r : List (Nat × Option (Nat × Nat) × Cell × Start)), s.powered
      = true ∧ s.fab.captures = x :: r ∧ s.capHeld = false) ∧
    (∃ (s : State) (x : List Byte × Nat) (r : List (List Byte × Nat)), s.powered = true ∧ s.sl.samples = x :: r ∧ s.capHeld =
      false) ∧
    (∃ (s : State), s.powered = true ∧ s.live 12 = true ∧ s.variant ≠ .e ∧ s.get F.CP_DDR_CFG_EN [] = 0) ∧
    (∃ (s : State), s.tallyUp = true ∧ s.tally.on = true ∧ s.mode = .drain ∧ s.modes.odrain.isSome = true ∧ s.drained = true) ∧
    (∃ (s : State), s.tallyUp = true ∧ s.tally.on = true ∧ s.mode ≠ .drain ∧ s.tally.minuteEnd ≤ s.tallyNow) ∧
    (∃ (s : State), s.tallyUp = true ∧ s.tally.on = true ∧ s.mode ≠ .drain ∧ s.tallyNow < s.tally.minuteEnd ∧
      s.tally.nextInterim ≤ s.tallyNow) ∧
    (∃ (s : State), s.tallyUp = true) ∧
    (∃ (s : State) (u : TallySet) (r : List TallySet), s.tally.sets = u :: r ∧ s.tallyUp = true ∧ 1000000000 ≤ s.since u.cutAt) ∧
    (∃ (s : State), s.powered = true ∧ s.live 12 = true) ∧
    (∃ (s : State), s.powered = true ∧ s.live 12 = true ∧ s.variant ≠ .e ∧ s.get F.TL_LOG_CFG_EN [] = 0) :=
  ⟨⟨{ up with fab.captures := [(0, none, {}, { off := 0, len := 64, brand := 0, m := {} })] }, (0, none, {},
     { off := 0, len := 64, brand := 0, m := {} }), [], by decide +kernel⟩,
   ⟨{ up with sl.samples := [([1], 0)] }, ([1], 0), [], by decide +kernel⟩,
   ⟨up, by decide +kernel⟩,
   ⟨{ up with mode := .drain, tally.on := true, modes.odrain := some {} }, by decide +kernel⟩,
   ⟨{ up with tally.on := true }, by decide +kernel⟩,
   ⟨{ up with tally.on := true, tally.minuteEnd := 10 ^ 20 }, by decide +kernel⟩,
   ⟨up, by decide +kernel⟩,
   ⟨{ up with tally.sets := [{}] }, {}, [], by decide +kernel⟩,
   ⟨up, by decide +kernel⟩,
   ⟨up, by decide +kernel⟩⟩

theorem witness_MemoryAndTranslationComplete :
    (∃ (s : State) (c : Nat), s.running = true ∧ c < s.variant.channels ∧ s.get F.DM_CH_STAT_TRAINED [c] = 1 ∧ s.get
      F.DM_RETRAIN_INTERVAL_S [] * 1000000000 ≤ s.since (s.ddr.trainAt.at 0 c - 1)) ∧
    (∃ (s : State) (c : Nat), s.retraining = some c) ∧
    (∃ (s : State) (c : Nat), s.retraining = some c) ∧
    (∃ (s : State) (o : Nat), s.powered = true ∧ s.mayBorrow 2 12 = true ∧ s.scrubDue (o / 64) = true ∧ o < s.ddrSize ∧
      s.ddrWaits o = false ∧ s.ddr.bad.contains (o / 64) = false) ∧
    (∃ (s : State) (o : Nat), s.powered = true ∧ s.mayBorrow 2 12 = true ∧ s.scrubDue (o / 64) = true ∧ o < s.ddrSize ∧
      s.ddrWaits o = false) ∧
    (∃ (s : State) (o : Nat), s.powered = true ∧ s.ddrTrained = true ∧ o < s.ddrSize) ∧
    (∃ (s : State) (p k : Nat) (r : List Nat), s.ddr.retire = p :: r ∧ ((List.range (s.get F.DM_SPARE_PAGES [])).find? fun k =>
      !s.ddr.spares.contains k) = some k) ∧
    (∃ (s : State) (p : Nat) (r : List Nat), s.ddr.retire = p :: r ∧ ((List.range (s.get F.DM_SPARE_PAGES [])).find? fun k =>
      !s.ddr.spares.contains k) = none) ∧
    (∃ (s : State) (g : Nat), s.powered = true ∧ (s.xl.prq.any fun r => r.grp == g) = true) ∧
    (∃ (s : State) (g : Nat) (r : PageReq), (s.xl.prq.find? fun r => r.grp == g) = some r ∧ s.powered = true ∧ s.get
      F.TR_PRI_TMO_MS [] * 1000000 ≤ s.since r.at_) ∧
    (∃ (s : State) (k first n fn pas page : Nat), s.powered = true ∧ s.rcHalted = false ∧ s.askedPages[k]? = some (fn, pas,
      page) ∧ first ≤ page ∧ page < first + n) ∧
    (∃ (s : State), s.powered = true) ∧
    (∃ (s : State), s.powered = true ∧ 0 < s.xl.invals) ∧
    (∃ (s : State) (fn : Nat), s.powered = true ∧ fn ≤ s.rc.vfs) :=
  ⟨⟨(up.on [(F.DM_CH_STAT_TRAINED, [3], 1)]), 3, by decide +kernel⟩,
   ⟨{ up.on [(F.PT_CLAIM_HOLDER, [12], 3)] with ddr.due := [3] }, 3, by decide +kernel⟩,
   ⟨{ up.on [(F.PT_CLAIM_HOLDER, [12], 3)] with ddr.due := [3] }, 3, by decide +kernel⟩,
   ⟨{ mem.on [(F.PT_CLAIM_HOLDER, [12], 2), (F.DM_SCRUB_HOURS, [], 1)] with pace.pace16 := fastPace, ddr.scrubNext := 16383 },
     (2 ^ 20 - 1), by decide +kernel⟩,
   ⟨{ mem.on [(F.PT_CLAIM_HOLDER, [12], 2), (F.DM_SCRUB_HOURS, [], 1)] with pace.pace16 := fastPace, ddr.scrubNext := 16383 },
     (2 ^ 20 - 1), by decide +kernel⟩,
   ⟨mem, 0, by decide +kernel⟩,
   ⟨{ mem.on [(F.DM_SPARE_PAGES, [], 1)] with ddr.retire := [7] }, 7, 0, [], by decide +kernel⟩,
   ⟨{ mem.on [(F.DM_SPARE_PAGES, [], 0)] with ddr.retire := [7] }, 7, [], by decide +kernel⟩,
   ⟨{ up with xl.prq := [{ grp := 1, fn := 0, pas := 0, page := 2, write := false, waits := [], at_ := 0 }] }, 1,
     by decide +kernel⟩,
   ⟨{ up with xl.prq := [{ grp := 1, fn := 0, pas := 0, page := 2, write := false, waits := [], at_ := 0 }] }, 1,
     { grp := 1, fn := 0, pas := 0, page := 2, write := false, waits := [], at_ := 0 }, by decide +kernel⟩,
   ⟨{ up with xl.asked := [{ who := .fetch 0, fn := 0, pas := 0, va := 0x2000, write := false }] }, 0, 2, 1, 0, 0, 2,
     by decide +kernel⟩,
   ⟨up, by decide +kernel⟩,
   ⟨{ up with xl.invals := 1 }, by decide +kernel⟩,
   ⟨{ up with rc.vfs := 15 }, 15, by decide +kernel⟩⟩

theorem witness_QueuesComplete :
    (∃ (s : State), s.ringPowered = true ∧ s.driverOk 0 = false ∧ ((List.range 8).all fun w => s.acceptWord 0 w &&& (if w = 0
      then s.offer 0 else 0) == s.acceptWord 0 w) = true) ∧
    (∃ (s : State) (fn : Nat), s.ringPowered = true ∧ fn ≠ 0 ∧ fn < 16 ∧ fn ≤ s.rc.vfs ∧ s.driverOk fn = false ∧ ((List.range
      8).all fun w => s.acceptWord fn w &&& (if w = 0 then s.offer fn else 0) == s.acceptWord fn w) = true) ∧
    (∃ (s : State) (fn q v f : Nat), s.ringPowered = true ∧ bit v 31 = true ∧ q < 2048 ∧ seesQueue fn (s.sqFn q) = true ∧ s.get
      F.RC_SQ_CFG_EN [q] = 0 ∧ f = (if fn = 0 then bits v 21 18 else s.sqFn q) ∧ s.driverOk f = true ∧ s.typeAccepted f (bits v
      30 27) = true ∧ logOk (bits v 26 22) = true ∧ s.get F.RC_CQ_CFG_EN [bits v 10 0] = 1 ∧ s.get F.RC_CQ_CFG_FN [bits v 10 0]
      = f) ∧
    (∃ (s : State) (fn c v f : Nat), s.ringPowered = true ∧ bit v 31 = true ∧ c < 2048 ∧ seesQueue fn (s.get F.RC_CQ_CFG_FN [c])
      = true ∧ s.get F.RC_CQ_CFG_EN [c] = 0 ∧ f = (if fn = 0 then bits v 24 21 else s.get F.RC_CQ_CFG_FN [c]) ∧ s.ringCfgOk f v
      = true) ∧
    (∃ (s : State) (fn r v f : Nat), s.ringPowered = true ∧ bit v 31 = true ∧ r < 64 ∧ seesQueue fn (s.get F.RC_ER_CFG_FN [r]) =
      true ∧ s.get F.RC_ER_CFG_EN [r] = 0 ∧ f = (if fn = 0 then bits v 24 21 else s.get F.RC_ER_CFG_FN [r]) ∧ s.ringCfgOk f v =
      true) ∧
    (∃ (s : State) (q : Nat), s.ringPowered = true ∧ q < 2048 ∧ s.get F.RC_SQ_CFG_EN [q] = 1) ∧
    (∃ (s : State) (c : Nat), s.ringPowered = true ∧ c < 2048 ∧ s.get F.RC_CQ_CFG_EN [c] = 1 ∧ ((List.range 2048).all fun q =>
      s.get F.RC_SQ_CFG_CQ [q] != c || (!s.isOn F.RC_SQ_CFG_EN [q] && s.isOn F.RC_SQ_STAT_IDLE [q])) = true) ∧
    (∃ (s : State) (r : Nat), s.ringPowered = true ∧ r < 64) ∧
    (∃ (s : State) (q v : Nat), s.ringPowered = true ∧ q < 2048 ∧ s.get F.RC_SQ_CFG_EN [q] = 1 ∧ s.rcHalted = false ∧ s.sqLog q
      ≤ 16 ∧ ringCount (s.sqLog q) (v % 2 ^ (s.sqLog q + 1)) (s.sqHead q) ≤ 2 ^ s.sqLog q) ∧
    (∃ (s : State) (q v : Nat), s.ringPowered = true ∧ q < 2048 ∧ s.get F.RC_SQ_CFG_EN [q] = 1 ∧ s.rcHalted = false ∧ 2 ^
      s.sqLog q < ringCount (s.sqLog q) (v % 2 ^ (s.sqLog q + 1)) (s.sqHead q)) ∧
    (∃ (s : State) (q : Nat), s.ringUp = true ∧ q < 2048 ∧ s.get F.RC_SQ_CFG_EN [q] = 1 ∧ s.sqParked q = false) ∧
    (∃ (s : State) (c v : Nat), s.ringPowered = true ∧ c < 2048 ∧ s.get F.RC_CQ_CFG_EN [c] = 1 ∧ s.rcHalted = false ∧ s.cqLog c
      ≤ 16 ∧ ringCount (s.cqLog c) (v % 2 ^ (s.cqLog c + 1)) (s.cqHead c) ≤ s.cqUsed c) ∧
    (∃ (s : State) (r : Nat), s.ringPowered = true ∧ r < 64 ∧ s.erLog r ≤ 16) ∧
    (∃ (s : State) (n : Nat), s.ringPowered = true ∧ (s.accepted 0 28 = true ∨ n = 0) ∧ n ≤ 15) ∧
    (∃ (s : State) (f : Nat), s.ringPowered = true ∧ 1 ≤ f ∧ f ≤ s.rc.vfs) ∧
    (∃ (s : State), s.ringPowered = true ∧ s.tack.edrain = none) :=
  ⟨⟨up, by decide +kernel⟩,
   ⟨{ up with rc.vfs := 15 }, 15, by decide +kernel⟩,
   ⟨(up.on [(F.FEAT_CTRL_DRIVER_OK, [], 1), (F.RC_CQ_CFG_EN, [5], 1)]), 0, 2047, (2 ^ 31 + 1 * 2 ^ 27 + 16 * 2 ^ 22 + 5), 0,
     by decide +kernel⟩,
   ⟨(up.on [(F.FEAT_CTRL_DRIVER_OK, [], 1)]), 0, 2047, (2 ^ 31 + 16 * 2 ^ 25), 0, by decide +kernel⟩,
   ⟨(up.on [(F.FEAT_CTRL_DRIVER_OK, [], 1)]), 0, 63, (2 ^ 31 + 4 * 2 ^ 25), 0, by decide +kernel⟩,
   ⟨(up.on [(F.RC_SQ_CFG_EN, [2047], 1)]), 2047, by decide +kernel⟩,
   ⟨(up.on [(F.RC_CQ_CFG_EN, [2047], 1)]), 2047, by decide +kernel⟩,
   ⟨up, 63, by decide +kernel⟩,
   ⟨(up.on [(F.RC_SQ_CFG_EN, [2047], 1), (F.RC_SQ_CFG_LOG2, [2047], 4)]), 2047, 16, by decide +kernel⟩,
   ⟨(up.on [(F.RC_SQ_CFG_EN, [2047], 1), (F.RC_SQ_CFG_LOG2, [2047], 4)]), 2047, 17, by decide +kernel⟩,
   ⟨(up.on [(F.RC_SQ_CFG_EN, [2047], 1), (F.RC_SQ_CFG_LOG2, [2047], 4)]), 2047, by decide +kernel⟩,
   ⟨(up.on [(F.RC_CQ_CFG_EN, [2047], 1), (F.RC_CQ_CFG_LOG2, [2047], 4), (F.RC_CQ_STAT_TAIL, [2047], 3)]), 2047, 3,
     by decide +kernel⟩,
   ⟨up, 63, by decide +kernel⟩,
   ⟨(busy (job 10)), 15, by decide +kernel⟩,
   ⟨{ up with rc.vfs := 15 }, 15, by decide +kernel⟩,
   ⟨up, by decide +kernel⟩⟩

theorem witness_RingOperationsRun :
    JobWitness (fun _ _ _ => true) (isOp 1) ∧
    JobWitness (fun _ _ _ => true) (isOp 2) ∧
    JobWitness (fun _ _ _ => true) (isOp 3) ∧
    JobWitness (fun _ _ _ => true) (isOp 4) ∧
    JobWitness (fun _ _ _ => true) (isOp 5) ∧
    JobWitness (fun _ _ _ => true) (isOp 7) ∧
    JobWitness (fun _ _ _ => true) (isOp 8) ∧
    JobWitness (fun _ _ _ => true) (isOp 10) ∧
    JobWitness flashTurn (fun e => isOp 9 e && entSub e == 0) ∧
    JobWitness flashTurn (fun e => isOp 9 e && entSub e == 1) ∧
    JobWitness flashTurn (fun e => isOp 9 e && entSub e == 2) ∧
    JobWitness flashTurn (fun e => isOp 9 e && entSub e == 3) :=
  ⟨jobWitness_of (job (1)) (jobData (1) (List.replicate 16 0)) (by decide +kernel) [(0x1000, 16)] (by decide +kernel),
   jobWitness_of (job (2)) (jobData (2) (List.replicate 16 0)) (by decide +kernel) [(0x1000, 16)] (by decide +kernel),
   jobWitness_of (job (3)) (jobData (3) (List.replicate 16 0)) (by decide +kernel) [(0x1000, 16)] (by decide +kernel),
   jobWitness_of (job (4)) (jobData (4) (List.replicate 16 0)) (by decide +kernel) [(0x1000, 16)] (by decide +kernel),
   jobWitness_of (job (5)) (jobData (5) (List.replicate 16 0)) (by decide +kernel) [(0x1000, 16)] (by decide +kernel),
   jobWitness_of (job (7)) (jobData (7) (List.replicate 16 0)) (by decide +kernel) [(0x1000, 16)] (by decide +kernel),
   jobWitness_of (job (8)) (jobData (8) (List.replicate 16 0)) (by decide +kernel) [(0x1000, 16)] (by decide +kernel),
   jobWitness_of (job (10)) (jobData (10) (List.replicate 16 0)) (by decide +kernel) [(0x1000, 16)] (by decide +kernel),
   jobWitness_of (job (9 + 0 * 2 ^ 264)) (jobData (9 + 0 * 2 ^ 264) (List.replicate 16 0)) (by decide +kernel) [(0x1000, 16)]
     (by decide +kernel),
   jobWitness_of (job (9 + 1 * 2 ^ 264)) (jobData (9 + 1 * 2 ^ 264) (List.replicate 16 0)) (by decide +kernel) [(0x1000, 16)]
     (by decide +kernel),
   jobWitness_of (job (9 + 2 * 2 ^ 264)) (jobData (9 + 2 * 2 ^ 264) (List.replicate 16 0)) (by decide +kernel) [(0x1000, 16)]
     (by decide +kernel),
   jobWitness_of (job (9 + 3 * 2 ^ 264)) (jobData (9 + 3 * 2 ^ 264) (List.replicate 16 0)) (by decide +kernel) [(0x1000, 16)]
     (by decide +kernel)⟩

theorem witness_RingDataCompletes :
    (∃ (s u : State) (q i : Nat) (j : Job) (fr : List (Nat × Nat)), s.jobOf q i (isOp 6) = some j ∧ j.stage = 5 ∧ s.mode ≠ .halt
      ∧ entInd j.ent = true ∧ j.frags = some fr ∧ entLen j.ent ≤ j.got.length ∧ u = ((s.set F.AW_SET_CFG_STATE [entSub j.ent]
      1).setJob j).setJob j) ∧
    (∃ (s : State) (q i : Nat) (j : Job), s.jobOf q i (isOp 0x20) = some j ∧ (s.rc.jobs.find? fun k => k.q == q) = some j ∧
      (entInd j.ent = false ∨ j.frags.isSome = true)) ∧
    (∃ (s : State) (q : Nat) (b : RxBuf) (l : List RxBuf), s.rc.bufs.at [] q = b :: l ∧ s.ringUp = true ∧ 0 < b.recs ∧ s.get
      F.RC_SQ_CFG_TYPE [q] ≠ 3 ∧ s.sqParked q = false ∧ s.get F.RC_RX_FLUSH_US [] * 1000 ≤ s.since b.at_) ∧
    (∃ (s u v : State) (q i : Nat) (j : Job) (fr : List (Nat × Nat)), s.jobOf q i (isOp 0x40) = some j ∧ s.opBarred j.fn j.ent
      [] = none ∧ 60 ≤ entLen j.ent ∧ entLen j.ent ≤ 15996 ∧ entInd j.ent = true ∧ j.frags = some fr ∧ entLen j.ent ≤
      j.got.length ∧ u = s.setJob j ∧ u.reinject (injectMeta j.ent) j.got = (0, v)) ∧
    (∃ (s : State) (q i : Nat) (j : Job), s.jobOf q i (isOp 0x40) = some j ∧ j.stage = 4 ∧ 100000 ≤ s.since j.at_) ∧
    (∃ (s : State) (c : Nat) (k : Compl) (r : List Compl), s.ringUp = true ∧ takeFirst (fun (k : Compl) => k.cq == c) s.rc.comp
      = some (k, r)) ∧
    (∃ (s : State) (c : Nat) (f : Fence) (r : List Fence), s.ringUp = true ∧ takeFirst (fun (k : Compl) => k.cq == c) s.rc.comp
      = none ∧ takeFirst (fun (f : Fence) => f.due && f.c.cq == c) s.rc.fences = some (f, r) ∧ s.mayStart c = true) ∧
    (∃ (s : State) (c t0 : Nat), s.rc.cqFirst.find? c = some t0 ∧ s.ringUp = true ∧ s.get F.RC_CQ_COAL_US [c] * 1000 ≤ s.since
      t0) :=
  ⟨⟨busy { jobData 6 [1, 2] with stage := 5 }, _, 2047, 5, { jobData 6 [1, 2] with stage := 5 }, [(0x1000, 2)],
     by decide +kernel, by decide +kernel, by decide +kernel, by decide +kernel, by decide +kernel, by decide +kernel, rfl⟩,
   ⟨busy (job 0x20), 2047, 5, job 0x20, by decide +kernel⟩,
   ⟨{ up with rc.bufs := [(2047, [{ idx := 0, ent := 0x20, cq := 3, fn := 0, pas := 0, frags := [], len := 256, used := 64, recs := 1 }])] },
     2047, { idx := 0, ent := 0x20, cq := 3, fn := 0, pas := 0, frags := [], len := 256, used := 64, recs := 1 }, [],
     by decide +kernel⟩,
   ⟨busy (jobData (0x40 + 7 * 2 ^ 256) (List.replicate 60 0)), _, _, 2047, 5, jobData (0x40 + 7 * 2 ^ 256) (List.replicate 60
     0), [(0x1000, 60)], by decide +kernel, by decide +kernel, by decide +kernel, by decide +kernel, by decide +kernel,
     by decide +kernel, by decide +kernel, rfl, pair_eq (by decide +kernel)⟩,
   ⟨busy { job (0x40) with stage := 4 }, 2047, 5, { job (0x40) with stage := 4 }, by decide +kernel⟩,
   ⟨{ up with rc.comp := [{ cq := 3, sq := 1, slot := 0 }] }, 3, { cq := 3, sq := 1, slot := 0 }, [], by decide +kernel⟩,
   ⟨{ up.on [(F.RC_CQ_CFG_LOG2, [3], 4)] with rc.fences := [{ ao := 1, c := { cq := 3, sq := 1, slot := 0 }, due := true }] },
     3, { ao := 1, c := { cq := 3, sq := 1, slot := 0 }, due := true }, [], by decide +kernel⟩,
   ⟨{ up with rc.cqFirst := [(3, 0)] }, 3, 0, by decide +kernel⟩⟩

theorem witness_ArithmeticCompletes :
    OpWitness 1 (fun _ _ i _ => regForm i = true ∧ codeWritable (insD i) = true) ∧
    OpWitness 2 (fun _ _ i _ => regForm i = true ∧ codeWritable (insD i) = true) ∧
    OpWitness 3 (fun _ _ i _ => regForm i = true ∧ codeWritable (insD i) = true) ∧
    OpWitness 4 (fun _ _ i _ => regForm i = true ∧ codeWritable (insD i) = true) ∧
    OpWitness 5 (fun _ _ i _ => regForm i = true ∧ codeWritable (insD i) = true) ∧
    OpWitness 6 (fun _ _ i _ => regForm i = true ∧ codeWritable (insD i) = true) ∧
    OpWitness 7 (fun _ _ i _ => regForm i = true ∧ codeWritable (insD i) = true) ∧
    OpWitness 8 (fun _ _ i _ => regForm i = true ∧ codeWritable (insD i) = true) ∧
    OpWitness 9 (fun _ _ i _ => regForm i = true ∧ codeWritable (insD i) = true) ∧
    OpWitness 10 (fun _ _ i _ => regForm i = true ∧ codeWritable (insD i) = true) ∧
    OpWitness 11 (fun _ _ i _ => regForm i = true ∧ codeWritable (insD i) = true) ∧
    OpWitness 12 (fun _ _ i _ => regForm i = true ∧ codeWritable (insD i) = true) ∧
    OpWitness 13 (fun _ _ i _ => regForm i = true ∧ codeWritable (insD i) = true) ∧
    OpWitness 14 (fun _ _ i _ => regForm i = true ∧ codeWritable (insD i) = true) ∧
    OpWitness 17 (fun _ _ i _ => immForm i = true ∧ codeWritable (insD i) = true) ∧
    OpWitness 18 (fun _ _ i _ => immForm i = true ∧ codeWritable (insD i) = true) ∧
    OpWitness 19 (fun _ _ i _ => immForm i = true ∧ codeWritable (insD i) = true) ∧
    OpWitness 20 (fun _ _ i _ => immForm i = true ∧ codeWritable (insD i) = true) ∧
    OpWitness 21 (fun _ _ i _ => immForm i = true ∧ codeWritable (insD i) = true) ∧
    OpWitness 22 (fun _ _ i _ => immForm i = true ∧ codeWritable (insD i) = true) ∧
    OpWitness 23 (fun _ _ i _ => immForm i = true ∧ codeWritable (insD i) = true) ∧
    OpWitness 24 (fun _ _ i _ => immForm i = true ∧ codeWritable (insD i) = true) ∧
    OpWitness 25 (fun _ _ i _ => immForm i = true ∧ codeWritable (insD i) = true) ∧
    OpWitness 26 (fun _ _ i _ => immForm i = true ∧ codeWritable (insD i) = true) ∧
    OpWitness 27 (fun _ _ i _ => immForm i = true ∧ codeWritable (insD i) = true) ∧
    OpWitness 28 (fun _ _ i _ => immForm i = true ∧ codeWritable (insD i) = true) ∧
    OpWitness 29 (fun _ _ i _ => immForm i = true ∧ codeWritable (insD i) = true) ∧
    OpWitness 30 (fun _ _ i _ => immForm i = true ∧ codeWritable (insD i) = true) :=
  ⟨opWitness_of (reg 1) (engine (reg 1) []) (by decide +kernel) (by decide +kernel) (by decide +kernel),
   opWitness_of (reg 2) (engine (reg 2) []) (by decide +kernel) (by decide +kernel) (by decide +kernel),
   opWitness_of (reg 3) (engine (reg 3) []) (by decide +kernel) (by decide +kernel) (by decide +kernel),
   opWitness_of (reg 4) (engine (reg 4) []) (by decide +kernel) (by decide +kernel) (by decide +kernel),
   opWitness_of (reg 5) (engine (reg 5) []) (by decide +kernel) (by decide +kernel) (by decide +kernel),
   opWitness_of (reg 6) (engine (reg 6) []) (by decide +kernel) (by decide +kernel) (by decide +kernel),
   opWitness_of (reg 7) (engine (reg 7) []) (by decide +kernel) (by decide +kernel) (by decide +kernel),
   opWitness_of (reg 8) (engine (reg 8) []) (by decide +kernel) (by decide +kernel) (by decide +kernel),
   opWitness_of (reg 9) (engine (reg 9) []) (by decide +kernel) (by decide +kernel) (by decide +kernel),
   opWitness_of (reg 10) (engine (reg 10) []) (by decide +kernel) (by decide +kernel) (by decide +kernel),
   opWitness_of (reg 11) (engine (reg 11) []) (by decide +kernel) (by decide +kernel) (by decide +kernel),
   opWitness_of (reg 12) (engine (reg 12) []) (by decide +kernel) (by decide +kernel) (by decide +kernel),
   opWitness_of (reg 13) (engine (reg 13) []) (by decide +kernel) (by decide +kernel) (by decide +kernel),
   opWitness_of (reg 14) (engine (reg 14) []) (by decide +kernel) (by decide +kernel) (by decide +kernel),
   opWitness_of (imm 17 5) (engine (imm 17 5) []) (by decide +kernel) (by decide +kernel) (by decide +kernel),
   opWitness_of (imm 18 5) (engine (imm 18 5) []) (by decide +kernel) (by decide +kernel) (by decide +kernel),
   opWitness_of (imm 19 5) (engine (imm 19 5) []) (by decide +kernel) (by decide +kernel) (by decide +kernel),
   opWitness_of (imm 20 5) (engine (imm 20 5) []) (by decide +kernel) (by decide +kernel) (by decide +kernel),
   opWitness_of (imm 21 5) (engine (imm 21 5) []) (by decide +kernel) (by decide +kernel) (by decide +kernel),
   opWitness_of (imm 22 5) (engine (imm 22 5) []) (by decide +kernel) (by decide +kernel) (by decide +kernel),
   opWitness_of (imm 23 5) (engine (imm 23 5) []) (by decide +kernel) (by decide +kernel) (by decide +kernel),
   opWitness_of (imm 24 5) (engine (imm 24 5) []) (by decide +kernel) (by decide +kernel) (by decide +kernel),
   opWitness_of (imm 25 5) (engine (imm 25 5) []) (by decide +kernel) (by decide +kernel) (by decide +kernel),
   opWitness_of (imm 26 5) (engine (imm 26 5) []) (by decide +kernel) (by decide +kernel) (by decide +kernel),
   opWitness_of (imm 27 5) (engine (imm 27 5) []) (by decide +kernel) (by decide +kernel) (by decide +kernel),
   opWitness_of (imm 28 5) (engine (imm 28 5) []) (by decide +kernel) (by decide +kernel) (by decide +kernel),
   opWitness_of (imm 29 5) (engine (imm 29 5) []) (by decide +kernel) (by decide +kernel) (by decide +kernel),
   opWitness_of (imm 30 5) (engine (imm 30 5) []) (by decide +kernel) (by decide +kernel) (by decide +kernel)⟩

theorem witness_MovesAndBranchesComplete :
    OpWitness 0x00 (fun _ _ i _ => regForm i = true) ∧
    OpWitness 0x20 (fun _ _ i _ => codeWritable (insD i) = true) ∧
    OpWitness 0x21 (fun _ _ i _ => codeWritable (insD i) = true ∧ bit i 16 = false) ∧
    (∃ (e t i : Nat) (s u v : State) (bs : List Byte), Running e t i s u ∧ insOp i = 0x28 ∧ immForm i = true ∧ codeWritable
      (insD i) = true ∧ u.readAligned e t (u.thr e t).answered (insSize i) (u.memAddr e t i) (insSize i) = .ok bs v) ∧
    (∃ (e t i : Nat) (s u v : State) (bs : List Byte), Running e t i s u ∧ insOp i = 0x29 ∧ immForm i = true ∧ u.memAddr e t i %
      insSize i = 0 ∧ u.memWrite e t (u.thr e t).answered (u.memAddr e t i) (leBytes (u.opRead e t (insD i)) (insSize i)) = .ok
      bs v) ∧
    OpWitness 0x30 (fun _ _ i _ => cmpForm i = true) ∧
    OpWitness 0x31 (fun _ _ i _ => cmpForm i = true) ∧
    OpWitness 0x32 (fun _ _ i _ => cmpForm i = true) ∧
    OpWitness 0x33 (fun _ _ i _ => cmpForm i = true) ∧
    OpWitness 0x34 (fun _ _ i _ => bits (insD i) 5 3 = 0 ∧ insA i = 0x6D) ∧
    OpWitness 0x35 (fun _ _ _ _ => True) ∧
    OpWitness 0x36 (fun _ _ _ _ => True) ∧
    OpWitness 0x37 (fun _ _ i _ => regForm i = true) :=
  ⟨opWitness_of 0 (engine 0 []) (by decide +kernel) (by decide +kernel) (by decide +kernel),
   opWitness_of (imm 0x20 5) (engine (imm 0x20 5) []) (by decide +kernel) (by decide +kernel) (by decide +kernel),
   opWitness_of (0x21 * 2 ^ 24 + 1 * 2 ^ 17) (engine (0x21 * 2 ^ 24 + 1 * 2 ^ 17) []) (by decide +kernel) (by decide +kernel)
     (by decide +kernel),
   ⟨31, 7, (imm 0x28 0x300), engine (imm 0x28 0x300) [(2, 0x7FFF8)], _, _, _, running_of (by decide +kernel), by decide +kernel,
     by decide +kernel, by decide +kernel, acc_eq rst (by decide +kernel)⟩,
   ⟨31, 7, (imm 0x29 0x300), engine (imm 0x29 0x300) [(2, 0x7FFF8)], _, _, _, running_of (by decide +kernel), by decide +kernel,
     by decide +kernel, by decide +kernel, acc_eq rst (by decide +kernel)⟩,
   opWitness_of (imm 0x30 5) (engine (imm 0x30 5) []) (by decide +kernel) (by decide +kernel) (by decide +kernel),
   opWitness_of (imm 0x31 5) (engine (imm 0x31 5) []) (by decide +kernel) (by decide +kernel) (by decide +kernel),
   opWitness_of (imm 0x32 5) (engine (imm 0x32 5) []) (by decide +kernel) (by decide +kernel) (by decide +kernel),
   opWitness_of (imm 0x33 5) (engine (imm 0x33 5) []) (by decide +kernel) (by decide +kernel) (by decide +kernel),
   opWitness_of (0x34 * 2 ^ 24 + 2 * 2 ^ 17 + 0x6D * 2 ^ 10 + 5) (engine (0x34 * 2 ^ 24 + 2 * 2 ^ 17 + 0x6D * 2 ^ 10 + 5) [])
     (by decide +kernel) (by decide +kernel) (by decide +kernel),
   opWitness_of (imm 0x35 5) (engine (imm 0x35 5) []) (by decide +kernel) (by decide +kernel) (by decide +kernel),
   opWitness_of (imm 0x36 5) (engine (imm 0x36 5) []) (by decide +kernel) (by decide +kernel) (by decide +kernel),
   opWitness_of (reg 0x37) (engine (reg 0x37) []) (by decide +kernel) (by decide +kernel) (by decide +kernel)⟩

theorem witness_WaitsAndChannelsComplete :
    (∃ (e t i b : Nat) (s u v : State), Running e t i s u ∧ insOp i = 0x40 ∧ regForm i = true ∧ codeWritable (insD i) = true ∧
      u.waitMask e t i < 2 ^ 19 ∧ v = u.setDeadline e t (u.opRead e t (insB i)) ∧ v.waitFound e t i = some b) ∧
    (∃ (e t i : Nat) (s u v : State), Running e t i s u ∧ insOp i = 0x40 ∧ regForm i = true ∧ codeWritable (insD i) = true ∧
      u.waitMask e t i < 2 ^ 19 ∧ v = u.setDeadline e t (u.opRead e t (insB i)) ∧ v.waitFound e t i = none ∧ u.opRead e t (insB
      i) ≠ 0 ∧ (v.thr e t).dl ≤ v.clock.tick) ∧
    OpWitness 0x41 (fun _ _ i _ => regForm i = true) ∧
    OpWitness 0x48 (fun e _ i u => immForm i = true ∧ u.chState e (bits i 3 0) = 0) ∧
    OpWitness 0x49 (fun e t i u => immForm i = true ∧ u.chMine e t (u.chOf e t i) = true) ∧
    OpWitness 0x4A (fun e t i u => immForm i = true ∧ u.chMine e t (u.chOf e t i) = true) ∧
    OpWitness 0x4B (fun e t i u => immForm i = true ∧ codeWritable (insD i) = true ∧ u.chState e (u.chOf e t i) = 2) ∧
    OpWitness 0x4C (fun e t i u => immForm i = true ∧ u.chState e (u.chOf e t i) = 2) :=
  ⟨⟨31, 7, (reg 0x40), 17, (engine (reg 0x40) [(2, 2 ^ 17), (3, 9)]).setEng 31 fun g => { g with pq := [0x40000000] }, _, _,
     running_of (by decide +kernel), by decide +kernel, by decide +kernel, by decide +kernel, by decide +kernel, rfl,
     by decide +kernel⟩,
   ⟨31, 7, (reg 0x40), (engine (reg 0x40) [(2, 2 ^ 17), (3, 9)]).setThr 31 7 fun h =>
     { h with flags := 2 ^ flagDlv, dl := 10 ^ 15 }, _, _, running_of (by decide +kernel), by decide +kernel, by decide +kernel,
     by decide +kernel, by decide +kernel, rfl, by decide +kernel, by decide +kernel, by decide +kernel⟩,
   opWitness_of (reg 0x41) (engine (reg 0x41) []) (by decide +kernel) (by decide +kernel) (by decide +kernel),
   opWitness_of (imm 0x48 5) (engine (imm 0x48 5) []) (by decide +kernel) (by decide +kernel) (by decide +kernel),
   opWitness_of (imm 0x49 5) ((engine (imm 0x49 5) []).setEng 31 fun g => { g with chan := [(0, 1)], owner := [(0, 7)] })
     (by decide +kernel) (by decide +kernel) (by decide +kernel),
   opWitness_of (imm 0x4A 5) ((engine (imm 0x4A 5) []).setEng 31 fun g => { g with chan := [(0, 1)], owner := [(0, 7)] })
     (by decide +kernel) (by decide +kernel) (by decide +kernel),
   opWitness_of (imm 0x4B 5) ((engine (imm 0x4B 5) []).setEng 31 fun g => { g with chan := [(0, 2)], owner := [(0, 7)] })
     (by decide +kernel) (by decide +kernel) (by decide +kernel),
   opWitness_of (imm 0x4C 5) ((engine (imm 0x4C 5) []).setEng 31 fun g => { g with chan := [(0, 2)], owner := [(0, 7)] })
     (by decide +kernel) (by decide +kernel) (by decide +kernel)⟩

theorem witness_PuntAndUnitInstructionsComplete :
    (∃ (e t i h : Nat) (r : List Nat) (s u : State), Running e t i s u ∧ insOp i = 0x50 ∧ regForm i = true ∧ codeWritable (insD
      i) = true ∧ (u.eng e).pq = h :: r) ∧
    OpWitness 0x51 (fun e t i u => regForm i = true ∧ codeWritable (insD i) = true ∧ (u.thr e t).answered = false) ∧
    (∃ (e t i q h d : Nat) (bs : List Byte) (s u : State), Running e t i s u ∧ insOp i = 0x52 ∧ regForm i = true ∧ q = u.opRead
      e t (insA i) ∧ h = u.opRead e t (insB i) % 2 ^ 32 ∧ (u.puntFind u.heldPart h).isSome = false ∧ u.puntFind u.bufBad h =
      none ∧ u.puntDesc h = some d ∧ bs = u.puntRecord d (u.rc.punts.at 0 q % 2 ^ 32) ∧ u.rxTakes q 3 bs.length = true) ∧
    (∃ (e t i h d : Nat) (m : Meta) (s u : State), Running e t i s u ∧ insOp i = 0x53 ∧ regForm i = true ∧ h = u.opRead e t
      (insA i) % 2 ^ 32 ∧ (u.puntFind u.heldPart h).isSome = false ∧ u.puntDesc h = some d ∧ u.st.held.find? h = some m) ∧
    (∃ (e t i h : Nat) (s u v : State), Running e t i s u ∧ insOp i = 0x58 ∧ immForm i = true ∧ codeWritable (insD i) = true ∧ 4
      ≤ bits i 3 0 ∧ bits i 3 0 ≤ 8 ∧ u.alloc (bits i 3 0) = (some h, v)) ∧
    (∃ (e t i : Nat) (s u v : State), Running e t i s u ∧ insOp i = 0x59 ∧ regForm i = true ∧ u.freeBuffer (u.opRead e t (insA
      i) % 2 ^ 32) = (0, v)) ∧
    (∃ (e t i a : Nat) (s u : State), Running e t i s u ∧ insOp i = 0x5A ∧ regForm i = true ∧ codeWritable (insD i) = true ∧
      u.handleAddr (u.opRead e t (insA i) % 2 ^ 32) = some a) ∧
    (∃ (e t i n d : Nat) (bs : List Byte) (s u v : State), Running e t i s u ∧ insOp i = 0x60 ∧ regForm i = true ∧ codeWritable
      (insD i) = true ∧ u.freeTag e t = some n ∧ u.readAligned e t (u.thr e t).answered 8 (u.opRead e t (insA i)) 32 = .ok bs v
      ∧ d = ofLe bs ∧ bits d 255 152 = 0 ∧ (v.windowAt (bits d 63 0) (bits d 151 128)).isSome = true ∧ (v.windowAt (bits d 127
      64) (bits d 151 128)).isSome = true ∧ v.variant ≠ .e) ∧
    (∃ (e t i n : Nat) (s u v : State), Running e t i s u ∧ insOp i = 0x61 ∧ regForm i = true ∧ codeWritable (insD i) = true ∧ n
      = u.opRead e t (insA i) % 16 ∧ v = u.setDeadline e t (u.opRead e t (insB i)) ∧ v.tagBusy e t n = false) ∧
    OpWitness 0x70 (fun e t i u => regForm i = true ∧ codeWritable (insD i) = true ∧ (u.thr e t).answered = false) ∧
    (∃ (e t i a h d : Nat) (bs : List Byte) (s u : State), Running e t i s u ∧ insOp i = 0x71 ∧ regForm i = true ∧ codeWritable
      (insD i) = true ∧ codeWritable (insA i) = true ∧ a = u.opRead e t (insA i) ∧ h = u.opRead e t (insB i) % 2 ^ 32 ∧
      u.puntDesc h = some d ∧ bit d 60 = true ∧ a < min 16 (bits d 351 344) ∧ u.bufHeld h 0 64 = false ∧ u.bufHeld (bits d 479
      448) (4 * a) 4 = false ∧ u.bufBad h 0 64 = none ∧ u.bufBad (bits d 479 448) (4 * a) 4 = none ∧ u.bufRead (bits d 479 448)
      (4 * a) 4 = some bs) ∧
    OpWitness 0x72 (fun e t i u => regForm i = true ∧ codeWritable (insD i) = true ∧ (u.thr e t).answered = false) :=
  ⟨⟨31, 7, (reg 0x50), 0x40000000, [], (engine (reg 0x50) []).setEng 31 fun g => { g with pq := [0x40000000] }, _, running_of
     (by decide +kernel), by decide +kernel, by decide +kernel, by decide +kernel, by decide +kernel⟩,
   opWitness_of (reg 0x51) (engine (reg 0x51) []) (by decide +kernel) (by decide +kernel) (by decide +kernel),
   ⟨31, 7, (reg 0x52), _, _, _, _, engineOf
     ({ (up.on [(F.SB_POOL_CFG_COUNT, [4], 16)]).on [(F.RC_SQ_CFG_EN, [2047], 1), (F.RC_SQ_CFG_TYPE, [2047], 3)] with rc.bufs := [(2047, [{ idx := 0, ent := 0x20, cq := 3, fn := 0, pas := 0, frags := [], len := 4096 }])] })
     (reg 0x52) [(2, 2047), (3, 0x40000000)], _, running_of (by decide +kernel), by decide +kernel, by decide +kernel, rfl, rfl,
     by decide +kernel, by decide +kernel, some_eq (by decide +kernel), rfl, by decide +kernel⟩,
   ⟨31, 7, (reg 0x53), _, _, {}, engineOf { (up.on [(F.SB_POOL_CFG_COUNT, [4], 16)]) with st.held := [(0x40000000, {})] } (reg
     0x53) [(2, 0x40000000)], _, running_of (by decide +kernel), by decide +kernel, by decide +kernel, rfl, by decide +kernel,
     some_eq (by decide +kernel), by decide +kernel⟩,
   ⟨31, 7, (imm 0x58 4), 0x40000000, engineOf (up.on [(F.SB_POOL_CFG_COUNT, [4], 16)]) (imm 0x58 4) [], _, _, running_of
     (by decide +kernel), by decide +kernel, by decide +kernel, by decide +kernel, by decide +kernel, by decide +kernel, pair_eq
     (by decide +kernel)⟩,
   ⟨31, 7, (reg 0x59), engineOf { (up.on [(F.SB_POOL_CFG_COUNT, [4], 16)]) with pool.used := [(0x40000003, 1)] } (reg 0x59) [(2,
     0x40000003)], _, _, running_of (by decide +kernel), by decide +kernel, by decide +kernel, pair_eq (by decide +kernel)⟩,
   ⟨31, 7, (reg 0x5A), _, engineOf (up.on [(F.SB_POOL_CFG_COUNT, [4], 16)]) (reg 0x5A) [(2, 0x4000000F)], _, running_of
     (by decide +kernel), by decide +kernel, by decide +kernel, by decide +kernel, some_eq (by decide +kernel)⟩,
   ⟨31, 7, (reg 0x60), _, _, _, engine (reg 0x60) [(2, 0x100)], _, _, running_of (by decide +kernel), by decide +kernel,
     by decide +kernel, by decide +kernel, some_eq (by decide +kernel), acc_eq rst (by decide +kernel), rfl, by decide +kernel,
     by decide +kernel, by decide +kernel, by decide +kernel⟩,
   ⟨31, 7, (reg 0x61), _, engine (reg 0x61) [(2, 15)], _, _, running_of (by decide +kernel), by decide +kernel,
     by decide +kernel, by decide +kernel, rfl, rfl, by decide +kernel⟩,
   opWitness_of (reg 0x70) (engine (reg 0x70) []) (by decide +kernel) (by decide +kernel) (by decide +kernel),
   ⟨31, 7, (reg 0x71), _, _, _, _, engineOf
     { (up.on [(F.SB_POOL_CFG_COUNT, [4], 16)]) with st.pool := (Map.putAll 0 [] 0 (leBytes (2 ^ 60 + 3 * 2 ^ 344 + 0x40000001 * 2 ^ 448) 64)) }
     (reg 0x71) [(2, 2), (3, 0x40000000)], _, running_of (by decide +kernel), by decide +kernel, by decide +kernel,
     by decide +kernel, by decide +kernel, rfl, rfl, some_eq (by decide +kernel), by decide +kernel, by decide +kernel,
     by decide +kernel, by decide +kernel, by decide +kernel, by decide +kernel, some_eq (by decide +kernel)⟩,
   opWitness_of (reg 0x72) (engine (reg 0x72) []) (by decide +kernel) (by decide +kernel) (by decide +kernel)⟩

theorem witness_LongInstructionsComplete :
    (∃ (e t i b n a : Nat) (bs : List Byte) (s u v w : State), Running e t i s u ∧ insOp i = 0x68 ∧ regForm i = true ∧
      codeWritable (insD i) = true ∧ codeWritable (insA i) = true ∧ codeWritable (insB i) = true ∧ b = u.opRead e t (insB i) ∧ b
      ≠ 0 ∧ n = min 64 b ∧ a = u.opRead e t (insA i) ∧ u.memRead e t (u.thr e t).answered a n = .ok bs v ∧ w = ((v.opWrite e t
      (insD i) (crcRun polyC (v.opRead e t (insD i) % 2 ^ 32) bs)).opWrite e t (insA i) (a + n)).opWrite e t (insB i) (b - n)) ∧
    OpWitness 0x68 (fun e t i u => regForm i = true ∧ codeWritable (insD i) = true ∧ codeWritable (insA i) = true ∧ codeWritable
      (insB i) = true ∧ u.opRead e t (insB i) = 0) ∧
    (∃ (e t i b n a d : Nat) (bs x : List Byte) (s u v y w : State), Running e t i s u ∧ insOp i = 0x69 ∧ regForm i = true ∧
      codeWritable (insD i) = true ∧ codeWritable (insA i) = true ∧ codeWritable (insB i) = true ∧ b = u.opRead e t (insB i) ∧ b
      ≠ 0 ∧ n = min 64 b ∧ a = u.opRead e t (insA i) ∧ d = u.opRead e t (insD i) ∧ u.memRead e t (u.thr e t).answered a n = .ok
      bs v ∧ v.memWrite e t (u.thr e t).answered d bs = .ok x y ∧ w = ((y.opWrite e t (insA i) (a + n)).opWrite e t (insD i) (d
      + n)).opWrite e t (insB i) (b - n)) ∧
    (∃ (e t i d k : Nat) (bs : List Byte) (s u v : State), Running e t i s u ∧ insOp i = 0x6A ∧ regForm i = true ∧ codeWritable
      (insD i) = true ∧ codeWritable (insB i) = true ∧ d = u.opRead e t (insD i) ∧ d ≠ 0 ∧ u.readAligned e t (u.thr e
      t).answered 8 d 16 = .ok bs v ∧ k = ofLe bs ∧ bits k 127 64 = v.opRead e t (insA i)) ∧
    (∃ (e t i d k b : Nat) (bs : List Byte) (s u v : State), Running e t i s u ∧ insOp i = 0x6A ∧ regForm i = true ∧
      codeWritable (insD i) = true ∧ codeWritable (insB i) = true ∧ d = u.opRead e t (insD i) ∧ d ≠ 0 ∧ u.readAligned e t (u.thr
      e t).answered 8 d 16 = .ok bs v ∧ k = ofLe bs ∧ bits k 127 64 ≠ v.opRead e t (insA i) ∧ b = v.opRead e t (insB i) ∧ b ≠ 0) ∧
    (∃ (e t i h k j c : Nat) (hd b0 x : List Byte) (s u v y z : State), Running e t i s u ∧ insOp i = 0x6B ∧ regForm i = true ∧
      insD i < 30 ∧ codeWritable (insB i) = true ∧ u.readAligned e t (u.thr e t).answered 8 (u.opRead e t (insA i)) 32 = .ok hd
      v ∧ h = ofLe hd ∧ bits h 127 70 = 0 ∧ bits h 255 192 = 0 ∧ k = v.opRead e t (insD i) ∧ v.opRead e t (insD i + 2) = 2 ^ 64
      - 1 ∧ c = (hashPair (bits h 159 128) (bits h 191 160) (leBytes k 8) (bits h 69 64)).1 ∧ v.bucketRead e t (u.thr e
      t).answered (bits h 63 0) c = .ok b0 y ∧ freeSlot b0 = some j ∧ y.memWrite e t (u.thr e t).answered (w64 (bits h 63 0 + 64
      * c + 16 * j)) (leBytes (k + v.opRead e t (insD i + 1) * 2 ^ 64) 16) = .ok x z) :=
  ⟨⟨31, 7, (reg 0x68), _, _, _, _, engine (reg 0x68) [(2, 0x100), (3, 100)], _, _, _, running_of (by decide +kernel),
     by decide +kernel, by decide +kernel, by decide +kernel, by decide +kernel, by decide +kernel, rfl, by decide +kernel, rfl,
     rfl, acc_eq rst (by decide +kernel), rfl⟩,
   opWitness_of (reg 0x68) (engine (reg 0x68) []) (by decide +kernel) (by decide +kernel) (by decide +kernel),
   ⟨31, 7, (reg 0x69), _, _, _, _, _, _, engine (reg 0x69) [(1, 0x7FFF0), (2, 0x100), (3, 16)], _, _, _, _, running_of
     (by decide +kernel), by decide +kernel, by decide +kernel, by decide +kernel, by decide +kernel, by decide +kernel, rfl,
     by decide +kernel, rfl, rfl, rfl, acc_eq rst (by decide +kernel), acc_eq rst (by decide +kernel), rfl⟩,
   ⟨31, 7, (reg 0x6A), _, _, _, engine (reg 0x6A) [(1, 0x100)], _, _, running_of (by decide +kernel), by decide +kernel,
     by decide +kernel, by decide +kernel, by decide +kernel, rfl, by decide +kernel, acc_eq rst (by decide +kernel), rfl,
     by decide +kernel⟩,
   ⟨31, 7, (reg 0x6A), _, _, _, _, engine (reg 0x6A) [(1, 0x100), (2, 9), (3, 2)], _, _, running_of (by decide +kernel),
     by decide +kernel, by decide +kernel, by decide +kernel, by decide +kernel, rfl, by decide +kernel, acc_eq rst
     (by decide +kernel), rfl, by decide +kernel, rfl, by decide +kernel⟩,
   ⟨31, 7, (reg 0x6B), _, _, 0, _, _, _, _, engine (reg 0x6B) [(1, 77), (2, 0x100), (3, 2 ^ 64 - 1)], _, _, _, _, running_of
     (by decide +kernel), by decide +kernel, by decide +kernel, by decide +kernel, by decide +kernel, acc_eq rst
     (by decide +kernel), rfl, by decide +kernel, by decide +kernel, rfl, by decide +kernel, rfl, acc_eq rst
     (by decide +kernel), by decide +kernel, acc_eq rst (by decide +kernel)⟩⟩

theorem witness_ExceptionsAndMicrocodeComplete :
    OpWitness 0x78 (fun _ _ i _ => immForm i = true) ∧
    OpWitness 0x79 (fun _ _ i _ => regForm i = true) ∧
    (∃ (e t i : Nat) (s u : State), e < 32 ∧ s.enginesUp = true ∧ u = s.settle e ∧ (u.eng e).cur = some t ∧ u.threadReady e t =
      true ∧ u.instrAt e t = i ∧ (opcodeListed (insOp i) = false ∨ s.dispatched (insOp i) = false)) ∧
    (∃ (e t i : Nat) (s u : State), Running e t i s u ∧ 0xC0 ≤ insOp i) ∧
    (∃ (e t a : Nat) (s u : State), e < 32 ∧ s.enginesUp = true ∧ u = s.settle e ∧ (u.eng e).cur = some t ∧ u.threadReady e t =
      true ∧ a < 65536) ∧
    (∃ (a : Nat) (s : State), s.powered = true ∧ s.st.badWord.contains a = true) ∧
    (∃ (e t : Nat) (s : State), s.enginesUp = true ∧ e < 32 ∧ t < 8 ∧ ((s.thr e t).stall = .wait ∨ (s.thr e t).stall = .dmaw) ∧
      (s.thr e t).dl ≤ s.clock.tick) ∧
    (∃ (e t : Nat) (s : State), s.enginesUp = true ∧ e < 32 ∧ t < 8 ∧ ((s.thr e t).stall = .wait ∨ (s.thr e t).stall = .dmaw ∨
      (s.thr e t).stall = .unit) ∧ s.waiting (.thread e t) = false) ∧
    (∃ (e t tag : Nat) (s : State), s.enginesUp = true ∧ e < 32 ∧ t < 8 ∧ s.waiting (.tag e (16 * t + tag)) = false) :=
  ⟨opWitness_of (imm 0x78 5) (engine (imm 0x78 5) []) (by decide +kernel) (by decide +kernel) (by decide +kernel),
   opWitness_of (reg 0x79) (engine (reg 0x79) []) (by decide +kernel) (by decide +kernel) (by decide +kernel),
   ⟨31, 7, (reg 0x0F), engine (reg 0x0F) [], _, by decide +kernel, by decide +kernel, rfl, by decide +kernel, by decide +kernel,
     by decide +kernel, by decide +kernel⟩,
   ⟨31, 7, (reg 0xC0), engine (reg 0xC0) [], _, running_of (by decide +kernel), by decide +kernel⟩,
   ⟨31, 7, 65535, engine 0 [], _, by decide +kernel, by decide +kernel, rfl, by decide +kernel, by decide +kernel,
     by decide +kernel⟩,
   ⟨65535, { up with st.badWord := [65535] }, by decide +kernel⟩,
   ⟨31, 7, up.setThr 31 7 fun h => { h with stall := .wait, dl := 10 ^ 15 }, by decide +kernel⟩,
   ⟨31, 7, up.setThr 31 7 fun h => { h with stall := .unit }, by decide +kernel⟩,
   ⟨31, 7, 15, up, by decide +kernel⟩⟩

theorem witness_EngineControlCompletes :
    (∃ (e t : Nat) (s : State), s.powered = true ∧ s.live 12 = true ∧ e < 32 ∧ t < 8 ∧ (s.thr e t).stopped = false) ∧
    (∃ (e t : Nat) (s : State), s.powered = true ∧ s.live 12 = true ∧ e < 32 ∧ t < 8 ∧ ((s.thr e t).stopped = true ∨ (s.thr e
      t).faulted = true)) ∧
    (∃ (e t : Nat) (s : State), s.powered = true ∧ s.live 12 = true ∧ e < 32 ∧ t < 8 ∧ (s.thr e t).stopped = true) ∧
    (∃ (e : Nat) (s : State), s.powered = true ∧ s.live 12 = true ∧ e < 32) ∧
    (∃ (e v c : Nat) (s : State), s.powered = true ∧ s.live 12 = true ∧ e < 32 ∧ c < 16 ∧ bit v c = true) ∧
    (∃ (e : Nat) (s : State), s.powered = true ∧ s.live 12 = true ∧ e < 32) ∧
    (∃ (e t : Nat) (s : State), s.powered = true ∧ s.live 12 = true ∧ e < 32 ∧ t = s.get F.ST_DBG_SEL_THREAD [e] ∧
      s.threadStopped e t = true ∧ s.get F.ST_DBG_SEL_INDEX [e] = 0x60) ∧
    (∃ (s : State), s.powered = true ∧ s.live 12 = true ∧ s.mode ≠ .load ∧ (s.get F.ST_UCODE_STAT_PENDING [] = 0 ∨ s.rd
      R.MD_STR_MASK [] = 0xFFFFFFFF)) ∧
    (∃ (s : State) (l : List Nat), l = (List.range 32).filter (fun e => (s.eng e).inReset) ∧ l ≠ [] ∧ l.length ≠ 32 ∧ s.powered
      = true) ∧
    (∃ (s t : State) (p : Punt) (r : List Punt), s.sl.punts = p :: r ∧ (s.forwarding = true ∨ s.mode = .halt) ∧
      { s with sl.punts := r }.puntArrive p = some t) ∧
    (∃ (s : State) (fn off : Nat), s.ringPowered = true ∧ (fn = 0 ∨ fn ≤ s.rc.vfs) ∧ ¬(off = R.TK_STEP_NS.base ∧ fn = 0)) ∧
    (∃ (s : State), s.mode ≠ .off) :=
  ⟨⟨31, 7, up, by decide +kernel⟩,
   ⟨31, 7, up.setThr 31 7 fun h => { h with stopped := true }, by decide +kernel⟩,
   ⟨31, 7, up.setThr 31 7 fun h => { h with stopped := true }, by decide +kernel⟩,
   ⟨31, up, by decide +kernel⟩,
   ⟨31, (2 ^ 15), 15, up, by decide +kernel⟩,
   ⟨31, up, by decide +kernel⟩,
   ⟨31, 7, (up.setThr 31 7 fun h => { h with stopped := true }).on [(F.ST_DBG_SEL_THREAD, [31], 7), (F.ST_DBG_SEL_INDEX, [31],
     0x60)], by decide +kernel⟩,
   ⟨up, by decide +kernel⟩,
   ⟨up.setEng 31 fun g => { g with inReset := true }, [31], by decide +kernel⟩,
   ⟨{ up with sl.punts := [{ f := { m := {}, bytes := [], brand := 0 }, reason := 3 }] }, _,
     { f := { m := {}, bytes := [], brand := 0 }, reason := 3 }, [], by decide +kernel, by decide +kernel, some_eq
     (by decide +kernel)⟩,
   ⟨{ up with rc.vfs := 15 }, 15, 0x100, by decide +kernel⟩,
   ⟨up, by decide +kernel⟩⟩

theorem witness_TimeStaysInRange : ∃ s t : State, s.TimeOk ∧ step s = .next t :=
  ⟨up, _, by unfold TimeOk Clock.ok; decide +kernel, rfl⟩

theorem witness_OnlyResetsMoveTheTick : ∃ (c : Instr) (s t : State), exec c s = .next t := ⟨.slewApply, up, _, rfl⟩

theorem witness_BrandFunctionLaws : (∃ i, i < 32) ∧ (∃ a b : List Byte, a.length = b.length ∧ a ≠ b) :=
  ⟨⟨31, by decide⟩, [0xFF, 1], [2, 0x80], by decide, by decide⟩

theorem witness_BrandUpdatesGiveTheNewCrc : ∃ a b : List Byte, a.length = b.length ∧ a ≠ b := ⟨[0xFF, 1], [2, 0x80], by decide, by decide⟩

/-- A frame of 60 bytes with an Ethernet and an IPv4 header. -/
def edited : EditSt :=
  { bytes := List.replicate 60 7, brand := crc32c (List.replicate 60 7), hdrs := [⟨0, 1, 0, 14⟩, ⟨1, 4, 14, 20⟩] }

theorem witness_EditsKeepTheBrand : ∃ st : EditSt, st.Framed ∧ st.BrandOk ∧ st.hdrs ≠ [] :=
  ⟨edited, by unfold EditSt.Framed; decide +kernel, by unfold EditSt.BrandOk; decide +kernel, by decide +kernel⟩

theorem witness_SparseCrcRunsOverAllEntries : ∃ (size count v : Nat) (l : List (Nat × Nat)),
    (l.map (·.1)).Pairwise (· < ·) ∧ (∀ x ∈ l, x.1 < count) ∧ size * count < 2 ^ 29 ∧ v < 2 ^ 32 ∧ l ≠ [] :=
  ⟨16, 1024, 2 ^ 32 - 1, [(0, 5), (1023, 9)], by decide, by decide, by decide, by decide, by decide⟩

theorem witness_ArithmeticResults : ∃ i : Nat, i < 8 := ⟨7, by decide⟩

/-- The UB9840-E, which has no DDR5. -/
def upE : State := { up with variant := .e }

theorem witness_AbsentUnitsReadZero : ∃ (s : State) (fn off : Nat) (r : RegSpec) (ix : List Nat) (hi : Bool),
    locate off = some (r, ix, hi) ∧ s.variant.hasReg r ix = false ∧ s.ringPowered = true ∧ (fn = 0 ∨ fn ≤ s.rc.vfs) :=
  ⟨upE, 0, 0x30011C, R.DM_CH_STAT, [7], false, by decide +kernel, by decide +kernel, by decide +kernel, by decide⟩

theorem witness_CellsOfAFrame : ∃ s : State, 0 < s.cols := ⟨up, by decide +kernel⟩

theorem witness_AgeOfAFrame : ∃ (s : State) (d : Int), 0 ≤ (s.clock.tai : Int) + d ∧ (s.clock.tai : Int) + d < taiSpan ∧ d < 0 :=
  ⟨up, -5, by decide +kernel, by decide +kernel, by decide⟩

theorem witness_DeviceMemoryWrites : ∃ s : State, s.ddr.data.wf 0 = true := ⟨up, by decide +kernel⟩

theorem witness_PowerAndTimeFrames : (∃ s t : State, exec (.vinQualified 0) s = .next t) ∧ (∃ s t : State, exec (.tallyLogEnable 0) s = .next t) :=
  ⟨⟨up, _, rfl⟩, up, _, rfl⟩

theorem witness_PaceFrames : (∃ s t : State, exec (.paceWindow 0 0) s = .next t) ∧ (∃ s t : State, exec (.claimRelease 0) s = .next t) :=
  ⟨⟨up, _, rfl⟩, up, _, rfl⟩

theorem witness_ModesAndFlashFrames : (∃ s t : State, exec (.commitGo) s = .next t) ∧ (∃ s t : State, exec (.reportDataRead) s = .next t) :=
  ⟨⟨up, _, rfl⟩, up, _, rfl⟩

theorem witness_PortFrames : (∃ s t : State, exec (.frameAdmit 0 [] (7, false) [] 0 false) s = .next t) ∧ (∃ s t : State, exec (.strapCrcError 0 0 false) s = .next t) :=
  ⟨⟨up, _, rfl⟩, up, _, rfl⟩

theorem witness_FabricAndTableFrames : (∃ s t : State, exec (.spanHoldExpiry 0 0 0) s = .next t) ∧ (∃ s t : State, exec (.bufferFree 0) s = .next t) :=
  ⟨⟨up, _, rfl⟩, up, _, rfl⟩

theorem witness_EngineFrames : (∃ s t : State, exec (.stitcherResetDone) s = .next t) ∧ (∃ s t : State, exec (.fdrop 0) s = .next t) :=
  ⟨⟨up, _, rfl⟩, up, _, rfl⟩

theorem witness_HostAndCounterFrames : (∃ s t : State, exec (.driverOk 0) s = .next t) ∧ (∃ s t : State, exec (.bwWindowWrite 0) s = .next t) :=
  ⟨⟨up, _, rfl⟩, up, _, rfl⟩

theorem witness_ResetFrames : (∃ s t : State, exec (.softStartDone) s = .next t) ∧ (∃ s t : State, exec (.drainBound) s = .next t) :=
  ⟨⟨up, _, rfl⟩, up, _, rfl⟩

theorem witness_PathFrames : (∃ s t : State, exec (.ingressPass 0 none false 0) s = .next t) ∧ (∃ s t : State, exec (.applyReport 0) s = .next t) :=
  ⟨⟨up, _, rfl⟩, up, _, rfl⟩

theorem witness_OperationFrames : (∃ s t : State, exec (.smbusBlockRead) s = .next t) ∧ (∃ s t : State, exec (.registerWrite false 0 0 0) s = .next t) :=
  ⟨⟨up, _, rfl⟩, up, _, rfl⟩

/-- Girth die 0 with a cell to commit and `n` queue links taken. -/
def linked (n : Nat) : State :=
  { up with
    fab.strap := [(key3 0 0 0, [{ tick := 1 }])], fab.stamp := (List.range 8).map fun d => (key3 d 0 0, 3)
    fab.queue := [(0, List.replicate n { id := 0, kind := 0, at_ := 0, cell := {} })] }

theorem linked_free (n : Nat) : (linked n).linksFree 0 = 524288 - n := by simp [linksFree, linked]

theorem witness_LacingAndBuffersComplete_noLink : ∃ (s u : State) (g k nm : Nat) (c : Cell), s.forwarding = true ∧ s.live (8 + g) = true ∧
    s.fab.repatAt = none ∧ u = s.checkLatches (8 + g) nm ∧ u.nextCommit g = some (k, c) ∧
    u.linksFree g < (State.linksOf c).length :=
  ⟨linked 524288, linked 524288, 0, key3 0 0 0, 0, { tick := 1 }, by decide +kernel, by decide +kernel, rfl, rfl, by decide +kernel,
    by rw [linked_free]; decide⟩

theorem witness_LandsOfTheLanes : (∃ g l : Nat, g < 64 ∧ l < 8) ∧
    ∃ (r c d g l : Nat) (tx p : Bool), r < 96 ∧ 1 ≤ c ∧ c ≤ 96 ∧ landAt r c = .serdes d g l tx p :=
  ⟨⟨63, 7, by decide, by decide⟩, 80, 92, 3, 31, 7, false, true, by decide +kernel⟩

end Sys2Proof.Tests
end

/-! PROOFS. The register map's extent, what a register that does not answer shows and takes, and how every command ends. -/

section

open Sys2Proof Sys2Proof.Machine

namespace Sys2Proof.Machine

/-! ## Where the registers of the map lie (R494) -/

/-- How far the indexes of a register can take it from its base. -/
def dimSpan (ds : List Dim) : Nat := (ds.map fun m => m.stride * (m.first + m.count)).sum

theorem dimIndex_le_dimSpan {ds : List Dim} {d : Nat} {ix : List Nat} (h : dimIndex ds d = some ix) : d ≤ dimSpan ds := by
  induction ds generalizing d ix with
  | nil =>
    have hd : d = 0 := by by_contra hd; simp [dimIndex, hd] at h
    exact hd ▸ Nat.zero_le _
  | cons m ds ih =>
    simp only [dimIndex] at h
    split at h
    next hi =>
      obtain ⟨jx, hj, _⟩ := Option.map_eq_some_iff.mp h
      have hrest := ih hj
      have hfirst : d / m.stride * m.stride ≤ m.stride * (m.first + m.count) := by
        rw [Nat.mul_comm]; exact Nat.mul_le_mul_left _ hi.2.le
      simp only [dimSpan, List.map_cons, List.sum_cons] at hrest ⊢
      omega
    next => cases h

/-- An offset that a register takes lies within its span, the high word of a 64-bit one 4 bytes further. -/
theorem RegSpec.le_of_at {r : RegSpec} {off : Nat} {x : List Nat × Bool} (h : r.at off = some x) :
    off ≤ r.base + dimSpan r.dims + 4 := by
  unfold RegSpec.at at h
  split at h
  next => cases h
  next =>
    split at h
    next ix hix =>
      have := dimIndex_le_dimSpan hix
      omega
    next =>
      split at h
      next =>
        obtain ⟨ix, hix, _⟩ := Option.map_eq_some_iff.mp h
        have := dimIndex_le_dimSpan hix
        omega
      next => cases h

theorem allRegs_below_userPages : ∀ r ∈ allRegs, r.base + dimSpan r.dims + 4 < 0x3800000 := by decide +kernel

/-- The user pages of counters (R534) hold no register of the map. -/
theorem locate_below_userPages {off : Nat} {x : RegSpec × List Nat × Bool} (h : locate off = some x) : off < 0x3800000 := by
  obtain ⟨r, hr, hx⟩ := List.exists_of_findSome?_eq_some h
  obtain ⟨y, hy, _⟩ := Option.map_eq_some_iff.mp hx
  exact (RegSpec.le_of_at hy).trans_lt (allRegs_below_userPages r hr)

theorem locate_stepNs : locate R.TK_STEP_NS.base = some (R.TK_STEP_NS, [], false) := by decide +kernel

/-- Every variant has the Tack Room's step register. -/
theorem hasReg_stepNs (v : Variant) : v.hasReg R.TK_STEP_NS [] = true := by cases v <;> decide

/-! ## Registers that do not answer (R6) -/

namespace State

variable {s : State} {off : Nat} {r : RegSpec} {ix : List Nat} {hi : Bool}

/-- A register of an absent unit does not answer. -/
theorem regLive_of_absent (h : s.variant.hasReg r ix = false) : s.regLive r ix = false := by simp [regLive, h]

theorem readBar_of_not_live (fn : Nat) (hl : locate off = some (r, ix, hi)) (h : s.regLive r ix = false) :
    s.readBar fn off = s.answer 0 := by
  have := locate_below_userPages hl
  rw [readBar, if_neg (by omega), hl]
  simp [h]

theorem writeBar_of_not_live (fn v : Nat) (hl : locate off = some (r, ix, hi)) (h : s.regLive r ix = false) :
    s.writeBar fn off v = s := by
  rw [writeBar, hl]
  simp [h]

end State

/-! ## Accesses of a function over BAR0 -/

/-- A read by an enabled function does what the read of BAR0 does (R462). -/
theorem exec_latchedRead_eq_readBar {s : State} {fn : Nat} (off : Nat) (hp : s.ringPowered = true) (hf : fn = 0 ∨ fn ≤ s.rc.vfs) :
    exec (.latchedRead fn off) s = done (fun s => s.readBar fn off) s := by
  have hopen : (s.ringPowered && (fn == 0 || decide (fn ≤ s.rc.vfs))) = true := by simpa [hp] using hf
  change execLatchedRead fn off s = _
  simp [execLatchedRead, done, onlyIf, hopen]

/-- A write by an enabled function, but of TK_STEP_NS, does what the write of BAR0 does (R462). -/
theorem exec_registerWrite_eq_writeBar {s : State} {fn off : Nat} (v : Nat) (hp : s.ringPowered = true) (hf : fn = 0 ∨ fn ≤ s.rc.vfs)
    (ho : off ≠ R.TK_STEP_NS.base) :
    exec (.registerWrite false fn off v) s = done (fun s => s.writeBar fn off v) s := by
  have hopen : (s.ringPowered && (fn == 0 || decide (fn ≤ s.rc.vfs))) = true := by simpa [hp] using hf
  change execRegisterWrite false fn off v s = _
  simp [execRegisterWrite, done, onlyIf, hopen, ho]

/-! ## How a command ends -/

/-- The commands that may move time (R83): a step, a slew, PPS discipline, and the resets of the Tack Room. -/
def mayMoveTime : Instr → Bool
  | .timeStep _ | .slewApply | .ppsEdge _ | .vauxCycle | .powerOnReset _ | .registerWrite .. => true
  | _ => false

/-- An effect that leaves the time alone is one that puts the time back. -/
theorem done_eq_doneTimed (f : State → State) (s : State) :
    done f s = doneTimed (fun s => { f s with clock := s.clock }) s := rfl

theorem next_eq_done (s : State) : .next s = done id s := rfl

theorem execCommitGo_eq_done (s : State) : ∃ f, execCommitGo s = done f s := by
  unfold execCommitGo
  beta_reduce
  split
  · exact ⟨_, rfl⟩
  · exact ⟨_, next_eq_done s⟩

/-- Every other command ends with an effect that leaves the time alone. -/
theorem exec_eq_done {c : Instr} (h : mayMoveTime c = false) (s : State) : ∃ f, exec c s = done f s := by
  cases c
  case timeStep | slewApply | ppsEdge | vauxCycle | powerOnReset | registerWrite => cases h
  case commitGo => exact execCommitGo_eq_done s
  all_goals unfold exec; exact ⟨_, rfl⟩

theorem execRegisterWrite_eq_doneTimed (smbus : Bool) (fn off v : Nat) (s : State) :
    ∃ f, execRegisterWrite smbus fn off v s = doneTimed f s := by
  unfold execRegisterWrite
  extract_lets open_
  split
  · exact ⟨_, done_eq_doneTimed _ s⟩
  · split
    · exact ⟨_, rfl⟩
    · exact ⟨_, done_eq_doneTimed _ s⟩

/-- Every command ends with a next state that has the queue and the variant put back. -/
theorem exec_eq_doneTimed (c : Instr) (s : State) : ∃ f, exec c s = doneTimed f s := by
  cases h : mayMoveTime c
  case false =>
    obtain ⟨f, hf⟩ := exec_eq_done h s
    exact ⟨_, hf.trans (done_eq_doneTimed f s)⟩
  case true =>
    cases c
    case timeStep | slewApply | ppsEdge | vauxCycle | powerOnReset => unfold exec; exact ⟨_, rfl⟩
    case registerWrite => exact execRegisterWrite_eq_doneTimed ..
    all_goals cases h

theorem exec_keeps_queue_and_variant (c : Instr) (s : State) :
    Completes c s fun t => t.pending = s.pending ∧ t.variant = s.variant := by
  obtain ⟨f, h⟩ := exec_eq_doneTimed c s
  exact completes_doneTimed h ⟨rfl, rfl⟩

end Sys2Proof.Machine

/-- Settles O2: whatever a command's effect, its completion puts the queue and the variant back. -/
theorem everyCommandKeepsTheQueue : Obligations.EveryCommandKeepsTheQueue := exec_keeps_queue_and_variant

/-- Settles O13: an absent register does not answer, and TK_STEP_NS, whose write goes another way, is absent from no variant. -/
theorem absentUnitsReadZero : Obligations.AbsentUnitsReadZero := by
  intro s fn off v r ix hi hl habsent hp hf
  have hlive : s.regLive r ix = false := State.regLive_of_absent habsent
  have hstep : off ≠ R.TK_STEP_NS.base := by
    rintro rfl
    cases locate_stepNs.symm.trans hl
    exact Bool.noConfusion ((hasReg_stepNs s.variant).symm.trans habsent)
  constructor
  · rw [exec_latchedRead_eq_readBar off hp hf, done, State.readBar_of_not_live fn hl hlive, State.answer]
  · rw [exec_registerWrite_eq_writeBar v hp hf hstep, done, State.writeBar_of_not_live fn v hl hlive]

end

/-! PROOFS. The frame of every operation on the path of a frame: which parts of the state it can change. Each lemma is an
equivalence, so that `simp` peels the operations of a command off one by one until the state it began with is left. -/

section

open Sys2Proof Sys2Proof.Machine

namespace Sys2Proof.Machine

variable {l l₀ : List Part} {s t u : State}

/-! ## Changes as a relation between states -/

theorem Part.Same.refl (s : State) (p : Part) : p.Same s s := by cases p <;> rfl

theorem Part.Same.symm {p : Part} (h : p.Same s t) : p.Same t s := by cases p <;> exact Eq.symm h

theorem Part.Same.trans {p : Part} (h : p.Same s t) (h' : p.Same t u) : p.Same s u := by cases p <;> exact Eq.trans h' h

theorem Changes.refl (l : List Part) (s : State) : Changes l s s := fun p _ => .refl s p

theorem Changes.symm (h : Changes l s t) : Changes l t s := fun p hp => (h p hp).symm

theorem Changes.trans (h : Changes l s t) (h' : Changes l t u) : Changes l s u := fun p hp => (h p hp).trans (h' p hp)

theorem Changes.mono (h : Changes l₀ s t) (hl : l₀ ⊆ l) : Changes l s t := fun p hp => h p fun hm => hp (hl hm)

/-- What changes listed parts only does not count where those parts may change. -/
theorem changes_iff_of (h : Changes l₀ t u) (hl : l₀ ⊆ l) : Changes l s u ↔ Changes l s t :=
  ⟨fun hs => hs.trans (h.mono hl).symm, fun hs => hs.trans (h.mono hl)⟩

@[simp] theorem changes_refl : Changes l s s := Changes.refl l s

/-! ## Updates of a state, branches and repetition -/

section
variable {v : Variant} {cl : Clock} {md : Mode} {rg : Map Word} {cr : Map Nat} {sg la : Map Word} {fr : Nat} {tk : Tack}
  {ms : Modes} {ev : Events} {ft : Faults} {ou : Outputs} {pa : Pace} {lo : Loader} {fd : FlashDev} {fu : Fuse} {ho : Map Byte}
  {tb : Map Nat} {bt : List Nat} {sq : Sequencer} {op : OsPlan} {aw : AwlStore} {fl : Flows} {po : Ports} {si : Slices}
  {fa : Fabric} {sh : Shaping} {pl : Pools} {ta : TallyBanks} {xl : Xlate} {rc : RingC} {dd : Ddr} {sc : Stitch}

/-- An update of fields that may change: each field whose part is not listed is written with its own value. -/
@[simp] theorem changes_mk
    (h : (.clock ∈ l ∨ cl = t.clock) ∧ (.mode ∈ l ∨ md = t.mode) ∧ (.regs ∈ l ∨ rg = t.regs) ∧ (.ctrs ∈ l ∨ cr = t.ctrs) ∧
      (.staged ∈ l ∨ sg = t.staged) ∧ (.latched ∈ l ∨ la = t.latched) ∧ (.free ∈ l ∨ fr = t.free) ∧ (.tack ∈ l ∨ tk = t.tack) ∧
      (.modes ∈ l ∨ ms = t.modes) ∧ (.ev ∈ l ∨ ev = t.ev) ∧ (.flt ∈ l ∨ ft = t.flt) ∧ (.out ∈ l ∨ ou = t.out) ∧
      (.pace ∈ l ∨ pa = t.pace) ∧ (.load ∈ l ∨ lo = t.load) ∧ (.flash ∈ l ∨ fd = t.flash) ∧ (.fuse ∈ l ∨ fu = t.fuse) ∧
      (.host ∈ l ∨ ho = t.host) ∧ (.tabs ∈ l ∨ tb = t.tabs) ∧ (.badTabs ∈ l ∨ bt = t.badTabs) ∧ (.ts ∈ l ∨ sq = t.ts) ∧
      (.osp ∈ l ∨ op = t.osp) ∧ (.awl ∈ l ∨ aw = t.awl) ∧ (.flow ∈ l ∨ fl = t.flow) ∧ (.port ∈ l ∨ po = t.port) ∧
      (.sl ∈ l ∨ si = t.sl) ∧ (.fab ∈ l ∨ fa = t.fab) ∧ (.shp ∈ l ∨ sh = t.shp) ∧ (.pool ∈ l ∨ pl = t.pool) ∧
      (.tally ∈ l ∨ ta = t.tally) ∧ (.xl ∈ l ∨ xl = t.xl) ∧ (.rc ∈ l ∨ rc = t.rc) ∧ (.ddr ∈ l ∨ dd = t.ddr) ∧
      (.st ∈ l ∨ sc = t.st)) :
    Changes l s ⟨t.pending, v, cl, md, rg, cr, sg, la, fr, tk, ms, ev, ft, ou, pa, lo, fd, fu, ho, tb, bt, sq, op, aw, fl, po, si,
      fa, sh, pl, ta, xl, rc, dd, sc⟩ ↔
      Changes l s t := by
  refine changes_iff_of (l₀ := l) (fun p hp => ?_) (List.Subset.refl l)
  cases p <;> simp only [hp, false_or] at h <;> simp only [Part.Same, h]

end

section
variable {α : Type} {c : Prop} [Decidable c] {b : Bool} {f : State → State}

@[simp] theorem changes_ite :
    Changes l s (if c then t else u) ↔ (c → Changes l s t) ∧ (¬c → Changes l s u) := by split <;> simp [*]

@[simp] theorem changes_ite_snd {x y : α × State} :
    Changes l s (if c then x else y).2 ↔ (c → Changes l s x.2) ∧ (¬c → Changes l s y.2) := by split <;> simp [*]

@[simp] theorem changes_ite_snd_snd {β : Type} {x y : α × β × State} :
    Changes l s (if c then x else y).2.2 ↔ (c → Changes l s x.2.2) ∧ (¬c → Changes l s y.2.2) := by split <;> simp [*]

@[simp] theorem changes_onlyIf :
    Changes l s (onlyIf b f t) ↔ (b = true → Changes l s (f t)) ∧ (¬b = true → Changes l s t) := changes_ite

end

/-- A fold of which every step changes listed parts only, in the state that `π` finds in its accumulator. -/
theorem Changes.foldl {α β : Type} {f : β → α → β} (π : β → State) (h : ∀ b a, Changes l (π b) (π (f b a))) (xs : List α)
    (b : β) : Changes l (π b) (π (xs.foldl f b)) := by
  induction xs generalizing b with
  | nil => exact .refl l _
  | cons a xs ih => exact (h b a).trans (ih (f b a))

@[simp] theorem changes_foldl {α : Type} {f : State → α → State} {xs : List α} (h : ∀ a t, Changes l t (f t a)) :
    Changes l s (xs.foldl f t) ↔ Changes l s t :=
  changes_iff_of (.foldl id (fun t a => h a t) xs t) (List.Subset.refl l)

@[simp] theorem changes_foldl_snd {α β : Type} {f : β × State → α → β × State} {xs : List α} {x : β × State}
    (h : ∀ y a, Changes l y.2 (f y a).2) : Changes l s (xs.foldl f x).2 ↔ Changes l s x.2 :=
  changes_iff_of (.foldl (·.2) h xs x) (List.Subset.refl l)

@[simp] theorem changes_forEach {α : Type} {f : α → State → State} {xs : List α} (h : ∀ a t, Changes l t (f a t)) :
    Changes l s (forEach xs f t) ↔ Changes l s t := changes_foldl h

/-! ## The shared operations -/

@[simp] theorem changes_wr (hl : [.regs] ⊆ l) (r ix v) :
    Changes l s (t.wr r ix v) ↔ Changes l s t :=
  changes_iff_of (by unfold State.wr; simp) hl

@[simp] theorem changes_set (hl : [.regs] ⊆ l) (f ix v) :
    Changes l s (t.set f ix v) ↔ Changes l s t :=
  changes_iff_of (by unfold State.set; simp) hl

@[simp] theorem changes_addSat (hl : [.regs] ⊆ l) (f ix n) :
    Changes l s (t.addSat f ix n) ↔ Changes l s t :=
  changes_iff_of (by unfold State.addSat; simp) hl

@[simp] theorem changes_inc (hl : [.ctrs] ⊆ l) (r ix n) :
    Changes l s (t.inc r ix n) ↔ Changes l s t :=
  changes_iff_of (by unfold State.inc; simp) hl

@[simp] theorem changes_takeFree (hl : [.free] ⊆ l) :
    Changes l s (t.takeFree).2 ↔ Changes l s t :=
  changes_iff_of (by unfold State.takeFree; simp) hl

@[simp] theorem changes_due (hl : [.ev] ⊆ l) (n) :
    Changes l s (t.due n) ↔ Changes l s t :=
  changes_iff_of (by obtain ⟨d, h⟩ := t.due_frame n; rw [h]; simp) hl

@[simp] theorem changes_raise (hl : [.regs, .ev] ⊆ l) (f ix) :
    Changes l s (t.raise f ix) ↔ Changes l s t :=
  changes_iff_of (by obtain ⟨d, h⟩ := t.raise_frame f ix; rw [h]; simp) hl

@[simp] theorem changes_addCount (hl : [.regs, .ev] ⊆ l) (b n k) :
    Changes l s (t.addCount b n k) ↔ Changes l s t :=
  changes_iff_of (by obtain ⟨m, c, d, q, h⟩ := t.addCount_frame b n k; rw [h]; simp) hl

@[simp] theorem changes_count (hl : [.regs, .ev] ⊆ l) (b ev k who) :
    Changes l s (t.count b ev k who) ↔ Changes l s t :=
  changes_iff_of (by obtain ⟨m, c, d, q, h⟩ := t.count_frame b ev k who; rw [h]; simp) hl

@[simp] theorem changes_countKind (hl : [.regs, .ev] ⊆ l) (b i k who) :
    Changes l s (t.countKind b i k who) ↔ Changes l s t :=
  changes_iff_of (by unfold State.countKind; simp) hl

@[simp] theorem changes_countIng (hl : [.regs, .ev] ⊆ l) (sl i k who) :
    Changes l s (t.countIng sl i k who) ↔ Changes l s t :=
  changes_iff_of (by unfold State.countIng; simp) hl

@[simp] theorem changes_countEgr (hl : [.regs, .ev] ⊆ l) (sl i k who) :
    Changes l s (t.countEgr sl i k who) ↔ Changes l s t :=
  changes_iff_of (by unfold State.countEgr; simp) hl

@[simp] theorem changes_treeTransfer (hl : [.regs, .ev] ⊆ l) (d i who) :
    Changes l s (t.treeTransfer d i who) ↔ Changes l s t :=
  changes_iff_of (by unfold State.treeTransfer; simp) hl

@[simp] theorem changes_capDrop (hl : [.regs, .ev, .fab] ⊆ l) (k who) :
    Changes l s (t.capDrop k who) ↔ Changes l s t :=
  changes_iff_of (by unfold State.capDrop; simp) hl

@[simp] theorem changes_dropRecord (hl : [.regs, .ctrs, .ev, .fab] ⊆ l) (k who) :
    Changes l s (t.dropRecord k who) ↔ Changes l s t :=
  changes_iff_of (by unfold State.dropRecord; simp) hl

@[simp] theorem changes_countIngLate (hl : [.regs, .ev] ⊆ l) (sl i k who) :
    Changes l s (t.countIngLate sl i k who) ↔ Changes l s t :=
  changes_iff_of (by unfold State.countIngLate; simp) hl

@[simp] theorem changes_retWrite (hl : [.tack] ⊆ l) (a bs) :
    Changes l s (t.retWrite a bs) ↔ Changes l s t :=
  changes_iff_of (by unfold State.retWrite; simp) hl

@[simp] theorem changes_journalWrite (hl : [.regs, .tack, .ev] ⊆ l) (e) :
    Changes l s (t.journalWrite e) ↔ Changes l s t :=
  changes_iff_of (by obtain ⟨m, r, d, h⟩ := t.journalWrite_frame e; rw [h]; simp) hl

@[simp] theorem changes_journal (hl : [.regs, .tack, .ev, .flt] ⊆ l) (e) :
    Changes l s (t.journal e) ↔ Changes l s t :=
  changes_iff_of (by obtain ⟨m, r, d, q, h⟩ := t.journal_frame e; rw [h]; simp) hl

@[simp] theorem changes_report (hl : [.flt] ⊆ l) (f) :
    Changes l s (t.report f) ↔ Changes l s t :=
  changes_iff_of (by unfold State.report; simp) hl

/-! ## Pace and claims -/

@[simp] theorem changes_nearMiss (hl : [.regs, .pace] ⊆ l) (x group) :
    Changes l s (t.nearMiss x group) ↔ Changes l s t :=
  changes_iff_of (by unfold State.nearMiss; simp) hl

@[simp] theorem changes_checkLatches (hl : [.regs, .pace] ⊆ l) (x nm) :
    Changes l s (t.checkLatches x nm) ↔ Changes l s t :=
  changes_iff_of (by unfold State.checkLatches; simp) hl

@[simp] theorem changes_setQueue (hl : [.regs, .pace] ⊆ l) (x q) :
    Changes l s (t.setQueue x q) ↔ Changes l s t :=
  changes_iff_of (by unfold State.setQueue; simp) hl

@[simp] theorem changes_hold (hl : [.regs, .pace] ⊆ l) (a x) :
    Changes l s (t.hold a x) ↔ Changes l s t :=
  changes_iff_of (by unfold State.hold; simp) hl

@[simp] theorem changes_unhold (hl : [.regs, .pace] ⊆ l) (x) :
    Changes l s (t.unhold x) ↔ Changes l s t :=
  changes_iff_of (by unfold State.unhold; simp) hl

@[simp] theorem changes_releaseClaim (hl : [.regs, .pace] ⊆ l) (a x) :
    Changes l s (t.releaseClaim a x) ↔ Changes l s t :=
  changes_iff_of (by unfold State.releaseClaim; simp) hl

@[simp] theorem changes_dropClaimsOf (hl : [.regs, .pace] ⊆ l) (x) :
    Changes l s (State.dropClaimsOf x t) ↔ Changes l s t :=
  changes_iff_of (by unfold State.dropClaimsOf; simp) hl

@[simp] theorem changes_dropClaims (hl : [.regs, .pace] ⊆ l) :
    Changes l s t.dropClaims ↔ Changes l s t :=
  changes_iff_of (by unfold State.dropClaims; simp) hl

@[simp] theorem changes_takeSlot (hl : [.pace] ⊆ l) (a x m) :
    Changes l s (t.takeSlot a x m) ↔ Changes l s t :=
  changes_iff_of (by unfold State.takeSlot; simp) hl

@[simp] theorem changes_keepSlot (hl : [.pace] ⊆ l) (a x) :
    Changes l s (t.keepSlot a x) ↔ Changes l s t :=
  changes_iff_of (by unfold State.keepSlot; simp) hl

@[simp] theorem changes_holdRepattern (hl : [.regs, .pace] ⊆ l) (x) :
    Changes l s (State.holdRepattern x t) ↔ Changes l s t :=
  changes_iff_of (by unfold State.holdRepattern; simp) hl

@[simp] theorem changes_claimRepattern (hl : [.regs, .pace] ⊆ l) :
    Changes l s t.claimRepattern ↔ Changes l s t :=
  changes_iff_of (by unfold State.claimRepattern; simp) hl

@[simp] theorem changes_releaseRepatternOf (hl : [.regs, .pace] ⊆ l) (x) :
    Changes l s (State.releaseRepatternOf x t) ↔ Changes l s t :=
  changes_iff_of (by unfold State.releaseRepatternOf; simp) hl

@[simp] theorem changes_releaseRepattern (hl : [.regs, .pace] ⊆ l) :
    Changes l s t.releaseRepattern ↔ Changes l s t :=
  changes_iff_of (by unfold State.releaseRepattern; simp) hl

@[simp] theorem changes_abandonReplan (hl : [.regs, .pace] ⊆ l) :
    Changes l s t.abandonReplan ↔ Changes l s t :=
  changes_iff_of (by unfold State.abandonReplan; split <;> simp) hl

/-! ## What the stages of the path share -/

@[simp] theorem changes_setTab (hl : [.tabs] ⊆ l) (x t' i v) :
    Changes l s (t.setTab x t' i v) ↔ Changes l s t :=
  changes_iff_of (by unfold State.setTab; simp) hl

@[simp] theorem changes_epochAdd (hl : [.regs] ⊆ l) (e n) :
    Changes l s (t.epochAdd e n) ↔ Changes l s t :=
  changes_iff_of (by unfold State.epochAdd; simp) hl

@[simp] theorem changes_epochDrop (hl : [.regs] ⊆ l) (e n) :
    Changes l s (t.epochDrop e n) ↔ Changes l s t :=
  changes_iff_of (by unfold State.epochDrop; simp) hl

@[simp] theorem changes_epochOut (hl : [.regs] ⊆ l) (m) :
    Changes l s (t.epochOut m) ↔ Changes l s t :=
  changes_iff_of (by unfold State.epochOut; simp) hl

@[simp] theorem changes_shareFrame (hl : [.fab] ⊆ l) (n m) :
    Changes l s (t.shareFrame n m).2 ↔ Changes l s t :=
  changes_iff_of (by unfold State.shareFrame; simp) hl

@[simp] theorem changes_refOut (hl : [.regs, .fab] ⊆ l) (m) :
    Changes l s (t.refOut m) ↔ Changes l s t :=
  changes_iff_of (by unfold State.refOut; simp) hl

@[simp] theorem changes_frameGone (hl : [.regs, .fab] ⊆ l) (m) :
    Changes l s (t.frameGone m) ↔ Changes l s t :=
  changes_iff_of (by unfold State.frameGone; simp) hl

@[simp] theorem changes_setHeld (hl : [.regs, .port] ⊆ l) (p pri n) :
    Changes l s (t.setHeld p pri n) ↔ Changes l s t :=
  changes_iff_of (by unfold State.setHeld; simp) hl

@[simp] theorem changes_freeHeld (hl : [.regs, .port] ⊆ l) (m) :
    Changes l s (t.freeHeld m) ↔ Changes l s t :=
  changes_iff_of (by unfold State.freeHeld; simp) hl

@[simp] theorem changes_tallyAdd (hl : [.tally] ⊆ l) (x tenant ctr n) :
    Changes l s (t.tallyAdd x tenant ctr n) ↔ Changes l s t :=
  changes_iff_of (by unfold State.tallyAdd; simp) hl

@[simp] theorem changes_tallyIn (hl : [.tally] ⊆ l) (m) :
    Changes l s (t.tallyIn m) ↔ Changes l s t :=
  changes_iff_of (by unfold State.tallyIn; simp) hl

@[simp] theorem changes_tallyRebin (hl : [.tally] ⊆ l) (m c) :
    Changes l s (t.tallyRebin m c) ↔ Changes l s t :=
  changes_iff_of (by unfold State.tallyRebin; simp) hl

@[simp] theorem changes_tallyDrop (hl : [.tally] ⊆ l) (x cat m) :
    Changes l s (t.tallyDrop x cat m) ↔ Changes l s t :=
  changes_iff_of (by unfold State.tallyDrop; simp) hl

@[simp] theorem changes_takeTokens (hl : [.sl] ⊆ l) (k rate burst n) :
    Changes l s (t.takeTokens k rate burst n).2 ↔ Changes l s t :=
  changes_iff_of (by unfold State.takeTokens; simp) hl

@[simp] theorem changes_recovered (hl : [.regs, .tack, .ev, .flt] ⊆ l) (die unit cause) :
    Changes l s (t.recovered die unit cause) ↔ Changes l s t :=
  changes_iff_of (by unfold State.recovered; split <;> simp) hl

@[simp] theorem changes_brandFail (hl : [.regs, .ctrs, .ev] ⊆ l) (d cause egr m ct expect seen len) :
    Changes l s (t.brandFail d cause egr m ct expect seen len) ↔ Changes l s t :=
  changes_iff_of (by unfold State.brandFail; simp) hl

@[simp] theorem changes_dropInSlice (hl : [.regs, .ev, .port, .tally] ⊆ l) (cat m) :
    Changes l s (t.dropInSlice cat m) ↔ Changes l s t :=
  changes_iff_of (by unfold State.dropInSlice; simp) hl

/-! ## Edits -/

@[simp] theorem changes_countSkips (hl : [.regs, .ctrs, .ev] ⊆ l) (d n) :
    Changes l s (t.countSkips d n) ↔ Changes l s t :=
  changes_iff_of (by unfold State.countSkips; simp) hl

/-! ## Ports -/

@[simp] theorem changes_showPause (hl : [.regs] ⊆ l) (p) :
    Changes l s (t.showPause p) ↔ Changes l s t :=
  changes_iff_of (by unfold State.showPause; simp) hl

@[simp] theorem changes_setPause (hl : [.regs, .port] ⊆ l) (p pri q) :
    Changes l s (t.setPause p pri q) ↔ Changes l s t :=
  changes_iff_of (by unfold State.setPause; simp) hl

@[simp] theorem changes_showHolding (hl : [.regs] ⊆ l) (p) :
    Changes l s (t.showHolding p) ↔ Changes l s t :=
  changes_iff_of (by unfold State.showHolding; simp) hl

@[simp] theorem changes_loopBack (hl : [.port] ⊆ l) (p bytes) :
    Changes l s (t.loopBack p bytes) ↔ Changes l s t :=
  changes_iff_of (by unfold State.loopBack; simp) hl

@[simp] theorem changes_unloop (hl : [.port] ⊆ l) (p) :
    Changes l s (t.unloop p) ↔ Changes l s t :=
  changes_iff_of (by unfold State.unloop; simp) hl

@[simp] theorem changes_sendPause (hl : [.ctrs, .ev, .out, .port] ⊆ l) (p pri q) :
    Changes l s (State.sendPause p pri q t) ↔ Changes l s t :=
  changes_iff_of (by unfold State.sendPause; simp) hl

@[simp] theorem changes_showFill (hl : [.regs] ⊆ l) (g) :
    Changes l s (t.showFill g) ↔ Changes l s t :=
  changes_iff_of (by unfold State.showFill; simp) hl

@[simp] theorem changes_setFifo (hl : [.regs, .port] ⊆ l) (g l') :
    Changes l s (t.setFifo g l') ↔ Changes l s t :=
  changes_iff_of (by unfold State.setFifo; simp) hl

@[simp] theorem changes_countAdmitted (hl : [.regs, .ctrs, .ev] ⊆ l) (p n) :
    Changes l s (t.countAdmitted p n) ↔ Changes l s t :=
  changes_iff_of (by unfold State.countAdmitted; simp) hl

@[simp] theorem changes_admitFrame (hl : [.regs, .ctrs, .ev, .port] ⊆ l) (p f) :
    Changes l s (t.admitFrame p f) ↔ Changes l s t :=
  changes_iff_of (by unfold State.admitFrame; simp) hl

@[simp] theorem changes_countFec (hl : [.ctrs] ⊆ l) (p fec) :
    Changes l s (t.countFec p fec) ↔ Changes l s t :=
  changes_iff_of (by unfold State.countFec; split <;> simp) hl

@[simp] theorem changes_resend (hl : [.out] ⊆ l) (p bytes) :
    Changes l s (t.resend p bytes) ↔ Changes l s t :=
  changes_iff_of (by unfold State.resend; simp) hl

@[simp] theorem changes_showLine (hl : [.regs, .port] ⊆ l) (p lanes lf rf) :
    Changes l s (t.showLine p lanes lf rf) ↔ Changes l s t :=
  changes_iff_of (by unfold State.showLine; simp) hl

@[simp] theorem changes_showTxts (hl : [.regs] ⊆ l) (p) :
    Changes l s (t.showTxts p) ↔ Changes l s t :=
  changes_iff_of (by unfold State.showTxts; dsimp only; split <;> simp) hl

@[simp] theorem changes_pushTxts (hl : [.regs, .ctrs, .ev, .port] ⊆ l) (p tag t16) :
    Changes l s (t.pushTxts p tag t16) ↔ Changes l s t :=
  changes_iff_of (by unfold State.pushTxts; simp) hl

@[simp] theorem changes_popTxts (hl : [.regs, .out, .port] ⊆ l) (p) :
    Changes l s (t.popTxts p) ↔ Changes l s t :=
  changes_iff_of (by unfold State.popTxts; dsimp only; split <;> simp) hl

/-! ## Lookups -/

@[simp] theorem changes_noteHit (hl : [.ts] ⊆ l) (d slot key port tenant) :
    Changes l s (t.noteHit d slot key port tenant) ↔ Changes l s t :=
  changes_iff_of (by unfold State.noteHit; simp) hl

@[simp] theorem changes_osAdmit (hl : [.sl] ⊆ l) (sl) :
    Changes l s (t.osAdmit sl).2 ↔ Changes l s t :=
  changes_iff_of (by unfold State.osAdmit; simp) hl

/-! ## Admission, cells and spans -/

@[simp] theorem changes_wred (hl : [.sl] ⊆ l) (sl set cls col a) :
    Changes l s (t.wred sl set cls col a).2 ↔ Changes l s t :=
  changes_iff_of (by unfold State.wred; simp) hl

@[simp] theorem changes_admitUnicast (hl : [.regs, .ctrs, .ev, .sl] ⊆ l) (sl e cls col n own deep) :
    Changes l s (t.admitUnicast sl e cls col n own deep).2 ↔ Changes l s t :=
  changes_iff_of (by unfold State.admitUnicast; cases deep <;> simp) hl

@[simp] theorem changes_addPending (hl : [.fab] ⊆ l) (sl q c) :
    Changes l s (t.addPending sl q c) ↔ Changes l s t :=
  changes_iff_of (by unfold State.addPending; simp) hl

@[simp] theorem changes_admitMcDie (hl : [.sl] ⊆ l) (sl x cls col c) :
    Changes l s (t.admitMcDie sl x cls col c).2 ↔ Changes l s t :=
  changes_iff_of (by unfold State.admitMcDie; simp) hl

@[simp] theorem changes_countMcCause (hl : [.regs, .ctrs, .ev] ⊆ l) (d cls step) :
    Changes l s (t.countMcCause d cls step) ↔ Changes l s t :=
  changes_iff_of (by unfold State.countMcCause; split <;> simp) hl

@[simp] theorem changes_admitMulticast (hl : [.ctrs, .sl, .fab] ⊆ l) (sl cls col n mask) :
    Changes l s (t.admitMulticast sl cls col n mask).2.2 ↔ Changes l s t :=
  changes_iff_of (by
    unfold State.admitMulticast
    refine Changes.foldl (fun a : Nat × Nat × State => a.2.2) (fun a x => ?_) _ (0, 0, t)
    simp) hl

@[simp] theorem changes_grantMirror (hl : [.ctrs, .sl, .fab] ⊆ l) (sl sess n) :
    Changes l s (t.grantMirror sl sess n).2 ↔ Changes l s t :=
  changes_iff_of (by
    unfold State.grantMirror
    dsimp only
    split
    · simp
    · split <;> simp) hl

@[simp] theorem changes_sendCell (hl : [.regs, .ctrs, .ev, .fab] ⊆ l) (tick c) :
    Changes l s (State.sendCell tick c t) ↔ Changes l s t :=
  changes_iff_of (by unfold State.sendCell; simp) hl

@[simp] theorem changes_sendSpan (hl : [.regs, .ctrs, .ev, .fab] ⊆ l) (key) :
    Changes l s (t.sendSpan key) ↔ Changes l s t :=
  changes_iff_of (by unfold State.sendSpan; dsimp only; split <;> simp) hl

@[simp] theorem changes_closeCell (hl : [.regs, .ctrs, .ev, .fab] ⊆ l) (key) :
    Changes l s (t.closeCell key) ↔ Changes l s t :=
  changes_iff_of (by unfold State.closeCell; dsimp only; split <;> simp) hl

@[simp] theorem changes_appendBytes (hl : [.regs, .ctrs, .ev, .fab] ⊆ l) (key proto fin tail n bs) :
    Changes l s (State.appendBytes key proto fin tail n bs t) ↔ Changes l s t := by
  refine changes_iff_of ?_ hl
  induction n generalizing bs t with
  | zero => simp [State.appendBytes]
  | succ n ih =>
    cases bs with
    | nil => simp [State.appendBytes]
    | cons b bs => unfold State.appendBytes; refine Changes.trans ?_ (ih _); simp

@[simp] theorem changes_startFrame (hl : [.regs, .ctrs, .ev, .fab] ⊆ l) (key proto st) :
    Changes l s (t.startFrame key proto st) ↔ Changes l s t :=
  changes_iff_of (by unfold State.startFrame; simp) hl

@[simp] theorem changes_cutFrame (hl : [.regs, .ctrs, .ev, .fab] ⊆ l) (key proto own f) :
    Changes l s (t.cutFrame key proto own f) ↔ Changes l s t :=
  changes_iff_of (by unfold State.cutFrame; simp) hl

@[simp] theorem changes_cutBehind (hl : [.regs, .ctrs, .ev, .fab] ⊆ l) (k) :
    Changes l s (State.cutBehind k t) ↔ Changes l s t :=
  changes_iff_of (by unfold State.cutBehind; simp) hl

/-! ## Girth dies and Saddlebag -/

@[simp] theorem changes_setPoolFree (hl : [.regs, .ev] ⊆ l) (n free down) :
    Changes l s (t.setPoolFree n free down) ↔ Changes l s t :=
  changes_iff_of (by unfold State.setPoolFree; simp) hl

theorem changes_takeFrom {n : Nat} {x : Nat × State} (h : t.takeFrom n = some x) : Changes [.regs, .ctrs, .ev, .pool] t x.2 := by
  unfold State.takeFrom at h
  dsimp only at h
  split at h
  · cases h; simp
  · split at h <;> cases h
    simp

theorem changes_takeChain (t : State) (first fuel n : Nat) :
    Changes [.regs, .ctrs, .ev, .pool] t (State.takeChain first fuel n t).2 := by
  induction fuel generalizing n with
  | zero => simp [State.takeChain]
  | succ fuel ih =>
    unfold State.takeChain
    split
    next h => have := changes_takeFrom h; simp [this]
    next =>
      split
      · exact ih _
      · simp

@[simp] theorem changes_alloc (hl : [.regs, .ctrs, .ev, .pool] ⊆ l) (n) :
    Changes l s (t.alloc n).2 ↔ Changes l s t :=
  changes_iff_of (by unfold State.alloc; exact changes_takeChain t n 5 n) hl

@[simp] theorem changes_freeBuffer (hl : [.regs, .ctrs, .ev, .pool, .st] ⊆ l) (h) :
    Changes l s (t.freeBuffer h).2 ↔ Changes l s t :=
  changes_iff_of (by unfold State.freeBuffer; simp) hl

@[simp] theorem changes_freePage (hl : [.regs, .ctrs, .ev, .pool, .st] ⊆ l) (h) :
    Changes l s (t.freePage h) ↔ Changes l s t :=
  changes_iff_of (by unfold State.freePage; simp) hl

@[simp] theorem changes_freePages (hl : [.regs, .ctrs, .ev, .pool, .st] ⊆ l) :
    Changes l s t.freePages ↔ Changes l s t :=
  changes_iff_of (by unfold State.freePages; simp) hl

@[simp] theorem changes_showCells (hl : [.regs] ⊆ l) (g) :
    Changes l s (t.showCells g) ↔ Changes l s t :=
  changes_iff_of (by unfold State.showCells; simp) hl

@[simp] theorem changes_setGq (hl : [.fab] ⊆ l) (g q l') :
    Changes l s (t.setGq g q l') ↔ Changes l s t :=
  changes_iff_of (by unfold State.setGq; simp) hl

@[simp] theorem changes_freeCell (hl : [.regs, .fab] ⊆ l) (g id) :
    Changes l s (t.freeCell g id) ↔ Changes l s t :=
  changes_iff_of (by unfold State.freeCell; simp) hl

@[simp] theorem changes_sendNotices (hl : [.fab] ⊆ l) (c) :
    Changes l s (t.sendNotices c) ↔ Changes l s t :=
  changes_iff_of (by unfold State.sendNotices; simp) hl

@[simp] theorem changes_dropRef (hl : [.regs, .ctrs, .ev, .fab] ⊆ l) (g id c) :
    Changes l s (t.dropRef g id c) ↔ Changes l s t :=
  changes_iff_of (by unfold State.dropRef; simp) hl

@[simp] theorem changes_dropLost (hl : [.fab] ⊆ l) (g id c) :
    Changes l s (t.dropLost g id c) ↔ Changes l s t :=
  changes_iff_of (by unfold State.dropLost; dsimp only; split <;> simp) hl

@[simp] theorem changes_unlink (hl : [.regs, .ctrs, .ev, .fab] ⊆ l) (g l') :
    Changes l s (State.unlink g l' t) ↔ Changes l s t :=
  changes_iff_of (by unfold State.unlink; simp) hl

@[simp] theorem changes_deepDone (hl : [.fab] ⊆ l) (ukey) :
    Changes l s (t.deepDone ukey) ↔ Changes l s t :=
  changes_iff_of (by unfold State.deepDone; simp) hl

@[simp] theorem changes_deepOver (hl : [.fab] ⊆ l) (c) :
    Changes l s (t.deepOver c) ↔ Changes l s t :=
  changes_iff_of (by unfold State.deepOver; simp) hl

@[simp] theorem changes_lose (hl : [.regs, .fab, .tally] ⊆ l) (d c m) :
    Changes l s (t.lose d c m) ↔ Changes l s t :=
  changes_iff_of (by unfold State.lose; simp) hl

@[simp] theorem changes_loseCut (hl : [.regs, .fab, .tally] ⊆ l) (d c m) :
    Changes l s (t.loseCut d c m) ↔ Changes l s t :=
  changes_iff_of (by unfold State.loseCut; simp) hl

@[simp] theorem changes_loseEnds (hl : [.regs, .fab, .tally] ⊆ l) (d c) :
    Changes l s (t.loseEnds d c) ↔ Changes l s t :=
  changes_iff_of (by unfold State.loseEnds; simp) hl

@[simp] theorem changes_backCredit (hl : [.fab] ⊆ l) (g d k) :
    Changes l s (t.backCredit g d k) ↔ Changes l s t :=
  changes_iff_of (by unfold State.backCredit; simp) hl

/-! ## Device memory -/

@[simp] theorem changes_ddrPut (hl : [.ddr] ⊆ l) (o bs) :
    Changes l s (t.ddrPut o bs) ↔ Changes l s t :=
  changes_iff_of (by unfold State.ddrPut; simp) hl

/-! ## Curb -/

@[simp] theorem changes_police (hl : [.shp] ⊆ l) (d i n cin) :
    Changes l s (t.police d i n cin).2 ↔ Changes l s t :=
  changes_iff_of (by unfold State.police; simp) hl

@[simp] theorem changes_curb (hl : [.regs, .ctrs, .ev, .shp] ⊆ l) (f) :
    Changes l s (t.curb f).2 ↔ Changes l s t :=
  changes_iff_of (by unfold State.curb; dsimp only; split <;> simp) hl

/-! ## The ingress slice -/

@[simp] theorem changes_sampleEnd (hl : [.regs, .ctrs, .ev, .sl, .fab] ⊆ l) (m e) :
    Changes l s (t.sampleEnd m e) ↔ Changes l s t :=
  changes_iff_of (by unfold State.sampleEnd; simp) hl

@[simp] theorem changes_countReason (hl : [.ctrs] ⊆ l) (d r) :
    Changes l s (t.countReason d r) ↔ Changes l s t :=
  changes_iff_of (by unfold State.countReason; simp) hl

@[simp] theorem changes_endDrop (hl : [.regs, .ctrs, .ev, .port, .sl, .fab, .tally] ⊆ l) (p cat reason step) :
    Changes l s (t.endDrop p cat reason step) ↔ Changes l s t :=
  changes_iff_of (by unfold State.endDrop; simp) hl

@[simp] theorem changes_endRefused (hl : [.regs, .ctrs, .ev, .port, .sl, .fab, .tally] ⊆ l) (p cat e) :
    Changes l s (t.endRefused p cat e) ↔ Changes l s t :=
  changes_iff_of (by unfold State.endRefused; simp) hl

@[simp] theorem changes_endPunt (hl : [.regs, .ctrs, .ev, .port, .sl, .fab, .tally] ⊆ l) (p r) :
    Changes l s (t.endPunt p r) ↔ Changes l s t :=
  changes_iff_of (by unfold State.endPunt; simp) hl

@[simp] theorem changes_endReason (hl : [.regs, .ctrs, .ev, .port, .sl, .fab, .tally] ⊆ l) (p r act) :
    Changes l s (t.endReason p r act) ↔ Changes l s t :=
  changes_iff_of (by unfold State.endReason; simp) hl

@[simp] theorem changes_toFabric (hl : [.regs, .ctrs, .ev, .port, .sl, .fab, .tally] ⊆ l) (p o) :
    Changes l s (t.toFabric p o) ↔ Changes l s t :=
  changes_iff_of (by
    unfold State.toFabric
    extract_lets m sl d n sess proto mirrorTo p' g mask a qd mir copy sh fr me f t1 e ukey ust deep
    clear_value deep
    split
    · simp
    split
    · simp +zetaDelta
    · cases deep <;> simp +zetaDelta) hl

@[simp] theorem changes_recirculate (hl : [.regs, .ctrs, .ev, .port, .sl, .fab, .tally] ⊆ l) (p) :
    Changes l s (t.recirculate p) ↔ Changes l s t :=
  changes_iff_of (by unfold State.recirculate; simp) hl

@[simp] theorem changes_resolve (hl : [.regs, .ctrs, .ev, .port, .sl, .fab, .tally] ⊆ l) (p) :
    Changes l s (t.resolve p) ↔ Changes l s t :=
  changes_iff_of (by
    unfold State.resolve
    extract_lets
    repeat' split
    all_goals simp +zetaDelta) hl

@[simp] theorem changes_flowFails (hl : [.regs, .ctrs, .ev] ⊆ l) (p c) :
    Changes l s (t.flowFails p c).2 ↔ Changes l s t :=
  changes_iff_of (by unfold State.flowFails; simp) hl

@[simp] theorem changes_afterAwl (hl : [.regs, .ctrs, .ev, .port, .sl, .fab, .tally] ⊆ l) (p) :
    Changes l s (t.afterAwl p) ↔ Changes l s t :=
  changes_iff_of (by unfold State.afterAwl; simp) hl

@[simp] theorem changes_unscanned (hl : [.regs, .ctrs, .ev] ⊆ l) (p c) :
    Changes l s (t.unscanned p c).2 ↔ Changes l s t :=
  changes_iff_of (by unfold State.unscanned; simp) hl

@[simp] theorem changes_afterLookups (hl : [.regs, .ctrs, .ev, .port, .sl, .fab, .tally] ⊆ l) (p) :
    Changes l s (t.afterLookups p) ↔ Changes l s t :=
  changes_iff_of (by unfold State.afterLookups; simp) hl

@[simp] theorem changes_learnCheck (hl : [.regs, .ctrs, .ev, .ts] ⊆ l) (p te) :
    Changes l s (t.learnCheck p te).2 ↔ Changes l s t :=
  changes_iff_of (by unfold State.learnCheck; dsimp only; split <;> simp) hl

@[simp] theorem changes_lookups (hl : [.regs, .ctrs, .ev, .ts, .port, .sl, .fab, .tally] ⊆ l) (p) :
    Changes l s (t.lookups p) ↔ Changes l s t :=
  changes_iff_of (by
    unfold State.lookups
    extract_lets m d pl te blk who exk exh ecc ex s1 s2 hit s3
    have h3 : Changes [.regs, .ctrs, .ev, .ts, .port, .sl, .fab, .tally] t s3 := by
      have h2 : Changes [.regs, .ctrs, .ev, .ts, .port, .sl, .fab, .tally] t s2 := by simp [s2, s1]
      clear_value ex exk
      simp only [s3]
      split <;> simp [hit, h2]
    clear_value s3
    split
    · simp
    · split <;> simp +zetaDelta [h3]) hl

@[simp] theorem changes_countFirstLate (hl : [.regs, .ev] ⊆ l) (m tenant) :
    Changes l s (t.countFirstLate m tenant) ↔ Changes l s t :=
  changes_iff_of (by unfold State.countFirstLate; simp) hl

@[simp] theorem changes_classify (hl : [.regs, .ctrs, .ev, .ts, .port, .sl, .fab, .shp, .tally] ⊆ l) (p) :
    Changes l s (t.classify p) ↔ Changes l s t :=
  changes_iff_of (by unfold State.classify; simp) hl

@[simp] theorem changes_runPass (hl : [.regs, .ctrs, .ev, .ts, .port, .sl, .fab, .shp, .tally] ⊆ l) (f) :
    Changes l s (t.runPass f) ↔ Changes l s t :=
  changes_iff_of (by
    unfold State.runPass
    extract_lets d w s1 s2 s3 tr src base kv p fate
    have h3 : Changes [.regs, .ctrs, .ev, .ts, .port, .sl, .fab, .shp, .tally] t s3 := by simp [s3, s2, s1]
    clear_value s3 fate w
    split
    · split <;> simp [h3]
    · cases fate with
      | discard sp => cases sp <;> cases w.halt <;> simp +zetaDelta [h3]
      | takes sp punt => cases w.halt <;> simp +zetaDelta [h3]) hl

@[simp] theorem changes_stampFirst (hl : [.regs, .ctrs, .ev, .sl] ⊆ l) (f) :
    Changes l s (t.stampFirst f).2 ↔ Changes l s t :=
  changes_iff_of (by unfold State.stampFirst; simp) hl

@[simp] theorem changes_firstPass (hl : [.regs, .ctrs, .ev, .ts, .port, .sl, .fab, .shp, .tally] ⊆ l) (f) :
    Changes l s (t.firstPass f) ↔ Changes l s t :=
  changes_iff_of (by unfold State.firstPass; simp) hl

@[simp] theorem changes_laterPass (hl : [.regs, .ctrs, .ev, .ts, .port, .sl, .fab, .shp, .tally] ⊆ l) (f) :
    Changes l s (t.laterPass f) ↔ Changes l s t :=
  changes_iff_of (by unfold State.laterPass; simp) hl

theorem changes_passFrom {g : Nat} {r : State} (h : t.passFrom g = some r) :
    Changes [.regs, .ctrs, .ev, .ts, .port, .sl, .fab, .shp, .tally] t r := by
  unfold State.passFrom at h
  split at h
  · dsimp only at h
    split at h <;> cases h
    simp
  · cases h

@[simp] theorem changes_endCut (hl : [.regs, .ctrs, .ev, .port, .fab, .tally] ⊆ l) (p body fail) :
    Changes l s (t.endCut p body fail) ↔ Changes l s t :=
  changes_iff_of (by
    unfold State.endCut
    split
    · cases fail <;> simp
    · simp) hl

@[simp] theorem changes_tailWaits (hl : [.regs, .ctrs, .ev, .port] ⊆ l) (p f rest rxErr) :
    Changes l s (t.tailWaits p f rest rxErr) ↔ Changes l s t :=
  changes_iff_of (by unfold State.tailWaits; dsimp only; split <;> simp) hl

@[simp] theorem changes_tailFlows (hl : [.regs, .ctrs, .ev, .port, .fab, .tally] ⊆ l) (p f rest rxErr) :
    Changes l s (t.tailFlows p f rest rxErr) ↔ Changes l s t :=
  changes_iff_of (by unfold State.tailFlows; simp) hl

/-! ## Egress queues and the MAC -/

@[simp] theorem changes_setEq (hl : [.fab, .shp] ⊆ l) (p c l') :
    Changes l s (t.setEq p c l') ↔ Changes l s t :=
  changes_iff_of (by unfold State.setEq; simp) hl

@[simp] theorem changes_showSlots (hl : [.regs] ⊆ l) (d) :
    Changes l s (State.showSlots d t) ↔ Changes l s t :=
  changes_iff_of (by unfold State.showSlots; simp) hl

@[simp] theorem changes_leaveEgress (hl : [.regs, .fab] ⊆ l) (d e) :
    Changes l s (t.leaveEgress d e) ↔ Changes l s t :=
  changes_iff_of (by unfold State.leaveEgress; split <;> simp) hl

@[simp] theorem changes_dropEgress (hl : [.regs, .ctrs, .fab, .tally] ⊆ l) (p cat ctr e) :
    Changes l s (t.dropEgress p cat ctr e) ↔ Changes l s t :=
  changes_iff_of (by unfold State.dropEgress; simp) hl

@[simp] theorem changes_dropEdits (hl : [.regs, .ctrs, .fab, .tally] ⊆ l) (d e) :
    Changes l s (t.dropEdits d e) ↔ Changes l s t :=
  changes_iff_of (by unfold State.dropEdits; simp) hl

@[simp] theorem changes_dropAged (hl : [.regs, .ctrs, .ev, .fab, .tally] ⊆ l) (p e) :
    Changes l s (t.dropAged p e) ↔ Changes l s t :=
  changes_iff_of (by unfold State.dropAged; simp) hl

@[simp] theorem changes_enqueue (hl : [.free, .fab, .shp] ⊆ l) (p c e) :
    Changes l s (t.enqueue p c e) ↔ Changes l s t :=
  changes_iff_of (by unfold State.enqueue; simp) hl

@[simp] theorem changes_showGates (hl : [.regs] ⊆ l) (p) :
    Changes l s (t.showGates p) ↔ Changes l s t :=
  changes_iff_of (by unfold State.showGates; simp) hl

@[simp] theorem changes_showPending (hl : [.regs] ⊆ l) (p) :
    Changes l s (t.showPending p) ↔ Changes l s t :=
  changes_iff_of (by unfold State.showPending; simp) hl

@[simp] theorem changes_swapLists (hl : [.regs, .tabs] ⊆ l) (p) :
    Changes l s (State.swapLists p t) ↔ Changes l s t :=
  changes_iff_of (by unfold State.swapLists; simp) hl

@[simp] theorem changes_cleanHead (hl : [.regs, .ctrs, .ev, .fab, .shp, .tally] ⊆ l) (p c n) :
    Changes l s (State.cleanHead p c n t) ↔ Changes l s t := by
  refine changes_iff_of ?_ hl
  induction n generalizing t with
  | zero => simp [State.cleanHead]
  | succ n ih =>
    unfold State.cleanHead
    split
    · simp
    · have ih' := fun u => changes_iff_of (s := t) (ih (t := u)) (List.Subset.refl _)
      simp [ih']

@[simp] theorem changes_cleanHeads (hl : [.regs, .ctrs, .ev, .fab, .shp, .tally] ⊆ l) (p) :
    Changes l s (t.cleanHeads p) ↔ Changes l s t :=
  changes_iff_of (by unfold State.cleanHeads; simp) hl

@[simp] theorem changes_gaitTakeover (hl : [.regs, .ctrs, .ev, .tabs, .fab, .shp, .tally] ⊆ l) (d) :
    Changes l s (t.gaitTakeover d) ↔ Changes l s t :=
  changes_iff_of (by unfold State.gaitTakeover; simp) hl

@[simp] theorem changes_markStepped (hl : [.port] ⊆ l) :
    Changes l s t.markStepped ↔ Changes l s t :=
  changes_iff_of (by unfold State.markStepped; simp) hl

@[simp] theorem changes_setBucket (hl : [.shp] ⊆ l) (d i b) :
    Changes l s (t.setBucket d i b) ↔ Changes l s t :=
  changes_iff_of (by unfold State.setBucket; simp) hl

@[simp] theorem changes_debtClamp (hl : [.regs, .ctrs, .ev] ⊆ l) (d who) :
    Changes l s (t.debtClamp d who) ↔ Changes l s t :=
  changes_iff_of (by unfold State.debtClamp; simp) hl

@[simp] theorem changes_chargeShaper (hl : [.regs, .ctrs, .ev, .shp] ⊆ l) (d lw i who) :
    Changes l s (State.chargeShaper d lw i t who) ↔ Changes l s t :=
  changes_iff_of (by unfold State.chargeShaper; simp) hl

@[simp] theorem changes_touchShaper (hl : [.shp] ⊆ l) (d i) :
    Changes l s (State.touchShaper d i t) ↔ Changes l s t :=
  changes_iff_of (by unfold State.touchShaper; simp) hl

@[simp] theorem changes_touchShapers (hl : [.shp] ⊆ l) (p) :
    Changes l s (t.touchShapers p) ↔ Changes l s t :=
  changes_iff_of (by
    unfold State.touchShapers
    refine (changes_forEach fun c u => ?_).2 (.refl _ t)
    split <;> simp) hl

theorem changes_roundRobin {p lvl n : Nat} {e : List Nat} {x : Nat × State} (h : State.roundRobin s p lvl e n t = some x) :
    Changes [.shp] t x.2 := by
  induction n generalizing t with
  | zero => cases h
  | succ n ih =>
    unfold State.roundRobin at h
    extract_lets q k need have_ add at h
    split at h
    · cases h; simp
    · refine Changes.trans ?_ (ih h); simp

theorem changes_selectQueue {p : Nat} {ready : List Nat} {x : Nat × State} (h : t.selectQueue p ready = some x) :
    Changes [.shp] t x.2 := by
  unfold State.selectQueue at h
  split at h
  · cases h
  · exact changes_roundRobin h

@[simp] theorem changes_intake (hl : [.regs, .ctrs, .ev] ⊆ l) (p e) :
    Changes l s (t.intake p e).2 ↔ Changes l s t :=
  changes_iff_of (by unfold State.intake; simp) hl

@[simp] theorem changes_finalCheck (hl : [.regs, .ctrs, .ev] ⊆ l) (p e) :
    Changes l s (t.finalCheck p e).2 ↔ Changes l s t :=
  changes_iff_of (by unfold State.finalCheck; simp) hl

@[simp] theorem changes_dropOversize (hl : [.regs, .ctrs, .fab, .tally] ⊆ l) (p e) :
    Changes l s (t.dropOversize p e) ↔ Changes l s t :=
  changes_iff_of (by unfold State.dropOversize; simp) hl

@[simp] theorem changes_sent (hl : [.regs, .ctrs, .ev, .out, .port, .fab, .tally] ⊆ l) (p cls e body bad cut stamps cap16) :
    Changes l s (t.sent p cls e body bad cut stamps cap16) ↔ Changes l s t :=
  changes_iff_of (by unfold State.sent; simp) hl

@[simp] theorem changes_offerPort (hl : [.regs, .ctrs, .ev, .fab, .shp, .tally] ⊆ l) (p) :
    Changes l s (t.offerPort p).2 ↔ Changes l s t :=
  changes_iff_of (by
    unfold State.offerPort
    extract_lets d s1 classes base held ready s2 s3 pick s4
    have h3 : Changes [.regs, .ctrs, .ev, .fab, .shp, .tally] t s3 := by
      refine (changes_foldl fun c u => ?_).2 (by simp [s2, s1])
      split <;> simp
    have hp : ∀ x, pick = some x → Changes [.regs, .ctrs, .ev, .fab, .shp, .tally] t x.2 := fun x h =>
      h3.trans ((changes_selectQueue h).mono (by simp))
    clear_value pick s3
    cases pick with
    | none => simp +zetaDelta [h3]
    | some x => simp +zetaDelta [hp]) hl

@[simp] theorem changes_handOver (hl : [.regs, .ctrs, .ev, .port, .fab, .shp, .tally] ⊆ l) (p c e r) :
    Changes l s (t.handOver p c e r) ↔ Changes l s t :=
  changes_iff_of (by
    unfold State.handOver
    extract_lets
    split
    · simp +zetaDelta
    split
    · split <;> simp +zetaDelta
    · simp +zetaDelta) hl

@[simp] theorem changes_endTx (hl : [.regs, .ctrs, .ev, .out, .port, .fab, .tally] ⊆ l) (p back x) :
    Changes l s (t.endTx p back x) ↔ Changes l s t :=
  changes_iff_of (by
    unfold State.endTx
    extract_lets d px cap src t0 shut t1 r u1 u2 i f u
    have hu : Changes [.regs, .ctrs, .ev, .out, .port, .fab, .tally] t u := by
      simp only [u]
      split
      · simp +zetaDelta
      split
      · simp +zetaDelta
      · split <;> simp +zetaDelta
    simp [hu]) hl

@[simp] theorem changes_markOverrun (hl : [.port] ⊆ l) (p) :
    Changes l s (t.markOverrun p) ↔ Changes l s t :=
  changes_iff_of (by unfold State.markOverrun; split <;> simp) hl

/-! ## Translation -/

@[simp] theorem changes_reach (hl : [.regs, .ctrs, .ev, .xl] ⊆ l) (fn pas write f va n) :
    Changes l s (State.reach fn pas write f va n t).2.2 ↔ Changes l s t := by
  refine changes_iff_of ?_ hl
  induction f generalizing va n t with
  | zero => simp [State.reach]
  | succ f ih =>
    have ih' := fun va n u => changes_iff_of (s := t) (ih (t := u) va n) (List.Subset.refl _)
    unfold State.reach
    split
    · simp
    · split <;> simp [ih']

@[simp] theorem changes_askTlb (hl : [.regs, .ctrs, .ev, .xl] ⊆ l) (w) :
    Changes l s (t.askTlb w) ↔ Changes l s t :=
  changes_iff_of (by unfold State.askTlb; simp) hl

@[simp] theorem changes_sendPrq (hl : [.regs, .ctrs, .ev, .xl] ⊆ l) (w) :
    Changes l s (t.sendPrq w) ↔ Changes l s t :=
  changes_iff_of (by unfold State.sendPrq; simp) hl

@[simp] theorem changes_showPark (hl : [.regs] ⊆ l) (w) :
    Changes l s (t.showPark w) ↔ Changes l s t :=
  changes_iff_of (by unfold State.showPark; split <;> simp) hl

@[simp] theorem changes_pageFault (hl : [.regs, .ctrs, .ev, .xl] ⊆ l) (w) :
    Changes l s (t.pageFault w).2 ↔ Changes l s t :=
  changes_iff_of (by unfold State.pageFault; simp) hl

@[simp] theorem changes_dmaSpan (hl : [.regs, .ctrs, .ev, .xl] ⊆ l) (who fn pas write ur va n) :
    Changes l s (State.dmaSpan who fn pas write ur va n t).2.2 ↔ Changes l s t :=
  changes_iff_of (by
    unfold State.dmaSpan
    split
    · simp
    · dsimp only
      split <;> simp) hl

@[simp] theorem changes_dmaPieces (hl : [.regs, .ctrs, .ev, .xl] ⊆ l) (who fn pas write ur frags) :
    Changes l s (State.dmaPieces who fn pas write ur frags t).2.2 ↔ Changes l s t := by
  refine changes_iff_of ?_ hl
  induction frags generalizing t with
  | nil => simp [State.dmaPieces]
  | cons x r ih =>
    have ih' := fun u => changes_iff_of (s := t) (ih (t := u)) (List.Subset.refl _)
    simp [State.dmaPieces, ih']

@[simp] theorem changes_hostPut (hl : [.host] ⊆ l) (fn pas frags bs) :
    Changes l s (State.hostPut fn pas frags bs t) ↔ Changes l s t := by
  refine changes_iff_of ?_ hl
  induction frags generalizing bs t with
  | nil => simp [State.hostPut]
  | cons x r ih => unfold State.hostPut; refine Changes.trans ?_ (ih _); simp

@[simp] theorem changes_dmaPut (hl : [.regs, .ctrs, .ev, .host, .xl] ⊆ l) (who fn pas frags o bs) :
    Changes l s (t.dmaPut who fn pas frags o bs).2.2 ↔ Changes l s t :=
  changes_iff_of (by unfold State.dmaPut; simp) hl

/-! ## Receive rings -/

@[simp] theorem changes_showIdle (hl : [.regs] ⊆ l) (q) :
    Changes l s (t.showIdle q) ↔ Changes l s t :=
  changes_iff_of (by unfold State.showIdle; simp) hl

@[simp] theorem changes_emit (hl : [.rc] ⊆ l) (q idx ent cq status r0 r1) :
    Changes l s (t.emit q idx ent cq status r0 r1) ↔ Changes l s t :=
  changes_iff_of (by unfold State.emit; simp) hl

@[simp] theorem changes_closeBuf (hl : [.regs, .rc] ⊆ l) (q status hi r1) :
    Changes l s (t.closeBuf q status hi r1) ↔ Changes l s t :=
  changes_iff_of (by unfold State.closeBuf; split <;> simp) hl

@[simp] theorem changes_rxLost (hl : [.regs, .ctrs, .ev, .fab, .tally] ⊆ l) (q r) :
    Changes l s (t.rxLost q r) ↔ Changes l s t :=
  changes_iff_of (by
    unfold State.rxLost
    split
    · simp
    · cases r.frame <;> simp) hl

@[simp] theorem changes_tallyWrote (hl : [.regs, .ctrs, .ev] ⊆ l) (trailer) :
    Changes l s (t.tallyWrote trailer) ↔ Changes l s t :=
  changes_iff_of (by unfold State.tallyWrote; simp) hl

@[simp] theorem changes_rxRun (hl : [.regs, .ctrs, .ev, .host, .fab, .tally, .xl, .rc] ⊆ l) (q n) :
    Changes l s (State.rxRun q n t) ↔ Changes l s t := by
  refine changes_iff_of ?_ hl
  induction n generalizing t with
  | zero => simp [State.rxRun]
  | succ n ih =>
    have ih' := fun u => changes_iff_of (s := t) (ih (t := u)) (List.Subset.refl _)
    unfold State.rxRun
    split <;> simp [ih']

@[simp] theorem changes_rxGo (hl : [.regs, .ctrs, .ev, .host, .fab, .tally, .xl, .rc] ⊆ l) (q) :
    Changes l s (t.rxGo q) ↔ Changes l s t :=
  changes_iff_of (by unfold State.rxGo; simp) hl

@[simp] theorem changes_rxGive (hl : [.regs, .ctrs, .ev, .host, .fab, .tally, .xl, .rc] ⊆ l) (q r) :
    Changes l s (t.rxGive q r) ↔ Changes l s t :=
  changes_iff_of (by unfold State.rxGive; simp) hl

@[simp] theorem changes_rxFull (hl : [.regs, .rc] ⊆ l) (q typ n) :
    Changes l s (t.rxFull q typ n) ↔ Changes l s t :=
  changes_iff_of (by unfold State.rxFull; dsimp only; split <;> simp) hl

/-! ## The sequencer -/

@[simp] theorem changes_applyOn (hl : [.regs, .ctrs, .ev, .tabs, .fab, .shp, .tally] ⊆ l) (c new x) :
    Changes l s (State.applyOn c new x t) ↔ Changes l s t :=
  changes_iff_of (by unfold State.applyOn; simp) hl

/-! ## Tally -/

@[simp] theorem changes_beginMinute (hl : [.tally] ⊆ l) (flags) :
    Changes l s (t.beginMinute flags) ↔ Changes l s t :=
  changes_iff_of (by unfold State.beginMinute; simp) hl

@[simp] theorem changes_tallySettle (hl : [.regs, .tabs, .tally] ⊆ l) :
    Changes l s t.tallySettle ↔ Changes l s t :=
  changes_iff_of (by unfold State.tallySettle; simp) hl

@[simp] theorem changes_tallyCommit (hl : [.tack] ⊆ l) :
    Changes l s t.tallyCommit ↔ Changes l s t :=
  changes_iff_of (by unfold State.tallyCommit; simp) hl

@[simp] theorem changes_tallyEndMs (hl : [.free] ⊆ l) :
    Changes l s (t.tallyEndMs).2 ↔ Changes l s t :=
  changes_iff_of (by unfold State.tallyEndMs; simp) hl

@[simp] theorem changes_tallyQueue (hl : [.regs, .tally] ⊆ l) (t') :
    Changes l s (t.tallyQueue t') ↔ Changes l s t :=
  changes_iff_of (by unfold State.tallyQueue; simp) hl

@[simp] theorem changes_swapBanks (hl : [.regs, .tally] ⊆ l) :
    Changes l s t.swapBanks ↔ Changes l s t :=
  changes_iff_of (by unfold State.swapBanks; simp) hl

@[simp] theorem changes_cutMinute (hl : [.regs, .tally] ⊆ l) (kind flags endMs) :
    Changes l s (t.cutMinute kind flags endMs) ↔ Changes l s t :=
  changes_iff_of (by unfold State.cutMinute; simp) hl

@[simp] theorem changes_tallyLostEntry (hl : [.regs, .tack, .ev, .flt, .tally] ⊆ l) :
    Changes l s t.tallyLostEntry ↔ Changes l s t :=
  changes_iff_of (by unfold State.tallyLostEntry; simp) hl

@[simp] theorem changes_cutBoundary (hl : [.regs, .free, .tack, .ev, .flt, .tabs, .tally] ⊆ l) :
    Changes l s t.cutBoundary ↔ Changes l s t :=
  changes_iff_of (by unfold State.cutBoundary; simp) hl

@[simp] theorem changes_takeInterim (hl : [.regs, .free, .tack, .tally] ⊆ l) :
    Changes l s t.takeInterim ↔ Changes l s t :=
  changes_iff_of (by unfold State.takeInterim; simp) hl

@[simp] theorem changes_deferTo (hl : [.regs, .tally] ⊆ l) (n) :
    Changes l s (t.deferTo n) ↔ Changes l s t :=
  changes_iff_of (by unfold State.deferTo; simp) hl

@[simp] theorem changes_interimFalls (hl : [.regs, .ctrs, .free, .tack, .ev, .tally] ⊆ l) :
    Changes l s t.interimFalls ↔ Changes l s t :=
  changes_iff_of (by unfold State.interimFalls; simp) hl

@[simp] theorem changes_cutInterim (hl : [.regs, .ctrs, .free, .tack, .ev, .tally] ⊆ l) :
    Changes l s t.cutInterim ↔ Changes l s t :=
  changes_iff_of (by unfold State.cutInterim; simp) hl

@[simp] theorem changes_tallyCutFlush (hl : [.regs, .free, .tack, .tally] ⊆ l) :
    Changes l s t.tallyCutFlush ↔ Changes l s t :=
  changes_iff_of (by unfold State.tallyCutFlush; simp) hl

@[simp] theorem changes_tallyStep (hl : [.regs, .ctrs, .free, .tack, .ev, .flt, .tabs, .tally] ⊆ l) (old) :
    Changes l s (t.tallyStep old) ↔ Changes l s t :=
  changes_iff_of (by unfold State.tallyStep; simp) hl

@[simp] theorem changes_setHeadSet (hl : [.tally] ⊆ l) (f) :
    Changes l s (t.setHeadSet f) ↔ Changes l s t :=
  changes_iff_of (by unfold State.setHeadSet; simp) hl

@[simp] theorem changes_tallyDiscard (hl : [.regs, .ctrs, .ev, .tally] ⊆ l) :
    Changes l s t.tallyDiscard ↔ Changes l s t :=
  changes_iff_of (by unfold State.tallyDiscard; simp) hl

@[simp] theorem changes_tallyLog (hl : [.regs, .ctrs, .ev, .tally, .ddr] ⊆ l) (v trailer divert) :
    Changes l s (t.tallyLog v trailer divert) ↔ Changes l s t :=
  changes_iff_of (by unfold State.tallyLog; simp) hl

@[simp] theorem changes_tallyPlace (hl : [.regs, .ctrs, .ev, .host, .fab, .tally, .xl, .rc, .ddr] ⊆ l) (v trailer late) :
    Changes l s (t.tallyPlace v trailer late).2 ↔ Changes l s t :=
  changes_iff_of (by unfold State.tallyPlace; simp) hl

@[simp] theorem changes_takeBack (hl : [.tally, .rc] ⊆ l) :
    Changes l s t.takeBack ↔ Changes l s t :=
  changes_iff_of (by unfold State.takeBack; simp) hl

@[simp] theorem changes_tallyWrite (hl : [.regs, .ctrs, .ev, .host, .fab, .tally, .xl, .rc, .ddr] ⊆ l) (n) :
    Changes l s (State.tallyWrite n t) ↔ Changes l s t := by
  refine changes_iff_of ?_ hl
  induction n generalizing t with
  | zero => simp [State.tallyWrite]
  | succ n ih =>
    have ih' := fun u => changes_iff_of (s := t) (ih (t := u)) (List.Subset.refl _)
    unfold State.tallyWrite
    split
    · simp
    · dsimp only
      split <;> simp [ih']

@[simp] theorem changes_tallyRun (hl : [.regs, .ctrs, .ev, .host, .fab, .tally, .xl, .rc, .ddr] ⊆ l) :
    Changes l s t.tallyRun ↔ Changes l s t :=
  changes_iff_of (by unfold State.tallyRun; simp) hl

@[simp] theorem changes_setComplete (hl : [.regs, .ctrs, .free, .tack, .ev, .flt, .tally] ⊆ l) :
    Changes l s t.setComplete ↔ Changes l s t :=
  changes_iff_of (by unfold State.setComplete; split <;> simp) hl

/-! ## Capture -/

@[simp] theorem changes_capTook (hl : [.ctrs, .fab] ⊆ l) (k) :
    Changes l s (t.capTook k) ↔ Changes l s t :=
  changes_iff_of (by unfold State.capTook; simp) hl

@[simp] theorem changes_capWrite (hl : [.regs, .ctrs, .ev, .host, .fab, .tally, .xl, .rc, .ddr] ⊆ l) (bs o all ring who) :
    Changes l s (t.capWrite bs o all ring who).2 ↔ Changes l s t :=
  changes_iff_of (by unfold State.capWrite; dsimp only; split <;> simp) hl

/-! ## Threads and engines -/

@[simp] theorem changes_setThr (hl : [.st] ⊆ l) (e t' f) :
    Changes l s (t.setThr e t' f) ↔ Changes l s t :=
  changes_iff_of (by unfold State.setThr; simp) hl

@[simp] theorem changes_setEng (hl : [.st] ⊆ l) (e f) :
    Changes l s (t.setEng e f) ↔ Changes l s t :=
  changes_iff_of (by unfold State.setEng; simp) hl

/-! ## Stitchers -/

@[simp] theorem changes_clearStep (hl : [.regs] ⊆ l) (e t') :
    Changes l s (t.clearStep e t') ↔ Changes l s t :=
  changes_iff_of (by unfold State.clearStep; simp) hl

@[simp] theorem changes_settleThread (hl : [.regs, .ev, .st] ⊆ l) (e t') :
    Changes l s (State.settleThread e t t') ↔ Changes l s t :=
  changes_iff_of (by unfold State.settleThread; simp) hl

@[simp] theorem changes_showWaiting (hl : [.regs, .ctrs, .ev, .st] ⊆ l) (e) :
    Changes l s (t.showWaiting e) ↔ Changes l s t :=
  changes_iff_of (by unfold State.showWaiting; simp) hl

@[simp] theorem changes_settle (hl : [.regs, .ctrs, .ev, .st] ⊆ l) (e) :
    Changes l s (t.settle e) ↔ Changes l s t :=
  changes_iff_of (by
    unfold State.settle
    dsimp only
    split
    · simp
    · split <;> simp) hl

@[simp] theorem changes_winPut (hl : [.ddr, .st] ⊆ l) (w o bs) :
    Changes l s (t.winPut w o bs) ↔ Changes l s t :=
  changes_iff_of (by unfold State.winPut; split <;> simp) hl

@[simp] theorem changes_bufWrite (hl : [.ddr, .st] ⊆ l) (h o bs) :
    Changes l s (t.bufWrite h o bs) ↔ Changes l s t :=
  changes_iff_of (by unfold State.bufWrite; split <;> simp) hl

/-! ## Punts -/

@[simp] theorem changes_puntDrop (hl : [.tally] ⊆ l) (m) :
    Changes l s (t.puntDrop m) ↔ Changes l s t :=
  changes_iff_of (by unfold State.puntDrop; simp) hl

@[simp] theorem changes_freeAll (hl : [.regs, .ctrs, .ev, .pool, .st] ⊆ l) (l') :
    Changes l s (t.freeAll l') ↔ Changes l s t :=
  changes_iff_of (by unfold State.freeAll; simp) hl

@[simp] theorem changes_placeChain (hl : [.regs, .ctrs, .ev, .pool] ⊆ l) (n bs took) :
    Changes l s (State.placeChain n bs took t).2.2 ↔ Changes l s t := by
  refine changes_iff_of ?_ hl
  induction n generalizing bs took t with
  | zero => simp [State.placeChain]
  | succ n ih =>
    have ha := (changes_alloc (s := t) (t := t) (List.Subset.refl _) 5).2 (.refl _ t)
    unfold State.placeChain
    split
    · simp
    · split
      next h => rwa [h] at ha
      next h => rw [h] at ha; exact ha.trans (ih _ _)

@[simp] theorem changes_writeChain (hl : [.ddr, .st] ⊆ l) (bufs) :
    Changes l s (State.writeChain bufs t) ↔ Changes l s t := by
  refine changes_iff_of ?_ hl
  induction bufs generalizing t with
  | nil => simp [State.writeChain]
  | cons x r ih => unfold State.writeChain; refine Changes.trans ?_ ih; simp

@[simp] theorem changes_oneMore (hl : [.regs, .ctrs, .ev, .pool] ⊆ l) (n got) :
    Changes l s (State.oneMore n got t).2.2 ↔ Changes l s t :=
  changes_iff_of (by
    unfold State.oneMore
    have h := changes_alloc (l := [.regs, .ctrs, .ev, .pool]) (s := t) (t := t) (List.Subset.refl _) n
    split <;> simp_all) hl

theorem changes_puntToEngine {e : Nat} {p : Punt} {r : State} (h : t.puntToEngine e p = some r) :
    Changes [.regs, .ctrs, .ev, .pool, .tally, .ddr, .st] t r := by
  unfold State.puntToEngine at h
  extract_lets none_ c a scanned b d held at h
  have hc : Changes [.regs, .ctrs, .ev, .pool, .tally, .ddr, .st] t c.2.2 := by simp [c]
  have ha : Changes [.regs, .ctrs, .ev, .pool, .tally, .ddr, .st] t a.2.2 := by simp [a, hc]
  have hb : Changes [.regs, .ctrs, .ev, .pool, .tally, .ddr, .st] t b.2.2 := by simp [b, ha]
  have hd : Changes [.regs, .ctrs, .ev, .pool, .tally, .ddr, .st] t d.2.2 := by simp [d, hb]
  clear_value c a b d
  split at h
  · cases h; simp
  split at h
  · cases h; simp [hc]
  split at h
  · cases h; simp [ha]
  split at h
  · cases h; simp [hb]
  split at h
  · cases h; simp [hd]
  split at h
  · cases h
  · rw [← Option.some.inj h]
    simp [hd]

theorem changes_puntToEngines {p : Punt} {host : Bool} {r : State} (h : t.puntToEngines p host = some r) :
    Changes [.regs, .ctrs, .ev, .pool, .tally, .ddr, .st] t r := by
  unfold State.puntToEngines at h
  extract_lets mask at h
  split at h
  · cases h; simp
  split at h
  · cases h; simp
  split at h
  · cases h; simp
  · exact changes_puntToEngine h

@[simp] theorem changes_puntToHost (hl : [.regs, .ctrs, .ev, .host, .fab, .tally, .xl, .rc] ⊆ l) (q p) :
    Changes l s (t.puntToHost q p) ↔ Changes l s t :=
  changes_iff_of (by unfold State.puntToHost; simp) hl

theorem changes_puntArrive {p : Punt} {r : State} (h : t.puntArrive p = some r) :
    Changes [.regs, .ctrs, .ev, .host, .fab, .pool, .tally, .xl, .rc, .ddr, .st] t r := by
  unfold State.puntArrive at h
  extract_lets m n c s1 at h
  have h1 : Changes [.regs, .ctrs, .ev, .host, .fab, .pool, .tally, .xl, .rc, .ddr, .st] t s1 := by simp [s1]
  have engines := fun {host} (h : s1.puntToEngines p host = some r) => h1.trans ((changes_puntToEngines h).mono (by simp))
  split at h
  · cases h; simp [h1]
  split at h
  · cases h; simp [h1]
  split at h
  · exact engines h
  · split at h
    · cases h; simp [h1]
    · exact engines h
  · cases h; simp [h1]

/-! ## Lacing -/

@[simp] theorem changes_loseOpen (hl : [.regs, .fab, .shp, .tally] ⊆ l) (d f) :
    Changes l s (t.loseOpen d f) ↔ Changes l s t :=
  changes_iff_of (by unfold State.loseOpen; simp) hl

@[simp] theorem changes_releaseTo (hl : [.regs, .ctrs, .free, .ev, .fab, .shp, .tally] ⊆ l) (p cls e) :
    Changes l s (t.releaseTo p cls e) ↔ Changes l s t :=
  changes_iff_of (by unfold State.releaseTo; simp) hl

@[simp] theorem changes_releaseMc (hl : [.regs, .ctrs, .free, .ev, .fab, .shp, .tally] ⊆ l) (d f brand err) :
    Changes l s (t.releaseMc d f brand err) ↔ Changes l s t :=
  changes_iff_of (by unfold State.releaseMc; simp) hl

@[simp] theorem changes_feedEarly (hl : [.regs, .ctrs, .ev, .port, .fab, .shp] ⊆ l) (f fin) :
    Changes l s (t.feedEarly f fin) ↔ Changes l s t :=
  changes_iff_of (by unfold State.feedEarly; dsimp only; split <;> simp) hl

@[simp] theorem changes_finish (hl : [.regs, .ctrs, .free, .ev, .port, .fab, .shp, .tally] ⊆ l) (d f brand err) :
    Changes l s (t.finish d f brand err) ↔ Changes l s t :=
  changes_iff_of (by unfold State.finish; dsimp only; split <;> simp) hl

@[simp] theorem changes_timeoutDrops (hl : [.regs, .ctrs, .ev] ⊆ l) (d l') :
    Changes l s (t.timeoutDrops d l') ↔ Changes l s t :=
  changes_iff_of (by unfold State.timeoutDrops; simp) hl

@[simp] theorem changes_feed (hl : [.regs, .ctrs, .free, .ev, .port, .fab, .shp, .tally] ⊆ l) (d c chunk slot tail a) :
    Changes l s (State.feed d c chunk slot tail a t).2 ↔ Changes l s t :=
  changes_iff_of (by
    unfold State.feed
    split
    · simp
    extract_lets
    split
    · simp
    · split <;> simp) hl

@[simp] theorem changes_takeCellIn (hl : [.regs, .ctrs, .free, .ev, .port, .fab, .shp, .tally] ⊆ l) (d c a) :
    Changes l s (State.takeCellIn d c a t).2 ↔ Changes l s t :=
  changes_iff_of (by
    unfold State.takeCellIn
    split
    · simp
    extract_lets cont known lost late s1 a1 bounds
    have h1 : Changes [.regs, .ctrs, .free, .ev, .port, .fab, .shp, .tally] t s1 := by simp [s1]
    clear_value s1
    dsimp only
    refine (changes_foldl_snd fun x p => ?_).2 (by simp [h1])
    split
    · simp
    · split <;> simp) hl

@[simp] theorem changes_cutThrough (hl : [.regs, .ctrs, .free, .ev, .fab, .shp, .tally] ⊆ l) (ord a) :
    Changes l s (t.cutThrough ord a).2 ↔ Changes l s t :=
  changes_iff_of (by unfold State.cutThrough; split <;> simp) hl

@[simp] theorem changes_takeSpan (hl : [.regs, .ctrs, .free, .ev, .port, .fab, .shp, .tally] ⊆ l) (d q cells) :
    Changes l s (State.takeSpan d q cells t) ↔ Changes l s t :=
  changes_iff_of (by
    unfold State.takeSpan
    cases cells with
    | nil => simp
    | cons c0 cells =>
      dsimp only
      cases (t.fab.asm.at {} (asmKey d q c0.place)).cur <;> simp) hl

@[simp] theorem changes_takeSpans (hl : [.regs, .ctrs, .free, .ev, .port, .fab, .shp, .tally] ⊆ l) (d q n) :
    Changes l s (State.takeSpans d q n t) ↔ Changes l s t := by
  refine changes_iff_of ?_ hl
  induction n generalizing t with
  | zero => simp [State.takeSpans]
  | succ n ih =>
    have ih' := fun u => changes_iff_of (s := t) (ih (t := u)) (List.Subset.refl _)
    unfold State.takeSpans
    extract_lets
    split
    · dsimp only
      rw [ih']
      split <;> simp
    · split <;> simp +zetaDelta [ih']

@[simp] theorem changes_laceCell (hl : [.regs, .ctrs, .free, .ev, .port, .fab, .shp, .tally] ⊆ l) (d c) :
    Changes l s (t.laceCell d c) ↔ Changes l s t :=
  changes_iff_of (by unfold State.laceCell; simp) hl

@[simp] theorem changes_flushDone (hl : [.regs, .ev, .fab, .shp, .tally] ⊆ l) (p) :
    Changes l s (t.flushDone p) ↔ Changes l s t :=
  changes_iff_of (by
    unfold State.flushDone
    extract_lets d k qs s1 s2
    have h1 : Changes [.regs, .ev, .fab, .shp, .tally] t s1 := by
      refine (changes_forEach fun q u => ?_).2 (.refl _ t)
      extract_lets lk u1 mine u2 asm
      have h2 : Changes [.regs, .ev, .fab, .shp, .tally] u u2 := by
        refine (changes_forEach fun e v => ?_).2 (by simp [u1])
        split <;> simp
      simp [h2]
    simp [s2, h1]) hl

@[simp] theorem changes_flushPoint (hl : [.regs, .ev, .fab, .shp, .tally] ⊆ l) (g p) :
    Changes l s (t.flushPoint g p) ↔ Changes l s t :=
  changes_iff_of (by unfold State.flushPoint; simp) hl

@[simp] theorem changes_flushStart (hl : [.regs, .ctrs, .fab, .shp, .tally] ⊆ l) (p) :
    Changes l s (t.flushStart p) ↔ Changes l s t :=
  changes_iff_of (by
    unfold State.flushStart
    extract_lets s1 mask
    have h1 : Changes [.regs, .ctrs, .fab, .shp, .tally] t s1 := (changes_forEach fun c u => by simp).2 (.refl _ t)
    simp [h1]) hl

@[simp] theorem changes_renegotiate (hl : [.regs, .port] ⊆ l) (p) :
    Changes l s (t.renegotiate p) ↔ Changes l s t :=
  changes_iff_of (by unfold State.renegotiate; simp) hl

@[simp] theorem changes_portDown (hl : [.regs, .ctrs, .ev, .port, .fab, .shp, .tally] ⊆ l) (p rx) :
    Changes l s (State.portDown p rx t) ↔ Changes l s t :=
  changes_iff_of (by
    unfold State.portDown
    extract_lets x s1 s2 head s3 ports s4
    have h2 : Changes [.regs, .ctrs, .ev, .port, .fab, .shp, .tally] t s2 := by simp [s2, s1]
    have h3 : Changes [.regs, .ctrs, .ev, .port, .fab, .shp, .tally] t s3 := by
      clear_value head
      cases head <;> simp [s3, h2]
    have h4 : Changes [.regs, .ctrs, .ev, .port, .fab, .shp, .tally] t s4 := by
      simp only [s4]
      split <;> simp [h3]
    clear_value s4
    simp +zetaDelta [h4]) hl

@[simp] theorem changes_allPortsDown (hl : [.regs, .ctrs, .ev, .port, .fab, .shp, .tally] ⊆ l) :
    Changes l s t.allPortsDown ↔ Changes l s t :=
  changes_iff_of (by unfold State.allPortsDown; simp) hl

@[simp] theorem changes_portAdmin (hl : [.regs, .port] ⊆ l) (p old v) :
    Changes l s (t.portAdmin p old v) ↔ Changes l s t :=
  changes_iff_of (by unfold State.portAdmin; simp) hl

@[simp] theorem changes_writePortCtrl (hl : [.regs, .ctrs, .free, .ev, .port, .fab, .shp, .tally] ⊆ l) (p v) :
    Changes l s (t.writePortCtrl p v) ↔ Changes l s t :=
  changes_iff_of (by unfold State.writePortCtrl; simp) hl

@[simp] theorem changes_repatDrop (hl : [.regs, .ctrs, .fab, .tally] ⊆ l) (d c m) :
    Changes l s (t.repatDrop d c m) ↔ Changes l s t :=
  changes_iff_of (by unfold State.repatDrop; simp) hl

@[simp] theorem changes_dropFabric (hl : [.regs, .ctrs, .ev, .port, .fab, .pool, .tally, .st] ⊆ l) :
    Changes l s t.dropFabric ↔ Changes l s t :=
  changes_iff_of (by unfold State.dropFabric; simp) hl

@[simp] theorem changes_repatternStart (hl : [.regs, .ctrs, .ev, .pace, .port, .fab, .pool, .tally, .st] ⊆ l) :
    Changes l s t.repatternStart ↔ Changes l s t :=
  changes_iff_of (by unfold State.repatternStart; simp) hl

@[simp] theorem changes_showPattern (hl : [.regs] ⊆ l) :
    Changes l s t.showPattern ↔ Changes l s t :=
  changes_iff_of (by unfold State.showPattern; simp) hl

@[simp] theorem changes_writePattern (hl : [.regs] ⊆ l) (gen) :
    Changes l s (t.writePattern gen) ↔ Changes l s t :=
  changes_iff_of (by unfold State.writePattern; simp) hl

@[simp] theorem changes_writeCalendars (hl : [.fab] ⊆ l) :
    Changes l s t.writeCalendars ↔ Changes l s t :=
  changes_iff_of (by unfold State.writeCalendars; exact (changes_forEach fun d u => by simp).2 (.refl _ t)) hl

@[simp] theorem changes_repatternEnd (hl : [.regs, .ctrs, .tack, .ev, .flt, .pace, .port, .fab, .pool, .tally, .st] ⊆ l) (t0) :
    Changes l s (t.repatternEnd t0) ↔ Changes l s t :=
  changes_iff_of (by unfold State.repatternEnd; simp) hl

/-! ## Modes -/

@[simp] theorem changes_discardFlight (hl : [.regs, .ctrs, .ev, .awl, .flow, .port, .sl, .fab, .shp, .pool, .st] ⊆ l) :
    Changes l s t.discardFlight ↔ Changes l s t :=
  changes_iff_of (by unfold State.discardFlight; simp) hl

@[simp] theorem changes_showCommit (hl : [.regs] ⊆ l) (c) :
    Changes l s (t.showCommit c) ↔ Changes l s t :=
  changes_iff_of (by unfold State.showCommit; simp) hl

@[simp] theorem changes_bumpCommitSeq (hl : [.regs] ⊆ l) :
    Changes l s t.bumpCommitSeq ↔ Changes l s t :=
  changes_iff_of (by unfold State.bumpCommitSeq; simp) hl

@[simp] theorem changes_startCommit (hl : [.regs, .modes] ⊆ l) (c) :
    Changes l s (t.startCommit c) ↔ Changes l s t :=
  changes_iff_of (by unfold State.startCommit; simp) hl

@[simp] theorem changes_endCommit (hl : [.regs, .modes, .ev] ⊆ l) :
    Changes l s t.endCommit ↔ Changes l s t :=
  changes_iff_of (by unfold State.endCommit; dsimp only; split <;> simp) hl

@[simp] theorem changes_beginDrain (hl : [.mode, .regs, .modes, .pace] ⊆ l) (c) :
    Changes l s (t.beginDrain c) ↔ Changes l s t :=
  changes_iff_of (by unfold State.beginDrain; simp) hl

@[simp] theorem changes_commitDone (hl : [.regs, .modes, .ev] ⊆ l) :
    Changes l s t.commitDone ↔ Changes l s t :=
  changes_iff_of (by unfold State.commitDone; simp) hl

/-! ## Power -/

theorem Changes.edrainAt {i : Nat} {ready : EDrain → Bool} {f : EDrain → State → State} (h : ∀ e t, Changes l t (f e t))
    (t : State) : Changes l t (t.edrainAt i ready f) := by
  unfold State.edrainAt
  split <;> simp [h]

@[simp] theorem changes_setEDrain (hl : [.tack] ⊆ l) (e) :
    Changes l s (t.setEDrain e) ↔ Changes l s t :=
  changes_iff_of (by unfold State.setEDrain; simp) hl

/-! ## The timekeeper -/

@[simp] theorem changes_refuseAdj (hl : [.regs, .ev] ⊆ l) :
    Changes l s t.refuseAdj ↔ Changes l s t :=
  changes_iff_of (by unfold State.refuseAdj; simp) hl

@[simp] theorem changes_adjustTai (hl : [.clock, .regs, .ctrs, .free, .tack, .ev, .flt, .tabs, .port, .tally] ⊆ l) (d) :
    Changes l s (t.adjustTai d) ↔ Changes l s t :=
  changes_iff_of (by unfold State.adjustTai; simp) hl

@[simp] theorem changes_stepTime (hl : [.clock, .regs, .ctrs, .free, .tack, .ev, .flt, .tabs, .port, .tally] ⊆ l) (value) :
    Changes l s (t.stepTime value) ↔ Changes l s t :=
  changes_iff_of (by unfold State.stepTime; simp) hl

/-! ## Register writes -/

@[simp] theorem changes_writeGaitCtrl (hl : [.regs, .ev] ⊆ l) (p v) :
    Changes l s (t.writeGaitCtrl p v).2 ↔ Changes l s t :=
  changes_iff_of (by unfold State.writeGaitCtrl; simp) hl

/-! ## Commands -/

/-- A command changes what its effect changes: completing keeps the time, the variant and the queue. -/
theorem touches_done {c : Instr} {f : State → State} (h : ∀ s, exec c s = done f s) (hf : ∀ s, Changes l s (f s)) :
    Touches l c := by
  intro s t hst p hp
  obtain rfl := Host.Outcome.next.inj ((h s).symm.trans hst)
  have hs := hf s p hp
  cases p
  case clock => rfl
  all_goals exact hs

theorem touches_doneTimed {c : Instr} {f : State → State} (h : ∀ s, exec c s = doneTimed f s)
    (hf : ∀ s, Changes l s (f s)) : Touches l c := by
  intro s t hst p hp
  obtain rfl := Host.Outcome.next.inj ((h s).symm.trans hst)
  have hs := hf s p hp
  cases p <;> exact hs

theorem touches_frameAdmit (p bytes rx fec back early) :
    Touches [.regs, .ctrs, .ev, .out, .port] (.frameAdmit p bytes rx fec back early) :=
  touches_done (fun _ => rfl) fun s => by
    extract_lets pre rxErr s₁ n body t16 badFcs
    have h : Changes [.regs, .ctrs, .ev, .out, .port] s s₁ := by simp [s₁]
    clear_value s₁
    split
    · simp [h]
    · split
      · simp [h]
      · split
        · simp [h]
        · split <;> simp +zetaDelta [h]

theorem touches_fifoXoff (g) : Touches [.regs, .ctrs, .ev, .out, .port] (.fifoXoff g) :=
  touches_done (fun _ => rfl) fun s => by
    refine changes_onlyIf.2 ⟨fun _ => (changes_forEach fun p u => ?_).2 ?_, fun _ => .refl _ s⟩ <;> simp

theorem touches_fifoXon (g) : Touches [.regs, .ctrs, .ev, .out, .port] (.fifoXon g) :=
  touches_done (fun _ => rfl) fun s => by
    refine changes_onlyIf.2 ⟨fun _ => (changes_forEach fun p u => ?_).2 ?_, fun _ => .refl _ s⟩ <;> simp

theorem touches_ingressPass (sl borrow second nm) :
    Touches [.regs, .ctrs, .ev, .pace, .ts, .port, .sl, .fab, .shp, .tally] (.ingressPass sl borrow second nm) :=
  touches_done (fun _ => rfl) fun s => by
    extract_lets d s₁ g0 q0 q1 g
    split
    · exact .refl _ s
    · have h : Changes [.regs, .ctrs, .ev, .pace, .ts, .port, .sl, .fab, .shp, .tally] s s₁ := by simp [s₁]
      clear_value s₁
      split
      · simp [h]
      · split
        next hp =>
          obtain hp | ⟨-, hp⟩ := (Option.orElse_eq_some ..).1 hp <;> exact h.trans ((changes_passFrom hp).mono (by simp))
        all_goals simp [h]

theorem touches_awlResult (sl) : Touches [.regs, .ctrs, .ev, .port, .sl, .fab, .tally] (.awlResult sl) :=
  touches_done (fun _ => rfl) fun s => by split <;> simp

theorem touches_awlTimeout (sl) : Touches [.regs, .ctrs, .ev, .awl, .port, .sl, .fab, .tally] (.awlTimeout sl) :=
  touches_done (fun _ => rfl) fun s => by split <;> simp

theorem touches_flowResult (sl) : Touches [.regs, .ctrs, .ev, .port, .sl, .fab, .tally] (.flowResult sl) :=
  touches_done (fun _ => rfl) fun s => by split <;> simp

theorem touches_flowTimeout (sl) : Touches [.regs, .ctrs, .ev, .flow, .port, .sl, .fab, .tally] (.flowTimeout sl) :=
  touches_done (fun _ => rfl) fun s => by split <;> simp

theorem touches_tailRecord (p rest rx) : Touches [.regs, .ctrs, .ev, .out, .port, .fab, .tally] (.tailRecord p rest rx) :=
  touches_done (fun _ => rfl) fun s => by
    split
    extract_lets s₁ bad take
    have h : Changes [.regs, .ctrs, .ev, .out, .port, .fab, .tally] s s₁ := by simp [s₁]
    clear_value s₁
    split
    · simp [h]
    · split
      · exact h
      · split <;> simp +zetaDelta [h]

theorem touches_lacingCellArrive (d g k borrow) :
    Touches [.regs, .ctrs, .free, .ev, .pace, .port, .fab, .shp, .tally] (.lacingCellArrive d g k borrow) :=
  touches_done (fun _ => rfl) fun s => by
    extract_lets rk p
    split
    · exact .refl _ s
    · split
      · simp
      · split <;> simp

theorem touches_lacingTimeout (d q) :
    Touches [.regs, .ctrs, .free, .ev, .flt, .port, .fab, .shp, .tally] (.lacingTimeout d q) :=
  touches_done (fun _ => rfl) fun s => by
    extract_lets k l lim
    split <;> simp

theorem touches_reinSelect (p nm) : Touches [.regs, .ctrs, .ev, .pace, .port, .fab, .shp, .tally] (.reinSelect p nm) :=
  touches_done (fun _ => rfl) fun s => by
    split
    · exact .refl _ s
    · extract_lets x
      split
      · simp [x]
      · split <;> simp [x]

theorem touches_frameTxDone (p back) : Touches [.regs, .ctrs, .ev, .out, .port, .fab, .tally] (.frameTxDone p back) :=
  touches_done (fun _ => rfl) fun s => by split <;> simp

theorem touches_flushRequest (g p) : Touches [.regs, .ctrs, .ev, .fab, .tally] (.flushRequest g p) :=
  touches_done (fun _ => rfl) fun s => by
    refine changes_onlyIf.2 ⟨fun _ => (changes_mk (by simp)).2 ((changes_forEach fun q t => ?_).2 ?_), fun _ => .refl _ s⟩
    · simp
    · exact .refl _ s

theorem touches_captureRecord : Touches [.regs, .ctrs, .ev, .host, .fab, .tally, .xl, .rc, .ddr] .captureRecord :=
  touches_done (fun _ => rfl) fun s => by
    refine changes_onlyIf.2 ⟨fun _ => ?_, fun _ => .refl _ s⟩
    split
    · exact .refl _ s
    · simp
      split <;> simp

theorem touches_sampleRecord : Touches [.regs, .ctrs, .ev, .host, .sl, .fab, .tally, .xl, .rc, .ddr] .sampleRecord :=
  touches_done (fun _ => rfl) fun s => by
    refine changes_onlyIf.2 ⟨fun _ => ?_, fun _ => .refl _ s⟩
    split <;> simp

theorem touches_tallyDivert : Touches [.regs, .ctrs, .ev, .host, .fab, .tally, .xl, .rc, .ddr] .tallyDivert :=
  touches_done (fun _ => rfl) fun s => by split <;> simp

theorem touches_puntArrive : Touches [.regs, .ctrs, .ev, .host, .sl, .fab, .pool, .tally, .xl, .rc, .ddr, .st] .puntArrive :=
  touches_done (fun _ => rfl) fun s => by
    split
    next p r _ =>
      refine changes_onlyIf.2 ⟨fun _ => ?_, fun _ => .refl _ s⟩
      cases hp : State.puntArrive _ p with
      | none => exact .refl _ s
      | some t => exact ((changes_mk (by simp)).2 (.refl _ s)).trans ((changes_puntArrive hp).mono (by simp))
    next => exact .refl _ s

theorem touches_repatternResume :
    Touches [.regs, .ctrs, .tack, .ev, .flt, .pace, .port, .fab, .pool, .tally, .st] .repatternResume :=
  touches_done (fun _ => rfl) fun s => by split <;> simp

theorem touches_transmittersOff :
    Touches [.regs, .ctrs, .tack, .ev, .awl, .flow, .port, .sl, .fab, .shp, .pool, .tally, .st] .transmittersOff :=
  touches_done (fun _ => rfl) fun s => by exact Changes.edrainAt (fun e t => by simp) s

theorem touches_commitApply (lagging) :
    Touches [.mode, .regs, .ctrs, .modes, .ev, .pace, .tabs, .fab, .shp, .tally] (.commitApply lagging) :=
  touches_done (fun _ => rfl) fun s => by
    extract_lets
    split <;> simp

theorem touches_applyReport (x) : Touches [.regs, .ctrs, .modes, .ev, .tabs, .fab, .shp, .tally] (.applyReport x) :=
  touches_done (fun _ => rfl) fun s => by
    split
    · exact .refl _ s
    · split
      · split <;> simp
      · simp

end Sys2Proof.Machine

/-- Settles O54: each command completes with an effect built from operations whose frames are the lemmas above. -/
theorem portFrames : Obligations.PortFrames :=
  ⟨touches_frameAdmit,
    fun _ _ _ _ => touches_done (fun _ => rfl) fun _ => by simp,
    fun _ => touches_done (fun _ => rfl) fun _ => by simp,
    fun _ => touches_done (fun _ => rfl) fun _ => by simp,
    fun _ _ => touches_done (fun _ => rfl) fun _ => by simp,
    fun _ _ _ => touches_done (fun _ => rfl) fun _ => by simp,
    fun _ => touches_done (fun _ => rfl) fun _ => by simp,
    fun _ _ => touches_done (fun _ => rfl) fun _ => by simp,
    fun _ _ => touches_done (fun _ => rfl) fun _ => by simp,
    fun _ _ => touches_done (fun _ => rfl) fun _ => by simp,
    fun _ _ => touches_done (fun _ => rfl) fun _ => by simp,
    touches_fifoXoff, touches_fifoXon,
    fun _ _ => touches_done (fun _ => rfl) fun _ => by simp,
    fun _ _ => touches_done (fun _ => rfl) fun _ => by simp,
    fun _ => touches_done (fun _ => rfl) fun _ => by simp,
    fun _ _ => touches_done (fun _ => rfl) fun _ => by simp,
    fun _ => touches_done (fun _ => rfl) fun _ => by simp,
    fun _ => touches_done (fun _ => rfl) fun _ => by simp,
    fun _ _ => touches_done (fun _ => rfl) fun _ => by simp,
    fun _ _ _ => touches_done (fun _ => rfl) fun _ => by simp⟩

/-- Settles O59, as O54: each command completes with an effect built from operations whose frames are the lemmas above. -/
theorem pathFrames : Obligations.PathFrames :=
  ⟨touches_ingressPass, touches_awlResult, touches_awlTimeout, touches_flowResult, touches_flowTimeout, touches_tailRecord, touches_lacingCellArrive,
    touches_lacingTimeout, touches_reinSelect, touches_frameTxDone,
    fun _ _ => touches_done (fun _ => rfl) fun _ => by simp,
    fun _ _ => touches_done (fun _ => rfl) fun _ => by simp,
    fun _ _ _ _ => touches_done (fun _ => rfl) fun _ => by simp,
    touches_flushRequest,
    fun _ _ => touches_done (fun _ => rfl) fun _ => by simp,
    touches_captureRecord, touches_sampleRecord,
    touches_done (fun _ => rfl) fun _ => by simp,
    touches_done (fun _ => rfl) fun _ => by simp,
    touches_tallyDivert, touches_puntArrive,
    touches_done (fun _ => rfl) fun _ => by simp,
    touches_repatternResume, touches_transmittersOff,
    fun _ => touches_doneTimed (fun _ => rfl) fun _ => by simp,
    touches_commitApply, touches_applyReport⟩

end

/-! PROOFS. Passes of the ingress pipeline and tails of frames: the arms of INGRESS_PASS and TAIL_RECORD, and those of PUNT_POLICER_WRITE. -/

section

open Sys2Proof Sys2Proof.Machine Sys2Proof.Machine.State

namespace Sys2Proof.Machine

/-! ## Commands by their effect -/

theorem does_of_effect {c : Instr} {f : State → State} (h : ∀ s, exec c s = done f s) {s u : State} (hf : f s = u) : Does c s u :=
  does_of (h s) hf

/-! ## INGRESS_PASS -/

/-- A borrow activity that may not take the slot leaves it to the frames of the slice. -/
theorem filter_mayTakeSlot_eq_none {u : State} {x m : Nat} {a : Option Nat} (h : a.all (fun y => !u.mayTakeSlot y x m) = true) :
    a.filter (fun y => u.mayTakeSlot y x m) = none := by
  cases a with
  | none => rfl
  | some y => simpa using h

theorem filter_mayTakeSlot_eq_some {u : State} {a x m : Nat} (h : u.mayTakeSlot a x m = true) :
    (some a).filter (fun y => u.mayTakeSlot y x m) = some a := by simp [h]

theorem passFrom_nil {u : State} {g : Nat} (h : u.port.fifo.at [] g = []) : u.passFrom g = none := by
  simp [passFrom, h]

theorem passFrom_cons_whole {u : State} {g : Nat} {f : Frame} {r : List Frame} (h : u.port.fifo.at [] g = f :: r)
    (hf : f.tail = false) : u.passFrom g = some ((u.setFifo g r).firstPass f) := by
  simp [passFrom, h, hf]

section
variable {s u : State} {sl b g nm : Nat} {a : Option Nat} {second : Bool} {f : Frame} {r : List Frame} (hf : s.forwarding = true)
  (hl : s.live (sl / 4) = true) (hsl : sl < 32) (he : (s.tack.edrain.any fun e => e.macsStopped) = false)
  (hu : u = s.checkLatches (sl / 4) nm)
include hf hl hsl he hu

/-- A borrow slot goes first. -/
theorem ingressPass_borrow (hb : u.mayTakeSlot b (sl / 4) (8 * (sl / 4) + sl % 4) = true) :
    Does (.ingressPass sl (some b) second nm) s
      (((u.countIng sl 5).takeSlot b (sl / 4) (8 * (sl / 4) + sl % 4)).keepSlot b (sl / 4)) := by
  subst hu
  exact does_of_effect (fun _ => rfl) (by simp [hf, hl, hsl, he, filter_mayTakeSlot_eq_some hb])

variable (ha : a.all (fun x => !u.mayTakeSlot x (sl / 4) (8 * (sl / 4) + sl % 4)) = true)
include ha

theorem ingressPass_port
    (hg : g = if (second && !(u.port.fifo.at [] (8 * (sl / 4) + 2 * (sl % 4) + 1)).isEmpty)
        || (u.port.fifo.at [] (8 * (sl / 4) + 2 * (sl % 4))).isEmpty
      then 8 * (sl / 4) + 2 * (sl % 4) + 1 else 8 * (sl / 4) + 2 * (sl % 4))
    (hfifo : u.port.fifo.at [] g = f :: r) (htail : f.tail = false) :
    Does (.ingressPass sl a second nm) s ((u.setFifo g r).firstPass f) := by
  subst hu
  refine does_of_effect (fun _ => rfl) ?_
  simp only [hf, hl, hsl, he, filter_mayTakeSlot_eq_none ha, ← hg, passFrom_cons_whole hfifo htail]
  simp

variable (h0 : u.port.fifo.at [] (8 * (sl / 4) + 2 * (sl % 4)) = []) (h1 : u.port.fifo.at [] (8 * (sl / 4) + 2 * (sl % 4) + 1) = [])
include h0 h1

theorem ingressPass_reinject (hre : u.sl.reinj.at [] sl = f :: r) :
    Does (.ingressPass sl a second nm) s ({ u with sl.reinj := u.sl.reinj.put [] sl r }.firstPass f) := by
  subst hu
  have hg : 2 * (8 * (sl / 4) + 2 * (sl % 4)) - (8 * (sl / 4) + 2 * (sl % 4)) = 8 * (sl / 4) + 2 * (sl % 4) := by omega
  exact does_of_effect (fun _ => rfl) (by
    simp [hf, hl, hsl, he, filter_mayTakeSlot_eq_none ha, h0, hg, passFrom_nil h0, passFrom_nil h1, hre])

theorem ingressPass_recirculate (hre : u.sl.reinj.at [] sl = []) (hrc : u.sl.recirc.at [] sl = f :: r) :
    Does (.ingressPass sl a second nm) s ({ u with sl.recirc := u.sl.recirc.put [] sl r }.laterPass f) := by
  subst hu
  have hg : 2 * (8 * (sl / 4) + 2 * (sl % 4)) - (8 * (sl / 4) + 2 * (sl % 4)) = 8 * (sl / 4) + 2 * (sl % 4) := by omega
  exact does_of_effect (fun _ => rfl) (by
    simp [hf, hl, hsl, he, filter_mayTakeSlot_eq_none ha, h0, hg, passFrom_nil h0, passFrom_nil h1, hre, hrc])

end

/-! ## TAIL_RECORD -/

theorem counted_frame (s : State) (p : Nat) (fec : List Nat) :
    ∃ c, (if s.lineOpen p then s.countFec p fec else s) = { s with ctrs := c } := by
  unfold countFec
  split
  · split <;> exact ⟨_, rfl⟩
  · exact ⟨_, rfl⟩

theorem port_showFill (s : State) (g : Nat) : (s.showFill g).port = s.port :=
  (show Changes [.regs] s (s.showFill g) by simp) .port (by simp)

theorem port_countAdmitted (s : State) (p n : Nat) : (s.countAdmitted p n).port = s.port :=
  (show Changes [.regs, .ctrs, .ev] s (s.countAdmitted p n) by simp) .port (by simp)

theorem fifo_setHeld (s : State) (p pri n : Nat) : (s.setHeld p pri n).port.fifo = s.port.fifo := by simp [setHeld]

theorem fifo_setFifo (s : State) (g : Nat) (l : List Frame) : (s.setFifo g l).port.fifo = s.port.fifo.put [] g l := by
  rw [setFifo, port_showFill]

/-- A tail that passes the tests of the MAC and for which the FIFO has room completes its frame where the frame stands. -/
theorem fifo_tailWaits {s : State} {p : Nat} {f : Frame} {rest body : List Byte} {rxErr : Bool}
    (hbody : body = rest.take (rest.length - 4))
    (hmac : s.macFail p ((f.bytes ++ body).length + 4) (rxErr || ofLe (rest.drop (rest.length - 4)) != crc32 (f.bytes ++ body)) = none)
    (hroom : s.fifoBytes (p / 8) + body.length ≤ 262144) :
    (s.tailWaits p f rest rxErr).port.fifo.at [] (p / 8) = (s.port.fifo.at [] (p / 8)).map fun q =>
      if q.m.inPort == p && q.tail then
        { f with m := { f.m with rxLen := (f.bytes ++ body).length + 4, len0 := (f.bytes ++ body).length }, bytes := f.bytes ++ body,
                 brand := crc32c (f.bytes ++ body), tail := false }
      else q := by
  subst hbody
  unfold tailWaits
  simp only [hmac]
  rw [if_neg (Nat.not_lt.2 hroom), port_countAdmitted, fifo_setHeld, fifo_setFifo, Map.at_put_self]

/-- What a tail finds: the FEC counted in `c`, the head's verdict taken, the looped frame heard. -/
def tailState (s : State) (c : Map Nat) (p : Nat) : State := { s with ctrs := c, port.rxBad := s.port.rxBad.erase p }.unloop p

section
variable (s : State) (c : Map Nat) (p : Nat)

theorem loopback_ctrs : ({ s with ctrs := c } : State).loopback p = s.loopback p := rfl

theorem hears_ctrs (ok : List Byte → Bool) : ({ s with ctrs := c } : State).hears p ok = s.hears p ok := rfl

theorem fecFails_ctrs (fec : List Nat) : ({ s with ctrs := c } : State).fecFails p fec = s.fecFails p fec := rfl

theorem macFail_tailState (n : Nat) (b : Bool) : (tailState s c p).macFail p n b = s.macFail p n b := rfl

theorem fifo_tailState : (tailState s c p).port.fifo = s.port.fifo := rfl

theorem fifoBytes_tailState (g : Nat) : (tailState s c p).fifoBytes g = s.fifoBytes g := rfl

end

section
variable {s u : State} {p : Nat} {rest : List Byte} {e : Bool} {fec : List Nat} {f : Frame} (hrest : 4 ≤ rest.length)
  (hloop : s.loopback p ≠ 2) (hhears : s.hears p (fun b => b.drop f.bytes.length == rest) = true)
include hrest hloop hhears

theorem tailRecord_waits (hfind : ((s.port.fifo.at [] (p / 8)).find? fun f => f.m.inPort == p && f.tail) = some f) :
    ∃ c, Does (.tailRecord p rest (e, fec)) s
      ((tailState s c p).tailWaits p f rest (e || s.fecFails p fec || s.port.rxBad.at 0 p != 0)) := by
  obtain ⟨c, hc⟩ := counted_frame s p fec
  refine ⟨c, does_of_effect (fun _ => rfl) ?_⟩
  simp only [hc, hears_ctrs, fecFails_ctrs, loopback_ctrs, beq_false_of_ne hloop, Bool.and_false, hhears, hfind, Nat.not_lt.2 hrest]
  rfl

theorem tailRecord_flows (hfind : ((s.port.fifo.at [] (p / 8)).find? fun f => f.m.inPort == p && f.tail) = none)
    (hct : s.port.ctFrame.find? p = some f) (hu : u = if s.lineOpen p then s.countFec p fec else s) :
    Does (.tailRecord p rest (e, fec)) s ({ u with port.rxBad := u.port.rxBad.erase p }.unloop p |>.tailFlows p f rest
      (e || s.fecFails p fec || s.port.rxBad.at 0 p != 0)) := by
  obtain ⟨c, hc⟩ := counted_frame s p fec
  subst hu
  refine does_of_effect (fun _ => rfl) ?_
  simp only [hc, hears_ctrs, fecFails_ctrs, loopback_ctrs, beq_false_of_ne hloop, Bool.and_false, hhears, hfind, hct,
    Nat.not_lt.2 hrest]
  rfl

end

/-! ## PUNT_POLICER_WRITE -/

section
variable {s : State} {d r v : Nat} (hp : s.powered = true) (hl : s.live d = true) (hd : d < 8) (h1 : 1 ≤ r) (h63 : r ≤ 63)
  (hr : r < 20 ∨ 31 < r)
include hp hl hd h1 h63 hr

theorem puntPolicerWrite_rate :
    Does (.puntPolicerWrite d r false v) s ((s.wr R.CL_PUNT_RATE [d, r] (min v 200000000)).fillBucket (bktPunt d r)) :=
  does_of_effect (fun _ => rfl) (by simp [hp, hl, hd, h1, h63, hr, onlyIf])

theorem puntPolicerWrite_burst (hv : v % 65536 ≠ 0) :
    Does (.puntPolicerWrite d r true v) s ((s.set F.CL_PUNT_BURST_BURST [d, r] v).fillBucket (bktPunt d r)) :=
  does_of_effect (fun _ => rfl) (by simp [hp, hl, hd, h1, h63, hr, hv, onlyIf])

end

end Sys2Proof.Machine

/-- Settles O33: each command runs into the branch that its clause names, and a frame completed by its tail stays in its place in
the FIFO. -/
theorem ingressPassesComplete : Obligations.IngressPassesComplete := by
  refine ⟨fun _ _ _ _ _ _ => ingressPass_borrow, fun _ _ _ _ _ _ _ _ _ => ingressPass_port,
    fun _ _ _ _ _ _ _ _ => ingressPass_reinject, fun _ _ _ _ _ _ _ _ => ingressPass_recirculate, ?_,
    fun _ _ _ _ _ _ _ => tailRecord_flows, ?_, ?_⟩
  · rintro s p rest _ e fec f hloop hrest rfl hhears hfind hmac hroom
    obtain ⟨c, hdoes⟩ := tailRecord_waits (e := e) (fec := fec) hrest hloop hhears hfind
    rw [← macFail_tailState s c] at hmac
    rw [← fifoBytes_tailState s c p] at hroom
    refine ⟨_, hdoes, ?_⟩
    have h := fifo_tailWaits rfl hmac hroom
    rw [fifo_tailState] at h
    exact h
  · intro s d r v hp hl hd h1 h63 hr
    exact ⟨_, puntPolicerWrite_rate hp hl hd h1 h63 hr, (rd_wr_self s _ _ _).trans (Nat.mod_eq_of_lt (by omega))⟩
  · intro s d r v hp hl hd h1 h63 hr hv
    exact ⟨_, puntPolicerWrite_burst hp hl hd h1 h63 hr hv, get_set_self s _ _ _ (by decide) (by decide)⟩

end

/-! PROOFS. A port whose drain starts now: the counterexample to the clauses on a frame that a port takes. -/

section

open Sys2Proof Sys2Proof.Machine

namespace Sys2Proof.Machine

/-- Port 0 alone in its group, up, 1000 s of TAI and 10^15 ns after power-on, its unit drained from this very tick on. -/
def drainedPort : State :=
  let s := State.reset.wr R.PG_GRP_CFG [0, 0] 1
  let s := ((s.set F.PG_PORT_STAT_LINK_UP [0, 0] 1).set F.PG_PORT_LEN_MAX_LEN [0, 0] 1518).set F.MD_UNIT_MODE_MODE [0] 4
  { s with mode := .drain, clock := { sec := 1000, tick := 10 ^ 15 }, modes.odrain := some { instant := 10 ^ 12, startTick := 10 ^ 15 } }

end Sys2Proof.Machine

/-- Refutes O31: the clauses on a frame that a port takes ask that the drain discards no frame captured `ingressTime p back` before
now, an instant of TAI, while FRAME_ADMIT tests the frame captured `back` before now. -/
theorem not_portCommandsComplete : ¬ Obligations.PortCommandsComplete := by
  rintro ⟨-, hearly, -⟩
  obtain ⟨t, ht, hfifo, -⟩ := hearly drainedPort 0 (List.replicate 512 0) false [] 0 (by decide +kernel) (by decide +kernel)
    (by decide +kernel) (by decide +kernel) (by decide +kernel) (by decide +kernel) (by decide +kernel) (by decide +kernel)
  obtain rfl := Host.Outcome.next.inj ht
  exact absurd (congrArg List.length hfifo) (by decide +kernel)

end

/-! PROOFS. The frame of every operation on pace, wear and claims, and of the commands that use them. -/

section

open Sys2Proof Sys2Proof.Machine

namespace Sys2Proof.Machine

variable {l : List Part} {s t : State}

/-! ## Operations -/

@[simp] theorem changes_notePace (hl : [.regs, .pace] ⊆ l) (x m p) :
    Changes l s (State.notePace x m p t) ↔ Changes l s t :=
  changes_iff_of (by unfold State.notePace; simp) hl

@[simp] theorem changes_lengthenTrims (hl : [.pace] ⊆ l) (x) :
    Changes l s (t.lengthenTrims x) ↔ Changes l s t :=
  changes_iff_of (by unfold State.lengthenTrims; exact (changes_forEach fun g u => by simp).2 (.refl _ t)) hl

@[simp] theorem changes_settleTrims (hl : [.pace] ⊆ l) (x) :
    Changes l s (t.settleTrims x) ↔ Changes l s t :=
  changes_iff_of (by unfold State.settleTrims; simp) hl

@[simp] theorem changes_loopStep (hl : [.regs, .ev, .pace] ⊆ l) (x) :
    Changes l s (t.loopStep x) ↔ Changes l s t :=
  changes_iff_of (by unfold State.loopStep; simp) hl

@[simp] theorem changes_readSensor (hl : [.regs, .ev, .pace] ⊆ l) (x e) :
    Changes l s (State.readSensor x e t) ↔ Changes l s t :=
  changes_iff_of (by unfold State.readSensor; simp) hl

@[simp] theorem changes_setWear (hl : [.regs] ⊆ l) (x) :
    Changes l s (t.setWear x) ↔ Changes l s t :=
  changes_iff_of (by unfold State.setWear; simp) hl

@[simp] theorem changes_startProbe (hl : [.regs, .pace] ⊆ l) (x) :
    Changes l s (t.startProbe x) ↔ Changes l s t :=
  changes_iff_of (by unfold State.startProbe; split <;> simp) hl

@[simp] theorem changes_requestClaim (hl : [.regs, .pace] ⊆ l) (a x) :
    Changes l s (t.requestClaim a x) ↔ Changes l s t :=
  changes_iff_of (by unfold State.requestClaim; simp) hl

@[simp] theorem changes_startReplan (hl : [.regs, .pace] ⊆ l) :
    Changes l s t.startReplan ↔ Changes l s t :=
  changes_iff_of (by
    unfold State.startReplan
    split
    · simp
    · split <;> simp) hl

@[simp] theorem changes_setMargin (hl : [.regs, .free, .ev, .pace] ⊆ l) (x tj) :
    Changes l s (t.setMargin x tj) ↔ Changes l s t :=
  changes_iff_of (by unfold State.setMargin; simp) hl

@[simp] theorem changes_applyPlan (hl : [.regs, .pace] ⊆ l) (x vf trims) :
    Changes l s (State.applyPlan x vf trims t) ↔ Changes l s t :=
  changes_iff_of (by unfold State.applyPlan; simp) hl

@[simp] theorem changes_replanGranted (hl : [.regs, .pace] ⊆ l) (x) :
    Changes l s (t.replanGranted x) ↔ Changes l s t :=
  changes_iff_of (by unfold State.replanGranted; split <;> simp) hl

@[simp] theorem changes_replanYields (hl : [.regs, .pace] ⊆ l) (x) :
    Changes l s (t.replanYields x) ↔ Changes l s t :=
  changes_iff_of (by unfold State.replanYields; split <;> simp) hl

@[simp] theorem changes_flashErase (hl : [.flash] ⊆ l) (a) :
    Changes l s (t.flashErase a) ↔ Changes l s t :=
  changes_iff_of (by unfold State.flashErase; simp) hl

@[simp] theorem changes_flashProgram (hl : [.flash] ⊆ l) (a bs) :
    Changes l s (t.flashProgram a bs) ↔ Changes l s t :=
  changes_iff_of (by unfold State.flashProgram; simp) hl

@[simp] theorem changes_writeSet (hl : [.flash] ⊆ l) (q x bs) :
    Changes l s (t.writeSet q x bs) ↔ Changes l s t :=
  changes_iff_of (by unfold State.writeSet; simp) hl

/-! ## Commands -/

theorem touches_replanClaimTimeout : Touches [.regs, .pace] .replanClaimTimeout :=
  touches_done (fun _ => rfl) fun s => by split <;> simp

theorem touches_probeStep (p nm) : Touches [.regs, .pace] (.probeStep p nm) :=
  touches_done (fun _ => rfl) fun s => by split <;> simp

theorem touches_trimStep (group clean) : Touches [.regs, .pace] (.trimStep group clean) :=
  touches_done (fun _ => rfl) fun s => by split <;> simp

theorem touches_planApply (tj) : Touches [.regs, .free, .ev, .pace] (.planApply tj) :=
  touches_done (fun _ => rfl) fun s => by split <;> simp

theorem touches_claimGrant (x) : Touches [.regs, .pace] (.claimGrant x) :=
  touches_done (fun _ => rfl) fun s => by split <;> simp

end Sys2Proof.Machine

/-- Settles O52, as O54: each command completes with an effect built from operations whose frames are the lemmas above. -/
theorem paceFrames : Obligations.PaceFrames :=
  ⟨fun _ _ => touches_done (fun _ => rfl) fun _ => by simp,
    fun _ _ => touches_done (fun _ => rfl) fun _ => by simp,
    fun _ _ => touches_done (fun _ => rfl) fun _ => by simp,
    fun _ _ => touches_done (fun _ => rfl) fun _ => by simp,
    touches_done (fun _ => rfl) fun _ => by simp,
    fun _ => touches_done (fun _ => rfl) fun _ => by simp,
    touches_replanClaimTimeout, touches_probeStep, touches_trimStep, touches_planApply,
    fun _ => touches_done (fun _ => rfl) fun _ => by simp,
    fun _ _ => touches_done (fun _ => rfl) fun _ => by simp,
    touches_claimGrant,
    fun _ => touches_done (fun _ => rfl) fun _ => by simp,
    fun _ => touches_done (fun _ => rfl) fun _ => by simp,
    fun _ => touches_done (fun _ => rfl) fun _ => by simp,
    fun _ => touches_done (fun _ => rfl) fun _ => by simp⟩

end

/-! PROOFS. Pace windows, the voltage loop, sensors, wear and slack claims: what each command shows when it completes. -/

section

open Sys2Proof Sys2Proof.Machine Sys2Proof.Machine.State

namespace Sys2Proof.Machine

/-! ## Where the pace registers lie (R65) -/

/-- Registers of one stride never meet where their bases stand differently in it. -/
theorem addr_ne_of_stride {r q : RegSpec} {d m n : Nat} (hr : r.dims = [⟨d, m, 0⟩]) (hq : q.dims = [⟨d, n, 0⟩])
    (h : r.base % d ≠ q.base % d) (x y : Nat) : r.addr [x] ≠ q.addr [y] := by
  intro he
  simp only [RegSpec.addr, hr, hq, List.zip_cons_cons, List.zip_nil_left, List.map_cons, List.map_nil, List.sum_cons, List.sum_nil,
    Nat.add_zero] at he
  exact h (by simpa using congrArg (· % d) he)

/-- A register without an index lies below every place of one with a higher base. -/
theorem addr_ne_of_base_lt {r q : RegSpec} (hr : r.dims = []) (h : r.base < q.base) (ix jx : List Nat) : r.addr ix ≠ q.addr jx := by
  simp only [RegSpec.addr, hr, List.zip_nil_left, List.map_nil, List.sum_nil]
  omega

theorem monitorsOf_lt {x m : Nat} (hx : x < 13) (h : m ∈ monitorsOf x) : m < 74 := by
  unfold monitorsOf at h
  split at h
  · obtain ⟨i, hi, rfl⟩ := List.mem_map.1 h
    have := List.mem_range.1 hi
    omega
  · split at h <;> simp only [List.mem_cons, List.not_mem_nil, or_false] at h <;> omega

/-- The monitors' registers lie below the dies' registers. -/
theorem addr_vcore_ne_of_monitor {r : RegSpec} {m : Nat} (hd : r.dims = [⟨8, 74, 0⟩]) (hb : r.base ≤ R.PT_PACE_MIN.base) (hm : m < 74)
    (x : Nat) : R.PT_VCORE.addr [x] ≠ r.addr [m] := by
  simp only [R.PT_PACE_MIN] at hb
  simp [RegSpec.addr, R.PT_VCORE, hd]
  omega

theorem lt_of_hasDie {v : Variant} {x : Nat} (h : v.hasDie x = true) : x < 13 := by
  have hs : v.skirts ≤ 8 := by cases v <;> decide
  have hg : v.girths ≤ 4 := by cases v <;> decide
  simp only [Variant.hasDie, Bool.or_eq_true, Bool.and_eq_true, decide_eq_true_eq, beq_iff_eq] at h
  omega

theorem lt_of_live {s : State} {x : Nat} (h : s.live x = true) : x < 13 :=
  lt_of_hasDie (Bool.and_eq_true_iff.1 h).1

/-- A field outside the claim registers of every die. -/
def ClearOfClaims (g : Fld) (jx : List Nat) : Prop :=
  ∀ x, g.reg.addr jx ≠ R.PT_CLAIM.addr [x] ∧ g.reg.addr jx ≠ R.PT_CLAIMCNT.addr [x]

theorem clearOfClaims_vfloor (x : Nat) : ClearOfClaims F.PT_VCORE_VFLOOR [x] := fun y =>
  ⟨addr_ne_of_stride rfl rfl (by decide) x y, addr_ne_of_stride rfl rfl (by decide) x y⟩

theorem clearOfClaims_dieMask : ClearOfClaims F.PT_REPLAN_DIE_MASK [] := fun y =>
  ⟨addr_ne_of_base_lt rfl (by decide) [] [y], addr_ne_of_base_lt rfl (by decide) [] [y]⟩

namespace State

variable {s : State} {a x : Nat}

/-! ## Claims: what each operation leaves of the other registers and of the pace state -/

section
variable {v : Variant} {g : Fld} {jx : List Nat} (h : ClearOfClaims g jx)
include h

theorem getR_setQueue_of_clear (q) : getR (s.setQueue x q).regs v g jx = getR s.regs v g jx := getR_setR_reg _ _ _ _ _ _ _ _ (h x).1

theorem getR_unhold_of_clear : getR (s.unhold x).regs v g jx = getR s.regs v g jx := getR_setR_reg _ _ _ _ _ _ _ _ (h x).1

theorem getR_requestClaim_of_clear : getR (s.requestClaim a x).regs v g jx = getR s.regs v g jx := by
  unfold requestClaim
  extract_lets q t
  have ht : getR t.regs v g jx = getR s.regs v g jx := getR_setQueue_of_clear h _
  split
  · split
    · rw [regs_addSat, getR_setR_reg _ _ _ _ _ _ _ _ (h x).2, ht]
    · exact ht
  · rfl

theorem getR_releaseClaim_of_clear : getR (s.releaseClaim a x).regs v g jx = getR s.regs v g jx := by
  unfold releaseClaim
  extract_lets t u
  have ht : getR t.regs v g jx = getR s.regs v g jx := by
    unfold t
    split
    · exact getR_unhold_of_clear h
    · rfl
  have hu : getR u.regs v g jx = getR t.regs v g jx := by
    unfold u
    split
    · exact getR_setR_reg _ _ _ _ _ _ _ _ (h x).1
    · rfl
  rw [getR_setQueue_of_clear h, hu, ht]

theorem getR_startReplan_of_clear : getR s.startReplan.regs v g jx = getR s.regs v g jx := by
  unfold startReplan
  split
  · rfl
  · split
    · rfl
    · dsimp only
      split
      · rw [getR_requestClaim_of_clear h]
      · rfl

end

@[simp] theorem pace_setQueue (q) : (s.setQueue x q).pace = { s.pace with queue := s.pace.queue.put [] x q } := (rfl)

@[simp] theorem clock_setQueue (q) : (s.setQueue x q).clock = s.clock := by simp only [setQueue, set_clock]

@[simp] theorem variant_setQueue (q) : (s.setQueue x q).variant = s.variant := by simp only [setQueue, set_variant]

@[simp] theorem variant_unhold : (s.unhold x).variant = s.variant := by simp only [unhold, set_variant]

@[simp] theorem pace_hold : (s.hold a x).pace = { s.pace with grantAt := s.pace.grantAt.put 0 x s.clock.tick } := by
  simp only [hold, set_pace]

@[simp] theorem pace_unhold :
    (s.unhold x).pace = { s.pace with paused := setBit s.pace.paused x false, slots := s.pace.slots.erase x } := by
  simp only [unhold, set_pace]

theorem pace_requestClaim : ∃ q, (s.requestClaim a x).pace = { s.pace with queue := q } := by
  unfold requestClaim
  dsimp only
  split
  · split
    · exact ⟨_, addSat_pace _ _ _ _⟩
    · exact ⟨_, pace_setQueue _⟩
  · exact ⟨s.pace.queue, rfl⟩

theorem pace_releaseClaim :
    ∃ p q l, (s.releaseClaim a x).pace = { s.pace with paused := p, queue := q, slots := l } := by
  unfold releaseClaim
  extract_lets t u
  obtain ⟨p, l, ht⟩ : ∃ p l, t.pace = { s.pace with paused := p, slots := l } := by
    unfold t
    split
    · exact ⟨_, _, pace_unhold⟩
    · exact ⟨s.pace.paused, s.pace.slots, rfl⟩
  have hu : u.pace = t.pace := by unfold u; split <;> simp
  exact ⟨p, _, l, by rw [pace_setQueue, hu, ht]⟩

/-- Taking up a re-plan changes which one is under way, its trim steps and the claim it asks for. -/
theorem pace_startReplan :
    ∃ r q l, s.startReplan.pace = { s.pace with replan := r, queue := q, trimSteps := l } := by
  unfold startReplan
  split
  · exact ⟨s.pace.replan, s.pace.queue, s.pace.trimSteps, rfl⟩
  · split
    · exact ⟨s.pace.replan, s.pace.queue, s.pace.trimSteps, rfl⟩
    · dsimp only
      split
      · obtain ⟨q, hq⟩ := pace_requestClaim (s := { s with pace.trimSteps := [], pace.replan := some { die := _, askedAt := s.clock.tick } })
        exact ⟨_, q, _, hq⟩
      · exact ⟨_, s.pace.queue, _, rfl⟩

theorem holder_eq (s : State) (x : Nat) : s.holder x = getR s.regs s.variant F.PT_CLAIM_HOLDER [x] := rfl

section
variable {v : Variant} (hv : s.variant = v)
include hv

theorem getR_holder_setQueue (q) :
    getR (s.setQueue x q).regs v F.PT_CLAIM_HOLDER [x] = getR s.regs v F.PT_CLAIM_HOLDER [x] := by
  subst hv
  exact getR_setR_field _ _ _ _ _ _ (by decide)

theorem getR_holder_hold (ha : a < 16) : getR (s.hold a x).regs v F.PT_CLAIM_HOLDER [x] = a := by
  subst hv
  exact (getR_setR_self _ _ _ _ _ (by decide)).trans (Nat.mod_eq_of_lt ha)

theorem getR_holder_unhold : getR (s.unhold x).regs v F.PT_CLAIM_HOLDER [x] = 0 := by
  subst hv
  exact getR_setR_self _ _ _ _ _ (by decide)

end

section
variable {v : Variant} {g : Fld} {jx : List Nat} {c : Prop} [Decidable c]

theorem pace_ite_set (f : Fld) (ix : List Nat) (n : Nat) : (if c then s.set f ix n else s).pace = s.pace := by
  split
  · exact set_pace ..
  · rfl

theorem getR_ite_set {f : Fld} {ix : List Nat} (h : g.reg.addr jx ≠ f.reg.addr ix) (n : Nat) :
    getR (if c then s.set f ix n else s).regs v g jx = getR s.regs v g jx := by
  split
  · exact getR_setR_reg _ _ _ _ _ _ _ _ h
  · rfl

/-- A re-plan that has its claim, or yields it, moves the rail of its die at most. -/
theorem getR_replanGranted (h : ∀ y, g.reg.addr jx ≠ R.PT_VCORE.addr [y]) :
    getR (s.replanGranted x).regs v g jx = getR s.regs v g jx := by
  unfold replanGranted
  split
  · split
    · exact getR_ite_set (h _) _
    · rfl
  · rfl

theorem getR_replanYields (h : ∀ y, g.reg.addr jx ≠ R.PT_VCORE.addr [y]) :
    getR (s.replanYields x).regs v g jx = getR s.regs v g jx := by
  unfold replanYields
  split
  · split
    · exact getR_ite_set (h _) _
    · rfl
  · rfl

end

theorem pace_replanGranted : ∃ r, (s.replanGranted x).pace = { s.pace with replan := r } := by
  unfold replanGranted
  split
  · split
    · exact ⟨_, pace_ite_set ..⟩
    · exact ⟨s.pace.replan, rfl⟩
  · exact ⟨s.pace.replan, rfl⟩

theorem pace_replanYields : ∃ r, (s.replanYields x).pace = { s.pace with replan := r } := by
  unfold replanYields
  split
  · split
    · exact ⟨_, pace_ite_set ..⟩
    · exact ⟨s.pace.replan, rfl⟩
  · exact ⟨s.pace.replan, rfl⟩

theorem addr_claim_ne_vcore (x y : Nat) : R.PT_CLAIM.addr [x] ≠ R.PT_VCORE.addr [y] := addr_ne_of_stride rfl rfl (by decide) x y

/-! ## Completion with an effect -/

theorem completes_of_effect {c : Instr} {f : State → State} {P : State → Prop} (h : ∀ s, exec c s = done f s)
    (hp : P { f s with clock := s.clock, variant := s.variant, pending := s.pending }) : Completes c s P := completes_done (h s) hp

/-- A field, as it is shown when a command completes with the effect `u`. -/
theorem get_completed (u : State) (c : Clock) (v : Variant) (p : List Instr) (f : Fld) (ix : List Nat) :
    State.get { u with clock := c, variant := v, pending := p } f ix = getR u.regs v f ix := (rfl)

/-! ## Wear and claims: the commands -/

theorem wearTimeAdd_adds (temp : Int) (hr : s.running = true) (hl : s.live x = true) :
    Completes (.wearTimeAdd x temp) s fun t => t.pace.eq.at 0 x = s.pace.eq.at 0 x + wearOf temp
      ∧ t.pace.runSec.at 0 x = s.pace.runSec.at 0 x + 1 := by
  refine completes_of_effect (fun _ => rfl) ?_
  simp only [onlyIf, hr, hl, Bool.and_self, if_true]
  split <;> simp

theorem claimRequest_queues (hr : s.running = true) (hl : s.live x = true) (hd : claimDie a x = true) (hh : s.holder x ≠ a)
    (hp : s.get F.PT_CLAIM_PARKED [x] ≠ a) (hq : ∀ r ∈ s.pace.queue.at [] x, r.act ≠ a) (hv : s.variant ≠ .e) :
    Completes (.claimRequest a x) s fun t =>
      t.pace.queue.at [] x = insertReq { at_ := s.clock.tick, act := a } (s.pace.queue.at [] x) := by
  refine completes_of_effect (fun _ => rfl) ?_
  have hopen : (s.running && s.live x && claimDie a x && s.holder x != a && s.get F.PT_CLAIM_PARKED [x] != a
      && !(s.pace.queue.at [] x).any (·.act == a) && !(a == 3 && s.variant == .e)) = true := by
    simpa [hr, hl, hd, hh, hp, hv] using hq
  dsimp only [requestClaim]
  rw [if_pos hopen]
  split <;> simp

theorem claimGrant_grants {q : ClaimReq} {r : List ClaimReq} (hq : s.pace.queue.at [] x = q :: r) (hr : s.running = true)
    (hl : s.live x = true) (hh : s.holder x = 0) (hen : s.get F.PT_CTRL_CLAIMS_EN [] = 1) (hroom : s.claimRoom q.act x = true)
    (ha : q.act < 6) :
    Completes (.claimGrant x) s fun t => t.holder x = q.act ∧ t.pace.queue.at [] x = r ∧ t.pace.grantAt.at 0 x = s.clock.tick
      ∧ t.pace.paused = s.pace.paused := by
  have hopen : (s.running && s.live x && s.holder x == 0 && s.isOn F.PT_CTRL_CLAIMS_EN [] && s.claimRoom q.act x) = true := by
    simp [hr, hl, hh, hroom, isOn, hen]
  have hhold : getR ((s.setQueue x r).hold q.act x).regs s.variant F.PT_CLAIM_HOLDER [x] = q.act :=
    getR_holder_hold (variant_setQueue r) (by omega)
  refine completes_of_effect (fun _ => rfl) ?_
  simp only [hq, onlyIf_of _ _ hopen]
  rw [holder_eq]
  split
  · obtain ⟨p, hp⟩ := pace_replanGranted (s := (s.setQueue x r).hold q.act x) (x := x)
    exact ⟨(getR_replanGranted (addr_claim_ne_vcore x)).trans hhold, by simp [hp]⟩
  · exact ⟨hhold, by simp⟩

theorem claimStall_pauses (h0 : s.holder x ≠ 0) (h5 : s.holder x ≠ 5) (hp : bit s.pace.paused x = false)
    (hroom : s.claimRoom (s.holder x) x = false) :
    Completes (.claimStall x) s fun t => bit t.pace.paused x = true ∧ t.holder x = s.holder x
      ∧ t.get F.PT_CLAIMCNT_STALLS [x] = satAdd 65535 (s.get F.PT_CLAIMCNT_STALLS [x]) 1 ∧ t.get F.PT_EVT_CLAIM_STALL [] = 1 := by
  have hopen : (s.holder x != 0 && s.holder x != 5 && !bit s.pace.paused x && !s.claimRoom (s.holder x) x) = true := by
    simp [h0, h5, hp, hroom]
  refine completes_of_effect (fun _ => rfl) ?_
  simp only [onlyIf_of _ _ hopen]
  simp only [holder_eq, get_eq, raise_pace, addSat_pace, regs_raise', regs_addSat, addSat_variant]
  refine ⟨bit_setBit_self .., ?_, ?_, getR_setR_self _ _ _ _ _ (by decide)⟩
  · rw [getR_setR_reg _ _ _ _ _ _ _ _ (addr_ne_of_base_lt rfl (by decide) [] [x]).symm,
      getR_setR_reg _ _ _ _ _ _ _ _ (addr_ne_of_stride rfl rfl (by decide) x x)]
  · rw [getR_setR_reg _ _ _ _ _ _ _ _ (addr_ne_of_base_lt rfl (by decide) [] [x]).symm, getR_setR_self _ _ _ _ _ (by decide)]
    exact Nat.mod_eq_of_lt (Nat.lt_succ_of_le (Nat.min_le_left ..))

theorem claimResume_resumes (hp : bit s.pace.paused x = true) (h5 : s.holder x ≠ 5) (hroom : s.claimRoom (s.holder x) x = true) :
    exec (.claimResume x) s = .next { s with pace.paused := setBit s.pace.paused x false } := by
  have hopen : (bit s.pace.paused x && s.holder x != 5 && s.claimRoom (s.holder x) x) = true := by simp [hp, h5, hroom]
  have hdoes : Does (.claimResume x) s { s with pace.paused := setBit s.pace.paused x false } :=
    does_of_effect (fun _ => rfl) (onlyIf_of _ _ hopen)
  exact hdoes

theorem claimHoldLimit_requeues (h0 : s.holder x ≠ 0) (h5 : s.holder x ≠ 5) (hlim : s.get F.PT_ACT_HOLD_US [s.holder x] ≠ 0)
    (hdue : s.get F.PT_ACT_HOLD_US [s.holder x] * 1000 ≤ s.since (s.pace.grantAt.at 0 x)) :
    Completes (.claimHoldLimit x) s fun t => t.holder x = 0
      ∧ t.pace.queue.at [] x = s.pace.queue.at [] x ++ [{ at_ := s.clock.tick, act := s.holder x }] := by
  have hopen : (s.holder x != 0 && s.get F.PT_ACT_HOLD_US [s.holder x] != 0
      && decide (s.get F.PT_ACT_HOLD_US [s.holder x] * 1000 ≤ s.since (s.pace.grantAt.at 0 x))) = true := by
    simp [h0, hlim, hdue]
  have hfree (q) : getR ((s.unhold x).setQueue x q).regs s.variant F.PT_CLAIM_HOLDER [x] = 0 :=
    (getR_holder_setQueue variant_unhold q).trans (getR_holder_unhold rfl)
  refine completes_of_effect (fun _ => rfl) ?_
  simp only [onlyIf_of _ _ hopen, if_neg h5]
  rw [holder_eq]
  split
  · obtain ⟨p, hp⟩ := pace_replanYields (x := x)
      (s := (s.unhold x).setQueue x (s.pace.queue.at [] x ++ [{ at_ := s.clock.tick, act := s.holder x }]))
    rw [hp]
    exact ⟨(getR_replanYields (addr_claim_ne_vcore x)).trans (hfree _), by simp⟩
  · exact ⟨hfree _, by simp⟩

theorem get_parked_lt (s : State) (x : Nat) : s.get F.PT_CLAIM_PARKED [x] < 16 := bits_lt ..

/-- A die that the re-pattern gives back is held by the activity that was parked, if any. -/
theorem getR_holder_releaseRepatternOf (h : s.holder x = 5) :
    getR (releaseRepatternOf x s).regs s.variant F.PT_CLAIM_HOLDER [x] = s.get F.PT_CLAIM_PARKED [x] := by
  unfold releaseRepatternOf
  rw [if_pos h]
  dsimp only
  split
  · exact getR_holder_hold (set_variant ..) (get_parked_lt s x)
  next hp => rw [getR_holder_unhold rfl, not_not.1 hp]

theorem claimRelease_ends (h0 : s.holder x ≠ 0) :
    Completes (.claimRelease x) s fun t => t.holder x = if s.holder x = 5 then s.get F.PT_CLAIM_PARKED [x] else 0 := by
  refine completes_of_effect (fun _ => rfl) ?_
  simp only [onlyIf, bne_iff_ne, if_pos h0]
  rw [holder_eq]
  split
  next h5 => exact getR_holder_releaseRepatternOf h5
  next => exact getR_holder_unhold rfl

/-! ## Pace windows (R38, R40, R42) -/

theorem paceWindow_reports {m : Nat} (tokens : Nat) (hm : m < 74) (hp : s.powered = true) (hh : s.mode ≠ .halt)
    (hl : s.live (monitorDie m) = true) (hw : 2 ^ s.get F.PT_WINDOW_WIN_LOG [] * 1000 ≤ s.since (s.pace.winAt.at 0 m)) :
    Completes (.paceWindow m tokens) s fun t =>
      t.get F.PT_PACE_PACE [m] = min 65535 (tokens / 2 ^ s.get F.PT_WINDOW_WIN_LOG []) ∧ t.get F.PT_PACE_VALID [m] = 1
        ∧ t.get F.PT_PACE_MIN_SLACK [m]
            = min 65535 (tokens / 2 ^ s.get F.PT_WINDOW_WIN_LOG []) - guarantee (monitorDie m) := by
  have hopen : (decide (m < 74) && s.powered && s.mode != .halt && s.live (monitorDie m)
      && decide (2 ^ s.get F.PT_WINDOW_WIN_LOG [] * 1000 ≤ s.since (s.pace.winAt.at 0 m))) = true := by simp [hm, hp, hh, hl, hw]
  have hne : R.PT_PACE.addr [m] ≠ R.PT_PACE_MIN.addr [m] := addr_ne_of_stride rfl rfl (by decide) m m
  refine completes_of_effect (fun _ => rfl) ?_
  simp only [onlyIf_of _ _ hopen]
  have hpace : min 65535 (tokens / 2 ^ s.get F.PT_WINDOW_WIN_LOG []) < 2 ^ 16 := by omega
  generalize min 65535 (tokens / 2 ^ s.get F.PT_WINDOW_WIN_LOG []) = p at *
  have hregs (b : Prop) [Decidable b] (t : State) (r : FaultRep) : (if b then t.report r else t).regs = t.regs := by split <;> simp
  simp only [get_eq, hregs, regs_set, set_variant]
  refine ⟨?_, ?_, ?_⟩
  · rw [getR_setR_reg _ _ _ _ _ _ _ _ hne, getR_setR_field _ _ _ _ _ _ (by decide), getR_setR_self _ _ _ _ _ (by decide)]
    exact Nat.mod_eq_of_lt hpace
  · rw [getR_setR_reg _ _ _ _ _ _ _ _ hne, getR_setR_self _ _ _ _ _ (by decide)]
    rfl
  · rw [getR_setR_self _ _ _ _ _ (by decide)]
    exact Nat.mod_eq_of_lt ((Nat.sub_le ..).trans_lt hpace)

/-! ## The voltage loop (R44 to R46) -/

theorem forEach_keeps_of_mem {α β : Type} (g : State → β) {f : α → State → State} {l : List α} (hf : ∀ a ∈ l, ∀ s, g (f a s) = g s)
    (s : State) : g (forEach l f s) = g s := by
  induction l generalizing s with
  | nil => rfl
  | cons a l ih => rw [forEach_cons, ih fun b hb => hf b (List.mem_cons_of_mem a hb), hf a List.mem_cons_self]

theorem variant_ite_set {c : Prop} [Decidable c] (s : State) (f : Fld) (ix : List Nat) (n : Nat) :
    (if c then s.set f ix n else s).variant = s.variant := by
  split
  · exact set_variant ..
  · rfl

@[simp] theorem variant_notePace (x m p : Nat) (s : State) : (notePace x m p s).variant = s.variant := by
  unfold notePace
  simp only [variant_ite_set]

@[simp] theorem evalAt_notePace (x m p : Nat) (s : State) : (notePace x m p s).pace.evalAt = s.pace.evalAt := by
  unfold notePace
  simp only [pace_ite_set]

theorem getR_vcore_notePace {m : Nat} (hm : m < 74) (x p y : Nat) (f : Fld) (hf : f.reg = R.PT_VCORE) (v : Variant) (s : State) :
    getR (notePace x m p s).regs v f [y] = getR s.regs v f [y] := by
  have h0 : f.reg.addr [y] ≠ R.PT_PACE.addr [m] := hf ▸ addr_vcore_ne_of_monitor rfl (by decide) hm y
  have h1 : f.reg.addr [y] ≠ R.PT_PACE_MIN.addr [m] := hf ▸ addr_vcore_ne_of_monitor rfl (by decide) hm y
  unfold notePace
  dsimp only
  rw [getR_ite_set h0, getR_ite_set h0, getR_ite_set h1]

theorem lengthenTrims_frame (s : State) (x : Nat) : ∃ m, s.lengthenTrims x = { s with pace.trim := m } :=
  forEach_induct (fun t => ∃ m, t = { s with pace.trim := m }) _ (by rintro g _ ⟨m, rfl⟩; exact ⟨_, rfl⟩) _ _ ⟨s.pace.trim, rfl⟩

/-- Trims that come into force change the trims in force and those that wait. -/
theorem settleTrims_frame (s : State) (x : Nat) : ∃ m w, s.settleTrims x = { s with pace.trim := m, pace.trimWait := w } := by
  unfold settleTrims
  split
  · exact ⟨_, _, rfl⟩
  · exact ⟨s.pace.trim, s.pace.trimWait, rfl⟩

@[simp] theorem regs_settleTrims (s : State) (x : Nat) : (s.settleTrims x).regs = s.regs := by
  obtain ⟨m, w, h⟩ := s.settleTrims_frame x; rw [h]

@[simp] theorem evalAt_settleTrims (s : State) (x : Nat) : (s.settleTrims x).pace.evalAt = s.pace.evalAt := by
  obtain ⟨m, w, h⟩ := s.settleTrims_frame x; rw [h]

theorem le_railTarget (s : State) (x : Nat) : 620 ≤ s.railTarget x := by
  unfold railTarget
  dsimp only
  split <;> omega

/-- One evaluation leaves the rail within 620 to 800 mV, if it was not above (R44 to R46). -/
theorem loopStep_rail (s : State) (x : Nat) (h : s.get F.PT_VCORE_VNOW [x] ≤ 800) :
    (s.loopStep x).pace.evalAt = s.pace.evalAt ∧ 620 ≤ getR (s.loopStep x).regs s.variant F.PT_VCORE_VNOW [x]
      ∧ getR (s.loopStep x).regs s.variant F.PT_VCORE_VNOW [x] ≤ 800 := by
  have hloop : R.PT_VCORE.addr [x] ≠ R.PT_LOOP.addr [x] := addr_ne_of_stride rfl rfl (by decide) x x
  have htarget := s.le_railTarget x
  unfold loopStep
  extract_lets low f v nm tooMany exhausted v' _ t1 t2 ceiling t3 t4
  have hv : 620 ≤ v ∧ v ≤ 800 := by simp only [v, rail]; omega
  have hv' : 620 ≤ v' ∧ v' ≤ 800 := by
    unfold v'
    split
    · omega
    · split
      · omega
      · split <;> omega
  have h1 : t1.variant = s.variant ∧ t1.pace.evalAt = s.pace.evalAt := by unfold t1; split <;> exact ⟨rfl, rfl⟩
  have h2 : t2.variant = s.variant ∧ t2.pace.evalAt = s.pace.evalAt := by
    unfold t2
    split
    · obtain ⟨m, hm⟩ := t1.lengthenTrims_frame x
      rw [hm]
      exact h1
    · exact h1
  have h3 : t3.variant = s.variant ∧ t3.pace.evalAt = s.pace.evalAt := by
    unfold t3
    split
    · rw [raise_variant, raise_pace]
      exact h2
    · exact h2
  rw [regs_settleTrims, evalAt_settleTrims]
  simp only [t4, set_pace, set_variant, regs_set, h3]
  rw [getR_setR_reg _ _ _ F.PT_LOOP_HOLDING _ _ _ _ hloop, getR_setR_reg _ _ _ F.PT_LOOP_AT_TARGET _ _ _ _ hloop,
    getR_setR_reg _ _ _ F.PT_LOOP_AT_CEILING _ _ _ _ hloop, getR_setR_self _ _ _ _ _ (by decide),
    Nat.mod_eq_of_lt (by simp only [F.PT_VCORE_VNOW]; omega)]
  exact ⟨trivial, hv'⟩

theorem loopEval_keepsRail {paces : List Nat} (hp : s.powered = true) (hh : s.mode ≠ .halt) (hl : s.live x = true)
    (hlen : paces.length = (monitorsOf x).length) (hdue : 16000 ≤ s.since (s.pace.evalAt.at 0 x))
    (hv : s.get F.PT_VCORE_VNOW [x] ≤ 800) :
    Completes (.loopEval x paces) s fun t => t.pace.evalAt.at 0 x = s.clock.tick ∧ 620 ≤ t.get F.PT_VCORE_VNOW [x]
      ∧ t.get F.PT_VCORE_VNOW [x] ≤ 800 := by
  have hopen : (s.powered && s.mode != .halt && s.live x && paces.length == (monitorsOf x).length
      && decide (16000 ≤ s.since (s.pace.evalAt.at 0 x))) = true := by simp [hp, hh, hl, hlen, hdue]
  refine completes_of_effect (fun _ => rfl) ?_
  simp only [onlyIf_of _ _ hopen]
  set u := forEach ((monitorsOf x).zip paces) (fun e u => notePace x e.1 (min 65535 e.2) u)
    { s with pace.evalAt := s.pace.evalAt.put 0 x s.clock.tick } with hu
  have hvar : u.variant = s.variant := forEach_keeps State.variant _ (fun _ _ => variant_notePace ..) _ _
  have heval : u.pace.evalAt = s.pace.evalAt.put 0 x s.clock.tick :=
    forEach_keeps (·.pace.evalAt) _ (fun _ _ => evalAt_notePace ..) _ _
  have hrail : u.get F.PT_VCORE_VNOW [x] = s.get F.PT_VCORE_VNOW [x] := by
    rw [get_eq, hvar]
    refine forEach_keeps_of_mem (fun t => getR t.regs s.variant F.PT_VCORE_VNOW [x]) (fun e he t => ?_) _
    exact getR_vcore_notePace (monitorsOf_lt (lt_of_live hl) (List.of_mem_zip he).1) _ _ _ _ rfl _ _
  obtain ⟨h1, h2⟩ := u.loopStep_rail x (hrail ▸ hv)
  rw [h1, heval, Map.at_put_self]
  exact ⟨rfl, hvar ▸ h2⟩

/-! ## Sensors (R49) -/

@[simp] theorem pace_setWear (s : State) (x : Nat) : (s.setWear x).pace = s.pace := set_pace ..

theorem getR_evt_setWear (s : State) (x : Nat) (v : Variant) (f : Fld) (hf : f.reg = R.PT_EVT) :
    getR (s.setWear x).regs v f [] = getR s.regs v f [] :=
  getR_setR_reg _ _ _ _ _ _ _ _ (hf ▸ addr_ne_of_base_lt rfl (by decide) [] [x])

theorem getR_evt_startProbe (s : State) (x : Nat) (v : Variant) (f : Fld) (hf : f.reg = R.PT_EVT) :
    getR (s.startProbe x).regs v f [] = getR s.regs v f [] := by
  unfold startProbe
  split
  · split
    · rfl
    · split
      · rfl
      · dsimp only
        split <;> exact getR_setR_reg _ _ _ _ _ _ _ _ (hf ▸ addr_ne_of_base_lt rfl (by decide) [] [x])
  · rfl

/-- A probe that begins changes the re-plan under way, and the sensitivity where the rail may go no lower. -/
theorem pace_startProbe (s : State) (x : Nat) :
    ∃ r n d, (s.startProbe x).pace = { s.pace with replan := r, sNum := n, sDen := d } := by
  unfold startProbe
  split
  · split
    · exact ⟨s.pace.replan, s.pace.sNum, s.pace.sDen, rfl⟩
    · split
      · exact ⟨_, s.pace.sNum, s.pace.sDen, rfl⟩
      · dsimp only
        split
        · exact ⟨_, s.pace.sNum, s.pace.sDen, set_pace ..⟩
        · exact ⟨_, _, _, by rw [set_pace]⟩
  · exact ⟨s.pace.replan, s.pace.sNum, s.pace.sDen, rfl⟩

@[simp] theorem rebuild_readSensor (x : Nat) (e : Nat × Int) (s : State) : (readSensor x e s).pace.rebuild = s.pace.rebuild := by
  unfold readSensor
  dsimp only
  split
  · rfl
  · split
    · rw [raise_pace, addSat_pace]
    · rfl

section
variable {i : Nat} {val : Int} (hi : i < sensorsOf x) (he : s.pace.excluded.at 0 (key2 x i) = 0)
include hi he

/-- A reading outside 0 to 255 mV excludes its sensor. -/
theorem readSensor_of_out_of_range (hval : val < 0 ∨ 255000 < val) :
    readSensor x (i, val) s = (({ s with pace.excluded := s.pace.excluded.put 0 (key2 x i) 1 }).addSat F.PT_WEAR_SENS_EXCL [x] 1).raise
      F.PT_EVT_SENSOR_FAULT [] := by
  unfold readSensor
  rw [if_neg (by simp only [he]; omega), if_pos (by simp only; omega)]

/-- The first reading of a sensor within 0 to 255 mV is kept. -/
theorem readSensor_of_first (h0 : s.pace.sensor.at 0 (key2 x i) = 0) (hlo : 0 ≤ val) (hhi : val ≤ 255000) :
    readSensor x (i, val) s = { s with pace.sensor := s.pace.sensor.put 0 (key2 x i) (val.toNat + 1) } := by
  unfold readSensor
  rw [if_neg (by simp only [he]; omega), if_neg (by simp only [h0]; omega)]

end

/-- The sensors of die `x` are being read now. -/
def noteSensed (s : State) (x : Nat) : State := { s with pace.sensedAt := s.pace.sensedAt.put 0 x s.clock.tick }

/-- What SENSOR_READ does once it has its readings: it sets the wear and, in step 2 of a re-plan, begins the probe. -/
def afterReading (due : Bool) (x : Nat) (s : State) : State := if due then (s.setWear x).startProbe x else s.setWear x

theorem pace_afterReading (due : Bool) (x : Nat) (s : State) :
    ∃ r n d, (afterReading due x s).pace = { s.pace with replan := r, sNum := n, sDen := d } := by
  unfold afterReading
  split
  · obtain ⟨r, n, d, h⟩ := (s.setWear x).pace_startProbe x
    exact ⟨r, n, d, by rw [h, pace_setWear]⟩
  · exact ⟨s.pace.replan, s.pace.sNum, s.pace.sDen, pace_setWear s x⟩

theorem getR_evt_afterReading (due : Bool) (x : Nat) (s : State) (v : Variant) (f : Fld) (hf : f.reg = R.PT_EVT) :
    getR (afterReading due x s).regs v f [] = getR s.regs v f [] := by
  unfold afterReading
  split
  · rw [getR_evt_startProbe _ _ _ _ hf, getR_evt_setWear _ _ _ _ hf]
  · rw [getR_evt_setWear _ _ _ _ hf]

section
variable {i : Nat} {val : Int} (hp : s.powered = true) (hl : s.live x = true)
  (hdue : 10000000000 ≤ s.since (s.pace.sensedAt.at 0 x)) (hb : bit s.pace.rebuild x = false)
include hp hl hdue hb

/-- Where the equivalent time is not to be rebuilt, a reading that is due comes down to its sensor, the wear and the probe. -/
theorem does_sensorRead (e : Nat × Int) :
    Does (.sensorRead x [e]) s (afterReading (s.senseDue x) x (readSensor x e (s.noteSensed x))) := by
  have hopen : (s.powered && s.live x && (s.senseDue x || decide (10000000000 ≤ s.since (s.pace.sensedAt.at 0 x)))) = true := by
    simp [hp, hl, hdue]
  have hkeep : ¬bit (afterReading (s.senseDue x) x (readSensor x e (s.noteSensed x))).pace.rebuild x = true := by
    obtain ⟨r, n, d, h⟩ := pace_afterReading (s.senseDue x) x (readSensor x e (s.noteSensed x))
    rw [h, rebuild_readSensor]
    simp [noteSensed, hb]
  refine does_of_effect (fun _ => rfl) ?_
  dsimp only
  rw [onlyIf_of _ _ hopen]
  exact if_neg hkeep

variable (hi : i < sensorsOf x) (he : s.pace.excluded.at 0 (key2 x i) = 0)
include hi he

theorem sensorRead_excludes (hval : val < 0 ∨ 255000 < val) :
    Completes (.sensorRead x [(i, val)]) s fun t => t.pace.excluded.at 0 (key2 x i) = 1 ∧ t.get F.PT_EVT_SENSOR_FAULT [] = 1
      ∧ t.pace.sensedAt.at 0 x = s.clock.tick := by
  refine ⟨_, does_sensorRead hp hl hdue hb (i, val), ?_⟩
  have hread := readSensor_of_out_of_range (s := s.noteSensed x) hi he hval
  obtain ⟨r, n, d, h⟩ := pace_afterReading (s.senseDue x) x (readSensor x (i, val) (s.noteSensed x))
  have hfault : getR (afterReading (s.senseDue x) x (readSensor x (i, val) (s.noteSensed x))).regs s.variant F.PT_EVT_SENSOR_FAULT [] = 1 := by
    rw [getR_evt_afterReading _ _ _ _ _ rfl, hread, regs_raise', addSat_variant]
    exact getR_setR_self _ _ _ _ _ (by decide)
  simp only [get_eq, h, hfault]
  rw [hread, raise_pace, addSat_pace]
  simp [noteSensed]

theorem sensorRead_keeps_first (h0 : s.pace.sensor.at 0 (key2 x i) = 0) (hlo : 0 ≤ val) (hhi : val ≤ 255000) :
    Completes (.sensorRead x [(i, val)]) s fun t => t.pace.sensor.at 0 (key2 x i) = val.toNat + 1
      ∧ t.pace.sensedAt.at 0 x = s.clock.tick := by
  refine ⟨_, does_sensorRead hp hl hdue hb (i, val), ?_⟩
  obtain ⟨r, n, d, h⟩ := pace_afterReading (s.senseDue x) x (readSensor x (i, val) (s.noteSensed x))
  simp only [h]
  rw [readSensor_of_first (s := s.noteSensed x) hi he h0 hlo hhi]
  simp [noteSensed]

end

end State
end Sys2Proof.Machine

/-- Settles O22: each command runs into the branch that its clause names; the registers that a clause reads are those that the
branch writes last. -/
theorem paceAndClaimsComplete : Obligations.PaceAndClaimsComplete :=
  ⟨fun _ _ tokens hm hp hh hl => paceWindow_reports tokens hm hp hh hl,
    fun _ _ _ => loopEval_keepsRail,
    fun _ _ _ _ => sensorRead_excludes,
    fun _ _ _ _ => sensorRead_keeps_first,
    fun _ _ temp => wearTimeAdd_adds temp,
    fun _ _ _ => claimRequest_queues,
    fun _ _ _ _ => claimGrant_grants,
    fun _ _ _ => claimStall_pauses,
    fun _ _ => claimResume_resumes,
    fun _ _ => claimHoldLimit_requeues,
    fun _ _ => claimRelease_ends⟩

end

/-! PROOFS. The stages of a re-plan: what each command shows when it completes. -/

section

open Sys2Proof Sys2Proof.Machine Sys2Proof.Machine.State

namespace Sys2Proof.Machine.State

variable {s : State} {r : Replan}

/-! ## A re-plan is taken up (R51, R52) -/

theorem replan_requestClaim (s : State) (a x : Nat) : (s.requestClaim a x).pace.replan = s.pace.replan := by
  obtain ⟨q, h⟩ := pace_requestClaim (s := s) (a := a) (x := x)
  rw [h]

theorem replan_releaseClaim (s : State) (a x : Nat) : (s.releaseClaim a x).pace.replan = s.pace.replan := by
  obtain ⟨p, q, l, h⟩ := pace_releaseClaim (s := s) (a := a) (x := x)
  rw [h]

theorem planSec_releaseClaim (s : State) (a x : Nat) : (s.releaseClaim a x).pace.planSec = s.pace.planSec := by
  obtain ⟨p, q, l, h⟩ := pace_releaseClaim (s := s) (a := a) (x := x)
  rw [h]

theorem planSec_startReplan (s : State) : s.startReplan.pace.planSec = s.pace.planSec := by
  obtain ⟨r, q, l, h⟩ := pace_startReplan (s := s)
  rw [h]

theorem replan_startReplan {x : Nat} (hr : s.running = true) (h0 : s.pace.replan = none) (hx : s.liveDies.find? (s.replanDue ·) = some x) :
    ∃ r, s.startReplan.pace.replan = some r ∧ r.die = x ∧ r.askedAt = s.clock.tick := by
  have hopen : ¬(s.pace.replan.isSome || !s.running) = true := by simp [hr, h0]
  unfold startReplan
  rw [if_neg hopen, hx]
  dsimp only
  split
  · exact ⟨_, replan_requestClaim _ 1 x, rfl, rfl⟩
  · exact ⟨_, rfl, rfl, rfl⟩

theorem replanDue_starts {x : Nat} (hr : s.running = true) (h0 : s.pace.replan = none)
    (hx : s.liveDies.find? (s.replanDue ·) = some x) :
    Completes .replanDue s fun t => ∃ r, t.pace.replan = some r ∧ r.die = x ∧ r.askedAt = s.clock.tick :=
  completes_of_effect (fun _ => rfl) (replan_startReplan hr h0 hx)

theorem ptReplanWrite_asks (mask : Nat) (hp : s.powered = true) :
    Completes (.ptReplanWrite mask) s fun t =>
      t.get F.PT_REPLAN_DIE_MASK [] = s.get F.PT_REPLAN_DIE_MASK [] ||| (mask % 8192 &&& s.liveMask) := by
  have hmask : s.get F.PT_REPLAN_DIE_MASK [] ||| (mask % 8192 &&& s.liveMask) < 2 ^ 13 :=
    Nat.or_lt_two_pow (bits_lt ..) (Nat.and_le_left.trans_lt (Nat.mod_lt _ (by decide)))
  refine completes_of_effect (fun _ => rfl) ?_
  simp only [onlyIf_of _ _ hp, get_eq]
  rw [getR_startReplan_of_clear clearOfClaims_dieMask, regs_set, getR_setR_self _ _ _ _ _ (by decide)]
  exact Nat.mod_eq_of_lt hmask

/-! ## The claim, the probe and the trims -/

theorem replanClaimTimeout_givesUp (hr : s.pace.replan = some r) (hg : r.granted = false) (ho : r.sensorOnly = false)
    (hdue : 10000000000 ≤ s.since r.askedAt) :
    Completes .replanClaimTimeout s fun t => t.pace.replan = some { r with sensorOnly := true } := by
  have hopen : (!r.granted && !r.sensorOnly && (decide (10000000000 ≤ s.since r.askedAt) || !s.isOn F.PT_CTRL_CLAIMS_EN [])) = true := by
    simp [hg, ho, hdue]
  refine completes_of_effect (fun _ => rfl) ?_
  simp only [hr, onlyIf_of _ _ hopen, replan_releaseClaim]

/-- The end of a probe sets the sensitivity that it found, or the factory's. -/
theorem replan_withSensitivity (c c' : Prop) [Decidable c] [Decidable c'] (t : State) (n d n' d' : Map Nat) :
    (if c then { t with pace.sNum := n, pace.sDen := d } else if c' then { t with pace.sNum := n', pace.sDen := d' } else t).pace.replan
      = t.pace.replan := by
  split
  · rfl
  · split <;> rfl

theorem probeStep_counts (p nm : Nat) (hr : s.pace.replan = some r) (hg : r.granted = true) (hs : r.sensed = true)
    (hp : r.probing = true) (ho : r.sensorOnly = false) (hw : s.mayWork 1 r.die = true) (hdue : 64000 ≤ s.since r.stepAt) :
    Completes (.probeStep p nm) s fun t => ∃ r', t.pace.replan = some r' ∧ r'.steps = r.steps + 1 ∧ r'.pLast = p
      ∧ (10 ≤ r.steps + 1 → r'.probing = false) := by
  have hopen : (r.granted && r.sensed && r.probing && !r.sensorOnly && s.mayWork 1 r.die && decide (64000 ≤ s.since r.stepAt)) = true := by
    simp [hg, hs, hp, ho, hw, hdue]
  refine completes_of_effect (fun _ => rfl) ?_
  simp only [hr, onlyIf_of _ _ hopen]
  refine ⟨_, (replan_withSensitivity ..).trans (congrArg Pace.replan (set_pace ..)), rfl, rfl, fun h10 => ?_⟩
  simp [h10]

section
variable {g : Nat} (hr : s.pace.replan = some r) (hg : r.granted = true) (hs : r.sensed = true) (hp : r.probing = false)
  (ho : r.sensorOnly = false) (hw : s.mayWork 1 r.die = true)
include hr hg hs hp ho hw

theorem trimStep_ends (hlt : g < trimGroups) (hn : s.pace.trimSteps.at 0 (key2 r.die g) < 4) :
    Completes (.trimStep g false) s fun t => t.pace.trimSteps.at 0 (key2 r.die g) = 4 ∧ t.pace.trim = s.pace.trim
      ∧ t.pace.replan = some { r with
          stepAt := s.clock.tick,
          trims := (g, s.pace.trim.at 65536 (key2 r.die g) - s.pace.trimSteps.at 0 (key2 r.die g) + 2) :: r.trims } := by
  have hopen : (r.granted && r.sensed && !r.probing && !r.sensorOnly && s.mayWork 1 r.die
      && decide (s.pace.trimSteps.at 0 (key2 r.die g) < 4) && decide (g < trimGroups)
      && (!false || decide (100000 ≤ s.since r.stepAt))) = true := by simp [hg, hs, hp, ho, hw, hlt, hn]
  refine completes_of_effect (fun _ => rfl) ?_
  simp only [hr, onlyIf_of _ _ hopen]
  simp [nearMiss]

theorem trimStep_goesOn (hlt : g < trimGroups) (hdue : 100000 ≤ s.since r.stepAt) (hn : s.pace.trimSteps.at 0 (key2 r.die g) < 3) :
    Completes (.trimStep g true) s fun t =>
      t.pace.trimSteps.at 0 (key2 r.die g) = s.pace.trimSteps.at 0 (key2 r.die g) + 1 := by
  have hopen : (r.granted && r.sensed && !r.probing && !r.sensorOnly && s.mayWork 1 r.die
      && decide (s.pace.trimSteps.at 0 (key2 r.die g) < 4) && decide (g < trimGroups)
      && (!true || decide (100000 ≤ s.since r.stepAt))) = true := by
    simp [hg, hs, hp, ho, hw, hlt, hdue]
    omega
  refine completes_of_effect (fun _ => rfl) ?_
  simp only [hr, onlyIf_of _ _ hopen, hn, decide_true, Bool.and_self, if_true, Map.at_put_self]

end

/-! ## The plan is applied (R52 step 7) -/

theorem variant_setMargin (s : State) (x : Nat) (tj : Int) : (s.setMargin x tj).variant = s.variant := by
  unfold setMargin
  extract_lets S f room n fr s1 reserve gres st0 old st shown t0 years t1 _ t
  have h1 : s1.variant = s.variant := by unfold s1; split <;> rfl
  clear_value s1 st years
  have h0 : t0.variant = s.variant := (set_variant ..).trans ((set_variant ..).trans h1)
  clear_value t0
  have ht1 : t1.variant = s.variant := (set_variant ..).trans h0
  clear_value t1
  have ht : t.variant = s.variant := ht1
  clear_value t
  split
  · exact ht
  · split
    · rw [raise_variant, ht]
    · split
      · rw [raise_variant]
        exact ht
      · split
        · rw [raise_variant, ht]
        · exact ht

/-- The new voltage floor stands, whatever the rail does. -/
theorem getR_vfloor_applyPlan (s : State) (x : Nat) {vf : Nat} (hvf : vf < 1024) (trims : List (Nat × Nat)) :
    getR (applyPlan x vf trims s).regs s.variant F.PT_VCORE_VFLOOR [x] = vf := by
  unfold applyPlan
  extract_lets longer put wait _ t0 t1 t2
  rw [regs_settleTrims]
  simp only [t2, t1, regs_set, set_variant]
  rw [getR_setR_field _ _ _ _ _ _ (by decide)]
  exact (getR_setR_self _ _ _ _ _ (by decide)).trans (Nat.mod_eq_of_lt hvf)

theorem planApply_setsFloor (tj : Int) (hr : s.pace.replan = some r) (hg : r.granted = true) (hs : r.sensed = true)
    (hp : r.probing = false) (ho : r.sensorOnly = false) (hw : s.mayWork 1 r.die = true) (ht : s.trimsDone r.die = true)
    (hv : r.vClean ≤ 800) :
    Completes (.planApply tj) s fun t => t.get F.PT_VCORE_VFLOOR [r.die] = max 620 (r.vClean + 10)
      ∧ t.pace.planSec.at 0 r.die = 0 := by
  have hopen : (r.sensed && (r.sensorOnly || (r.granted && !r.probing && s.trimsDone r.die && s.mayWork 1 r.die))) = true := by
    simp [hg, hs, hp, hw, ht]
  have hfloor := getR_vfloor_applyPlan (s.setMargin r.die tj) r.die (vf := max 620 (r.vClean + 10)) (by omega) r.trims
  rw [variant_setMargin] at hfloor
  refine completes_of_effect (fun _ => rfl) ?_
  simp only [hr, onlyIf_of _ _ hopen]
  simp only [ho, if_neg Bool.false_ne_true]
  constructor
  · rw [get_completed, getR_startReplan_of_clear (clearOfClaims_vfloor _), getR_releaseClaim_of_clear (clearOfClaims_vfloor _)]
    simp only [regs_set, regs_wr]
    rw [getR_setR_reg _ _ _ F.PT_REPLAN_DIE_MASK _ _ _ _ (addr_ne_of_base_lt rfl (by decide) [] _).symm,
      getR_wrR_reg _ _ _ R.PT_PLANTIME _ _ _ _ (addr_ne_of_stride rfl rfl (by decide) _ _),
      getR_setR_reg _ _ _ F.PT_LOOP_NEARMISS _ _ _ _ (addr_ne_of_stride rfl rfl (by decide) _ _), hfloor]
  · simp only [planSec_startReplan, planSec_releaseClaim, Map.at_put_self]

end Sys2Proof.Machine.State

/-- Settles O23: each command runs into the branch that its clause names; a release of the claim and the next re-plan that is taken
up leave the registers and the counts of the plan alone. -/
theorem replanStagesComplete : Obligations.ReplanStagesComplete :=
  ⟨fun _ _ => replanDue_starts,
    fun _ mask => ptReplanWrite_asks mask,
    fun _ _ => replanClaimTimeout_givesUp,
    fun _ _ p nm => probeStep_counts p nm,
    fun _ _ _ => trimStep_ends,
    fun _ _ _ => trimStep_goesOn,
    fun _ _ tj hr hg hs hp ho hw ht _ => planApply_setsFloor tj hr hg hs hp ho hw ht⟩

end

/-! PROOFS. The frames of the operations on power, time, resets and drains: which parts of the state each can change. -/

section

open Sys2Proof Sys2Proof.Machine

namespace Sys2Proof.Machine

variable {l l₀ : List Part} {s t u : State}

/-! ## The retention header, wakes and the way into STANDBY -/

@[simp] theorem changes_headerSeal (hl : [.tack] ⊆ l) :
    Changes l s t.headerSeal ↔ Changes l s t :=
  changes_iff_of (by unfold State.headerSeal State.retPut; simp) hl

@[simp] theorem changes_headerInit (hl : [.tack] ⊆ l) :
    Changes l s t.headerInit ↔ Changes l s t :=
  changes_iff_of (by unfold State.headerInit State.retPut; simp) hl

@[simp] theorem changes_noteReset (hl : [.regs, .tack] ⊆ l) (cause mode) :
    Changes l s (t.noteReset cause mode) ↔ Changes l s t :=
  changes_iff_of (by unfold State.noteReset State.retPut; simp) hl

@[simp] theorem changes_setAttempts (hl : [.tack] ⊆ l) (slot n) :
    Changes l s (t.setAttempts slot n) ↔ Changes l s t :=
  changes_iff_of (by unfold State.setAttempts State.retPut; simp) hl

@[simp] theorem changes_countBoot (hl : [.tack] ⊆ l) :
    Changes l s t.countBoot ↔ Changes l s t :=
  changes_iff_of (by unfold State.countBoot State.retPut; simp) hl

@[simp] theorem changes_tryStart (hl : [.regs] ⊆ l) :
    Changes l s t.tryStart ↔ Changes l s t :=
  changes_iff_of (by rcases t.tryStart_cases with h | h <;> rw [h] <;> simp) hl

@[simp] theorem changes_wakeBy (hl : [.regs, .tack] ⊆ l) (cause) :
    Changes l s (t.wakeBy cause) ↔ Changes l s t :=
  changes_iff_of (by unfold State.wakeBy; simp) hl

@[simp] theorem changes_enterStandby (hl : [.mode, .regs, .tack] ⊆ l) :
    Changes l s t.enterStandby ↔ Changes l s t :=
  changes_iff_of (by unfold State.enterStandby; simp) hl

@[simp] theorem changes_standbyAgain (hl : [.mode, .regs, .tack] ⊆ l) :
    Changes l s t.standbyAgain ↔ Changes l s t :=
  changes_iff_of (by unfold State.standbyAgain; simp) hl

@[simp] theorem changes_retrySwitch (hl : [.regs, .tack] ⊆ l) :
    Changes l s t.retrySwitch ↔ Changes l s t :=
  changes_iff_of (by unfold State.retrySwitch; simp) hl

/-! ## VIN and VAUX -/

@[simp] theorem changes_sampleVin (hl : [.regs, .tack] ⊆ l) (vin) :
    Changes l s (t.sampleVin vin) ↔ Changes l s t :=
  changes_iff_of (by unfold State.sampleVin; simp) hl

@[simp] theorem changes_opening (hl : [.regs, .tack, .ev, .flt] ⊆ l) (f code) :
    Changes l s (t.opening f code) ↔ Changes l s t :=
  changes_iff_of (by unfold State.opening; simp) hl

@[simp] theorem changes_beginEmergency (hl : [.tack] ⊆ l) (cause avg) :
    Changes l s (t.beginEmergency cause avg) ↔ Changes l s t :=
  changes_iff_of (by unfold State.beginEmergency; split <;> simp) hl

@[simp] theorem changes_switchOpens (hl : [.regs, .free, .tack] ⊆ l) :
    Changes l s t.switchOpens ↔ Changes l s t :=
  changes_iff_of (by unfold State.switchOpens; simp) hl

@[simp] theorem changes_vauxReturns (hl : [.mode, .regs, .tack] ⊆ l) :
    Changes l s t.vauxReturns ↔ Changes l s t :=
  changes_iff_of (by unfold State.vauxReturns; split <;> simp) hl

@[simp] theorem changes_restoreCopy (hl : [.regs, .tack] ⊆ l) :
    Changes l s t.restoreCopy ↔ Changes l s t :=
  changes_iff_of (by unfold State.restoreCopy; simp) hl

@[simp] theorem changes_resetTack (hl : [.clock, .regs, .staged, .latched, .tack, .out, .pace] ⊆ l) :
    Changes l s t.resetTack ↔ Changes l s t :=
  changes_iff_of (by unfold State.resetTack; simp) hl

/-! ## Emergency DRAIN and the flash copy -/

@[simp] theorem changes_dropPartial (hl : [.regs, .ctrs, .ev, .port, .fab] ⊆ l) :
    Changes l s t.dropPartial ↔ Changes l s t :=
  changes_iff_of (by unfold State.dropPartial; simp) hl

@[simp] theorem changes_sealMarker (hl : [.regs, .tack] ⊆ l) (e) :
    Changes l s (t.sealMarker e) ↔ Changes l s t :=
  changes_iff_of (by unfold State.sealMarker; simp) hl

@[simp] theorem changes_flushJournal (hl : [.regs, .tack, .ev, .flt] ⊆ l) :
    Changes l s t.flushJournal ↔ Changes l s t :=
  changes_iff_of (by unfold State.flushJournal; simp) hl

@[simp] theorem changes_tearPage (hl : [.free, .flash] ⊆ l) (a) :
    Changes l s (t.tearPage a) ↔ Changes l s t :=
  changes_iff_of (by unfold State.tearPage; simp) hl

@[simp] theorem changes_flashAbort (hl : [.free, .load, .flash] ⊆ l) :
    Changes l s t.flashAbort ↔ Changes l s t :=
  changes_iff_of (by unfold State.flashAbort; split <;> simp) hl

/-! ## The timekeeper -/

@[simp] theorem changes_setAddend (hl : [.regs] ⊆ l) (v) :
    Changes l s (t.setAddend v) ↔ Changes l s t :=
  changes_iff_of (by unfold State.setAddend; simp) hl

@[simp] theorem changes_setSlew (hl : [.regs, .tack] ⊆ l) (v) :
    Changes l s (t.setSlew v) ↔ Changes l s t :=
  changes_iff_of (by unfold State.setSlew; simp) hl

@[simp] theorem changes_ppsCapture (hl : [.regs, .tack, .ev] ⊆ l) :
    Changes l s t.ppsCapture ↔ Changes l s t :=
  changes_iff_of (by unfold State.ppsCapture; simp) hl

@[simp] theorem changes_ppsDiscipline (hl : [.clock, .regs, .ctrs, .free, .tack, .ev, .flt, .tabs, .port, .tally] ⊆ l) :
    Changes l s t.ppsDiscipline ↔ Changes l s t :=
  changes_iff_of (by unfold State.ppsDiscipline; simp) hl

/-! ## Reads -/

@[simp] theorem changes_answer (hl : [.out] ⊆ l) (v) :
    Changes l s (t.answer v) ↔ Changes l s t :=
  changes_iff_of (by unfold State.answer; simp) hl

@[simp] theorem changes_readTime (hl : [.latched, .out] ⊆ l) (fn frac) :
    Changes l s (t.readTime fn frac) ↔ Changes l s t :=
  changes_iff_of (by unfold State.readTime; simp) hl

@[simp] theorem changes_readRet (hl : [.regs, .out] ⊆ l) :
    Changes l s t.readRet ↔ Changes l s t :=
  changes_iff_of (by unfold State.readRet; simp) hl

@[simp] theorem changes_writeLogCfg (hl : [.regs] ⊆ l) (v) :
    Changes l s (t.writeLogCfg v) ↔ Changes l s t :=
  changes_iff_of (by unfold State.writeLogCfg; simp) hl

/-! ## What a command leaves alone -/

/-- The parts that are not listed. -/
def partsBut (l : List Part) : List Part :=
  [.clock, .mode, .regs, .ctrs, .staged, .latched, .free, .tack, .modes, .ev, .flt, .out, .pace, .load, .flash, .fuse, .host, .tabs,
    .badTabs, .ts, .osp, .awl, .flow, .port, .sl, .fab, .shp, .pool, .tally, .xl, .rc, .ddr, .st].filter fun p => !decide (p ∈ l)

@[simp] theorem mem_partsBut {p : Part} : p ∈ partsBut l ↔ p ∉ l := by
  cases p <;> simp [partsBut]

@[simp] theorem partsBut_subset : partsBut l₀ ⊆ partsBut l ↔ l ⊆ l₀ :=
  ⟨fun h p hp => by by_contra h0; exact mem_partsBut.1 (h (mem_partsBut.2 h0)) hp,
    fun h p hp => mem_partsBut.2 fun hm => mem_partsBut.1 hp (h hm)⟩

theorem leaves_of_touches {c : Instr} (h : Touches (partsBut l) c) : Leaves l c :=
  fun s t hst p hp => h s t hst p fun hm => mem_partsBut.1 hm hp

/-! ## Commits and an orderly DRAIN -/

@[simp] theorem changes_cancelCommit (hl : [.regs, .modes, .ev] ⊆ l) (reason) :
    Changes l s (t.cancelCommit reason) ↔ Changes l s t :=
  changes_iff_of (by unfold State.cancelCommit; simp) hl

@[simp] theorem changes_cancelHidden (hl : [.regs, .modes, .ev] ⊆ l) (reason) :
    Changes l s (t.cancelHidden reason) ↔ Changes l s t :=
  changes_iff_of (by unfold State.cancelHidden; split <;> simp) hl

@[simp] theorem changes_cancelPending (hl : [.regs, .modes, .ev] ⊆ l) (reason) :
    Changes l s (t.cancelPending reason) ↔ Changes l s t :=
  changes_iff_of (by unfold State.cancelPending; simp) hl

@[simp] theorem changes_tackDrain (hl : [.regs, .modes, .ev] ⊆ l) (after) :
    Changes l s (t.tackDrain after) ↔ Changes l s t :=
  changes_iff_of (by unfold State.tackDrain; dsimp only; split <;> simp) hl

/-! ## Resets of the dies -/

@[simp] theorem changes_unitModes (hl : [.regs] ⊆ l) (m) :
    Changes l s (t.unitModes m) ↔ Changes l s t :=
  changes_iff_of (by unfold State.unitModes; simp) hl

@[simp] theorem changes_resetDies (hl : partsBut [.clock, .mode, .free, .tack, .flash, .fuse, .host, .out] ⊆ l) :
    Changes l s t.resetDies ↔ Changes l s t :=
  changes_iff_of (by unfold State.resetDies; simp) hl

@[simp] theorem changes_enterLoad (hl : [.mode, .regs, .modes, .load] ⊆ l) (want) :
    Changes l s (t.enterLoad want) ↔ Changes l s t :=
  changes_iff_of (by unfold State.enterLoad; simp) hl

@[simp] theorem changes_restart (hl : partsBut [.clock, .fuse, .host, .out] ⊆ l) (cause want) :
    Changes l s (t.restart cause want) ↔ Changes l s t :=
  changes_iff_of (by unfold State.restart; simp) hl

@[simp] theorem changes_fallToStandby (hl : partsBut [.clock, .free, .flash, .fuse, .host, .out] ⊆ l) :
    Changes l s t.fallToStandby ↔ Changes l s t :=
  changes_iff_of (by unfold State.fallToStandby; simp) hl

@[simp] theorem changes_afterDrain (hl : partsBut [.clock, .fuse, .host, .out] ⊆ l) (after) :
    Changes l s (t.afterDrain after) ↔ Changes l s t :=
  changes_iff_of (by unfold State.afterDrain; simp) hl

@[simp] theorem changes_abandonAttempt (hl : [.tack, .load] ⊆ l) :
    Changes l s t.abandonAttempt ↔ Changes l s t :=
  changes_iff_of (by unfold State.abandonAttempt; split <;> simp) hl

@[simp] theorem changes_actionDrain (hl : partsBut [.clock, .free, .flash, .fuse, .host, .out] ⊆ l) :
    Changes l s t.actionDrain ↔ Changes l s t :=
  changes_iff_of (by
    unfold State.actionDrain
    split
    · simp
    · split
      case h_3 => split <;> simp
      all_goals simp) hl

@[simp] theorem changes_compAction (hl : partsBut [.clock, .free, .flash, .fuse, .host, .out] ⊆ l) (n action avg) :
    Changes l s (t.compAction n action avg) ↔ Changes l s t :=
  changes_iff_of (by unfold State.compAction; simp) hl

@[simp] theorem changes_railsGone (hl : partsBut [.clock, .fuse, .host, .out] ⊆ l) :
    Changes l s t.railsGone ↔ Changes l s t :=
  changes_iff_of (by unfold State.railsGone; cases t.tack.lossMode <;> simp) hl

@[simp] theorem changes_powerDown (hl : partsBut [.clock, .fuse, .host, .out] ⊆ l) :
    Changes l s t.powerDown ↔ Changes l s t :=
  changes_iff_of (by unfold State.powerDown; simp) hl

/-! ## Frames discarded, and what an emergency DRAIN abandons -/

@[simp] theorem changes_chargeFlight (hl : [.tally] ⊆ l) :
    Changes l s t.chargeFlight ↔ Changes l s t :=
  changes_iff_of (by unfold State.chargeFlight; simp) hl

@[simp] theorem changes_discardAll (hl : [.regs, .ctrs, .ev, .awl, .flow, .port, .sl, .fab, .shp, .pool, .st] ⊆ l) :
    Changes l s t.discardAll ↔ Changes l s t :=
  changes_iff_of (by unfold State.discardAll; simp) hl

@[simp] theorem changes_abandonRepattern (hl : [.regs, .pace, .fab] ⊆ l) :
    Changes l s t.abandonRepattern ↔ Changes l s t :=
  changes_iff_of (by unfold State.abandonRepattern; simp) hl

@[simp] theorem changes_osMatch (hl : [.ctrs, .tabs, .badTabs] ⊆ l) (x e) :
    Changes l s (t.osMatch x e) ↔ Changes l s t :=
  changes_iff_of (by unfold State.osMatch; simp) hl

@[simp] theorem changes_showHeld (hl : [.regs] ⊆ l) :
    Changes l s t.showHeld ↔ Changes l s t :=
  changes_iff_of (by unfold State.showHeld; simp) hl

@[simp] theorem changes_osStop (hl : [.regs, .ctrs, .pace, .tabs, .badTabs, .osp] ⊆ l) (again) :
    Changes l s (t.osStop again) ↔ Changes l s t :=
  changes_iff_of (by unfold State.osStop; simp) hl

@[simp] theorem changes_abandonCompaction (hl : [.regs, .ctrs, .pace, .tabs, .badTabs, .osp] ⊆ l) :
    Changes l s t.abandonCompaction ↔ Changes l s t :=
  changes_iff_of (by unfold State.abandonCompaction; simp) hl

/-! ## Stitcher engines in reset -/

@[simp] theorem changes_zeroCtr (hl : [.ctrs] ⊆ l) (r ix) :
    Changes l s (t.zeroCtr r ix) ↔ Changes l s t :=
  changes_iff_of (by unfold State.zeroCtr; simp) hl

@[simp] theorem changes_dropWaits (hl : [.xl] ⊆ l) (p) :
    Changes l s (t.dropWaits p) ↔ Changes l s t :=
  changes_iff_of (by unfold State.dropWaits; simp) hl

@[simp] theorem changes_unholdPunt (hl : [.st] ⊆ l) (h) :
    Changes l s (t.unholdPunt h) ↔ Changes l s t :=
  changes_iff_of (by unfold State.unholdPunt; simp) hl

@[simp] theorem changes_freePunt (hl : [.regs, .ctrs, .ev, .pool, .st] ⊆ l) (h d) :
    Changes l s (t.freePunt h d) ↔ Changes l s t :=
  changes_iff_of (by unfold State.freePunt; simp) hl

@[simp] theorem changes_resetEngine (hl : [.regs, .ctrs, .ev, .osp, .pool, .tally, .xl, .st] ⊆ l) (e) :
    Changes l s (t.resetEngine e) ↔ Changes l s t :=
  changes_iff_of (by
    unfold State.resetEngine
    extract_lets mine s₁ s₂ own st s₃ s₄
    have h₁ : Changes [.regs, .ctrs, .ev, .osp, .pool, .tally, .xl, .st] t s₁ :=
      (changes_forEach fun h u => by
        extract_lets u₁ u₂
        have h₂ : Changes [.regs, .ctrs, .ev, .osp, .pool, .tally, .xl, .st] u u₂ := by unfold u₂; split <;> simp [u₁]
        clear_value u₂
        split <;> simp [h₂]).2 (.refl _ t)
    clear_value s₁
    simp +zetaDelta [h₁]) hl

@[simp] theorem changes_stitcherReset (hl : [.regs, .ctrs, .tack, .ev, .osp, .pool, .tally, .xl, .st] ⊆ l) :
    Changes l s t.stitcherReset ↔ Changes l s t :=
  changes_iff_of (by unfold State.stitcherReset; simp) hl

/-! ## Commands -/

/-- A stage of an emergency DRAIN changes what its effect changes. -/
theorem touches_edrainAt {c : Instr} {i : Nat} {ready : State → EDrain → Bool} {f : EDrain → State → State}
    (h : ∀ s, exec c s = done (fun s => s.edrainAt i (ready s) f) s) (hf : ∀ e t, Changes l t (f e t)) : Touches l c :=
  touches_done h fun s => Changes.edrainAt hf s

/-! ## Falls of power and restarts -/

theorem touches_railsOff : Touches (partsBut [.clock, .out, .fuse, .host]) .railsOff :=
  touches_done (fun _ => rfl) fun s => by
    split
    · exact .refl _ s
    · split
      · simp
      · exact Changes.edrainAt (fun _ _ => by simp) s

theorem touches_forwardingRestart : Touches (partsBut [.clock, .out, .fuse, .host]) .forwardingRestart :=
  touches_done (fun _ => rfl) fun s => by
    split
    · exact .refl _ s
    · split <;> simp

end Sys2Proof.Machine

/-- Settles O51: each command completes with an effect built from operations whose frames are the lemmas above. -/
theorem powerAndTimeFrames : Obligations.PowerAndTimeFrames :=
  ⟨fun _ => touches_done (fun _ => rfl) fun _ => by simp,
    fun _ => touches_done (fun _ => rfl) fun _ => by simp,
    touches_done (fun _ => rfl) fun _ => by simp,
    touches_done (fun _ => rfl) fun _ => by split <;> simp,
    touches_done (fun _ => rfl) fun _ => by simp,
    touches_done (fun _ => rfl) fun _ => by simp,
    touches_done (fun _ => rfl) fun _ => by simp,
    touches_done (fun _ => rfl) fun _ => by simp,
    fun _ _ _ => touches_done (fun _ => rfl) fun _ => by simp,
    touches_edrainAt (fun _ => rfl) fun _ _ => by simp,
    touches_edrainAt (fun _ => rfl) fun _ _ => by simp [State.tallyFreezeBanks],
    fun _ => touches_edrainAt (fun _ => rfl) fun _ _ => by simp,
    touches_edrainAt (fun _ => rfl) fun _ _ => by simp,
    touches_done (fun _ => rfl) fun s => changes_ite.2
      ⟨fun _ => by simp, fun _ => Changes.edrainAt (fun _ _ => by simp) s⟩,
    touches_done (fun _ => rfl) fun _ => by simp,
    touches_done (fun _ => rfl) fun _ => by simp,
    touches_doneTimed (fun _ => rfl) fun _ => by split <;> simp,
    fun _ => touches_done (fun _ => rfl) fun _ => by simp,
    touches_done (fun _ => rfl) fun _ => by simp,
    touches_done (fun _ => rfl) fun _ => by split <;> simp,
    fun _ => touches_done (fun _ => rfl) fun _ => by simp [State.writeSlew],
    touches_doneTimed (fun _ => rfl) fun _ => by simp,
    fun _ => touches_done (fun _ => rfl) fun _ => by simp [State.writeAddend],
    fun _ _ => touches_done (fun _ => rfl) fun _ => by simp,
    fun _ => touches_doneTimed (fun _ => rfl) fun _ => by simp,
    touches_done (fun _ => rfl) fun _ => by simp,
    touches_done (fun _ => rfl) fun _ => by simp,
    touches_done (fun _ => rfl) fun _ => by split <;> simp,
    fun _ => touches_done (fun _ => rfl) fun _ => by simp,
    touches_done (fun _ => rfl) fun _ => by simp,
    fun _ => touches_done (fun _ => rfl) fun _ => by simp,
    fun _ => touches_done (fun _ => rfl) fun _ => by simp,
    fun _ => touches_done (fun _ => rfl) fun _ => by simp⟩

/-- Settles O58: a command leaves what the operations that make up its effect leave. -/
theorem resetFrames : Obligations.ResetFrames :=
  ⟨leaves_of_touches (touches_done (fun _ => rfl) fun _ => by simp),
    fun _ _ _ => leaves_of_touches (touches_done (fun _ => rfl) fun _ => by simp),
    leaves_of_touches touches_railsOff,
    fun _ => leaves_of_touches (touches_done (fun _ => rfl) fun _ => by simp),
    fun _ => leaves_of_touches (touches_doneTimed (fun _ => rfl) fun _ => by simp),
    leaves_of_touches (touches_done (fun _ => rfl) fun _ => by split <;> simp),
    fun _ _ => leaves_of_touches (touches_done (fun _ => rfl) fun _ => by simp),
    leaves_of_touches touches_forwardingRestart,
    touches_done (fun _ => rfl) fun _ => by simp,
    leaves_of_touches (touches_edrainAt (fun _ => rfl) fun _ _ => by simp),
    leaves_of_touches (touches_done (fun _ => rfl) fun _ => by split <;> simp)⟩

end

/-! PROOFS. Time: how the commands and the tick move TAI and TK_TICK. -/

section

open Sys2Proof Sys2Proof.Machine

namespace Sys2Proof.Machine

variable {l : List Part} {s t u : State} {c : Instr}

/-! ## The clock -/

theorem Clock.ok.zero : Clock.ok {} := ⟨by decide, by decide, by decide⟩

/-- A shift of TAI wraps within 48 bits of seconds and leaves TK_TICK alone. -/
theorem Clock.ok.shift {k : Clock} (h : k.ok) (d : Int) : (k.shift d).ok := by
  obtain ⟨-, -, htick⟩ := h
  have hspan : ((Int.ofNat k.tai + d) % Int.ofNat taiSpan).toNat < taiSpan := by
    have hpos : (0 : Int) < Int.ofNat taiSpan := by decide
    have := Int.emod_lt_of_pos (Int.ofNat k.tai + d) hpos
    exact (Int.toNat_lt (Int.emod_nonneg _ hpos.ne')).2 this
  simp only [Clock.shift, Clock.ok]
  generalize ((Int.ofNat k.tai + d) % Int.ofNat taiSpan).toNat = n at *
  simp only [taiSpan] at hspan
  omega

theorem Clock.ok.advance {k : Clock} (h : k.ok) (a : Nat) : (k.advance a).ok := by
  obtain ⟨hsec, hns, -⟩ := Clock.ok.shift h 1
  have htick : (k.tick + 1) % 2 ^ 64 < 2 ^ 64 := Nat.mod_lt _ (by decide)
  unfold Clock.advance
  dsimp only
  split <;> exact ⟨hsec, hns, htick⟩

theorem clock_of_changes (h : Changes l s t) (hl : .clock ∉ l) : t.clock = s.clock := h .clock hl

/-! ## What a command does to the clock -/

/-- TAI has been shifted, or not moved at all. -/
def Shifted (s t : State) : Prop := t.clock = s.clock ∨ ∃ d, t.clock = s.clock.shift d

theorem Shifted.refl (s : State) : Shifted s s := .inl rfl

theorem Shifted.of_clock (h : Shifted s t) (hu : u.clock = t.clock) : Shifted s u := by rwa [Shifted, hu]

theorem Shifted.of_changes (h : Shifted s t) (hu : Changes l t u) (hl : .clock ∉ l) : Shifted s u :=
  h.of_clock (clock_of_changes hu hl)

theorem clock_adjustTai (s : State) (d : Int) : (s.adjustTai d).clock = s.clock.shift d :=
  clock_of_changes (s := { s with clock := s.clock.shift d }) (l := [.regs, .ctrs, .free, .tack, .ev, .flt, .tabs, .port, .tally])
    (by unfold State.adjustTai; simp) (by decide)

theorem shifted_adjustTai (h : t.clock = s.clock) (d : Int) : Shifted s (t.adjustTai d) :=
  .inr ⟨d, (clock_adjustTai t d).trans (by rw [h])⟩

theorem shifted_stepTime (s : State) (v : Nat) : Shifted s (s.stepTime v) := by
  unfold State.stepTime
  extract_lets ns t sec t₁ t₂
  have hstep : Shifted s t₂ := shifted_adjustTai (by simp [t]) _
  split
  · split
    · exact .inl (by simp [State.refuseAdj, t])
    · split
      · exact hstep.of_clock (by simp)
      · exact hstep
  · exact .inl (by simp [t])

theorem shifted_ppsDiscipline (s : State) : Shifted s s.ppsDiscipline := by
  unfold State.ppsDiscipline
  extract_lets ns e locked u t n c v w
  have ht : Shifted s t := by
    unfold t
    split
    · exact shifted_adjustTai rfl _
    · exact .inl (by simp [u, State.setAddend, State.setSlew])
  clear_value t
  exact ht.of_changes (l := [.regs, .tack, .ev]) (by simp +zetaDelta) (by decide)

theorem clock_resetTack (s : State) : s.resetTack.clock = {} := by
  have h (t : State) : Changes [.regs, .tack] t (t.restoreCopy.headerInit.set F.TK_STATUS_RET_VALID [] 1) := by simp
  exact clock_of_changes (h _) (by decide)

/-- What a command does to the clock: nothing, a shift of TAI, or the reset of the Tack Room. -/
def MovesClock (c : Instr) (s t : State) : Prop :=
  Shifted s t ∨ ((c = .vauxCycle ∨ ∃ a, c = .powerOnReset a) ∧ t.clock = {})

theorem movesClock_done {f : State → State} (h : exec c s = done f s) (ht : exec c s = .next t) : MovesClock c s t := by
  obtain rfl := Host.Outcome.next.inj (h.symm.trans ht)
  exact .inl (.inl rfl)

theorem movesClock_doneTimed {f : State → State} (h : ∀ s, exec c s = doneTimed f s) (hf : ∀ s, MovesClock c s (f s))
    (ht : exec c s = .next t) : MovesClock c s t := by
  obtain rfl := Host.Outcome.next.inj ((h s).symm.trans ht)
  exact hf s

theorem shifted_onlyIf {b : Bool} {f : State → State} (h : Shifted s (f s)) : Shifted s (onlyIf b f s) := by
  unfold onlyIf
  split
  · exact h
  · exact .refl s

theorem movesClock_vauxCycle (h : exec .vauxCycle s = .next t) : MovesClock .vauxCycle s t :=
  movesClock_doneTimed (fun _ => rfl) (fun s => by
    split
    · split
      · refine .inr ⟨.inl rfl, ?_⟩
        have h (t : State) : Changes [.mode, .regs, .tack] t
            (if s.tack.vauxBack then { t.noteReset 3 0 with tack.vauxCycled := true }.vauxReturns
              else { t.noteReset 3 0 with tack.vauxCycled := true }) := by simp
        exact (clock_of_changes (h s.resetTack) (by decide)).trans (clock_resetTack s)
      · exact .inl (.refl s)
    · exact .inl (.refl s)) h

theorem clock_powerOn (s : State) : ((s.resetTack.noteReset 1 0).set F.PS_STATUS_VAUX_OK [] 1).clock = {} := by
  have h : Changes [.regs, .tack] s.resetTack ((s.resetTack.noteReset 1 0).set F.PS_STATUS_VAUX_OK [] 1) := by simp
  exact (clock_of_changes h (by decide)).trans (clock_resetTack s)

/-- A power-on reset sets the mode and an output beside; stated for any of both, so that no reduction runs into the reset. -/
theorem clock_powerOn_with (s : State) (m : Mode) (o : State → Outputs) :
    State.clock { (s.resetTack.noteReset 1 0).set F.PS_STATUS_VAUX_OK [] 1 with
      mode := m, out := o ((s.resetTack.noteReset 1 0).set F.PS_STATUS_VAUX_OK [] 1) } = {} := by
  have h := clock_powerOn s
  generalize (s.resetTack.noteReset 1 0).set F.PS_STATUS_VAUX_OK [] 1 = u at *
  exact h

theorem movesClock_powerOnReset {a : Nat} (h : exec (.powerOnReset a) s = .next t) : MovesClock (.powerOnReset a) s t :=
  movesClock_doneTimed (fun _ => rfl)
    (fun _ => .inr ⟨.inr ⟨a, rfl⟩, clock_powerOn_with _ .standby fun u => { u.out with ppsOut := false }⟩) h

theorem movesClock_ppsEdge {rising : Bool} (h : exec (.ppsEdge rising) s = .next t) : MovesClock (.ppsEdge rising) s t :=
  movesClock_doneTimed (fun _ => rfl) (fun s => .inl (shifted_onlyIf (by
    extract_lets ok k u
    have hc : u.ppsCapture.clock = s.clock :=
      clock_of_changes (s := u) (l := [.regs, .tack, .ev]) (by simp) (by decide)
    split
    · split
      · have := shifted_ppsDiscipline u.ppsCapture
        rwa [Shifted, hc] at this
      · exact .inl hc
    · exact .refl s))) h

theorem movesClock_registerWrite {smbus : Bool} {fn off v : Nat} (h : exec (.registerWrite smbus fn off v) s = .next t) :
    MovesClock (.registerWrite smbus fn off v) s t := by
  change execRegisterWrite smbus fn off v s = .next t at h
  unfold execRegisterWrite at h
  dsimp only at h
  split at h
  · obtain rfl := Host.Outcome.next.inj h
    exact .inl (.inl rfl)
  · split at h
    · obtain rfl := Host.Outcome.next.inj h
      exact .inl (shifted_onlyIf (shifted_stepTime s v))
    · obtain rfl := Host.Outcome.next.inj h
      exact .inl (.inl rfl)

/-- Every command moves the clock in one of these ways. -/
theorem exec_movesClock (h : exec c s = .next t) : MovesClock c s t := by
  cases hc : mayMoveTime c
  case false =>
    obtain ⟨f, hf⟩ := exec_eq_done hc s
    exact movesClock_done hf h
  case true =>
    cases c
    case timeStep v =>
      exact movesClock_doneTimed (fun _ => rfl) (fun s => .inl (shifted_onlyIf (shifted_stepTime s v))) h
    case slewApply =>
      exact movesClock_doneTimed (fun _ => rfl) (fun s => .inl (shifted_onlyIf (.inr ⟨_, rfl⟩))) h
    case ppsEdge rising => exact movesClock_ppsEdge h
    case vauxCycle => exact movesClock_vauxCycle h
    case powerOnReset a => exact movesClock_powerOnReset h
    case registerWrite smbus fn off v => exact movesClock_registerWrite h
    all_goals cases hc

theorem timeOk_of_movesClock (h : MovesClock c s t) (hs : s.TimeOk) : t.TimeOk := by
  unfold State.TimeOk at *
  obtain (h | ⟨d, h⟩) | ⟨-, h⟩ := h <;> rw [h]
  · exact hs
  · exact hs.shift d
  · exact .zero

theorem timeOk_tick (hs : s.TimeOk) : (tick s).TimeOk := by
  unfold State.TimeOk at *
  have h : Changes [.regs, .ev] { s with clock := s.clock.advance s.addend } (tick s) := by
    unfold tick countTick
    simp
  rw [clock_of_changes h (by decide)]
  exact hs.advance _

end Sys2Proof.Machine

/-- Settles O1: a step is the command's meaning on the state with the rest of the queue. -/
theorem stepTakesTheFrontCommand : Obligations.StepTakesTheFrontCommand :=
  ⟨fun _ _ _ => rfl, fun s h => by unfold step; rw [h]⟩

/-- Settles O4. -/
theorem resetState : Obligations.ResetState := ⟨rfl, rfl, rfl, rfl, rfl, by decide⟩

/-- Settles O5. -/
theorem resetTimeInRange : Obligations.ResetTimeInRange := Clock.ok.zero

/-- Settles O6: a command leaves the clock, shifts TAI or resets it, and a tick advances it; each keeps the ranges. -/
theorem timeStaysInRange : Obligations.TimeStaysInRange := by
  intro s t hs h
  unfold step at h
  split at h
  · obtain rfl := Host.Outcome.next.inj h
    exact timeOk_tick hs
  · exact timeOk_of_movesClock (exec_movesClock h) hs

/-- Settles O7: a shift of TAI is not one of TK_TICK. -/
theorem onlyResetsMoveTheTick : Obligations.OnlyResetsMoveTheTick := by
  intro c s t h
  obtain (h | ⟨d, h⟩) | h := exec_movesClock h
  · exact .inl (by rw [h])
  · exact .inl (by rw [h]; rfl)
  · exact .inr h

end

/-! PROOFS. Power entry and protective openings: what each command shows when it completes. -/

section

open Sys2Proof Sys2Proof.Machine Sys2Proof.Machine.State

namespace Sys2Proof.Machine.State

variable {s : State}

/-! ## The state in which a command completes -/

/-- The state in which a command with the effect `u` on `s` completes: the queue and the variant are put back, the clock is `k`. -/
def complete (k : Clock) (s u : State) : State := { u with clock := k, variant := s.variant, pending := s.pending }

section
variable (k : Clock) (s u : State)
@[simp] theorem complete_clock : (complete k s u).clock = k := (rfl)
@[simp] theorem complete_mode : (complete k s u).mode = u.mode := (rfl)
@[simp] theorem complete_tack : (complete k s u).tack = u.tack := (rfl)
@[simp] theorem complete_modes : (complete k s u).modes = u.modes := (rfl)
@[simp] theorem complete_out : (complete k s u).out = u.out := (rfl)
@[simp] theorem complete_flt : (complete k s u).flt = u.flt := (rfl)
@[simp] theorem complete_flash : (complete k s u).flash = u.flash := (rfl)
@[simp] theorem complete_variant : (complete k s u).variant = s.variant := (rfl)
@[simp] theorem complete_retRead (a n : Nat) : (complete k s u).retRead a n = u.retRead a n := (rfl)

variable {s u}

@[simp] theorem complete_get (h : u.variant = s.variant) (f : Fld) (ix : List Nat) : (complete k s u).get f ix = u.get f ix :=
  get_congr (s := u) (t := complete k s u) rfl h.symm f ix

@[simp] theorem complete_rd (h : u.variant = s.variant) (r : RegSpec) (ix : List Nat) : (complete k s u).rd r ix = u.rd r ix :=
  rd_congr (s := u) (t := complete k s u) rfl h.symm r ix

end

theorem completes_effect {c : Instr} {f : State → State} {P : State → Prop} (h : ∀ s, exec c s = done f s)
    (hp : P (complete s.clock s (f s))) : Completes c s P := completes_done (h s) hp

theorem completes_timed {c : Instr} {f : State → State} {P : State → Prop} (h : ∀ s, exec c s = doneTimed f s)
    (hp : P (complete (f s).clock s (f s))) : Completes c s P := completes_doneTimed (h s) hp

/-- A field just set, where the value fits it. -/
theorem get_set (s : State) {f : Fld} {n : Nat} (h : f.lo ≤ f.hi ∧ f.hi < 32 ∧ n < 2 ^ (f.hi + 1 - f.lo)) (ix : List Nat) :
    (s.set f ix n).get f ix = n := by
  rw [get_set_self _ _ _ _ h.1 h.2.1, Nat.mod_eq_of_lt h.2.2]

/-- A field beside one just set. -/
theorem get_set_beside (s : State) {f g : Fld} (h : g.reg = f.reg ∧ f.lo ≤ f.hi ∧ f.hi < 32 ∧ (g.hi < f.lo ∨ f.hi < g.lo))
    (ix : List Nat) (n : Nat) : (s.set f ix n).get g ix = s.get g ix :=
  get_set_field _ _ _ _ _ h.2.1 h.2.2.1 h.1 h.2.2.2

/-! ## What the shared operations leave of the registers and of the Tack Room -/

/-- A field that the start of the power stage leaves alone. -/
def ClearOfStart (g : Fld) (jx : List Nat) : Prop :=
  g.reg.addr jx ≠ R.PS_STATUS.addr [] ∨ (g.reg = R.PS_STATUS ∧ 1 < g.lo ∧ jx = [])

theorem get_tryStart {g : Fld} {jx : List Nat} (h : ClearOfStart g jx) (s : State) : s.tryStart.get g jx = s.get g jx := by
  rw [get_eq, tryStart_variant, getR_tryStart s g jx h, get_eq]

theorem tryStart_starts (hm : s.mode = .standby) (hw : s.tack.wake.isSome = true) (hv : s.get F.PS_STATUS_VIN_OK [] = 1)
    (hh : s.tack.switchHeld = false) (hs : s.get F.PS_STATUS_SS_STATE [] = 0) (hr : s.tack.ssRetryAt = none) :
    s.tryStart = s.set F.PS_STATUS_SS_STATE [] 1 := by
  simp [tryStart, isOn, hm, hw, hv, hh, hs, hr]

theorem get_wakeBy {g : Fld} {jx : List Nat} (h : ClearOfStart g jx) (h' : g.reg.addr jx ≠ R.TK_STATUS.addr []) (s : State) (c : Nat) :
    (s.wakeBy c).get g jx = s.get g jx := by
  unfold wakeBy
  split
  · rw [get_tryStart h, get_set_reg _ _ _ _ _ _ h']
    rfl
  · rfl

theorem wakeBy_of_standby (h : s.mode = .standby) (c : Nat) :
    s.wakeBy c = ({ s with tack.wake := some c }.set F.TK_STATUS_LAST_WAKE [] c).tryStart := by
  simp [wakeBy, h]

/-- A wake changes of the Tack Room's state the wake that waits. -/
theorem tack_wakeBy (s : State) (c : Nat) : ∃ w, (s.wakeBy c).tack = { s.tack with wake := w } := by
  unfold wakeBy
  split
  · exact ⟨some c, by simp⟩
  · exact ⟨s.tack.wake, rfl⟩

theorem get_opening {g : Fld} {jx : List Nat} (h : g.reg.addr jx ∉ journalRegs) (s : State) (f : Fld) (code : Nat) :
    (s.opening f code).get g jx = (s.set f [] 1).get g jx := by
  rw [get_eq, opening, journal_variant, getR_journal _ _ _ _ _ h, get_eq]

theorem get_switchOpens_reg {g : Fld} (h : g.reg = R.PS_STATUS ∧ 1 < g.lo) (s : State) : s.switchOpens.get g [] = s.get g [] := by
  have hf : F.PS_STATUS_SS_STATE.reg = R.PS_STATUS := rfl
  unfold switchOpens
  extract_lets f t
  have ht : t.get g [] = s.get g [] := by
    unfold t
    split
    · exact get_congr (beginEmergency_regs _ _ _) (beginEmergency_variant _ _ _) g []
    · rfl
  rw [get_set_field _ _ _ _ _ (by decide) (by decide) (h.1.trans hf.symm) (.inr h.2), ht]

theorem get_switchOpens_switch (s : State) : s.switchOpens.get F.PS_STATUS_SS_STATE [] = 0 :=
  get_set_self _ _ _ _ (by decide) (by decide)

theorem switchHeld_switchOpens (s : State) : s.switchOpens.tack.switchHeld = s.tack.switchHeld := by
  unfold switchOpens
  dsimp only
  split
  · rw [set_tack, beginEmergency_held]; rfl
  · rw [set_tack]

@[simp] theorem switchOpens_variant (s : State) : s.switchOpens.variant = s.variant := by
  unfold switchOpens
  dsimp only
  split
  · rw [set_variant, beginEmergency_variant]; rfl
  · rw [set_variant]

@[simp] theorem opening_variant (s : State) (f : Fld) (code : Nat) : (s.opening f code).variant = s.variant := by simp [opening]

@[simp] theorem countBoot_wake (s : State) : s.countBoot.tack.wake = s.tack.wake := (rfl)

@[simp] theorem countBoot_ssTries (s : State) : s.countBoot.tack.ssTries = s.tack.ssTries := (rfl)

theorem get_countBoot (s : State) (g : Fld) (jx : List Nat) : s.countBoot.get g jx = s.get g jx := (rfl)

@[simp] theorem unitModes_variant (s : State) (m : Nat) : (s.unitModes m).variant = s.variant :=
  forEach_keeps State.variant _ (fun _ _ => set_variant ..) _ _

@[simp] theorem unitModes_mode (s : State) (m : Nat) : (s.unitModes m).mode = s.mode :=
  forEach_keeps State.mode _ (fun _ _ => set_mode ..) _ _

@[simp] theorem unitModes_tack (s : State) (m : Nat) : (s.unitModes m).tack = s.tack :=
  forEach_keeps State.tack _ (fun _ _ => set_tack ..) _ _

/-- The registers of the power stage lie below those of the modes. -/
theorem get_unitModes_of_power {g : Fld} (h : g.reg = R.PS_STATUS) (s : State) (m : Nat) : (s.unitModes m).get g [] = s.get g [] :=
  forEach_keeps (fun t => t.get g []) _
    (fun x t => get_set_reg t _ _ _ _ _ (h ▸ addr_ne_of_base_lt rfl (by decide) [] [x])) _ _

@[simp] theorem enterLoad_variant (s : State) (w : Option Nat) : (s.enterLoad w).variant = s.variant := by simp [enterLoad]

@[simp] theorem enterLoad_mode (s : State) (w : Option Nat) : (s.enterLoad w).mode = .load := by simp [enterLoad]

@[simp] theorem enterLoad_tack (s : State) (w : Option Nat) : (s.enterLoad w).tack = s.tack := by simp [enterLoad]

theorem get_enterLoad_of_power {g : Fld} (h : g.reg = R.PS_STATUS) (s : State) (w : Option Nat) :
    (s.enterLoad w).get g [] = s.get g [] := get_unitModes_of_power h _ _

@[simp] theorem resetDies_variant (s : State) : s.resetDies.variant = s.variant := (rfl)

@[simp] theorem resetDies_mode (s : State) : s.resetDies.mode = s.mode := (rfl)

@[simp] theorem resetDies_tack (s : State) : s.resetDies.tack = s.tack := (rfl)

/-- A register outside the dies keeps its value through a reset of the dies (R119). -/
theorem get_resetDies {g : Fld} {jx : List Nat} (h : outsideDies (g.reg.addr jx) = true) (s : State) :
    s.resetDies.get g jx = s.get g jx := getR_keep outsideDies s.regs s.variant g jx h

@[simp] theorem countBoot_variant (s : State) : s.countBoot.variant = s.variant := (rfl)

/-! ## The commands -/

theorem vinQualified_records {vin : Nat} (hm : s.mode ≠ .off) (hl : s.get F.TK_CMP_THR_LOW [0] + 30 < vin) (hh : vin < 6400) :
    Completes (.vinQualified vin) s fun t => t.get F.PS_STATUS_VIN_OK [] = 1 ∧ t.tack.vin = vin := by
  have hopen : (s.mode != .off && decide (s.get F.TK_CMP_THR_LOW [0] + 30 < vin) && decide (vin < 6400)) = true := by
    simp [hm, hl, hh]
  have hclear : ClearOfStart F.PS_STATUS_VIN_OK [] := .inr (by decide)
  refine completes_effect (fun _ => rfl) ?_
  rw [onlyIf_of _ _ hopen]
  extract_lets fresh t
  have hset : t.get F.PS_STATUS_VIN_OK [] = 1 := get_set _ (by decide) []
  have hvin : t.tack.vin = vin := by simp [t, sampleVin]
  have hvar : t.variant = s.variant := by simp [t, sampleVin]
  clear_value t
  split
  · obtain ⟨w, hw⟩ := tack_wakeBy t 1
    simp [hvar, get_wakeBy hclear (by decide), hset, hw, hvin]
  · simp [hvar, get_tryStart hclear, hset, hvin]

theorem vinUnqualified_records {vin : Nat} (h : vin ≤ s.get F.TK_CMP_THR_LOW [0] + 30 ∨ 6400 ≤ vin) :
    Completes (.vinUnqualified vin) s fun t => t.get F.PS_STATUS_VIN_OK [] = 0 ∧ t.tack.vin = vin := by
  have hopen : (decide (vin ≤ s.get F.TK_CMP_THR_LOW [0] + 30) || decide (6400 ≤ vin)) = true := by simpa using h
  refine completes_effect (fun _ => rfl) ?_
  rw [onlyIf_of _ _ hopen]
  extract_lets t
  have hset : t.get F.PS_STATUS_VIN_OK [] = 0 := get_set _ (by decide) []
  have hvin : t.tack.vin = vin := by simp [t, sampleVin]
  have hvar : t.variant = s.variant := by simp [t, sampleVin]
  clear_value t
  split
  · simp [hvar, hset, hvin]
  · simp [hvar, get_set_beside t (f := F.PS_STATUS_SS_STATE) (g := F.PS_STATUS_VIN_OK) (by decide), hset, hvin]

/-- The soft start is under way in STANDBY. -/
theorem starting_of (hm : s.mode = .standby) (hs : s.get F.PS_STATUS_SS_STATE [] = 1) :
    (s.mode == .standby && s.get F.PS_STATUS_SS_STATE [] == 1) = true := by simp [hm, hs]

theorem softStartDone_loads (hm : s.mode = .standby) (hs : s.get F.PS_STATUS_SS_STATE [] = 1) :
    Completes .softStartDone s fun t => t.mode = .load ∧ t.get F.PS_STATUS_SS_STATE [] = 2 ∧ t.get F.PS_STATUS_RAILS_ON [] = 1
      ∧ t.tack.wake = none ∧ t.tack.ssTries = 0 := by
  refine completes_effect (fun _ => rfl) ?_
  rw [onlyIf_of _ _ (starting_of hm hs)]
  extract_lets t k u
  have hss : t.get F.PS_STATUS_SS_STATE [] = 2 := by
    rw [get_set_reg _ _ _ _ _ _ (by decide), get_set_beside _ (by decide), get_set _ (by decide)]
  have hrails : t.get F.PS_STATUS_RAILS_ON [] = 1 := by
    rw [get_set_reg _ _ _ _ _ _ (by decide), get_set _ (by decide)]
  have hvar : t.variant = s.variant := by simp [t]
  clear_value t
  have hu (f : Fld) : u.get f [] = t.get f [] := get_congr rfl rfl f []
  refine ⟨by simp, ?_, ?_, by simp [u], by simp [u]⟩
  · rw [complete_get _ (by simp [u, hvar]), get_enterLoad_of_power rfl, get_resetDies (by decide), get_countBoot, hu, hss]
  · rw [complete_get _ (by simp [u, hvar]), get_enterLoad_of_power rfl, get_resetDies (by decide), get_countBoot, hu, hrails]

theorem softStartTimeout_retries (hm : s.mode = .standby) (hs : s.get F.PS_STATUS_SS_STATE [] = 1) (hn : s.tack.ssTries < 2) :
    Completes .softStartTimeout s fun t => t.get F.PS_STATUS_SS_STATE [] = 0 ∧ t.tack.ssTries = s.tack.ssTries + 1
      ∧ t.tack.ssRetryAt = some (s.clock.tick + 1000000000) := by
  refine completes_effect (fun _ => rfl) ?_
  rw [onlyIf_of _ _ (starting_of hm hs), if_neg hn.ne]
  exact ⟨by rw [complete_get _ (by simp), get_set _ (by decide)], by simp, by simp⟩

theorem softStartTimeout_latches (hm : s.mode = .standby) (hs : s.get F.PS_STATUS_SS_STATE [] = 1) (hn : s.tack.ssTries = 2) :
    Completes .softStartTimeout s fun t => t.get F.PS_STATUS_SS_STATE [] = 3 ∧ t.tack.switchHeld = true := by
  refine completes_effect (fun _ => rfl) ?_
  rw [onlyIf_of _ _ (starting_of hm hs), if_pos hn]
  simp [get_set _ (f := F.PS_STATUS_SS_STATE) (n := 3) (by decide)]

theorem softStartRetry_starts {n : Nat} (hr : s.tack.ssRetryAt = some n) (hn : n ≤ s.clock.tick) (hm : s.mode = .standby)
    (hw : s.tack.wake.isSome = true) (hv : s.get F.PS_STATUS_VIN_OK [] = 1) (hh : s.tack.switchHeld = false)
    (hs : s.get F.PS_STATUS_SS_STATE [] = 0) :
    Completes .softStartRetry s fun t => t.get F.PS_STATUS_SS_STATE [] = 1 ∧ t.tack.ssRetryAt = none := by
  have hstart : { s with tack.ssRetryAt := none }.tryStart = { s with tack.ssRetryAt := none }.set F.PS_STATUS_SS_STATE [] 1 :=
    tryStart_starts hm hw hv hh hs rfl
  refine completes_effect (fun _ => rfl) ?_
  simp only [hr, onlyIf_of _ _ (decide_eq_true hn), hstart]
  simp [get_set _ (f := F.PS_STATUS_SS_STATE) (n := 1) (by decide)]

theorem reverseTrip_latches (hm : s.mode ≠ .off) : Completes .reverseTrip s fun t => t.get F.PS_STATUS_REV_TRIP [] = 1 := by
  refine completes_effect (fun _ => rfl) ?_
  rw [onlyIf_of _ _ (by simpa using hm : (s.mode != .off) = true)]
  rw [complete_get _ (by simp), get_opening (by decide), get_set _ (by decide)]

/-- The switch is closing or closed. -/
theorem closed_of (hs : s.get F.PS_STATUS_SS_STATE [] = 1 ∨ s.get F.PS_STATUS_SS_STATE [] = 2) :
    (s.get F.PS_STATUS_SS_STATE [] == 1 || s.get F.PS_STATUS_SS_STATE [] == 2) = true := by simpa using hs

theorem overcurrentTrip_opens (hs : s.get F.PS_STATUS_SS_STATE [] = 1 ∨ s.get F.PS_STATUS_SS_STATE [] = 2) :
    Completes .overcurrentTrip s fun t => t.get F.PS_STATUS_OC_LATCH [] = 1 ∧ t.get F.PS_STATUS_SS_STATE [] = 0
      ∧ t.tack.switchHeld = true := by
  have hlatch : (s.opening F.PS_STATUS_OC_LATCH 0).get F.PS_STATUS_OC_LATCH [] = 1 := by
    rw [get_opening (by decide), get_set _ (by decide)]
  refine completes_effect (fun _ => rfl) ?_
  rw [onlyIf_of _ _ (closed_of hs)]
  refine ⟨?_, ?_, ?_⟩
  · rw [complete_get _ (by simp), get_switchOpens_reg (by decide), ← hlatch]
    rfl
  · rw [complete_get _ (by simp), get_switchOpens_switch]
  · rw [complete_tack, switchHeld_switchOpens]

theorem ovCut_opens (hs : s.get F.PS_STATUS_SS_STATE [] = 1 ∨ s.get F.PS_STATUS_SS_STATE [] = 2) :
    Completes .ovCut s fun t => t.get F.PS_STATUS_OV_CUT [] = 1 ∧ t.get F.PS_STATUS_SS_STATE [] = 0 := by
  have hcut : (s.opening F.PS_STATUS_OV_CUT 2).get F.PS_STATUS_OV_CUT [] = 1 := by
    rw [get_opening (by decide), get_set _ (by decide)]
  refine completes_effect (fun _ => rfl) ?_
  rw [onlyIf_of _ _ (closed_of hs)]
  constructor
  · rw [complete_get _ (by simp), get_switchOpens_reg (by decide), hcut]
  · rw [complete_get _ (by simp), get_switchOpens_switch]

theorem switchRetry_rearms (hm : s.mode = .standby) :
    Completes .switchRetry s fun t => t.tack.switchHeld = false ∧ t.tack.ssTries = 0 ∧ t.get F.PS_STATUS_SS_STATE [] ≠ 3 := by
  refine completes_effect (fun _ => rfl) ?_
  rw [retrySwitch, if_pos (by simp [hm])]
  extract_lets k t
  generalize hu : (if t.get F.PS_STATUS_SS_STATE [] = 3 then t.set F.PS_STATUS_SS_STATE [] 0 else t) = u
  obtain ⟨hss, hvar, htack⟩ : u.get F.PS_STATUS_SS_STATE [] ≠ 3 ∧ u.variant = s.variant ∧ u.tack = t.tack := by
    subst hu
    split
    · exact ⟨by rw [get_set _ (by decide)]; decide, by simp [t], by simp⟩
    · exact ⟨by assumption, rfl, rfl⟩
  refine ⟨by simp [htack, t], by simp [htack, t], ?_⟩
  rw [complete_get _ (by simp [hvar])]
  rcases u.tryStart_cases with h | h <;> rw [h]
  · exact hss
  · rw [get_set _ (by decide)]
    decide

end Sys2Proof.Machine.State

/-- Settles O18: each command runs into the branch that its clause names. -/
theorem powerCommandsComplete : Obligations.PowerCommandsComplete :=
  ⟨fun _ _ => vinQualified_records, fun _ _ => vinUnqualified_records, fun _ => softStartDone_loads,
    fun _ => softStartTimeout_retries, fun _ => softStartTimeout_latches, fun _ _ => softStartRetry_starts,
    fun _ => reverseTrip_latches, fun _ => overcurrentTrip_opens, fun _ => ovCut_opens, fun _ => switchRetry_rearms⟩

end

/-! PROOFS. The registers of the Tack Room, and the excursions of its comparators, that commits, falls to STANDBY and the actions of
the comparators leave alone. -/

section

open Sys2Proof Sys2Proof.Machine Sys2Proof.Machine.State

namespace Sys2Proof.Machine

/-! ## Registers of the Tack Room that an operation leaves alone -/

/-- The registers at 0x10000 to 0x1FFFF but those listed read the same, in the same variant. -/
def TackRegsBut (l : List Nat) (s t : State) : Prop :=
  t.variant = s.variant ∧ ∀ a d, 0x10000 ≤ a → a < 0x20000 → a ∉ l → Map.at t.regs d a = Map.at s.regs d a

section
variable {l l₀ : List Nat} {s t u : State}

theorem TackRegsBut.refl (l : List Nat) (s : State) : TackRegsBut l s s := ⟨rfl, fun _ _ _ _ _ => rfl⟩

theorem TackRegsBut.trans (h : TackRegsBut l s t) (h' : TackRegsBut l t u) : TackRegsBut l s u :=
  ⟨h'.1.trans h.1, fun a d h0 h1 hl => (h'.2 a d h0 h1 hl).trans (h.2 a d h0 h1 hl)⟩

theorem TackRegsBut.symm (h : TackRegsBut l s t) : TackRegsBut l t s :=
  ⟨h.1.symm, fun a d h0 h1 hl => (h.2 a d h0 h1 hl).symm⟩

theorem TackRegsBut.get (h : TackRegsBut l s t) {g : Fld} {jx : List Nat}
    (hg : 0x10000 ≤ g.reg.addr jx ∧ g.reg.addr jx < 0x20000 ∧ g.reg.addr jx ∉ l) : t.get g jx = s.get g jx := by
  simp only [State.get, State.rd, h.1, h.2 _ _ hg.1 hg.2.1 hg.2.2]

/-- What leaves the listed registers alone does not count. -/
theorem tackRegsBut_iff_of (h : TackRegsBut l t u) : TackRegsBut l s u ↔ TackRegsBut l s t :=
  ⟨fun hs => hs.trans h.symm, fun hs => hs.trans h⟩

theorem tackRegsBut_of_regs (hr : u.regs = t.regs) (hv : u.variant = t.variant) : TackRegsBut l s u ↔ TackRegsBut l s t :=
  tackRegsBut_iff_of ⟨hv, fun a d _ _ _ => by rw [hr]⟩

theorem tackRegsBut_refl : TackRegsBut l s s := .refl l s

theorem RegSpec.base_le_addr (r : RegSpec) (ix : List Nat) : r.base ≤ r.addr ix := Nat.le_add_right ..

/-- A register that is listed, or lies above the Tack Room's. -/
theorem tackRegsBut_wr_of {r : RegSpec} {ix : List Nat} (h : 0x20000 ≤ r.base ∨ r.addr ix ∈ l) (v : Nat) :
    TackRegsBut l s (t.wr r ix v) ↔ TackRegsBut l s t :=
  tackRegsBut_iff_of ⟨rfl, fun a d _ h1 hl => Map.at_put_ne _ _ _ _ (by
    rintro rfl
    have := r.base_le_addr ix
    rcases h with h | h
    · omega
    · exact hl h)⟩

theorem tackRegsBut_wr {r : RegSpec} (h : 0x20000 ≤ r.base) (ix : List Nat) (v : Nat) :
    TackRegsBut l s (t.wr r ix v) ↔ TackRegsBut l s t := tackRegsBut_wr_of (.inl h) v

theorem tackRegsBut_set {f : Fld} (h : 0x20000 ≤ f.reg.base) (ix : List Nat) (v : Nat) :
    TackRegsBut l s (t.set f ix v) ↔ TackRegsBut l s t := tackRegsBut_wr h _ _

theorem tackRegsBut_set_listed {f : Fld} {ix : List Nat} (h : f.reg.addr ix ∈ l) (v : Nat) :
    TackRegsBut l s (t.set f ix v) ↔ TackRegsBut l s t := tackRegsBut_wr_of (.inr h) _

theorem tackRegsBut_raise {f : Fld} (h : 0x20000 ≤ f.reg.base) (ix : List Nat) :
    TackRegsBut l s (t.raise f ix) ↔ TackRegsBut l s t :=
  (tackRegsBut_of_regs (t.regs_raise f ix) (by simp)).trans (tackRegsBut_set h ix 1)

theorem tackRegsBut_raise_listed {f : Fld} {ix : List Nat} (h : f.reg.addr ix ∈ l) :
    TackRegsBut l s (t.raise f ix) ↔ TackRegsBut l s t :=
  (tackRegsBut_of_regs (t.regs_raise f ix) (by simp)).trans (tackRegsBut_set_listed h 1)

theorem tackRegsBut_journal (h : journalRegs ⊆ l) (e : JEntry) : TackRegsBut l s (t.journal e) ↔ TackRegsBut l s t :=
  tackRegsBut_iff_of ⟨by simp, fun a d _ _ hl => t.journal_regsBut e a d fun hm => hl (h hm)⟩

theorem tackRegsBut_forEach {α : Type} {f : α → State → State} (h : ∀ a t, TackRegsBut l t (f a t)) (xs : List α) :
    TackRegsBut l s (forEach xs f t) ↔ TackRegsBut l s t :=
  tackRegsBut_iff_of (forEach_induct (fun u => TackRegsBut l t u) f (fun a u hu => hu.trans (h a u)) xs t (.refl l t))

theorem tackRegsBut_ite {c : Prop} [Decidable c] :
    TackRegsBut l s (if c then t else u) ↔ (c → TackRegsBut l s t) ∧ (¬c → TackRegsBut l s u) := by split <;> simp [*]

theorem tackRegsBut_resetDies : TackRegsBut l s t.resetDies ↔ TackRegsBut l s t :=
  tackRegsBut_iff_of ⟨rfl, fun a d h0 h1 _ => Map.at_keep State.outsideDies t.regs d a (by simp [State.outsideDies]; omega)⟩

/-! ## What the action of a comparator leaves alone (R73) -/

/-- The registers of the Tack Room that a fall to STANDBY or the journal may change. -/
def standbyRegs : List Nat := R.TK_STATUS.base :: journalRegs

theorem tackRegsBut_showCommit (c : Commit) : TackRegsBut l s (t.showCommit c) ↔ TackRegsBut l s t := by
  unfold State.showCommit
  dsimp only
  split <;> simp (disch := decide) only [tackRegsBut_wr, tackRegsBut_set]

theorem tackRegsBut_startCommit (c : Commit) : TackRegsBut l s (t.startCommit c) ↔ TackRegsBut l s t := by
  unfold State.startCommit
  dsimp only
  rw [tackRegsBut_showCommit]
  split
  · exact tackRegsBut_of_regs rfl rfl
  · rw [tackRegsBut_set (by decide)]
    exact tackRegsBut_of_regs rfl rfl

theorem tackRegsBut_bumpCommitSeq : TackRegsBut l s t.bumpCommitSeq ↔ TackRegsBut l s t := tackRegsBut_set (by decide) _ _

theorem tackRegsBut_endCommit : TackRegsBut l s t.endCommit ↔ TackRegsBut l s t := by
  have h (k : Option Commit) : TackRegsBut l s { t with modes.commit := none, modes.hidden := k } ↔ TackRegsBut l s t :=
    tackRegsBut_of_regs rfl rfl
  unfold State.endCommit
  dsimp only
  split
  · exact tackRegsBut_of_regs rfl rfl
  · split
    · rw [tackRegsBut_showCommit, tackRegsBut_set (by decide), tackRegsBut_bumpCommitSeq, h]
    · split
      · rw [tackRegsBut_raise (by decide), tackRegsBut_showCommit, tackRegsBut_bumpCommitSeq, h]
      · rw [tackRegsBut_startCommit, tackRegsBut_bumpCommitSeq, h]

theorem tackRegsBut_cancelCommit (n : Nat) : TackRegsBut l s (t.cancelCommit n) ↔ TackRegsBut l s t := by
  unfold State.cancelCommit
  simp (disch := decide) only [tackRegsBut_endCommit, tackRegsBut_raise, tackRegsBut_set]

theorem tackRegsBut_tackDrain (n : Nat) : TackRegsBut l s (t.tackDrain n) ↔ TackRegsBut l s t := by
  unfold State.tackDrain
  dsimp only
  split
  · rw [tackRegsBut_startCommit, tackRegsBut_bumpCommitSeq]
  · split
    · rw [tackRegsBut_showCommit]
      exact tackRegsBut_of_regs rfl rfl
    · split
      · exact tackRegsBut_of_regs rfl rfl
      · rw [tackRegsBut_startCommit, tackRegsBut_bumpCommitSeq, tackRegsBut_cancelCommit]

theorem tackRegsBut_tryStart : TackRegsBut l s t.tryStart ↔ TackRegsBut l s t := by
  rcases t.tryStart_cases with h | h <;> rw [h]
  exact tackRegsBut_set (by decide) _ _

theorem tackRegsBut_wakeBy (hl : R.TK_STATUS.base ∈ l) (c : Nat) : TackRegsBut l s (t.wakeBy c) ↔ TackRegsBut l s t := by
  unfold State.wakeBy
  split
  · rw [tackRegsBut_tryStart, tackRegsBut_set_listed hl]
    exact tackRegsBut_of_regs rfl rfl
  · rfl

theorem tackRegsBut_enterStandby (hl : R.TK_STATUS.base ∈ l) : TackRegsBut l s t.enterStandby ↔ TackRegsBut l s t := by
  have h : TackRegsBut l s { t with mode := .standby } ↔ TackRegsBut l s t := tackRegsBut_of_regs rfl rfl
  unfold State.enterStandby
  dsimp only
  split
  · rw [tackRegsBut_wakeBy hl, h]
  · exact h

theorem tackRegsBut_standbyAgain (hl : R.TK_STATUS.base ∈ l) : TackRegsBut l s t.standbyAgain ↔ TackRegsBut l s t := by
  unfold State.standbyAgain
  dsimp only
  split
  · rw [tackRegsBut_wakeBy hl, tackRegsBut_enterStandby hl]
  · rw [tackRegsBut_enterStandby hl]

theorem tackRegsBut_fallToStandby (hl : R.TK_STATUS.base ∈ l) : TackRegsBut l s t.fallToStandby ↔ TackRegsBut l s t := by
  unfold State.fallToStandby
  rw [tackRegsBut_enterStandby hl, tackRegsBut_set (by decide), tackRegsBut_set (by decide), tackRegsBut_resetDies]

theorem tackRegsBut_abandonAttempt : TackRegsBut l s t.abandonAttempt ↔ TackRegsBut l s t := by
  unfold State.abandonAttempt
  split
  · rfl
  · exact tackRegsBut_of_regs rfl rfl

theorem tackRegsBut_actionDrain (hl : R.TK_STATUS.base ∈ l) : TackRegsBut l s t.actionDrain ↔ TackRegsBut l s t := by
  unfold State.actionDrain
  split
  · rfl
  · split
    case h_1 => exact tackRegsBut_tackDrain 0
    case h_2 => rw [tackRegsBut_fallToStandby hl, tackRegsBut_abandonAttempt]
    case h_3 =>
      split
      · exact tackRegsBut_of_regs rfl rfl
      · rfl
    case h_4 => exact tackRegsBut_of_regs rfl rfl
    case h_5 => rfl

theorem tackRegsBut_compAction (hl : standbyRegs ⊆ l) (n action avg : Nat) :
    TackRegsBut l s (t.compAction n action avg) ↔ TackRegsBut l s t := by
  have hst : R.TK_STATUS.base ∈ l := hl (by decide)
  have hev : R.TK_EVT.addr [] ∈ l := hl (by decide)
  unfold State.compAction
  extract_lets u
  have hu : TackRegsBut l s u ↔ TackRegsBut l s t := by
    unfold u
    split
    · rfl
    · exact tackRegsBut_raise_listed hev
  rw [← hu]
  split
  · exact tackRegsBut_actionDrain hst
  · split
    · exact tackRegsBut_of_regs (beginEmergency_regs ..) (beginEmergency_variant ..)
    · split
      · exact tackRegsBut_wakeBy hst 3
      · rfl

end

namespace State

variable {l : List Part} {s : State}

/-! ## The excursions of the comparators -/

@[simp] theorem wakeBy_excursion (s : State) (c : Nat) : (s.wakeBy c).tack.excursion = s.tack.excursion := by
  obtain ⟨w, h⟩ := tack_wakeBy s c
  rw [h]

@[simp] theorem enterStandby_excursion (s : State) : s.enterStandby.tack.excursion = s.tack.excursion := by
  unfold enterStandby
  dsimp only
  split <;> simp

@[simp] theorem standbyAgain_excursion (s : State) : s.standbyAgain.tack.excursion = s.tack.excursion := by
  unfold standbyAgain
  dsimp only
  split <;> simp

@[simp] theorem beginEmergency_excursion (s : State) (c a : Nat) : (s.beginEmergency c a).tack.excursion = s.tack.excursion := by
  unfold beginEmergency
  split
  case h_1 | h_2 | h_3 => split <;> rfl
  all_goals rfl

@[simp] theorem tackDrain_tack (s : State) (n : Nat) : (s.tackDrain n).tack = s.tack :=
  have h : Changes [.regs, .modes, .ev] s (s.tackDrain n) := by simp
  h .tack (by decide)

@[simp] theorem abandonAttempt_excursion (s : State) : s.abandonAttempt.tack.excursion = s.tack.excursion := by
  unfold abandonAttempt
  split <;> rfl

@[simp] theorem actionDrain_excursion (s : State) : s.actionDrain.tack.excursion = s.tack.excursion := by
  unfold actionDrain
  split
  · rfl
  · split
    case h_2 => simp [fallToStandby]
    case h_3 => split <;> rfl
    all_goals simp

@[simp] theorem compAction_excursion (s : State) (n action avg : Nat) : (s.compAction n action avg).tack.excursion = s.tack.excursion := by
  unfold compAction
  extract_lets u
  have hu : u.tack = s.tack := by unfold u; split <;> simp
  simp only [← hu]
  split
  · simp
  · split
    · simp
    · split <;> simp

end State

end Sys2Proof.Machine

end

/-! PROOFS. Comparators, wakes and the stages of an emergency DRAIN: what each command shows when it completes. -/

section

open Sys2Proof Sys2Proof.Machine Sys2Proof.Machine.State

namespace Sys2Proof.Machine.State

variable {s : State}

/-! ## Comparators: the commands -/

/-- The registers of a comparator are clear of those that its action and the journal may change. -/
theorem clear_cmpStat {n : Nat} (h : n < 8) :
    0x10000 ≤ R.TK_CMP_STAT.addr [n] ∧ R.TK_CMP_STAT.addr [n] < 0x20000 ∧ R.TK_CMP_STAT.addr [n] ∉ standbyRegs := by
  simp [RegSpec.addr, R.TK_CMP_STAT, standbyRegs, journalRegs, R.TK_STATUS, R.FT_LAST, R.TK_JRNL_HEAD, R.TK_JRNL_COUNT, R.TK_EVT]
  omega

theorem clear_cmpCnt {n : Nat} (h : n < 8) :
    0x10000 ≤ R.TK_CMP_CNT.addr [n] ∧ R.TK_CMP_CNT.addr [n] < 0x20000 ∧ R.TK_CMP_CNT.addr [n] ∉ standbyRegs := by
  simp [RegSpec.addr, R.TK_CMP_CNT, standbyRegs, journalRegs, R.TK_STATUS, R.FT_LAST, R.TK_JRNL_HEAD, R.TK_JRNL_COUNT, R.TK_EVT]
  omega

theorem cmpStat_ne_cmpCnt (n : Nat) : R.TK_CMP_STAT.addr [n] ≠ R.TK_CMP_CNT.addr [n] := addr_ne_of_stride rfl rfl (by decide) n n

/-- The comparators of `t` show what those of `s` show, and stand in the same excursions. -/
def SameComparators (s t : State) : Prop := TackRegsBut standbyRegs s t ∧ t.tack.excursion = s.tack.excursion

theorem SameComparators.trans {s t u : State} (h : SameComparators s t) (h' : SameComparators t u) : SameComparators s u :=
  ⟨h.1.trans h'.1, h'.2.trans h.2⟩

theorem sameComparators_journal (s : State) (e : JEntry) : SameComparators s (s.journal e) := by
  refine ⟨(tackRegsBut_journal (by decide) e).2 (.refl _ s), ?_⟩
  obtain ⟨m, r, d, q, h⟩ := s.journal_frame e
  rw [h]

theorem sameComparators_compAction (s : State) (n action avg : Nat) : SameComparators s (s.compAction n action avg) :=
  ⟨(tackRegsBut_compAction (by decide) n action avg).2 (.refl _ s), by simp⟩

theorem sameComparators_of_eq {s t : State} (hr : t.regs = s.regs) (hv : t.variant = s.variant)
    (he : t.tack.excursion = s.tack.excursion) : SameComparators s t :=
  ⟨(tackRegsBut_of_regs hr hv).2 (.refl _ s), he⟩

theorem sameComparators_ite {s t u : State} {c : Prop} [Decidable c] (h : SameComparators s t) (h' : SameComparators s u) :
    SameComparators s (if c then t else u) := by split <;> assumption

theorem comparatorTrip_trips {n value avg : Nat} (hn : n < 8) (hr : s.tackRuns = true) (ha : s.compArmed n = true)
    (he : bit s.tack.excursion n = false) (ho : s.compOutside n (compReading n value) avg = true) :
    Completes (.comparatorTrip n value avg) s fun t => bit t.tack.excursion n = true ∧ t.get F.TK_CMP_STAT_TRIPPED [n] = 1
      ∧ t.get F.TK_CMP_STAT_OUTSIDE [n] = 1
      ∧ t.get F.TK_CMP_CNT_ALL [n] = satAdd (2 ^ 32 - 1) (s.get F.TK_CMP_CNT_ALL [n]) 1 := by
  have hopen : (decide (n < 8) && s.tackRuns && s.compArmed n && !bit s.tack.excursion n
      && s.compOutside n (compReading n value) avg) = true := by simp [hn, hr, ha, he, ho]
  have hne := cmpStat_ne_cmpCnt n
  refine completes_effect (fun _ => rfl) ?_
  rw [onlyIf_of _ _ hopen]
  extract_lets high action qual k x y z t low copy u k' v w
  have hx (f : Fld) : x.get f [n] = s.get f [n] := get_congr rfl rfl f [n]
  have htripped : z.get F.TK_CMP_STAT_TRIPPED [n] = 1 := by
    unfold z
    rw [addSat, get_set_reg _ _ _ _ _ _ hne, get_set_beside _ (by decide), get_set_beside _ (by decide), get_set _ (by decide)]
  have houtside : z.get F.TK_CMP_STAT_OUTSIDE [n] = 1 := by
    unfold z
    rw [addSat, get_set_reg _ _ _ _ _ _ hne, get_set_beside _ (by decide), get_set _ (by decide)]
  have hcount : z.get F.TK_CMP_CNT_ALL [n] = satAdd (2 ^ 32 - 1) (s.get F.TK_CMP_CNT_ALL [n]) 1 := by
    have hy : y.get F.TK_CMP_CNT_ALL [n] = s.get F.TK_CMP_CNT_ALL [n] := by
      rw [get_set_reg _ _ _ _ _ _ hne.symm, get_set_reg _ _ _ _ _ _ hne.symm, get_set_reg _ _ _ _ _ _ hne.symm, hx]
    unfold z
    rw [addSat, get_set_self _ _ _ _ (by decide) (by decide), hy]
    exact Nat.mod_eq_of_lt (Nat.lt_succ_of_le (Nat.min_le_left ..))
  have hexc : bit z.tack.excursion n = true := bit_setBit_self s.tack.excursion n true
  have hvar : z.variant = s.variant := by simp [z, y, x]
  clear_value z
  have ht : SameComparators z t := sameComparators_journal _ _
  clear_value t
  have hu : SameComparators t u :=
    sameComparators_ite ⟨(tackRegsBut_set (by decide) _ _).2 (.refl _ t), by simp⟩ (sameComparators_of_eq rfl rfl rfl)
  clear_value u
  have hv : SameComparators u v := sameComparators_ite (sameComparators_of_eq rfl rfl rfl) (sameComparators_of_eq rfl rfl rfl)
  clear_value v
  have hw : SameComparators v w := sameComparators_compAction _ _ _ _
  clear_value w
  have hlast : SameComparators w (if (low && w.mode == .standby) = true then { w with mode := .off } else w) :=
    sameComparators_ite (sameComparators_of_eq rfl rfl rfl) (sameComparators_of_eq rfl rfl rfl)
  obtain ⟨hregs, hexc'⟩ := (((ht.trans hu).trans hv).trans hw).trans hlast
  generalize (if (low && w.mode == .standby) = true then { w with mode := .off } else w) = r at *
  have hget := hregs.1.trans hvar
  refine ⟨by rw [complete_tack, hexc', hexc], ?_, ?_, ?_⟩
  · rw [complete_get _ hget, hregs.get (clear_cmpStat hn), htripped]
  · rw [complete_get _ hget, hregs.get (clear_cmpStat hn), houtside]
  · rw [complete_get _ hget, hregs.get (clear_cmpCnt hn), hcount]

/-- VAUX that returns ends the excursion of comparator 3, and changes no more of the comparators. -/
theorem tackRegsBut_vauxReturns (s : State) : TackRegsBut standbyRegs s s.vauxReturns := by
  have h (k : Tack) : TackRegsBut standbyRegs s ({ s with tack := k }.set F.PS_STATUS_VAUX_OK [] 1) :=
    (tackRegsBut_set (by decide) _ _).2 ((tackRegsBut_of_regs rfl rfl).2 (.refl _ s))
  unfold vauxReturns
  split
  · split
    · dsimp only
      split
      · exact (tackRegsBut_standbyAgain (by decide)).2 (h _)
      · exact h _
    · exact h _
  · split
    · exact h _
    · exact .refl _ s

theorem bit_setBit_false {v n : Nat} (i : Nat) (h : bit v n = false) : bit (setBit v i false) n = false := by
  by_cases hi : n = i
  · rw [hi, bit_setBit_self]
  · rw [bit_setBit_other _ _ _ _ hi, h]

theorem excursion_vauxReturns (s : State) {n : Nat} (h : bit s.tack.excursion n = false) : bit s.vauxReturns.tack.excursion n = false := by
  have h3 := bit_setBit_false 3 h
  unfold vauxReturns
  split
  · split
    · dsimp only
      split <;> simp [h3]
    · simp [h]
  · split
    · simp [h3]
    · exact h

theorem comparatorWindowReturn_ends {n value avg : Nat} (hn : n < 8) (ho : s.compOutside n (compReading n value) avg = false) :
    Completes (.comparatorWindowReturn n value avg) s fun t => bit t.tack.excursion n = false
      ∧ t.get F.TK_CMP_STAT_OUTSIDE [n] = 0 ∧ t.get F.TK_CMP_STAT_VALUE [n] = compReading n value % 2 ^ 16 := by
  have hopen : (decide (n < 8) && !s.compOutside n (compReading n value) avg) = true := by simp [hn, ho]
  refine completes_effect (fun _ => rfl) ?_
  rw [onlyIf_of _ _ hopen]
  extract_lets k t
  have hexc : bit t.tack.excursion n = false := bit_setBit_self s.tack.excursion n false
  have houtside : t.get F.TK_CMP_STAT_OUTSIDE [n] = 0 := by rw [get_set_beside _ (by decide), get_set _ (by decide)]
  have hvalue : t.get F.TK_CMP_STAT_VALUE [n] = compReading n value % 2 ^ 16 := get_set_self _ _ _ _ (by decide) (by decide)
  have hvar : t.variant = s.variant := by simp [t]
  clear_value t
  split
  · have hregs := tackRegsBut_vauxReturns t
    have hget := hregs.1.trans hvar
    refine ⟨by rw [complete_tack, excursion_vauxReturns t hexc], ?_, ?_⟩
    · rw [complete_get _ hget, hregs.get (clear_cmpStat hn), houtside]
    · rw [complete_get _ hget, hregs.get (clear_cmpStat hn), hvalue]
  · exact ⟨hexc, by rw [complete_get _ hvar, houtside], by rw [complete_get _ hvar, hvalue]⟩

/-! ## Wakes and SMBus: the commands -/

theorem wakeNow_wakes (hr : s.tackRuns = true) (hm : s.mode = .standby) :
    Completes (.wakeNow true) s fun t => t.tack.wake = some 2 ∧ t.get F.TK_STATUS_LAST_WAKE [] = 2 ∧ t.get F.TK_WAKE_CTRL_NOW [] = 1 := by
  refine completes_effect (fun _ => rfl) ?_
  rw [if_pos rfl, onlyIf_of _ _ hr, wakeBy_of_standby (by simpa using hm)]
  refine ⟨by simp, ?_, ?_⟩
  · rw [complete_get _ (by simp), get_tryStart (.inl (by decide)), get_set _ (by decide)]
  · rw [complete_get _ (by simp), get_tryStart (.inl (by decide)), get_set_reg _ _ _ _ _ _ (by decide)]
    exact get_set s (by decide) []

theorem timedWake_wakes (hr : s.tackRuns = true) (hm : s.mode = .standby) (hen : s.get F.TK_WAKE_CTRL_TIMED_EN [] = 1)
    (hdue : (s.clock.sec % 2 ^ 32 + 2 ^ 32 - s.get F.TK_WAKE_SEC_ALL []) % 2 ^ 32 < 2 ^ 31) :
    Completes .timedWake s fun t => t.get F.TK_WAKE_CTRL_TIMED_EN [] = 0 ∧ t.tack.wake = some 4
      ∧ t.get F.TK_STATUS_LAST_WAKE [] = 4 := by
  have hopen : (s.tackRuns && s.isOn F.TK_WAKE_CTRL_TIMED_EN []
      && decide ((s.clock.sec % 2 ^ 32 + 2 ^ 32 - s.get F.TK_WAKE_SEC_ALL []) % 2 ^ 32 < 2 ^ 31)) = true := by
    rw [hr, isOn, hen, decide_eq_true hdue]
    rfl
  refine completes_effect (fun _ => rfl) ?_
  rw [onlyIf_of _ _ hopen, wakeBy_of_standby (by simpa using hm)]
  refine ⟨?_, by simp, ?_⟩
  · rw [complete_get _ (by simp), get_tryStart (.inl (by decide)), get_set_reg _ _ _ _ _ _ (by decide)]
    exact get_set s (by decide) []
  · rw [complete_get _ (by simp), get_tryStart (.inl (by decide)), get_set _ (by decide)]

theorem smbusSetOffset_sets {a : Nat} (hr : s.tackRuns = true) : Completes (.smbusSetOffset a) s fun t => t.tack.smbOffset = a % 2 ^ 32 := by
  refine completes_effect (fun _ => rfl) ?_
  rw [onlyIf_of _ _ hr]
  rfl

theorem smbusAlertResponse_answers (hr : s.tackRuns = true) (ha : s.smbAlert = true) :
    Completes .smbusAlertResponse s fun t => t.out.readData = s.tack.smbAddr := by
  refine completes_effect (fun _ => rfl) ?_
  rw [onlyIf_of _ _ (by rw [hr, ha]; rfl)]
  rfl

/-! ## The stages of an emergency DRAIN (R78) -/

/-- A stage that is due has its effect. -/
theorem edrainAt_due {i : Nat} {ready : EDrain → Bool} {e : EDrain} (he : s.tack.edrain = some e) (hr : ready e = true)
    (ht : i ≤ s.since e.t0) (f : EDrain → State → State) : s.edrainAt i ready f = f e s := by
  rw [edrainAt, he]
  exact onlyIf_of _ _ (by simp [hr, ht])

@[simp] theorem flashAbort_tack (s : State) : s.flashAbort.tack = s.tack :=
  have h : Changes [.free, .load, .flash] s s.flashAbort := by simp
  h .tack (by decide)

/-! ## Commits that an emergency DRAIN cancels (R113) -/

@[simp] theorem showCommit_modes (s : State) (c : Commit) : (s.showCommit c).modes = s.modes :=
  have h : Changes [.regs] s (s.showCommit c) := by simp
  h .modes (by decide)

/-- The commit shown ends: no commit is hidden behind it any more, and an orderly DRAIN goes on. -/
theorem modes_endCommit (s : State) : s.endCommit.modes.hidden = none ∧ s.endCommit.modes.odrain = s.modes.odrain := by
  unfold endCommit
  dsimp only
  split
  · exact ⟨by assumption, rfl⟩
  · split
    · simp [bumpCommitSeq]
    · split <;> simp [bumpCommitSeq, startCommit]
      split <;> simp

theorem modes_cancelCommit (s : State) (n : Nat) :
    (s.cancelCommit n).modes.hidden = none ∧ (s.cancelCommit n).modes.odrain = s.modes.odrain := by
  obtain ⟨hh, ho⟩ := modes_endCommit ((((s.set F.MD_COMMIT_STAT_STATE [] 5).set F.MD_COMMIT_STAT_REASON [] n).set F.MD_MODE_MIXED [] 0).raise
    F.MD_EVT_COMMIT_CANCELLED [])
  exact ⟨hh, ho.trans (by simp)⟩

/-- A hidden commit that has not come to its instant, and is not cancelled, is over. -/
def HiddenOver (s : State) : Prop := (s.modes.hidden.all fun h => h.reached || h.state == 5) = true

theorem modes_cancelHidden (s : State) (n : Nat) :
    HiddenOver (s.cancelHidden n) ∧ (s.cancelHidden n).modes.odrain = s.modes.odrain := by
  unfold cancelHidden HiddenOver
  split
  · split <;> simp [*]
  · simp [*]

/-- After the pending commits are cancelled, a hidden commit is one that has been reached or cancelled. -/
theorem modes_cancelPending (s : State) (n : Nat) :
    HiddenOver (s.cancelPending n) ∧ (s.cancelPending n).modes.odrain = s.modes.odrain := by
  unfold cancelPending
  extract_lets t
  have ht : HiddenOver t ∧ t.modes.odrain = s.modes.odrain := by
    unfold t
    split
    · exact modes_cancelHidden s n
    · refine ⟨?_, rfl⟩
      unfold HiddenOver
      cases hh : s.modes.hidden <;> simp_all
  clear_value t
  split
  · obtain ⟨hh, ho⟩ := modes_cancelCommit t n
    exact ⟨by rw [HiddenOver, hh]; rfl, ho.trans ht.2⟩
  · exact ht

@[simp] theorem unitModes_modes (s : State) (m : Nat) : (s.unitModes m).modes = s.modes :=
  forEach_keeps State.modes _ (fun _ _ => set_modes ..) _ _

theorem emergencyDrain_enters {e : EDrain} (he : s.tack.edrain = some e) (hn : e.entered = false) (ht : 300 ≤ s.since e.t0) :
    Completes .emergencyDrain s fun t => t.mode = .drain ∧ t.tack.edrain = some { e with entered := true } ∧ t.modes.odrain = none
      ∧ (t.modes.hidden.all fun h => h.reached || h.state == 5) = true := by
  refine completes_effect (fun _ => rfl) ?_
  rw [edrainAt_due he (by simp [hn]) ht]
  extract_lets t u v w
  have hu : u.tack = t.tack :=
    have h : Changes [.regs, .ctrs, .free, .pace, .load, .flash, .tabs, .badTabs, .osp, .fab] t u := by simp [u]
    h .tack (by decide)
  have hw : Changes [.regs, .modes, .ev] w ((w.unitModes 4).cancelPending 7) := by simp
  obtain ⟨hhidden, hodrain⟩ := modes_cancelPending (w.unitModes 4) 7
  refine ⟨hw .mode (by decide), ?_, ?_, hhidden⟩
  · have htack : w.tack.edrain = t.tack.edrain := congrArg Tack.edrain hu
    exact (congrArg Tack.edrain (hw .tack (by decide))).trans htack
  · rw [complete_modes, hodrain, unitModes_modes]

theorem macStop_discards {e : EDrain} (he : s.tack.edrain = some e) (hn : e.entered = true) (hm : e.macsStopped = false)
    (ht : 1000 ≤ s.since e.t0) : Does .macStop s { s with tack.edrain := some { e with macsStopped := true } }.dropPartial :=
  does_of_effect (fun _ => rfl) (edrainAt_due he (by simp [hn, hm]) ht _)

theorem tallyFreeze_freezes {e : EDrain} (he : s.tack.edrain = some e) (hm : e.macsStopped = true) (hf : e.frozen = false)
    (ht : 2000 ≤ s.since e.t0) :
    exec .tallyFreeze s = .next { s with tack.edrain := some { e with frozen := true }, tally.stopped := true } :=
  does_of_effect (u := { s with tack.edrain := some { e with frozen := true }, tally.stopped := true }) (fun _ => rfl)
    (edrainAt_due he (by simp [hm, hf]) ht _)

theorem transmittersOff_discards {e : EDrain} (he : s.tack.edrain = some e) (hf : e.frozen = true) (hx : e.txOff = false)
    (ht : 5000 ≤ s.since e.t0) :
    Does .transmittersOff s { s with tack.edrain := some { e with txOff := true } }.discardFlight.allPortsDown :=
  does_of_effect (fun _ => rfl) (edrainAt_due he (by simp [hf, hx]) ht _)

theorem dieTotalsArrive_adds {e : EDrain} {d : Nat} (he : s.tack.edrain = some e) (hf : e.frozen = true) (hs : e.sealed = false)
    (hl : s.live d = true) (hd : d < 8) (hx : ∀ x ∈ e.totals, x.1 ≠ d) (ht : 2000 ≤ s.since e.t0) :
    exec (.dieTotalsArrive d) s
      = .next { s with tack.edrain := some { e with totals := e.totals ++ [(d, (s.tallyDieOctets d).1, (s.tallyDieOctets d).2)] } } := by
  have hdoes : Does (.dieTotalsArrive d) s
      { s with tack.edrain := some { e with totals := e.totals ++ [(d, (s.tallyDieOctets d).1, (s.tallyDieOctets d).2)] } } :=
    does_of_effect (fun _ => rfl) (edrainAt_due he (by simpa [hf, hs, hl, hd] using hx) ht _)
  exact hdoes

/-- Retention memory reads back what has been written (R92). -/
theorem retRead_retWrite (s : State) (a : Nat) (bs : List Byte) : (s.retWrite a bs).retRead a bs.length = bs :=
  Map.run_putAll 0 bs s.tack.ret a

theorem retRead_sealMarker (s : State) (e : EDrain) :
    (s.sealMarker e).retRead (0x1000 + 256 * s.get F.TK_LM_HEAD_NEXT []) (s.lossMarker e).length = s.lossMarker e := by
  unfold sealMarker
  generalize s.lossMarker e = bs
  simp only [retRead, addSat_tack, set_tack]
  exact retRead_retWrite s _ bs

theorem get_next_advanced (t : State) (n : Nat) :
    ((t.set F.TK_LM_HEAD_NEXT [] ((n + 1) % 16)).addSat F.TK_LM_HEAD_COUNT [] 1).get F.TK_LM_HEAD_NEXT [] = (n + 1) % 16 := by
  rw [addSat, get_set_beside _ (by decide), get_set_self _ _ _ _ (by decide) (by decide)]
  exact Nat.mod_mod _ 16

theorem get_marked (u : State) (n : Option Nat) (f : Fld) : State.get { u with tack.copyMarker := n } f [] = u.get f [] :=
  get_congr (s := u) rfl rfl f []

theorem get_next_sealMarker (s : State) (e : EDrain) :
    (s.sealMarker e).get F.TK_LM_HEAD_NEXT [] = (s.get F.TK_LM_HEAD_NEXT [] + 1) % 16 := by
  unfold sealMarker
  dsimp only
  rw [get_marked, get_next_advanced]

theorem get_setEDrain (s : State) (e : EDrain) (f : Fld) (ix : List Nat) : (s.setEDrain e).get f ix = s.get f ix :=
  get_congr (s := s) rfl rfl f ix

@[simp] theorem setEDrain_variant (s : State) (e : EDrain) : (s.setEDrain e).variant = s.variant := (rfl)

@[simp] theorem setEDrain_edrain (s : State) (e : EDrain) : (s.setEDrain e).tack.edrain = some e := (rfl)

@[simp] theorem setEDrain_retRead (s : State) (e : EDrain) (a n : Nat) : (s.setEDrain e).retRead a n = s.retRead a n := (rfl)

@[simp] theorem sealMarker_variant (s : State) (e : EDrain) : (s.sealMarker e).variant = s.variant := by simp [sealMarker]

theorem lossMarkerSeal_seals {e : EDrain} (he : s.tack.edrain = some e) (hx : e.txOff = true) (hs : e.sealed = false)
    (ht : 8000 ≤ s.since e.t0) :
    Completes .lossMarkerSeal s fun t => t.tack.edrain = some { s.atSeal e with sealed := true }
      ∧ t.get F.TK_LM_HEAD_NEXT [] = (s.get F.TK_LM_HEAD_NEXT [] + 1) % 16
      ∧ t.retRead (0x1000 + 256 * s.get F.TK_LM_HEAD_NEXT []) (s.lossMarker (s.atSeal e)).length = s.lossMarker (s.atSeal e) := by
  refine completes_effect (fun _ => rfl) ?_
  rw [edrainAt_due he (by simp [hx, hs]) ht]
  refine ⟨by rw [complete_tack, setEDrain_edrain], ?_, ?_⟩
  · rw [complete_get _ (by simp), get_setEDrain, get_next_sealMarker]
  · rw [complete_retRead, setEDrain_retRead, retRead_sealMarker]

theorem journalTailWrite_writes {e : EDrain} (hh : s.tack.haltFall = false) (he : s.tack.edrain = some e) (hs : e.sealed = true)
    (hl : e.tail = false) (ht : 12000 ≤ s.since e.t0) :
    Completes .journalTailWrite s fun t => t.tack.edrain = some { e with tail := true } ∧ t.flt.jq = [] := by
  refine completes_effect (fun _ => rfl) ?_
  rw [if_neg (by simp [hh]), edrainAt_due he (by simp [hs, hl]) ht]
  exact ⟨rfl, rfl⟩

theorem get_enterStandby {g : Fld} {jx : List Nat} (h : ClearOfStart g jx) (h' : g.reg.addr jx ≠ R.TK_STATUS.addr []) (s : State) :
    s.enterStandby.get g jx = s.get g jx := by
  have hs : State.get { s with mode := .standby } g jx = s.get g jx := get_congr rfl rfl g jx
  unfold enterStandby
  dsimp only
  split
  · rw [get_wakeBy h h', hs]
  · exact hs

@[simp] theorem wakeBy_edrain (s : State) (c : Nat) : (s.wakeBy c).tack.edrain = s.tack.edrain := by
  obtain ⟨w, h⟩ := tack_wakeBy s c
  rw [h]

@[simp] theorem enterStandby_edrain (s : State) : s.enterStandby.tack.edrain = s.tack.edrain := by
  unfold enterStandby
  dsimp only
  split <;> simp

@[simp] theorem noteReset_edrain (s : State) (c m : Nat) : (s.noteReset c m).tack.edrain = s.tack.edrain := by
  simp only [noteReset, wr_tack, headerSeal, retPut, retWrite]

@[simp] theorem noteReset_variant (s : State) (c m : Nat) : (s.noteReset c m).variant = s.variant := (rfl)

/-- A reset that is recorded shows in MD_LAST_RESET and nowhere else. -/
theorem get_noteReset {g : Fld} {jx : List Nat} (h : g.reg.addr jx ≠ R.MD_LAST_RESET.addr []) (s : State) (c m : Nat) :
    (s.noteReset c m).get g jx = s.get g jx := by
  unfold noteReset
  rw [State.get, rd_wr_ne _ _ _ _ _ _ h]
  rfl

@[simp] theorem flashAbort_variant (s : State) : s.flashAbort.variant = s.variant := by
  unfold flashAbort
  split
  · rfl
  · dsimp only
    split
    · rfl
    · split
      · split <;> rfl
      · rfl

theorem railsGone_rests (hv : s.tack.vauxLowAt = none) (hk : s.tack.copyCalled = false) :
    s.railsGone.mode = .standby ∧ s.railsGone.tack.edrain = none ∧ s.railsGone.get F.PS_STATUS_RAILS_ON [] = 0
      ∧ s.railsGone.variant = s.variant := by
  unfold railsGone
  extract_lets t k u v
  have hrails : u.get F.PS_STATUS_RAILS_ON [] = 0 := by
    have ht : t.get F.PS_STATUS_RAILS_ON [] = 0 := by rw [get_set_beside _ (by decide), get_set _ (by decide)]
    exact ht
  have hlow : u.tack.vauxLowAt = none := by simp [u, k, t, hv]
  have hedrain : u.tack.edrain = none := rfl
  have hvar : u.variant = s.variant := by simp [u, t]
  clear_value u
  have hclear : ClearOfStart F.PS_STATUS_RAILS_ON [] := .inr (by decide)
  obtain ⟨h1, h2, h3⟩ : v.get F.PS_STATUS_RAILS_ON [] = 0 ∧ v.tack.edrain = none ∧ v.variant = s.variant := by
    unfold v
    split
    · exact ⟨by rw [get_noteReset (by decide), hrails], by simp [hedrain], by simp [hvar]⟩
    · exact ⟨hrails, hedrain, hvar⟩
  rw [if_neg (by simp [hlow]), if_neg (by simp [hk])]
  exact ⟨by simp, by simp [h2], by rw [get_enterStandby hclear (by decide), h1], by simp [h3]⟩

theorem railsOff_falls {e : EDrain} (hc : s.tack.copy = .none) (hh : s.tack.haltFall = false) (he : s.tack.edrain = some e)
    (hl : e.tail = true) (ht : 15000 ≤ s.since e.t0) (hk : s.tack.copyCalled = false) (hv : s.tack.vauxLowAt = none) :
    Completes .railsOff s fun t => t.mode = .standby ∧ t.tack.edrain = none ∧ t.get F.PS_STATUS_RAILS_ON [] = 0 := by
  obtain ⟨hmode, hedrain, hrails, hvar⟩ := railsGone_rests hv hk
  refine completes_effect (fun _ => rfl) ?_
  rw [if_neg (by simp [hc]), if_neg (by simp [hh]), edrainAt_due he hl ht, powerDown, if_neg (by simp [hk])]
  exact ⟨hmode, hedrain, by rw [complete_get _ hvar, hrails]⟩

theorem railsOff_copies {e : EDrain} (hc : s.tack.copy = .none) (hh : s.tack.haltFall = false) (he : s.tack.edrain = some e)
    (hl : e.tail = true) (ht : 15000 ≤ s.since e.t0) (hk : s.tack.copyCalled = true) :
    Completes .railsOff s fun t => t.modes.inReset = true ∧ t.tack.copy = .due := by
  refine completes_effect (fun _ => rfl) ?_
  rw [if_neg (by simp [hc]), if_neg (by simp [hh]), edrainAt_due he hl ht, powerDown, if_pos hk]
  dsimp only
  split <;> exact ⟨rfl, rfl⟩

end Sys2Proof.Machine.State

/-- Settles O19: each command runs into the branch that its clause names, and each stage of an emergency DRAIN that is due has its
effect. -/
theorem protectionCommandsComplete : Obligations.ProtectionCommandsComplete :=
  ⟨fun _ _ _ _ => comparatorTrip_trips, fun _ _ _ _ => comparatorWindowReturn_ends, fun _ => wakeNow_wakes, fun _ => timedWake_wakes,
    fun _ _ => smbusSetOffset_sets, fun _ => smbusAlertResponse_answers, fun _ _ => emergencyDrain_enters,
    fun _ _ => macStop_discards, fun _ _ => tallyFreeze_freezes, fun _ _ => transmittersOff_discards,
    fun _ _ _ => dieTotalsArrive_adds, fun _ _ => lossMarkerSeal_seals, fun _ _ => journalTailWrite_writes,
    fun _ _ => railsOff_falls, fun _ _ => railsOff_copies⟩

end

/-! PROOFS. The end of a flash copy aborts a flash operation under way, whose torn page is then in the flash beside the copy. -/

section

open Sys2Proof Sys2Proof.Machine

namespace Sys2Proof.Machine.State

/-- The last rails going off abort a flash operation under way, and leave the flash as that left it. -/
theorem flash_railsGone (s : State) : s.railsGone.flash = s.flashAbort.flash := by
  have h : Changes (partsBut [.flash]) s.flashAbort s.railsGone := by
    unfold railsGone
    cases s.tack.lossMode <;> simp
  exact h .flash (by simp)

/-- Programming no bytes leaves the flash as it is. -/
theorem flashProgram_nil (s : State) (a : Nat) : s.flashProgram a [] = s := rfl

theorem flashAbort_program {s : State} {a : Nat} (h : s.load.flashOp = some (1, a)) :
    s.flashAbort = { s with load.flashOp := none }.tearPage a := by simp [flashAbort, h]

/-- The first byte of a torn page is one that the device is free to leave (R158). -/
theorem tearPage_first (s : State) (a : Nat) : (s.tearPage a).flash.cells.at 0xFF a = Config.freeByte s.free := by
  have hpage : (List.range 256).map (fun i => Config.freeByte (s.free + i))
      = Config.freeByte s.free :: (List.range 255).map fun i => Config.freeByte (s.free + (i + 1)) := by
    rw [List.range_succ_eq_map, List.map_cons, List.map_map]
    rfl
  rw [tearPage, hpage, Map.putAll, Map.at_putAll_below _ _ _ _ _ _ (by omega), Map.at_put_self]

/-- A flash copy of which no byte has been handed over is being written while the page at 0x100000 is being programmed; the flash
holds another byte there than the one that the torn page will. -/
def copyOverPageProgram : State :=
  { State.reset with
    tack.copy := .writing, load.flashOp := some (1, 0x100000)
    flash.cells := [(0x100000, ~~~Config.freeByte State.reset.free)] }

theorem flash_copyOverPageProgram_changes : copyOverPageProgram.railsGone.flash ≠ copyOverPageProgram.flash := by
  intro h
  have hbyte : Config.freeByte State.reset.free = ~~~Config.freeByte State.reset.free := by
    rw [flash_railsGone, flashAbort_program rfl] at h
    exact (tearPage_first _ _).symm.trans (congrArg (fun f => f.cells.at 0xFF 0x100000) h)
  generalize Config.freeByte State.reset.free = b at hbyte
  revert hbyte b
  decide

end Sys2Proof.Machine.State

/-- Refutes O20: the clause of FLASH_COPY_DONE takes the flash to be the copy's alone, in every state. Where a page is being programmed
meanwhile, the rails going off tear it: in `State.copyOverPageProgram` no byte is copied, and yet the flash changes. -/
theorem not_vauxAndFlashCopyComplete : ¬ Obligations.VauxAndFlashCopyComplete := by
  rintro ⟨-, hcopy, -⟩
  obtain ⟨t, ht, -, hflash, -⟩ := hcopy State.copyOverPageProgram 0 rfl
  have hdone : exec (.flashCopyDone 0) State.copyOverPageProgram = done (fun s => s.railsGone) State.copyOverPageProgram := rfl
  obtain rfl := Host.Outcome.next.inj (hdone.symm.trans ht)
  exact State.flash_copyOverPageProgram_changes hflash

end

/-! PROOFS. The timekeeper: what each of its commands shows when it completes. -/

section

open Sys2Proof Sys2Proof.Machine Sys2Proof.Machine.State

namespace Sys2Proof.Machine

/-! ## What a step of TAI leaves of the Tack Room's registers (R85, R86) -/

section
variable {l : List Nat} {s t : State}

theorem tackRegsBut_tallyQueue (x : TallySet) : TackRegsBut l s (t.tallyQueue x) ↔ TackRegsBut l s t := by
  unfold State.tallyQueue
  rw [tackRegsBut_set (by decide), tackRegsBut_wr (by decide)]
  exact tackRegsBut_of_regs rfl rfl

theorem tackRegsBut_swapBanks : TackRegsBut l s t.swapBanks ↔ TackRegsBut l s t := by
  unfold State.swapBanks
  dsimp only
  exact (tackRegsBut_of_regs rfl rfl).trans (tackRegsBut_forEach (fun d u => (tackRegsBut_set (by decide) _ _).2 (.refl l u)) _)

theorem tackRegsBut_cutMinute (kind flags endMs : Nat) : TackRegsBut l s (t.cutMinute kind flags endMs) ↔ TackRegsBut l s t := by
  unfold State.cutMinute
  rw [tackRegsBut_swapBanks, tackRegsBut_tallyQueue]

theorem tackRegsBut_tallyLostEntry (hl : journalRegs ⊆ l) : TackRegsBut l s t.tallyLostEntry ↔ TackRegsBut l s t := by
  unfold State.tallyLostEntry
  split
  · rfl
  · exact (tackRegsBut_of_regs rfl rfl).trans (tackRegsBut_journal hl _)

theorem tackRegsBut_tallySettle : TackRegsBut l s t.tallySettle ↔ TackRegsBut l s t := by
  unfold State.tallySettle
  dsimp only
  rw [tackRegsBut_set (by decide)]
  have h : ∀ (e : Nat × Nat) (u : State), TackRegsBut l u (u.setTab 12 .binMap e.1 e.2) :=
    fun _ u => (tackRegsBut_of_regs rfl rfl).2 (.refl l u)
  exact (tackRegsBut_of_regs rfl rfl).trans (tackRegsBut_forEach h _)

theorem tackRegsBut_tallyCommit : TackRegsBut l s t.tallyCommit ↔ TackRegsBut l s t :=
  tackRegsBut_of_regs (State.retWrite_regs ..) (State.retWrite_variant ..)

theorem tackRegsBut_beginMinute (flags : Nat) : TackRegsBut l s (t.beginMinute flags) ↔ TackRegsBut l s t := tackRegsBut_of_regs rfl rfl

theorem tackRegsBut_tallyEndMs : TackRegsBut l s t.tallyEndMs.2 ↔ TackRegsBut l s t := by
  unfold State.tallyEndMs
  extract_lets ms f
  clear_value ms
  split
  · rfl
  · exact tackRegsBut_of_regs rfl rfl

theorem tackRegsBut_interimFalls : TackRegsBut l s t.interimFalls ↔ TackRegsBut l s t := by
  unfold State.interimFalls
  split
  · unfold State.takeInterim
    rw [tackRegsBut_tallyCommit, tackRegsBut_tallyQueue, tackRegsBut_tallyEndMs]
  · unfold State.deferTo
    rw [tackRegsBut_raise (by decide), tackRegsBut_of_regs (State.inc_regs ..) (State.inc_variant ..), tackRegsBut_set (by decide)]
    exact tackRegsBut_of_regs rfl rfl

theorem tackRegsBut_tallyStep (hl : journalRegs ⊆ l) (old : Nat) : TackRegsBut l s (t.tallyStep old) ↔ TackRegsBut l s t := by
  unfold State.tallyStep
  split
  · rfl
  · split
    · split
      · dsimp only
        rw [tackRegsBut_tallyCommit, tackRegsBut_beginMinute, tackRegsBut_tallySettle, tackRegsBut_tallyLostEntry hl,
          tackRegsBut_cutMinute, tackRegsBut_tallyEndMs]
      · rfl
    · split
      · dsimp only
        split
        · rw [tackRegsBut_interimFalls, tackRegsBut_tallyCommit, tackRegsBut_beginMinute, tackRegsBut_tallySettle,
            tackRegsBut_tallyLostEntry hl, tackRegsBut_cutMinute]
        · rw [tackRegsBut_tallyCommit, tackRegsBut_beginMinute, tackRegsBut_tallySettle, tackRegsBut_tallyLostEntry hl,
            tackRegsBut_cutMinute]
      · split
        · exact tackRegsBut_of_regs rfl rfl
        · rfl

theorem tackRegsBut_adjustTai (hl : journalRegs ⊆ l) (d : Int) : TackRegsBut l s (t.adjustTai d) ↔ TackRegsBut l s t := by
  unfold State.adjustTai
  exact (tackRegsBut_of_regs rfl rfl).trans ((tackRegsBut_tallyStep hl _).trans (tackRegsBut_of_regs rfl rfl))

end

/-! ## Two's-complement numbers of 32 bits -/

theorem signed_bounds (v : Nat) : -2147483648 ≤ signed 32 v ∧ signed 32 v < 2147483648 := by
  have h : v % 2 ^ 32 < 4294967296 := Nat.mod_lt _ (by decide)
  unfold signed
  split <;> simp only [Int.ofNat_eq_natCast] at * <;> omega

/-- A number in the range is read back as it was written. -/
theorem signed_unsigned {i : Int} (h : -2147483648 ≤ i ∧ i < 2147483648) : signed 32 (unsigned 32 i % 2 ^ 32) = i := by
  unfold signed unsigned
  simp only [Int.ofNat_eq_natCast]
  split <;> omega

namespace State

variable {s : State}

/-! ## The slew, the addend and the discipline -/

theorem disciplined_of (h : s.get F.TK_PPS_CTRL_MODE [] ≠ 2) : s.disciplined = false := by simpa [disciplined] using h

@[simp] theorem setSlew_variant (s : State) (v : Int) : (s.setSlew v).variant = s.variant := by simp [setSlew]

theorem slewLeft_setSlew {v : Int} (h : -2147483648 ≤ v ∧ v < 2147483648) (s : State) : (s.setSlew v).slewLeft = v := by
  have hget : (s.setSlew v).get F.TK_SLEW_ALL [] = (s.set F.TK_SLEW_ALL [] (unsigned 32 v)).get F.TK_SLEW_ALL [] := by
    unfold setSlew
    exact get_congr rfl rfl _ []
  rw [slewLeft, hget, get_set_self _ _ _ _ (by decide) (by decide)]
  exact signed_unsigned h

/-- Where a step of the addend stays below 2^40 it is held in its two registers. -/
theorem addend_setAddend (s : State) (v : Nat) :
    (s.setAddend v).addend = clamp (171798691840 - 85899345) (171798691840 + 85899345) v := by
  have hlt : clamp (171798691840 - 85899345) (171798691840 + 85899345) v < 2 ^ 40 := by unfold clamp; omega
  unfold setAddend
  generalize clamp (171798691840 - 85899345) (171798691840 + 85899345) v = a at *
  have hlo : ((s.set F.TK_ADDEND_LO_ALL [] (a % 2 ^ 32)).set F.TK_ADDEND_HI_ADDEND [] (a / 2 ^ 32)).get F.TK_ADDEND_LO_ALL [] = a % 2 ^ 32 := by
    rw [get_set_reg _ _ _ _ _ _ (by decide), get_set_self _ _ _ _ (by decide) (by decide)]
    exact Nat.mod_mod _ _
  have hhi : ((s.set F.TK_ADDEND_LO_ALL [] (a % 2 ^ 32)).set F.TK_ADDEND_HI_ADDEND [] (a / 2 ^ 32)).get F.TK_ADDEND_HI_ADDEND [] = a / 2 ^ 32 :=
    get_set _ ⟨by decide, by decide, Nat.div_lt_of_lt_mul hlt⟩ []
  rw [addend, hlo, hhi]
  omega

@[simp] theorem setAddend_variant (s : State) (v : Nat) : (s.setAddend v).variant = s.variant := by simp [setAddend]

@[simp] theorem complete_slewLeft (k : Clock) {s u : State} (h : u.variant = s.variant) : (complete k s u).slewLeft = u.slewLeft := by
  rw [slewLeft, complete_get _ h, slewLeft]

@[simp] theorem complete_addend (k : Clock) {s u : State} (h : u.variant = s.variant) : (complete k s u).addend = u.addend := by
  rw [addend, complete_get _ h, complete_get _ h, addend]

/-! ## A PPS edge -/

theorem get_raise (s : State) (f : Fld) (ix : List Nat) (g : Fld) (jx : List Nat) :
    (s.raise f ix).get g jx = (s.set f ix 1).get g jx :=
  get_congr (s.regs_raise f ix) (by simp) g jx

theorem rd_raise (s : State) (f : Fld) (ix : List Nat) (r : RegSpec) (jx : List Nat) :
    (s.raise f ix).rd r jx = (s.set f ix 1).rd r jx :=
  rd_congr (s.regs_raise f ix) (by simp) r jx

/-- What an accepted edge captures (R87, R88). -/
theorem ppsCapture_captures (s : State) : s.ppsCapture.rd R.TK_PPS_CAP_SEC [] = s.clock.sec % 2 ^ 32
    ∧ s.ppsCapture.get F.TK_PPS_CAP_NS_NEW [] = 1 ∧ s.ppsCapture.get F.TK_STATUS_HOLDOVER [] = 0
    ∧ s.ppsCapture.get F.TK_EVT_PPS_CAPTURE [] = 1 := by
  unfold ppsCapture
  refine ⟨?_, ?_, ?_, ?_⟩
  · rw [rd_raise, rd_set_ne _ _ _ _ _ _ (by decide), rd_set_ne _ _ _ _ _ _ (by decide), rd_set_ne _ _ _ _ _ _ (by decide),
      rd_set_ne _ _ _ _ _ _ (by decide), rd_wr_self, Nat.mod_mod]
  · rw [get_raise, get_set_reg _ _ _ _ _ _ (by decide), get_set_reg _ _ _ _ _ _ (by decide), get_set _ (by decide)]
  · rw [get_raise, get_set_reg _ _ _ _ _ _ (by decide), get_set _ (by decide)]
  · rw [get_raise, get_set _ (by decide)]

theorem changes_ppsCapture (s : State) : Changes [.regs, .tack, .ev] s s.ppsCapture := by
  unfold ppsCapture
  simp

/-- A capture leaves the Tack Room's own state; stated for any values, so that no reduction runs into them. -/
theorem capture_keeps (s : State) (sec ns : Nat) {t : State}
    (h : t = ((((s.wr R.TK_PPS_CAP_SEC [] sec).set F.TK_PPS_CAP_NS_NS [] ns).set F.TK_PPS_CAP_NS_NEW [] 1).set
      F.TK_STATUS_HOLDOVER [] 0).raise F.TK_EVT_PPS_CAPTURE []) : t.tack = s.tack ∧ t.variant = s.variant := by
  subst h
  simp

theorem ppsCapture_variant (s : State) : s.ppsCapture.variant = s.variant :=
  (capture_keeps { s with tack.ppsAccepted := some s.clock.tick } _ _ rfl).2

theorem ppsCapture_tack (s : State) : s.ppsCapture.tack = { s.tack with ppsAccepted := some s.clock.tick } :=
  (capture_keeps { s with tack.ppsAccepted := some s.clock.tick } _ _ rfl).1

/-! ## The commands -/

theorem timeStep_steps {v : Nat} (hp : s.powered = true) (ha : bit v 31 = true) (hn : bits v 29 0 < 1000000000) :
    Completes (.timeStep v) s fun t => t.clock = s.clock.shift
        (signed 48 (s.get F.TK_STEP_SEC_LO_ALL [] + s.get F.TK_STEP_SEC_HI_SEC [] * 2 ^ 32) * 1000000000 + bits v 29 0)
      ∧ t.get F.TK_STATUS_TIME_VALID [] = 1 := by
  refine completes_timed (fun _ => rfl) ?_
  rw [onlyIf_of _ _ hp, stepTime, if_pos ha, if_neg (by omega)]
  extract_lets sec u w k
  have hclock : u.clock = s.clock.shift (sec * 1000000000 + bits v 29 0) := clock_adjustTai _ _
  have hregs : TackRegsBut journalRegs ((s.set F.TK_STEP_NS_NS [] (bits v 29 0)).set F.TK_STATUS_TIME_VALID [] 1) u :=
    (tackRegsBut_adjustTai (List.Subset.refl _) _).2 (.refl ..)
  have hvalid : u.get F.TK_STATUS_TIME_VALID [] = 1 := by rw [hregs.get (by decide), get_set _ (by decide)]
  have hvar : u.variant = s.variant := hregs.1
  have hlocked : w.get F.TK_STATUS_TIME_VALID [] = 1 := by rw [get_set_beside _ (by decide), hvalid]
  have hw : w.clock = u.clock ∧ w.variant = u.variant := ⟨set_clock .., set_variant ..⟩
  clear_value w u
  split
  · refine ⟨hw.1.trans hclock, Eq.trans (get_congr (s := w) ?_ ?_ _ []) hlocked⟩
    · rfl
    · exact (hw.2.trans hvar).symm
  · exact ⟨hclock, (complete_get _ hvar ..).trans hvalid⟩

theorem slewWrite_starts {v : Nat} (hp : s.powered = true) (hm : s.get F.TK_PPS_CTRL_MODE [] ≠ 2) :
    Completes (.slewWrite v) s fun t => t.slewLeft = signed 32 v := by
  refine completes_effect (fun _ => rfl) ?_
  rw [onlyIf_of _ _ hp, writeSlew, if_neg (by simp [disciplined_of hm]), complete_slewLeft _ (by simp), slewLeft_setSlew (signed_bounds v)]

/-- A millisecond of the slew takes up to 50 ns of what remains, toward its end. -/
theorem slewPiece_eq (x : Int) : (if 0 < x then min 50 x else max (-50) x) = max (-50) (min 50 x) := by split <;> omega

theorem slewApply_applies (hr : s.tackRuns = true) (hd : 1000000 ≤ s.since s.tack.slewAt) (hs : s.slewLeft ≠ 0) :
    Completes .slewApply s fun t =>
      t.slewLeft = s.slewLeft - max (-50) (min 50 s.slewLeft) ∧ t.clock = s.clock.shift (max (-50) (min 50 s.slewLeft)) := by
  have hopen : (s.tackRuns && decide (1000000 ≤ s.since s.tack.slewAt) && s.slewLeft != 0) = true := by simp [hr, hd, hs]
  have hbounds : -2147483648 ≤ s.slewLeft ∧ s.slewLeft < 2147483648 := signed_bounds _
  refine completes_timed (fun _ => rfl) ?_
  rw [onlyIf_of _ _ hopen]
  dsimp only
  rw [slewPiece_eq]
  generalize s.slewLeft = x at *
  exact ⟨(complete_slewLeft _ (s := s) (u := s.setSlew (x - max (-50) (min 50 x))) (setSlew_variant ..)).trans
    (slewLeft_setSlew (by omega) s), rfl⟩

theorem addendWrite_sets {v : Nat} (hp : s.powered = true) (hm : s.get F.TK_PPS_CTRL_MODE [] ≠ 2) :
    Completes (.addendWrite v) s fun t => t.addend = clamp (171798691840 - 85899345) (171798691840 + 85899345) (v % 2 ^ 40) := by
  refine completes_effect (fun _ => rfl) ?_
  rw [onlyIf_of _ _ hp, writeAddend, if_neg (by simp [disciplined_of hm]), complete_addend _ (by simp), addend_setAddend]

theorem ppsEdge_captures {rising : Bool} (hr : s.tackRuns = true) (hm : s.get F.TK_PPS_CTRL_MODE [] = 1)
    (he : rising ≠ s.isOn F.TK_PPS_CTRL_POL []) (ha : s.ppsAccepts = true) :
    Completes (.ppsEdge rising) s fun t => t.tack.ppsAccepted = some s.clock.tick ∧ t.tack.ppsEdge = some s.clock.tick
      ∧ t.rd R.TK_PPS_CAP_SEC [] = s.clock.sec % 2 ^ 32 ∧ t.get F.TK_PPS_CAP_NS_NEW [] = 1 ∧ t.get F.TK_STATUS_HOLDOVER [] = 0
      ∧ t.get F.TK_EVT_PPS_CAPTURE [] = 1 ∧ t.clock = s.clock := by
  have hopen : (s.tackRuns && s.get F.TK_PPS_CTRL_MODE [] != 0 && (rising != s.isOn F.TK_PPS_CTRL_POL [])) = true := by simp [hr, hm, he]
  have hfree : disciplined { s with tack.ppsEdge := some s.clock.tick } = false := disciplined_of (s := s) (by simp [hm])
  refine completes_timed (fun _ => rfl) ?_
  rw [onlyIf_of _ _ hopen]
  dsimp only
  rw [if_pos ha, hfree, if_neg Bool.false_ne_true]
  have hedge : State.tack { s with tack.ppsEdge := some s.clock.tick } = { s.tack with ppsEdge := some s.clock.tick } := rfl
  have hclock : State.clock { s with tack.ppsEdge := some s.clock.tick } = s.clock := rfl
  have hvar : State.variant { s with tack.ppsEdge := some s.clock.tick } = s.variant := rfl
  generalize ({ s with tack.ppsEdge := some s.clock.tick } : State) = u at *
  obtain ⟨hsec, hnew, hhold, hevt⟩ := ppsCapture_captures u
  have htack := ppsCapture_tack u
  have hsame := clock_of_changes (changes_ppsCapture u) (by decide)
  replace hvar := (ppsCapture_variant u).trans hvar
  rw [hedge, hclock] at htack
  rw [hclock] at hsec hsame
  generalize u.ppsCapture = t at *
  refine ⟨by rw [complete_tack, htack], by rw [complete_tack, htack], ?_, ?_, ?_, ?_, by rw [complete_clock, hsame]⟩
  · rw [complete_rd _ hvar, hsec]
  · rw [complete_get _ hvar, hnew]
  · rw [complete_get _ hvar, hhold]
  · rw [complete_get _ hvar, hevt]

theorem ppsHoldover_holds (hr : s.tackRuns = true) (hm : s.get F.TK_PPS_CTRL_MODE [] ≠ 0) (hh : s.get F.TK_STATUS_HOLDOVER [] = 0)
    (hd : 2000000000 ≤ s.since (s.tack.ppsAccepted.getD s.tack.ppsModeAt)) :
    Completes .ppsHoldover s fun t => t.get F.TK_STATUS_HOLDOVER [] = 1 ∧ t.get F.TK_EVT_HOLDOVER [] = 1 := by
  have hopen : (s.tackRuns && s.get F.TK_PPS_CTRL_MODE [] != 0 && !s.isOn F.TK_STATUS_HOLDOVER []
      && decide (2000000000 ≤ s.since (s.tack.ppsAccepted.getD s.tack.ppsModeAt))) = true := by
    simp [hr, hm, hd, isOn, hh]
  refine completes_effect (fun _ => rfl) ?_
  rw [onlyIf_of _ _ hopen]
  constructor
  · rw [complete_get _ (by simp), get_raise, get_set_reg _ _ _ _ _ _ (by decide), get_set _ (by decide)]
  · rw [complete_get _ (by simp), get_raise, get_set _ (by decide)]

theorem ppsOutPulse_rises (hr : s.tackRuns = true) (hen : s.get F.TK_PPS_OUT_EN [] = 1)
    (ho : s.get F.TK_PPS_OFS_OFFSET_NS [] ≤ s.clock.tai)
    (hd : s.tack.ppsOutSec ≤ (s.clock.tai - s.get F.TK_PPS_OFS_OFFSET_NS []) / 1000000000) :
    Completes .ppsOutPulse s fun t => t.out.ppsOut = true
      ∧ t.tack.ppsOutEnd = some (s.clock.tick + s.get F.TK_PPS_OUT_WIDTH_MS [] * 1000000)
      ∧ t.tack.ppsOutSec = (s.clock.tai - s.get F.TK_PPS_OFS_OFFSET_NS []) / 1000000000 + 1 := by
  have hopen : (s.tackRuns && s.isOn F.TK_PPS_OUT_EN [] && decide (s.get F.TK_PPS_OFS_OFFSET_NS [] ≤ s.clock.tai)
      && decide (s.tack.ppsOutSec ≤ (s.clock.tai - s.get F.TK_PPS_OFS_OFFSET_NS []) / 1000000000)) = true := by
    simp [hr, isOn, hen, ho, hd]
  refine completes_effect (fun _ => rfl) ?_
  dsimp only
  rw [onlyIf_of _ _ hopen]
  exact ⟨rfl, rfl, rfl⟩

theorem ppsOutEnd_falls {n : Nat} (he : s.tack.ppsOutEnd = some n) (hn : n ≤ s.clock.tick) :
    exec .ppsOutEnd s = .next { s with out.ppsOut := false, tack.ppsOutEnd := none } := by
  have hdoes : Does .ppsOutEnd s { s with out.ppsOut := false, tack.ppsOutEnd := none } :=
    does_of_effect (fun _ => rfl) (by simp only [he, onlyIf_of _ _ (decide_eq_true hn)])
  exact hdoes

end State
end Sys2Proof.Machine

/-- Settles O21: each command runs into the branch that its clause names. -/
theorem timekeeperCompletes : Obligations.TimekeeperCompletes :=
  ⟨fun _ _ => timeStep_steps, fun _ _ => slewWrite_starts, fun _ => slewApply_applies, fun _ _ => addendWrite_sets,
    fun _ _ => ppsEdge_captures, fun _ => ppsHoldover_holds, fun _ => ppsOutPulse_rises, fun _ _ => ppsOutEnd_falls⟩

end

/-! PROOFS. The reads: the value that each one answers. -/

section

open Sys2Proof Sys2Proof.Machine Sys2Proof.Machine.State

namespace Sys2Proof.Machine.State

variable {s : State}

@[simp] theorem answer_variant (s : State) (v : Nat) : (s.answer v).variant = s.variant := (rfl)

@[simp] theorem answer_readData (s : State) (v : Nat) : (s.answer v).out.readData = v := (rfl)

@[simp] theorem answer_get (s : State) (v : Nat) (f : Fld) (ix : List Nat) : (s.answer v).get f ix = s.get f ix :=
  get_congr (s := s) rfl rfl f ix

/-! ## The words behind an address that advances (R98, R160) -/

theorem readRet_variant (s : State) : s.readRet.variant = s.variant := by simp [readRet]

theorem readRet_readData (s : State) : s.readRet.out.readData = s.retGet (4 * s.get F.TK_RET_ADDR_WORD []) 4 := (rfl)

theorem readRet_advances (s : State) : s.readRet.get F.TK_RET_ADDR_WORD [] = (s.get F.TK_RET_ADDR_WORD [] + 1) % 2 ^ 16 := by
  rw [readRet, answer_get]
  exact get_set _ ⟨by decide, by decide, Nat.mod_lt _ (by decide)⟩ []

theorem reportRead_variant (s : State) : s.reportRead.variant = s.variant := by simp [reportRead]

theorem reportRead_advances (s : State) : s.reportRead.get F.PB_RPT_ADDR_WORD [] = (s.get F.PB_RPT_ADDR_WORD [] + 1) % 2 ^ 14 := by
  have hset : (s.set F.PB_RPT_ADDR_WORD [] ((s.get F.PB_RPT_ADDR_WORD [] + 1) % 2 ^ 14)).get F.PB_RPT_ADDR_WORD []
      = (s.get F.PB_RPT_ADDR_WORD [] + 1) % 2 ^ 14 := get_set _ ⟨by decide, by decide, Nat.mod_lt _ (by decide)⟩ []
  refine Eq.trans (get_congr ?_ ?_ _ []) hset
  · rfl
  · rfl

/-- Beyond the report there is nothing. -/
theorem reportRead_beyond (h : 8 + 4 * s.load.report.length ≤ s.get F.PB_RPT_ADDR_WORD []) : s.reportRead.out.readData = 0 := by
  unfold reportRead
  dsimp only
  rw [if_neg (by omega), Nat.zero_mod]

/-! ## The commands -/

theorem timeRead_answers {smbus : Bool} (frac : Nat) (h : (if smbus then s.tackRuns else s.ringPowered) = true) :
    Completes (.timeRead smbus frac) s fun t => t.out.readData = s.clock.sec % 2 ^ 32
      ∧ t = { s with latched := t.latched, out.readData := s.clock.sec % 2 ^ 32 } := by
  refine completes_effect (fun _ => rfl) ?_
  rw [onlyIf_of _ _ h]
  exact ⟨rfl, rfl⟩

theorem retDataRead_answers {smbus : Bool} (h : (if smbus then s.tackRuns else s.ringPowered) = true) :
    Completes (.retDataRead smbus) s fun t => t.out.readData = s.retGet (4 * s.get F.TK_RET_ADDR_WORD []) 4
      ∧ t.get F.TK_RET_ADDR_WORD [] = (s.get F.TK_RET_ADDR_WORD [] + 1) % 2 ^ 16 := by
  refine completes_effect (fun _ => rfl) ?_
  rw [onlyIf_of _ _ h, complete_out, readRet_readData, complete_get _ (readRet_variant s), readRet_advances]
  exact ⟨rfl, rfl⟩

theorem smbusBlockRead_reads (h : s.tackRuns = true) : Does .smbusBlockRead s (s.readSmbus s.tack.smbOffset) :=
  does_of_effect (fun _ => rfl) (onlyIf_of _ _ h)

theorem latchedRead_reads {fn off : Nat} (hp : s.ringPowered = true) (hf : fn = 0 ∨ fn ≤ s.rc.vfs) :
    Does (.latchedRead fn off) s (s.readBar fn off) :=
  does_of (exec_latchedRead_eq_readBar off hp hf) rfl

theorem reportDataRead_answers (h : s.powered = true) :
    Completes .reportDataRead s fun t => t.get F.PB_RPT_ADDR_WORD [] = (s.get F.PB_RPT_ADDR_WORD [] + 1) % 2 ^ 14
      ∧ (8 + 4 * s.load.report.length ≤ s.get F.PB_RPT_ADDR_WORD [] → t.out.readData = 0) := by
  refine completes_effect (fun _ => rfl) ?_
  rw [onlyIf_of _ _ h, complete_get _ (reportRead_variant s), complete_out]
  exact ⟨reportRead_advances s, reportRead_beyond⟩

end Sys2Proof.Machine.State

/-- Settles O24: a read by the host and one over SMBus take the same branch, each under its own condition. -/
theorem readsComplete : Obligations.ReadsComplete :=
  ⟨fun _ frac h => timeRead_answers (smbus := false) frac h, fun _ frac h => timeRead_answers (smbus := true) frac h,
    fun _ h => retDataRead_answers (smbus := false) h, fun _ h => retDataRead_answers (smbus := true) h,
    fun _ => smbusBlockRead_reads, fun _ _ _ => latchedRead_reads, fun _ => reportDataRead_answers⟩

end

/-! PROOFS. The frames of the operations on commits, epochs, load attempts, the flash and the fuses, and of the commands that use
them. -/

section

open Sys2Proof Sys2Proof.Machine

namespace Sys2Proof.Machine

variable {l : List Part} {s t : State}

/-! ## Branches -/

@[simp] theorem changes_ite_fst {α : Type} {c : Prop} [Decidable c] {x y : State × α} :
    Changes l s (if c then x else y).1 ↔ (c → Changes l s x.1) ∧ (¬c → Changes l s y.1) := by split <;> simp [*]

/-! ## Epochs and their retire fences -/

@[simp] theorem changes_fenceDue (hl : [.ctrs, .rc] ⊆ l) (ao) :
    Changes l s (t.fenceDue ao) ↔ Changes l s t :=
  changes_iff_of (by unfold State.fenceDue; split <;> simp) hl

@[simp] theorem changes_reclaim (hl : [.ctrs, .ts, .rc] ⊆ l) (e) :
    Changes l s (t.reclaim e) ↔ Changes l s t :=
  changes_iff_of (by unfold State.reclaim; simp) hl

/-! ## Load attempts -/

@[simp] theorem changes_attemptFailed (hl : [.load] ⊆ l) (code) :
    Changes l s (t.attemptFailed code) ↔ Changes l s t :=
  changes_iff_of (by unfold State.attemptFailed; simp) hl

@[simp] theorem changes_endFailed (hl : [.regs, .tack, .ev, .flt, .load] ⊆ l) (code) :
    Changes l s (t.endFailed code) ↔ Changes l s t :=
  changes_iff_of (by unfold State.endFailed; simp) hl

/-! ## The flash, the fuses and the load report -/

@[simp] theorem changes_showImages (hl : [.regs] ⊆ l) :
    Changes l s t.showImages ↔ Changes l s t :=
  changes_iff_of (by unfold State.showImages; simp) hl

@[simp] theorem changes_flashCommit (hl : [.regs, .tack, .flash] ⊆ l) (a block) :
    Changes l s (t.flashCommit a block).1 ↔ Changes l s t :=
  changes_iff_of (by unfold State.flashCommit; simp) hl

@[simp] theorem changes_flashStart (hl : [.regs, .load] ⊆ l) (op) :
    Changes l s (t.flashStart op) ↔ Changes l s t :=
  changes_iff_of (by unfold State.flashStart; simp) hl

/-- A fuse operation changes its own registers and what its success changes. -/
@[simp] theorem changes_fuseOp {f : State → State} (hl : [.regs] ⊆ l) (hf : ∀ t, Changes l t (f t)) (slot op ok) :
    Changes l s (t.fuseOp slot op ok f) ↔ Changes l s t :=
  changes_iff_of (l₀ := l) (by
    unfold State.fuseOp
    refine changes_ite.2 ⟨fun _ => changes_ite.2 ⟨fun _ => Changes.trans ?_ (hf _), fun _ => ?_⟩, fun _ => .refl l t⟩
    · simp [hl]
    · simp [hl]) (List.Subset.refl l)

@[simp] theorem changes_reportRead (hl : [.regs, .out] ⊆ l) :
    Changes l s t.reportRead ↔ Changes l s t :=
  changes_iff_of (by unfold State.reportRead; simp) hl

/-! ## Commands -/

/-- As `touches_done`, for a command of which the effect is found state by state. -/
theorem touches_of_done {c : Instr} (h : ∀ s, ∃ f, exec c s = done f s ∧ Changes l s (f s)) : Touches l c :=
  touches_done (f := fun s => (h s).choose s) (fun s => (h s).choose_spec.1) fun s => (h s).choose_spec.2

theorem touches_commitGo : Touches [.regs, .modes] .commitGo :=
  touches_of_done fun s => by
    change ∃ f, execCommitGo s = done f s ∧ _
    unfold execCommitGo
    beta_reduce
    split
    · exact ⟨_, rfl, by simp⟩
    · exact ⟨_, next_eq_done s, .refl _ s⟩

theorem touches_diePrepared (x hid) : Touches [.regs, .modes] (.diePrepared x hid) :=
  touches_done (fun _ => rfl) fun s => by
    refine changes_ite.2 ⟨fun _ => .refl _ s, fun _ => changes_ite.2 ⟨fun _ => ?_, fun _ => ?_⟩⟩ <;> split <;> simp

theorem touches_prepDeadline : Touches [.regs, .modes, .ev] .prepDeadline :=
  touches_done (fun _ => rfl) fun s => by
    extract_lets s₁
    have h : Changes [.regs, .modes, .ev] s s₁ := by unfold s₁; split <;> simp
    clear_value s₁
    split <;> simp [h]

theorem touches_commitLag : Touches [.regs, .modes, .ev] .commitLag :=
  touches_done (fun _ => rfl) fun s => by split <;> simp

theorem touches_lagRetryExpiry : Touches [.regs, .modes, .ev, .flt] .lagRetryExpiry :=
  touches_done (fun _ => rfl) fun s => by split <;> simp

theorem touches_epochDrained : Touches [.regs, .ctrs, .modes, .ev, .ts, .rc] .epochDrained :=
  touches_done (fun _ => rfl) fun s => by split <;> simp

theorem touches_loadVerified : Touches [.regs, .load, .flash] .loadVerified :=
  touches_done (fun _ => rfl) fun s => by
    refine changes_onlyIf.2 ⟨fun _ => ?_, fun _ => .refl _ s⟩
    split <;> simp

theorem touches_loadFail (flashError) : Touches [.regs, .tack, .ev, .flt, .load] (.loadFail flashError) :=
  touches_done (fun _ => rfl) fun s => by
    refine changes_onlyIf.2 ⟨fun _ => ?_, fun _ => .refl _ s⟩
    split <;> simp

theorem touches_flashOpDone : Touches [.regs, .tack, .ev, .load, .flash] .flashOpDone :=
  touches_done (fun _ => rfl) fun s => by split <;> simp

end Sys2Proof.Machine

/-- Settles O53, as O52: each command completes with an effect built from operations whose frames are the lemmas above. -/
theorem modesAndFlashFrames : Obligations.ModesAndFlashFrames :=
  ⟨touches_commitGo, touches_diePrepared, touches_prepDeadline, touches_commitLag, touches_lagRetryExpiry, touches_epochDrained,
    touches_done (fun _ => rfl) fun _ => by simp,
    touches_loadVerified,
    fun _ _ => touches_done (fun _ => rfl) fun _ => by simp,
    touches_loadFail,
    touches_done (fun _ => rfl) fun _ => by simp,
    touches_done (fun _ => rfl) fun _ => by simp,
    touches_done (fun _ => rfl) fun _ => by simp,
    touches_done (fun _ => rfl) fun _ => by simp,
    touches_done (fun _ => rfl) fun _ => by simp,
    touches_flashOpDone,
    fun _ _ => touches_done (fun _ => rfl) fun _ => by simp,
    fun _ _ => touches_done (fun _ => rfl) fun _ => by simp,
    fun _ => touches_done (fun _ => rfl) fun _ => by simp,
    touches_done (fun _ => rfl) fun _ => by simp⟩

end

/-! PROOFS. Flash operations, fuses and the plan record: what each command shows when it completes. -/

section

open Sys2Proof Sys2Proof.Machine Sys2Proof.Machine.State

namespace Sys2Proof.Machine.State

variable {s t : State} {op a : Nat}

/-! ## The state in which a command completes -/

section
variable (k : Clock) (s u : State)
@[simp] theorem complete_load : (complete k s u).load = u.load := (rfl)
@[simp] theorem complete_pace : (complete k s u).pace = u.pace := (rfl)
@[simp] theorem complete_fuse : (complete k s u).fuse = u.fuse := (rfl)
end

/-! ## A flash operation starts (R158, R160) -/

/-- Of the registers, only the running slot in PB_STATUS bears on what is refused. -/
theorem flashRefused_set {f : Fld} {ix : List Nat} (h : R.PB_STATUS.addr [] ≠ f.reg.addr ix) (n : Nat) :
    (s.set f ix n).flashRefused op a = s.flashRefused op a := by
  have hrun : (s.set f ix n).get F.PB_STATUS_ACTIVE [] = s.get F.PB_STATUS_ACTIVE [] := get_set_reg _ _ _ _ _ _ h
  have hopen : (s.set f ix n).flashOpen = s.flashOpen := rfl
  have hprot (b : Nat) : (s.set f ix n).flashProtected b = s.flashProtected b := by
    unfold flashProtected
    rw [hrun]
    rfl
  simp only [flashRefused, hopen, hprot]

theorem flashStart_starts (hgo : s.get F.PB_FLASH_CMD_GO [] = 0)
    (hr : s.flashRefused op (s.get F.PB_FLASH_ADDR_PAGE [] * 256) = false) :
    s.flashStart op = { (s.set F.PB_FLASH_CMD_OP [] op).set F.PB_FLASH_CMD_GO [] 1 with
      load.flashOp := some (op, s.get F.PB_FLASH_ADDR_PAGE [] * 256) } := by
  have hidle : (s.set F.PB_FLASH_CMD_OP [] op).isOn F.PB_FLASH_CMD_GO [] = false := by
    rw [isOn, get_set_beside _ (by decide), hgo]; rfl
  unfold flashStart
  extract_lets b t
  rw [if_neg (by simp [t, hidle]), flashRefused_set (by decide), if_neg (by simp [b, hr])]

theorem get_withFlashOp (u : State) (o : Option (Nat × Nat)) (f : Fld) (ix : List Nat) :
    State.get { u with load.flashOp := o } f ix = u.get f ix := get_congr (s := u) rfl rfl f ix

/-- Each of the four commands that start an operation is the same one with its own operation. -/
theorem flashStart_completes {c : Instr} (h : ∀ s, exec c s = done (fun s => onlyIf s.powered (fun s => s.flashStart op) s) s)
    (hp : s.powered = true) (hgo : s.get F.PB_FLASH_CMD_GO [] = 0)
    (hr : s.flashRefused op (s.get F.PB_FLASH_ADDR_PAGE [] * 256) = false) :
    Completes c s fun t => t.load.flashOp = some (op, s.get F.PB_FLASH_ADDR_PAGE [] * 256)
      ∧ t.get F.PB_FLASH_CMD_GO [] = 1 ∧ t.flash = s.flash := by
  refine completes_effect h ?_
  rw [onlyIf_of _ _ hp, flashStart_starts hgo hr]
  refine ⟨by simp, ?_, by simp⟩
  rw [complete_get _ (by simp), get_withFlashOp, get_set _ (by decide)]

/-! ## A flash operation ends (R127, R159, R160) -/

/-- No operation is under way any longer. -/
def flashRest (s : State) : State := { s.set F.PB_FLASH_CMD_GO [] 0 with load.flashOp := none }

@[simp] theorem flashRest_variant : s.flashRest.variant = s.variant := by simp [flashRest]
@[simp] theorem flashRest_flash : s.flashRest.flash = s.flash := by simp [flashRest]
@[simp] theorem flashRest_flashOp : s.flashRest.load.flashOp = none := by simp [flashRest]

@[simp] theorem flashRest_go : s.flashRest.get F.PB_FLASH_CMD_GO [] = 0 := by
  rw [flashRest, get_withFlashOp, get_set _ (by decide)]

/-- The words of a page are shown in PB_FLASH_DATA. -/
def showPage (ws : List Word) (s : State) : State :=
  ws.zipIdx.foldl (fun (u : State) (e : Word × Nat) => u.wr R.PB_FLASH_DATA [e.2] e.1.toNat) s

/-- What an operation at `a` does at its end, and whether its page reads back as it should. -/
def flashWork (s : State) (op a : Nat) : State × Bool :=
  let t := s.flashRest
  let buf := s.flashBuffer
  if op = 0 then
    (showPage (leWords (t.flashGet a 256) 64) t, true)
  else if op = 1 then
    let u := t.flashProgram a (buf.take 256)
    (u, u.flashRead a 256 == buf.take 256)
  else if op = 2 then (t.flashErase a, true)
  else t.flashCommit a buf

/-- The operation shows ERROR where its page does not read back, and FLASH_DONE. -/
def flashEnd (r : State × Bool) : State :=
  (if r.2 then r.1 else r.1.set F.PB_FLASH_CMD_ERROR [] 1).raise F.PB_EVT_FLASH_DONE []

theorem flashOpDone_effect (hp : s.patinaWrites = false) (ho : s.load.flashOp = some (op, a)) :
    Does .flashOpDone s (flashEnd (s.flashWork op a)) :=
  does_of_effect (fun _ => rfl) (by simp only [hp, ho, if_neg Bool.false_ne_true]; rfl)

section
variable (r : State × Bool)

@[simp] theorem flashEnd_variant : (flashEnd r).variant = r.1.variant := by unfold flashEnd; split <;> simp
@[simp] theorem flashEnd_load : (flashEnd r).load = r.1.load := by unfold flashEnd; split <;> simp
@[simp] theorem flashEnd_flash : (flashEnd r).flash = r.1.flash := by unfold flashEnd; split <;> simp

theorem flashEnd_done : (flashEnd r).get F.PB_EVT_FLASH_DONE [] = 1 := by
  rw [flashEnd, get_raise, get_set _ (by decide)]

theorem flashEnd_go : (flashEnd r).get F.PB_FLASH_CMD_GO [] = r.1.get F.PB_FLASH_CMD_GO [] := by
  rw [flashEnd, get_raise, get_set_reg _ _ _ _ _ _ (by decide)]
  split
  · rfl
  · exact get_set_beside _ (by decide) [] 1

end

theorem get_wr_reg (s : State) {r : RegSpec} {g : Fld} (ix jx : List Nat) (v : Nat) (h : g.reg.addr jx ≠ r.addr ix) :
    (s.wr r ix v).get g jx = s.get g jx := getR_wrR_reg _ _ _ _ _ _ _ _ h

/-- A field outside the registers that show the slots. -/
theorem get_showImages {g : Fld} (h : ∀ r ∈ [R.PB_SEQ_A, R.PB_SEQ_B, R.PB_ATTEMPTS], g.reg.addr [] ≠ r.addr []) :
    s.showImages.get g [] = s.get g [] := by
  simp only [List.forall_mem_cons, List.not_mem_nil, false_imp_iff, implies_true, and_true] at h
  obtain ⟨ha, hb, hatt⟩ := h
  unfold showImages
  rw [get_set_reg _ _ _ _ _ _ hatt, get_set_reg _ _ _ _ _ _ hatt, get_wr_reg _ _ _ _ hb, get_wr_reg _ _ _ _ ha]

theorem get_flashProgram (bs : List Byte) (f : Fld) (ix : List Nat) : (s.flashProgram a bs).get f ix = s.get f ix := (rfl)

theorem get_setAttempts (slot n : Nat) (f : Fld) (ix : List Nat) : (s.setAttempts slot n).get f ix = s.get f ix := (rfl)

theorem get_flashErase (f : Fld) (ix : List Nat) : (s.flashErase a).get f ix = s.get f ix := (rfl)

theorem get_flashCommit {g : Fld} (h : ∀ r ∈ [R.PB_SEQ_A, R.PB_SEQ_B, R.PB_ATTEMPTS], g.reg.addr [] ≠ r.addr [])
    (bs : List Byte) : (s.flashCommit a bs).1.get g [] = s.get g [] := by
  unfold flashCommit
  dsimp only
  split
  · rw [get_showImages h, get_setAttempts, get_flashProgram, get_flashProgram]
  · rw [get_flashProgram]

@[simp] theorem flashProgram_variant (bs : List Byte) : (s.flashProgram a bs).variant = s.variant := (rfl)
@[simp] theorem flashProgram_load (bs : List Byte) : (s.flashProgram a bs).load = s.load := (rfl)
@[simp] theorem flashErase_variant : (s.flashErase a).variant = s.variant := (rfl)
@[simp] theorem flashErase_load : (s.flashErase a).load = s.load := (rfl)
@[simp] theorem setAttempts_variant (slot n : Nat) : (s.setAttempts slot n).variant = s.variant := (rfl)
@[simp] theorem setAttempts_load (slot n : Nat) : (s.setAttempts slot n).load = s.load := (rfl)
@[simp] theorem showImages_variant : s.showImages.variant = s.variant := by simp [showImages]
@[simp] theorem showImages_load : s.showImages.load = s.load := by simp [showImages]

@[simp] theorem flashCommit_variant (bs : List Byte) : (s.flashCommit a bs).1.variant = s.variant := by
  unfold flashCommit
  dsimp only
  split <;> simp

@[simp] theorem flashCommit_load (bs : List Byte) : (s.flashCommit a bs).1.load = s.load := by
  unfold flashCommit
  dsimp only
  split <;> simp

theorem flash_flashProgram_congr (h : t.flash = s.flash) (bs : List Byte) :
    (t.flashProgram a bs).flash = (s.flashProgram a bs).flash := by simp only [flashProgram, flashRead, h]

theorem flash_flashErase_congr (h : t.flash = s.flash) : (t.flashErase a).flash = (s.flashErase a).flash := by
  simp only [flashErase, h]

theorem showPage_keeps {β : Type} (g : State → β) (h : ∀ i v u, g (State.wr u R.PB_FLASH_DATA [i] v) = g u) (ws : List Word) :
    g (showPage ws s) = g s :=
  forEach_keeps g (fun (e : Word × Nat) u => u.wr R.PB_FLASH_DATA [e.2] e.1.toNat) (fun e u => h e.2 _ u) _ s

section
variable (ws : List Word)

theorem showPage_variant : (showPage ws s).variant = s.variant := showPage_keeps State.variant (fun _ _ _ => rfl) ws

theorem showPage_load : (showPage ws s).load = s.load := showPage_keeps State.load (fun _ _ _ => rfl) ws

theorem showPage_flash : (showPage ws s).flash = s.flash := showPage_keeps State.flash (fun _ _ _ => rfl) ws

theorem get_showPage_command : (showPage ws s).get F.PB_FLASH_CMD_GO [] = s.get F.PB_FLASH_CMD_GO [] :=
  showPage_keeps (·.get F.PB_FLASH_CMD_GO [])
    (fun i _ _ => get_wr_reg _ _ _ _ (addr_ne_of_base_lt rfl (by decide) [] [i])) ws

end

theorem flashWork_read : s.flashWork 0 a = (showPage (leWords (s.flashRest.flashGet a 256) 64) s.flashRest, true) := by
  unfold flashWork
  rw [if_pos rfl]

theorem flashWork_program : (s.flashWork 1 a).1 = s.flashRest.flashProgram a (s.flashBuffer.take 256) := by
  unfold flashWork
  rw [if_neg (by decide), if_pos rfl]

theorem flashWork_erase : s.flashWork 2 a = (s.flashRest.flashErase a, true) := by
  unfold flashWork
  rw [if_neg (by decide), if_neg (by decide), if_pos rfl]

/-- Whatever the operation, none is under way at its end, and GO reads 0. -/
theorem flashWork_rests : (s.flashWork op a).1.variant = s.variant ∧ (s.flashWork op a).1.load.flashOp = none
    ∧ (s.flashWork op a).1.get F.PB_FLASH_CMD_GO [] = 0 := by
  unfold flashWork
  generalize s.flashBuffer = bs
  extract_lets t u
  have ht : t.variant = s.variant ∧ t.load.flashOp = none ∧ t.get F.PB_FLASH_CMD_GO [] = 0 :=
    ⟨flashRest_variant, flashRest_flashOp, flashRest_go⟩
  unfold u
  clear_value t
  split
  · rwa [showPage_variant, showPage_load, get_showPage_command]
  · split
    · rwa [flashProgram_variant, flashProgram_load, get_flashProgram]
    · split
      · rwa [flashErase_variant, flashErase_load, get_flashErase]
      · rwa [flashCommit_variant, flashCommit_load, get_flashCommit (by decide)]

theorem flashOpDone_ends (hp : s.patinaWrites = false) (ho : s.load.flashOp = some (op, a)) :
    Completes .flashOpDone s fun t => t.load.flashOp = none ∧ t.get F.PB_EVT_FLASH_DONE [] = 1
      ∧ t.flash = (s.flashWork op a).1.flash ∧ t.get F.PB_FLASH_CMD_GO [] = 0 := by
  obtain ⟨hv, hl, hgo⟩ := flashWork_rests (s := s) (op := op) (a := a)
  have hv' : (flashEnd (s.flashWork op a)).variant = s.variant := by simp [hv]
  refine ⟨complete s.clock s (flashEnd (s.flashWork op a)), flashOpDone_effect hp ho, ?_, ?_, ?_, ?_⟩
  · rw [complete_load, flashEnd_load, hl]
  · rw [complete_get _ hv', flashEnd_done]
  · rw [complete_flash, flashEnd_flash]
  · rw [complete_get _ hv', flashEnd_go, hgo]

theorem flashOpDone_read (hp : s.patinaWrites = false) (ho : s.load.flashOp = some (0, a)) :
    Completes .flashOpDone s fun t => t.load.flashOp = none ∧ t.flash = s.flash ∧ t.get F.PB_EVT_FLASH_DONE [] = 1 := by
  obtain ⟨t, ht, hl, hd, hf, -⟩ := flashOpDone_ends hp ho
  rw [flashWork_read, showPage_flash, flashRest_flash] at hf
  exact ⟨t, ht, hl, hf, hd⟩

theorem flashOpDone_program (hp : s.patinaWrites = false) (ho : s.load.flashOp = some (1, a)) :
    Completes .flashOpDone s fun t => t.load.flashOp = none ∧ t.get F.PB_EVT_FLASH_DONE [] = 1
      ∧ t.flash = (s.flashProgram a (s.flashBuffer.take 256)).flash ∧ t.get F.PB_FLASH_CMD_GO [] = 0 := by
  have h := flashOpDone_ends hp ho
  rwa [flashWork_program, flash_flashProgram_congr flashRest_flash] at h

theorem flashOpDone_erase (hp : s.patinaWrites = false) (ho : s.load.flashOp = some (2, a)) :
    Completes .flashOpDone s fun t => t.load.flashOp = none ∧ t.get F.PB_EVT_FLASH_DONE [] = 1
      ∧ t.flash = (s.flashErase a).flash ∧ t.get F.PB_FLASH_CMD_GO [] = 0 := by
  have h := flashOpDone_ends hp ho
  rwa [flashWork_erase, flash_flashErase_congr flashRest_flash] at h

theorem flashOpDone_commit (hp : s.patinaWrites = false) (ho : s.load.flashOp = some (3, a)) :
    Completes .flashOpDone s fun t => t.load.flashOp = none ∧ t.get F.PB_EVT_FLASH_DONE [] = 1 := by
  obtain ⟨t, ht, hl, hd, -⟩ := flashOpDone_ends hp ho
  exact ⟨t, ht, hl, hd⟩

/-! ## Fuses (R160) -/

/-- A fuse operation that is honoured shows its slot and its code. -/
def fuseShown (s : State) (slot op : Nat) : State := (s.set F.PB_FUSE_PROG_SLOT [] slot).set F.PB_FUSE_PROG_OP [] op

theorem fuseOp_runs (ho : s.fuseOpen = true) (slot op : Nat) (f : State → State) :
    s.fuseOp slot op true f = f (s.fuseShown slot op) := by simp [fuseOp, ho, fuseShown]

section
variable (slot : Nat)

@[simp] theorem fuseShown_variant : (s.fuseShown slot op).variant = s.variant := by simp [fuseShown]
@[simp] theorem fuseShown_fuse : (s.fuseShown slot op).fuse = s.fuse := by simp [fuseShown]

theorem rd_fuseShown {r : RegSpec} {ix : List Nat} (h : r.addr ix ≠ R.PB_FUSE_PROG.addr []) :
    (s.fuseShown slot op).rd r ix = s.rd r ix := by
  rw [fuseShown, rd_set_ne _ _ _ _ _ _ h, rd_set_ne _ _ _ _ _ _ h]

theorem get_fuseShown {g : Fld} {ix : List Nat} (h : g.reg.addr ix ≠ R.PB_FUSE_PROG.addr []) :
    (s.fuseShown slot op).get g ix = s.get g ix := by rw [get, rd_fuseShown slot h, get]

theorem flashBuffer_fuseShown : (s.fuseShown slot op).flashBuffer = s.flashBuffer := by
  have h (i : Nat) : (s.fuseShown slot op).rd R.PB_FLASH_DATA [i] = s.rd R.PB_FLASH_DATA [i] :=
    rd_fuseShown slot (addr_ne_of_base_lt rfl (by decide) [] [i]).symm
  simp only [flashBuffer, h]

end

theorem get_withHash (u : State) (m : Map Nat) (f : Fld) (ix : List Nat) :
    State.get { u with fuse.hash := m } f ix = u.get f ix := get_congr (s := u) rfl rfl f ix

/-- A free key slot of the four can be added to those programmed. -/
theorem programmed_add_lt : ∀ v < 16, ∀ k < 4, bit v k = false → v + 2 ^ k < 16 := by decide

theorem fuseKeyProgram_programs {slot : Nat} (ho : s.fuseOpen = true)
    (hb : bit (s.get F.PB_FUSE_KEYS_PROGRAMMED []) (slot % 4) = false) :
    Completes (.fuseKeyProgram slot true) s fun t =>
      t.get F.PB_FUSE_KEYS_PROGRAMMED [] = s.get F.PB_FUSE_KEYS_PROGRAMMED [] + 2 ^ (slot % 4)
      ∧ t.fuse.hash = s.fuse.hash.put 0 (slot % 4) (ofBe (s.flashBuffer.take 48))
      ∧ t.get F.PB_FUSE_KEYS_REVOKED [] = s.get F.PB_FUSE_KEYS_REVOKED [] := by
  have hfits : s.get F.PB_FUSE_KEYS_PROGRAMMED [] + 2 ^ (slot % 4) < 16 :=
    programmed_add_lt _ (bits_lt ..) _ (Nat.mod_lt _ (by decide)) hb
  refine completes_effect (fun _ => rfl) ?_
  simp only [hb, Bool.not_false, Bool.and_self, fuseOp_runs ho,
    get_fuseShown _ (show F.PB_FUSE_KEYS_PROGRAMMED.reg.addr [] ≠ _ by decide)]
  refine ⟨?_, ?_, ?_⟩
  · rw [complete_get _ (by simp), get_withHash, get_set _ ⟨by decide, by decide, hfits⟩]
  · rw [complete_fuse, flashBuffer_fuseShown, fuseShown_fuse]
  · rw [complete_get _ (by simp), get_withHash, get_set_beside _ (by decide), get_fuseShown _ (by decide)]

theorem fuseKeyRevoke_revokes (slot : Nat) (ho : s.fuseOpen = true) :
    Completes (.fuseKeyRevoke slot true) s fun t =>
      t.get F.PB_FUSE_KEYS_REVOKED [] = setBit (s.get F.PB_FUSE_KEYS_REVOKED []) (slot % 4) true % 16
      ∧ t.fuse = s.fuse ∧ t.get F.PB_FUSE_KEYS_PROGRAMMED [] = s.get F.PB_FUSE_KEYS_PROGRAMMED [] := by
  refine completes_effect (fun _ => rfl) ?_
  rw [fuseOp_runs ho, complete_get _ (by simp), complete_get _ (by simp), complete_fuse]
  refine ⟨?_, by simp, ?_⟩
  · rw [get_set_self _ _ _ _ (by decide) (by decide), get_fuseShown _ (by decide)]
    rfl
  · rw [get_set_beside _ (by decide), get_fuseShown _ (by decide)]

theorem fuseSecverRaise_raises (ho : s.fuseOpen = true) (h : s.get F.PB_FUSE_SECVER_MIN [] < 64) :
    Completes (.fuseSecverRaise true) s fun t => t.get F.PB_FUSE_SECVER_MIN [] = s.get F.PB_FUSE_SECVER_MIN [] + 1
      ∧ t.fuse = s.fuse := by
  refine completes_effect (fun _ => rfl) ?_
  simp only [h, decide_true, Bool.and_self, fuseOp_runs ho, get_fuseShown _ (show F.PB_FUSE_SECVER_MIN.reg.addr [] ≠ _ by decide)]
  refine ⟨?_, by simp⟩
  rw [complete_get _ (by simp), get_set _ ⟨by decide, by decide, show _ < 128 by omega⟩]

/-! ## The plan record (R56, R92, R127) -/

theorem planRec_length (p : PlanRec) : p.bytes.length = 64 := by
  simp [PlanRec.bytes, leBytes_length, trimGroups]

@[simp] theorem writeSet_pace (seq x : Nat) (bs : List Byte) : (s.writeSet seq x bs).pace = s.pace := (rfl)

@[simp] theorem writeSet_retRead (seq x : Nat) (bs : List Byte) (n : Nat) : (s.writeSet seq x bs).retRead a n = s.retRead a n := (rfl)

theorem retRead_planAt (p : PlanRec) (x : Nat) : (s.retWrite (planAt x) p.bytes).retRead (planAt x) 64 = p.bytes := by
  have h := retRead_retWrite s (planAt x) p.bytes
  rwa [planRec_length] at h

theorem planRecordSave_saves {x us : Nat} (hp : s.powered = true) (hl : s.live x = true) (hd : bit s.pace.saveDue x = true)
    (hw : s.patinaWrites = false) (hus : us ≤ 50000) :
    Completes (.planRecordSave (x, us)) s fun t => t.pace.saveDue = setBit s.pace.saveDue x false
      ∧ t.pace.saveEnd = s.clock.tick + us * 1000
      ∧ ∃ p : PlanRec, p.stamp = s.nextStamp ∧ p.vfloor = s.get F.PT_VCORE_VFLOOR [x] ∧ p.eq = s.pace.eq.at 0 x
        ∧ t.retRead (State.planAt x) 64 = p.bytes := by
  have hopen : (s.powered && s.live x && bit s.pace.saveDue x && !s.patinaWrites && decide (us ≤ 50000)) = true := by
    simp [hp, hl, hd, hw, hus]
  refine completes_effect (fun _ => rfl) ?_
  simp only [onlyIf_of _ _ hopen, complete_pace, complete_retRead, writeSet_pace, writeSet_retRead, retRead_planAt, retWrite_pace,
    true_and]
  refine ⟨_, ?_, ?_, ?_, rfl⟩ <;> rfl

end Sys2Proof.Machine.State

/-- Settles O25: an operation that is not refused is under way until its end, which none outlives; a fuse operation that is honoured
changes its own field and its hash; the record of a plan is what its die's place in retention memory reads. -/
theorem flashAndFusesComplete : Obligations.FlashAndFusesComplete :=
  ⟨fun _ => flashStart_completes fun _ => rfl, fun _ => flashStart_completes fun _ => rfl,
    fun _ => flashStart_completes fun _ => rfl, fun _ => flashStart_completes fun _ => rfl,
    fun _ _ => flashOpDone_read, fun _ _ => flashOpDone_program, fun _ _ => flashOpDone_erase, fun _ _ => flashOpDone_commit,
    fun _ _ => fuseKeyProgram_programs, fun _ => fuseKeyRevoke_revokes, fun _ => fuseSecverRaise_raises,
    fun _ _ _ => planRecordSave_saves⟩

end

/-! PROOFS. The loader: what each of its commands shows when it completes. -/

section

open Sys2Proof Sys2Proof.Machine Sys2Proof.Machine.State

namespace Sys2Proof.Machine

variable {s t u : State}

/-! ## Registers of the modes and of the Pattern Book that an operation leaves alone -/

/-- The registers at 0x30000 to 0x4FFFF, of the modes and of the Pattern Book (R122, R160), read the same, in the same variant. -/
def SameBook (s t : State) : Prop :=
  t.variant = s.variant ∧ ∀ a d, 0x30000 ≤ a → a < 0x50000 → Map.at t.regs d a = Map.at s.regs d a

/-- A register that lies outside 0x30000 to 0x4FFFF, whatever its indexes. -/
abbrev OffBook (r : RegSpec) : Prop := 0x50000 ≤ r.base ∨ (r.dims = [] ∧ r.base < 0x30000)

theorem SameBook.refl (s : State) : SameBook s s := ⟨rfl, fun _ _ _ _ => rfl⟩

theorem SameBook.trans (h : SameBook s t) (h' : SameBook t u) : SameBook s u :=
  ⟨h'.1.trans h.1, fun a d h0 h1 => (h'.2 a d h0 h1).trans (h.2 a d h0 h1)⟩

theorem SameBook.symm (h : SameBook s t) : SameBook t s := ⟨h.1.symm, fun a d h0 h1 => (h.2 a d h0 h1).symm⟩

theorem SameBook.get (h : SameBook s t) {g : Fld} {jx : List Nat} (hg : 0x30000 ≤ g.reg.addr jx ∧ g.reg.addr jx < 0x50000) :
    t.get g jx = s.get g jx := by
  simp only [State.get, State.rd, h.1, h.2 _ _ hg.1 hg.2]

theorem sameBook_iff_of (h : SameBook t u) : SameBook s u ↔ SameBook s t := ⟨fun hs => hs.trans h.symm, fun hs => hs.trans h⟩

theorem sameBook_of_regs (hr : u.regs = t.regs) (hv : u.variant = t.variant) : SameBook s u ↔ SameBook s t :=
  sameBook_iff_of ⟨hv, fun a d _ _ => by rw [hr]⟩

theorem sameBook_refl : SameBook s s ↔ True := iff_true_intro (.refl s)

theorem OffBook.addr_ne {r : RegSpec} (h : OffBook r) (ix : List Nat) {a : Nat} (h0 : 0x30000 ≤ a) (h1 : a < 0x50000) :
    a ≠ r.addr ix := by
  have := r.base_le_addr ix
  rcases h with h | ⟨hd, hb⟩
  · omega
  · simp only [RegSpec.addr, hd, List.zip_nil_left, List.map_nil, List.sum_nil]
    omega

theorem sameBook_wr {r : RegSpec} (h : OffBook r) (ix : List Nat) (v : Nat) : SameBook s (t.wr r ix v) ↔ SameBook s t :=
  sameBook_iff_of ⟨rfl, fun _ _ h0 h1 => Map.at_put_ne _ _ _ _ (h.addr_ne ix h0 h1)⟩

theorem sameBook_set {f : Fld} (h : OffBook f.reg) (ix : List Nat) (v : Nat) : SameBook s (t.set f ix v) ↔ SameBook s t :=
  sameBook_wr h _ _

theorem sameBook_raise {f : Fld} (h : OffBook f.reg) (ix : List Nat) : SameBook s (t.raise f ix) ↔ SameBook s t :=
  (sameBook_of_regs (t.regs_raise f ix) (by simp)).trans (sameBook_set h ix 1)

theorem sameBook_inc (r : RegSpec) (ix : List Nat) (n : Nat) : SameBook s (t.inc r ix n) ↔ SameBook s t :=
  sameBook_of_regs rfl rfl

theorem sameBook_retWrite (a : Nat) (bs : List Byte) : SameBook s (t.retWrite a bs) ↔ SameBook s t :=
  sameBook_of_regs rfl rfl

theorem sameBook_setTab (x : Nat) (tb : Tbl) (i v : Nat) : SameBook s (t.setTab x tb i v) ↔ SameBook s t :=
  sameBook_of_regs rfl rfl

theorem sameBook_setThr (e i : Nat) (f : Thread → Thread) : SameBook s (t.setThr e i f) ↔ SameBook s t :=
  sameBook_of_regs rfl rfl

theorem sameBook_setEng (e : Nat) (f : Engine → Engine) : SameBook s (t.setEng e f) ↔ SameBook s t :=
  sameBook_of_regs rfl rfl

theorem sameBook_journal (e : JEntry) : SameBook s (t.journal e) ↔ SameBook s t :=
  sameBook_iff_of ⟨by simp, fun a d h0 h1 => t.journal_regsBut e a d (by
    simp only [journalRegs, R.FT_LAST, R.TK_JRNL_HEAD, R.TK_JRNL_COUNT, R.TK_EVT, List.mem_cons, List.not_mem_nil, or_false]
    omega)⟩

theorem sameBook_ite {c : Prop} [Decidable c] :
    SameBook s (if c then t else u) ↔ (c → SameBook s t) ∧ (¬c → SameBook s u) := by split <;> simp [*]

theorem sameBook_forEach {α : Type} {f : α → State → State} (h : ∀ a t, SameBook t (f a t)) (xs : List α) :
    SameBook s (forEach xs f t) ↔ SameBook s t :=
  sameBook_iff_of (forEach_induct (fun u => SameBook t u) f (fun a u hu => hu.trans (h a u)) xs t (.refl t))

theorem sameBook_foldl {α : Type} {f : State → α → State} (h : ∀ a t, SameBook t (f t a)) (xs : List α) :
    SameBook s (xs.foldl f t) ↔ SameBook s t := sameBook_forEach (f := fun a t => f t a) h xs

/-! ## Patina's records are taken (R56) -/

theorem sameBook_checkPlans (x : Nat) : SameBook s (t.checkPlans x) ↔ SameBook s t := by
  unfold State.checkPlans State.loseRegion
  dsimp only
  split
  · rw [sameBook_journal, sameBook_set (by decide)]
    exact sameBook_of_regs rfl rfl
  · rfl

theorem sameBook_withPace (p : Pace) : SameBook s { t with pace := p } ↔ SameBook s t := sameBook_of_regs rfl rfl

theorem sameBook_loadPlan (set : Option Nat) (x : Nat) : SameBook s (loadPlan set x t) ↔ SameBook s t := by
  unfold State.loadPlan
  rw [← sameBook_checkPlans (t := t) x]
  extract_lets v
  split
  · extract_lets u1 u2 u3
    rw [sameBook_wr (by decide), sameBook_withPace]
    simp (disch := decide) only [u2, u1, sameBook_wr, sameBook_set, v]
  · rw [sameBook_withPace, sameBook_set (by decide)]

/-! ## What taking the records leaves of the retention header (R92) -/

/-- The header of retention memory, with its whole region, reads the same. -/
def SameHeader (s t : State) : Prop := ∀ a, a < 0x1000 → Map.at t.tack.ret 0 a = Map.at s.tack.ret 0 a

theorem SameHeader.refl (s : State) : SameHeader s s := fun _ _ => rfl

theorem SameHeader.trans (h : SameHeader s t) (h' : SameHeader t u) : SameHeader s u := fun a ha => (h' a ha).trans (h a ha)

theorem sameHeader_of_tack (h : t.tack = s.tack) : SameHeader s t := fun a _ => by rw [h]

theorem sameHeader_retWrite {a : Nat} (h : 0x1000 ≤ a) (bs : List Byte) : SameHeader s (s.retWrite a bs) :=
  fun _ hb => Map.at_putAll_below _ _ _ _ _ _ (by omega)

theorem sameHeader_journalWrite (e : JEntry) : SameHeader s (s.journalWrite e) := by
  unfold State.journalWrite
  extract_lets head seq t1 t2 t3
  have h1 : SameHeader s t1 := sameHeader_retWrite (by omega) _
  have h3 : t3.tack = t1.tack := by simp [t3, t2]
  clear_value t3
  refine h1.trans (sameHeader_of_tack ?_)
  split <;> simp [h3]

theorem sameHeader_journal (e : JEntry) : SameHeader s (s.journal e) := by
  unfold State.journal
  split
  · split
    · exact sameHeader_of_tack rfl
    · split
      · exact sameHeader_of_tack rfl
      · exact (sameHeader_journalWrite _).trans (sameHeader_of_tack rfl)
  · exact sameHeader_journalWrite e

/-- Dropping a range leaves every key outside it alone. -/
theorem Map.at_dropRange_below {α : Type} (m : Map α) (d : α) {lo k : Nat} (hi : Nat) (h : k < lo) :
    (m.dropRange lo hi).at d k = m.at d k :=
  Map.at_keep (fun j => !(decide (lo ≤ j) && decide (j < hi))) m d k (by simp; omega)

theorem sameHeader_checkPlans (x : Nat) : SameHeader s (s.checkPlans x) := by
  have hreg : 0x1000 ≤ (State.retRegion (State.planAt x)).1 := by
    unfold State.retRegion State.planAt
    split <;> omega
  unfold State.checkPlans
  dsimp only
  split
  · refine SameHeader.trans (fun a ha => ?_) (sameHeader_journal _)
    unfold State.loseRegion
    rw [State.set_tack]
    exact Map.at_dropRange_below _ _ _ (by omega)
  · exact .refl s

theorem sameHeader_loadPlan (set : Option Nat) (x : Nat) : SameHeader s (loadPlan set x s) := by
  have hv : SameHeader s (s.checkPlans x) := sameHeader_checkPlans x
  unfold State.loadPlan
  generalize s.checkPlans x = v at hv
  refine hv.trans (sameHeader_of_tack ?_)
  dsimp only
  split <;> simp

/-- Taking a record changes nothing of the mode or of the loader. -/
theorem changes_loadPlan (set : Option Nat) (x : Nat) : Changes [.regs, .tack, .ev, .flt, .pace] s (loadPlan set x s) := by
  have hv : Changes [.regs, .tack, .ev, .flt, .pace] s (s.checkPlans x) := by
    unfold State.checkPlans State.loseRegion
    simp
  unfold State.loadPlan
  generalize s.checkPlans x = v at hv
  dsimp only
  split <;> simp [hv]

namespace State

variable {slot n : Nat}

/-! ## Load attempts in the retention header (R92) -/

theorem attempts_eq (s : State) (slot : Nat) : s.attempts slot = (s.tack.ret.at 0 (8 + slot)).toNat := by
  simp [attempts, retGet, retRead, Map.run, ofLe]

theorem attempts_withLoad (s : State) (l : Loader) (slot : Nat) : State.attempts { s with load := l } slot = s.attempts slot := rfl

theorem attempts_of_sameHeader (h : SameHeader s t) (hs : slot < 2) : t.attempts slot = s.attempts slot := by
  rw [attempts_eq, attempts_eq, h _ (by omega)]

theorem attempts_headerSeal (hs : slot < 2) : s.headerSeal.attempts slot = s.attempts slot := by
  rw [attempts_eq, attempts_eq, headerSeal, retPut, retWrite, Map.at_putAll_below _ _ _ _ _ _ (by omega)]

theorem attempts_setAttempts (hs : slot < 2) (hn : n < 256) : (s.setAttempts slot n).attempts slot = n := by
  rw [setAttempts, attempts_headerSeal hs, attempts_eq, retPut, retWrite, leBytes, leBytes, Map.putAll, Map.putAll,
    Map.at_put_self, BitVec.toNat_ofNat, Nat.mod_eq_of_lt hn]

theorem attempts_setActiveSlot (hs : slot < 2) : (s.setActiveSlot n).attempts slot = s.attempts slot := by
  rw [setActiveSlot, attempts_headerSeal hs, attempts_eq, attempts_eq, retPut, retWrite, Map.at_putAll_below _ _ _ _ _ _ (by omega)]

/-! ## The test of the dies (R544) -/

/-- The dies' mode registers lie below those of the Pattern Book and of the faults. -/
theorem addr_ne_unitMode {r : RegSpec} (h : 0x40000 ≤ r.base) (ix : List Nat) {x : Nat} (hx : x < 13) :
    r.addr ix ≠ R.MD_UNIT_MODE.addr [x] := by
  have := r.base_le_addr ix
  simp [RegSpec.addr, R.MD_UNIT_MODE] at this ⊢
  omega

theorem lt_of_mem_dies {v : Variant} {x : Nat} (h : x ∈ v.dies) : x < 13 := List.mem_range.1 (List.mem_filter.1 h).1

section
variable (bad : Nat)

@[simp] theorem dieTest_variant : (s.dieTest bad).variant = s.variant :=
  (forEach_keeps State.variant _ (fun _ _ => set_variant ..) _ _).trans (set_variant ..)

@[simp] theorem dieTest_mode : (s.dieTest bad).mode = s.mode :=
  (forEach_keeps State.mode _ (fun _ _ => set_mode ..) _ _).trans (set_mode ..)

@[simp] theorem dieTest_load : (s.dieTest bad).load = s.load :=
  (forEach_keeps State.load _ (fun _ _ => set_load ..) _ _).trans (set_load ..)

@[simp] theorem dieTest_tack : (s.dieTest bad).tack = s.tack :=
  (forEach_keeps State.tack _ (fun _ _ => set_tack ..) _ _).trans (set_tack ..)

/-- A register above the modes' shows after the test what it shows as the dies are marked in FT_DIE_STAT. -/
theorem get_dieTest {g : Fld} (h : 0x40000 ≤ g.reg.base) (ix : List Nat) :
    (s.dieTest bad).get g ix
      = (s.set F.FT_DIE_STAT_ISOLATED [] ((s.variant.dies.filter (bit bad)).map (2 ^ ·)).sum).get g ix :=
  forEach_keeps_of_mem (·.get g ix) (fun _ hx t => get_set_reg t _ _ _ _ _ (addr_ne_unitMode h ix (lt_of_mem_dies hx))) _

theorem bit_sum_two_pow {l : List Nat} (h : l.Pairwise (· < ·)) (i : Nat) : bit (l.map (2 ^ ·)).sum i = true ↔ i ∈ l := by
  rw [bit_eq_testBit, ← Nat.mem_bitIndices, Nat.bitIndices_sum_map_two_pow h.sortedLT]

/-- A die that is there and does not fail is live after the test. -/
theorem live_dieTest {x : Nat} (hx : s.variant.hasDie x = true) (hb : bit bad x = false) : (s.dieTest bad).live x = true := by
  have hsorted : (s.variant.dies.filter (bit bad)).Pairwise (· < ·) := (List.pairwise_lt_range.filter _).filter _
  have hmark : bit ((s.variant.dies.filter (bit bad)).map (2 ^ ·)).sum x = false := by
    rw [Bool.eq_false_iff, Ne, bit_sum_two_pow hsorted, List.mem_filter, hb]
    simp
  have hiso : (s.dieTest bad).isolated x = false := by
    rw [isolated, get_dieTest bad (by decide), get_set_self _ _ _ _ (by decide) (by decide), bit_eq_testBit, Nat.testBit_mod_two_pow,
      ← bit_eq_testBit, hmark, Bool.and_false]
  rw [live, dieTest_variant, hx, hiso]
  rfl

theorem liveGirths_dieTest (h : ((List.range s.variant.girths).any fun g => !bit bad (8 + g)) = true) :
    (s.dieTest bad).liveGirths.isEmpty = false := by
  obtain ⟨g, hg, hb⟩ := List.any_eq_true.1 h
  have hlt : g < s.variant.girths := List.mem_range.1 hg
  have hfour : s.variant.girths ≤ 4 := by cases s.variant <;> decide
  have hdie : s.variant.hasDie (8 + g) = true := by simp [Variant.hasDie, hlt]
  have hmem : g ∈ (s.dieTest bad).liveGirths :=
    List.mem_filter.2 ⟨List.mem_range.2 (by omega), live_dieTest bad hdie (by simpa using hb)⟩
  rw [List.isEmpty_eq_false_iff]
  exact List.ne_nil_of_mem hmem

end

/-! ## A slot is attempted (R131, R151, R544) -/

@[simp] theorem showImages_mode : s.showImages.mode = s.mode := by simp [showImages]
@[simp] theorem showImages_tack : s.showImages.tack = s.tack := by simp [showImages]
@[simp] theorem showImages_flash : s.showImages.flash = s.flash := by simp [showImages]

theorem slotUsable_showImages (slot : Nat) : s.showImages.slotUsable slot = s.slotUsable slot := by
  unfold slotUsable slotValid attempts retGet retRead flashGet flashRead slotLen
  rw [showImages_tack, showImages_flash]

/-- What the attempt of a slot shows in state `u`, begun in state `s`. -/
def Attempted (s u : State) (slot : Nat) : Prop :=
  u.variant = s.variant ∧ u.mode = .load ∧ u.attempts slot = s.attempts slot + 1 ∧ u.get F.PB_STATUS_LOADING [] = 1
    ∧ u.load.slot = slot ∧ u.load.before = s.attempts slot ∧ u.load.tries = s.load.tries + 1
    ∧ (u.load.phase = .checked ∨ u.load.phase = .failed)

/-- It goes on showing it while only the header's other bytes, other registers and other parts change. -/
theorem Attempted.of_same (h : Attempted s t slot) (hs : slot < 2) (hm : u.mode = t.mode) (hl : u.load = t.load)
    (hh : SameHeader t u) (hb : SameBook t u) : Attempted s u slot := by
  obtain ⟨hv, hmode, hatt, hload, hrest⟩ := h
  exact ⟨hb.1.trans hv, hm.trans hmode, (attempts_of_sameHeader hh hs).trans hatt, (hb.get (by decide)).trans hload, by rwa [hl]⟩

theorem Attempted.loadPlan (h : Attempted s t slot) (hs : slot < 2) (set : Option Nat) (x : Nat) :
    Attempted s (loadPlan set x t) slot :=
  h.of_same hs (changes_loadPlan set x .mode (by decide)) (changes_loadPlan set x .load (by decide)) (sameHeader_loadPlan set x)
    ((sameBook_loadPlan set x).2 (.refl t))

theorem Attempted.forEach_loadPlan (h : Attempted s t slot) (hs : slot < 2) (set : Option Nat) (xs : List Nat) :
    Attempted s (forEach xs (State.loadPlan set) t) slot :=
  forEach_induct (Attempted s · slot) _ (fun x _ ht => ht.loadPlan hs set x) xs t h

theorem Attempted.of_complete (h : Attempted s u slot) (k : Clock) : Attempted s (complete k s u) slot := by
  obtain ⟨hv, hmode, hatt, hload, hrest⟩ := h
  exact ⟨rfl, hmode, hatt, (complete_get k hv _ _).trans hload, hrest⟩

theorem Attempted.attemptFailed (h : Attempted s u slot) (c : Nat) : Attempted s (u.attemptFailed c) slot := by
  obtain ⟨hv, hmode, hatt, hload, hslot, hb, ht, -⟩ := h
  exact ⟨hv, hmode, hatt, hload, hslot, hb, ht, .inr rfl⟩

/-- The slot that is attempted: the preferred one if it is usable, else the other (R131). -/
def slotChosen (s : State) : Nat := if s.slotUsable s.preferredSlot then s.preferredSlot else 1 - s.preferredSlot

theorem slotChosen_lt (h : s.preferredSlot < 2) : s.slotChosen < 2 := by
  unfold slotChosen
  split <;> omega

theorem attempts_slotChosen_lt (h : s.slotUsable s.preferredSlot = true ∨ s.slotUsable (1 - s.preferredSlot) = true) :
    s.attempts s.slotChosen < 3 := by
  have husable : s.slotUsable s.slotChosen = true := by
    unfold slotChosen
    split
    · assumption
    · exact h.resolve_left ‹_›
  exact of_decide_eq_true (Bool.and_eq_true_iff.1 husable).2

variable {bad : Nat}

@[simp] theorem setActiveSlot_variant : (s.setActiveSlot n).variant = s.variant := (rfl)
@[simp] theorem setActiveSlot_mode : (s.setActiveSlot n).mode = s.mode := (rfl)
@[simp] theorem setActiveSlot_load : (s.setActiveSlot n).load = s.load := (rfl)
@[simp] theorem setAttempts_mode (k : Nat) : (s.setAttempts slot k).mode = s.mode := (rfl)

/-- The slot that is shown as loading, once the attempt is counted, and the dies' test show the attempt. -/
theorem attempted_dieTest (hs : slot < 2) (hv : u.variant = s.variant) (hm : u.mode = .load)
    (ha : u.attempts slot = s.attempts slot + 1)
    (hl : u.load.slot = slot ∧ u.load.before = s.attempts slot ∧ u.load.tries = s.load.tries + 1) (hph : u.load.phase = .checked) :
    Attempted s (((u.set F.PB_STATUS_LOADING [] 1).set F.PB_STATUS_ACTIVE [] slot).dieTest bad) slot := by
  obtain ⟨hslot, hbefore, htries⟩ := hl
  refine ⟨by simp [hv], by simp [hm], ?_, ?_, by simp [hslot], by simp [hbefore], by simp [htries], .inl (by simp [hph])⟩
  · rw [attempts_of_sameHeader (sameHeader_of_tack (s := u) (by simp)) hs, ha]
  · rw [get_dieTest bad (by decide), get_set_reg _ _ _ _ _ _ (by decide), get_set_beside _ (by decide), get_set _ (by decide)]

theorem loadAttempt_checks (hp : s.powered = true) (hm : s.mode = .load) (hph : s.load.phase = .idle) (ha : s.load.applying = false)
    (hpref : s.preferredSlot < 2) (hu : s.slotUsable s.preferredSlot = true ∨ s.slotUsable (1 - s.preferredSlot) = true)
    (htree : bit bad 12 = false) (hg : ((List.range s.variant.girths).any fun g => !bit bad (8 + g)) = true) :
    Completes (.loadAttempt bad) s fun t => Attempted s t s.slotChosen := by
  have hopen : (s.powered && s.mode == .load && s.load.phase == .idle) = true := by simp [hp, hm, hph]
  refine completes_effect (fun _ => rfl) ?_
  generalize hE : onlyIf _ _ s = E
  rw [onlyIf_of _ _ hopen] at hE
  extract_lets s0 p s1 slot before t1 l t2 t3 t4 at hE
  have h0 : s0 = s := if_neg (by simp [ha])
  have hs1 : s1 = s.showImages := congrArg showImages h0
  have hpre : p = s.preferredSlot := congrArg preferredSlot h0
  have hslot : slot = s.slotChosen := by simp only [slot, hs1, hpre, slotUsable_showImages, slotChosen]
  have hlt : slot < 2 := hslot ▸ slotChosen_lt hpref
  have hcount : s.attempts slot < 3 := hslot ▸ attempts_slotChosen_lt hu
  have hbefore : before = s.attempts slot := attempts_of_sameHeader (sameHeader_of_tack (by simp [hs1])) hlt
  have hv : t1.variant = s.variant := by simp [t1, hs1]
  have hmode : t1.mode = .load := by simp [t1, hs1, hm]
  have htries : t1.load.tries = s.load.tries := by simp [t1, hs1]
  have hatt : t1.attempts slot = s.attempts slot + 1 := by
    rw [← hbefore]
    exact (attempts_setActiveSlot hlt).trans (attempts_setAttempts hlt (by omega))
  have htaken : t2.load.slot = slot ∧ t2.load.before = s.attempts slot ∧ t2.load.tries = s.load.tries + 1 := by
    simp [t2, hbefore, htries]
  have h3 : Attempted s t3 slot :=
    attempted_dieTest hlt (by simp [t2, hv]) (by simp [t2, hmode]) ((attempts_withLoad ..).trans hatt) htaken (by simp [t2])
  have h4 : Attempted s t4 slot := h3.forEach_loadPlan hlt _ _
  have hgirths : t3.liveGirths.isEmpty = false := liveGirths_dieTest bad (by simpa [t2, hv] using hg)
  clear_value t4 t3
  rw [if_neg (by rcases hu with h | h <;> simp [hs1, hpre, slotUsable_showImages, h]), if_neg (by simp [htree, hgirths])] at hE
  have hend : E = t4 ∨ ∃ c, E = t4.attemptFailed c := by
    rw [← hE]
    split
    · exact .inr ⟨_, rfl⟩
    · split
      · exact .inl rfl
      · exact .inr ⟨_, rfl⟩
  rw [← hslot]
  rcases hend with rfl | ⟨c, rfl⟩
  · exact h4.of_complete _
  · exact (h4.attemptFailed c).of_complete _

/-- What an attempt shows, in the terms of the slot that it names. -/
theorem loadAttempt_attempts (hp : s.powered = true) (hm : s.mode = .load) (hph : s.load.phase = .idle)
    (ha : s.load.applying = false) (hpref : s.preferredSlot < 2)
    (hu : s.slotUsable s.preferredSlot = true ∨ s.slotUsable (1 - s.preferredSlot) = true)
    (htree : bit bad 12 = false) (hg : ((List.range s.variant.girths).any fun g => !bit bad (8 + g)) = true) :
    Completes (.loadAttempt bad) s fun t =>
      t.load.slot = (if s.slotUsable s.preferredSlot then s.preferredSlot else 1 - s.preferredSlot)
      ∧ t.attempts t.load.slot = s.attempts t.load.slot + 1 ∧ t.load.before = s.attempts t.load.slot
      ∧ t.load.tries = s.load.tries + 1 ∧ t.get F.PB_STATUS_LOADING [] = 1
      ∧ (t.load.phase = .checked ∨ t.load.phase = .failed) ∧ t.mode = .load := by
  obtain ⟨t, ht, -, hmode, hatt, hload, hslot, hb, htries, hphase⟩ := loadAttempt_checks hp hm hph ha hpref hu htree hg
  rw [← hslot] at hatt hb
  rw [slotChosen] at hslot
  exact ⟨t, ht, hslot, hatt, hb, htries, hload, hphase, hmode⟩

/-! ## The container is verified, and its sections applied (R135 to R137, R151) -/

/-- The first pass over the container is due. -/
theorem verifyOpen (hm : s.mode = .load) (hph : s.load.phase = .checked) : (s.mode == .load && s.load.phase == .checked) = true := by
  simp [hm, hph]

theorem loadVerified_passes (hm : s.mode = .load) (hph : s.load.phase = .checked) (hf : s.authFail = 0) :
    Completes .loadVerified s fun t => t.load.phase = .verified ∧ t.load.todo = State.applyOrder (s.sectionTable s.containerAt)
      ∧ t.flash = (s.flashErase s.copyAreaAt).flash := by
  refine completes_effect (fun _ => rfl) ?_
  rw [onlyIf_of _ _ (verifyOpen hm hph)]
  simp only [hf]
  refine ⟨?_, ?_, ?_⟩
  · rw [complete_load]
  · rw [complete_load]
  · rw [complete_flash, set_flash]

theorem loadVerified_fails (hm : s.mode = .load) (hph : s.load.phase = .checked) (hf : s.authFail ≠ 0) :
    exec .loadVerified s = .next { s with load := { s.load with phase := .failed, fail := s.authFail } } := by
  have hdoes : Does .loadVerified s (s.attemptFailed s.authFail) := does_of_effect (fun _ => rfl) (by
    rw [onlyIf_of _ _ (verifyOpen hm hph)]
    split
    · contradiction
    · rfl)
  exact hdoes

theorem sectionApply_applies {e : SecEntry} {l : List SecEntry} (hl : s.load.todo = e :: l) (hp : s.powered = true)
    (hm : s.mode = .load) (hph : s.load.phase = .verified) (ht : e.typ = 0x0070 → s.training = false) :
    Does .sectionApply s (s.sectionStep e).judgeOrdered := by
  have hopen : (s.powered && s.mode == .load && s.load.phase == .verified && !(e.typ == 0x0070 && s.training)) = true := by
    simp only [hp, hm, hph, beq_self_eq_true, Bool.and_self, Bool.true_and, Bool.not_eq_true', Bool.and_eq_false_imp, beq_iff_eq]
    exact ht
  refine does_of_effect (fun _ => rfl) ?_
  simp only [hl]
  exact onlyIf_of _ _ hopen

/-! ## DDR5 is trained (R504) -/

/-- Repetition establishes what one step establishes and every step keeps. -/
theorem forEach_establishes {α : Type} {P : State → Prop} {f : α → State → State} {l : List α} {a : α} (hm : a ∈ l)
    (he : ∀ t, P (f a t)) (hk : ∀ b t, P t → P (f b t)) (s : State) : P (forEach l f s) := by
  induction l generalizing s with
  | nil => cases hm
  | cons b l ih =>
    rcases List.mem_cons.1 hm with rfl | hm
    · exact forEach_induct P f hk l _ (he s)
    · exact ih hm _

/-- One channel is trained, at its DRAM's temperature. -/
def trainChannel (temps : List Int) (c : Nat) (t : State) : State :=
  let u := (t.set F.DM_CH_STAT_TRAINED [c] 1).set F.DM_CH_STAT_TEMP [c] (unsigned 8 (temps.getD c 0))
  { u with ddr.trainAt := u.ddr.trainAt.put 0 c (u.clock.tick + 1), ddr.trainTemp := u.ddr.trainTemp.put 0 c (temps.getD c 0) }

section
variable (temps : List Int) (c : Nat)

@[simp] theorem trainChannel_variant : (trainChannel temps c s).variant = s.variant := by simp [trainChannel]
@[simp] theorem trainChannel_load : (trainChannel temps c s).load = s.load := by simp [trainChannel]

theorem get_withDdr (u : State) (d : Ddr) (f : Fld) (ix : List Nat) : State.get { u with ddr := d } f ix = u.get f ix :=
  get_congr (s := u) rfl rfl f ix

theorem get_trainChannel (f : Fld) (ix : List Nat) :
    (trainChannel temps c s).get f ix
      = ((s.set F.DM_CH_STAT_TRAINED [c] 1).set F.DM_CH_STAT_TEMP [c] (unsigned 8 (temps.getD c 0))).get f ix := by
  rw [trainChannel, get_withDdr]

theorem unsigned_lt (w : Nat) (i : Int) : unsigned w i < 2 ^ w := by
  have h : (0 : Int) < 2 ^ w := by positivity
  have := Int.emod_lt_of_pos i h
  have := Int.emod_nonneg i h.ne'
  rw [unsigned, Int.toNat_lt this]
  simpa

/-- Channel `c` shows that it is trained, at the temperature `v`. -/
def Trained (c v : Nat) (t : State) : Prop := t.get F.DM_CH_STAT_TRAINED [c] = 1 ∧ t.get F.DM_CH_STAT_TEMP [c] = v

theorem trainChannel_trains : Trained c (unsigned 8 (temps.getD c 0)) (trainChannel temps c s) := by
  constructor
  · rw [get_trainChannel, get_set_beside _ (by decide), get_set _ (by decide)]
  · rw [get_trainChannel, get_set _ ⟨by decide, by decide, unsigned_lt 8 _⟩]

theorem addr_chStat_ne {b : Nat} (h : c ≠ b) : R.DM_CH_STAT.addr [c] ≠ R.DM_CH_STAT.addr [b] := by
  simp [RegSpec.addr, R.DM_CH_STAT, h]

theorem trainChannel_keeps (b : Nat) (h : Trained c (unsigned 8 (temps.getD c 0)) s) :
    Trained c (unsigned 8 (temps.getD c 0)) (trainChannel temps b s) := by
  rcases eq_or_ne c b with rfl | hne
  · exact trainChannel_trains temps c
  · have haddr := addr_chStat_ne c hne
    constructor
    · rw [get_trainChannel, get_set_reg _ _ _ _ _ _ haddr, get_set_reg _ _ _ _ _ _ haddr, h.1]
    · rw [get_trainChannel, get_set_reg _ _ _ _ _ _ haddr, get_set_reg _ _ _ _ _ _ haddr, h.2]

end

/-- Training is due to end. -/
theorem trainOpen (hp : s.powered = true) (hm : s.mode = .load) (hph : s.load.phase = .verified) (ht : s.training = true) :
    (s.powered && s.mode == .load && s.load.phase == .verified && s.training) = true := by simp [hp, hm, hph, ht]

section
variable (temps : List Int)

theorem ddrTrainDone_trains (hp : s.powered = true) (hm : s.mode = .load) (hph : s.load.phase = .verified) (ht : s.training = true) :
    Completes (.ddrTrainDone false temps) s fun t => t.load = s.load ∧ ∀ c, c < s.variant.channels →
      t.get F.DM_CH_STAT_TRAINED [c] = 1 ∧ t.get F.DM_CH_STAT_TEMP [c] = unsigned 8 (temps.getD c 0) := by
  have heffect : ∀ s, exec (.ddrTrainDone false temps) s = done (fun s =>
      onlyIf (s.powered && s.mode == .load && s.load.phase == .verified && s.training)
        (fun s => forEach (List.range s.variant.channels) (trainChannel temps) s) s) s := fun _ => rfl
  refine completes_effect heffect ?_
  rw [onlyIf_of _ _ (trainOpen hp hm hph ht), complete_load]
  have hv : (forEach (List.range s.variant.channels) (trainChannel temps) s).variant = s.variant :=
    forEach_keeps State.variant _ (fun c _ => trainChannel_variant temps c) _ _
  refine ⟨forEach_keeps State.load _ (fun c _ => trainChannel_load temps c) _ _, fun c hc => ?_⟩
  rw [complete_get _ hv, complete_get _ hv]
  exact forEach_establishes (List.mem_range.2 hc) (fun _ => trainChannel_trains temps c)
    (fun b _ h => trainChannel_keeps temps c b h) s

theorem ddrTrainDone_fails (hp : s.powered = true) (hm : s.mode = .load) (hph : s.load.phase = .verified) (ht : s.training = true) :
    exec (.ddrTrainDone true temps) s = .next { s with load := { s.load with phase := .failed, fail := 12 } } := by
  have hdoes : Does (.ddrTrainDone true temps) s (s.attemptFailed 12) :=
    does_of_effect (fun _ => rfl) (by rw [onlyIf_of _ _ (trainOpen hp hm hph ht), if_pos rfl])
  exact hdoes

end

/-! ## An attempt fails or runs out of time (R132, R152, R154) -/

/-- A failed attempt shows its code, and the next may begin. -/
theorem endFailed_shows (s : State) (code : Nat) :
    (s.endFailed code).variant = s.variant ∧ (s.endFailed code).load.phase = .idle ∧ (s.endFailed code).load.want = none
      ∧ (s.endFailed code).get F.PB_STATUS_FAIL [] = code % 256 := by
  unfold endFailed
  extract_lets t1 t2 t3
  have h2 : t2.variant = s.variant ∧ t2.get F.PB_STATUS_FAIL [] = code % 256 := by
    refine ⟨by simp [t2, t1], ?_⟩
    rw [get_eq, journal_variant, getR_journal _ _ _ _ _ (by decide), ← get_eq]
    exact get_set_self s _ _ _ (by decide) (by decide)
  have h3 : t3.variant = s.variant ∧ t3.get F.PB_STATUS_FAIL [] = code % 256 := by
    unfold t3
    split
    · exact h2
    · rwa [setAttempts_variant, get_setAttempts]
  clear_value t3
  exact ⟨h3.1, rfl, rfl, (get_congr (s := t3) rfl rfl _ _).trans h3.2⟩

/-- A command that ends the attempt with a code shows what its end shows. -/
theorem completes_endFailed {c : Instr} {f : State → State} {code : Nat} (h : ∀ s, exec c s = done f s)
    (hf : f s = s.endFailed code) :
    Completes c s fun t => t.load.phase = .idle ∧ t.load.want = none ∧ t.get F.PB_STATUS_FAIL [] = code % 256 := by
  obtain ⟨hv, hph, hw, hget⟩ := endFailed_shows s code
  refine completes_effect h ?_
  rw [hf]
  exact ⟨hph, hw, (complete_get _ hv _ _).trans hget⟩

theorem loadFail_ends (e : Bool) (hp : s.powered = true) (hm : s.mode = .load) (hph : s.load.phase = .failed) :
    Completes (.loadFail e) s fun t => t.load.phase = .idle ∧ t.load.want = none ∧ t.get F.PB_STATUS_FAIL [] = s.load.fail % 256 := by
  have hopen : (s.powered && s.mode == .load) = true := by simp [hp, hm]
  refine completes_endFailed (fun _ => rfl) ?_
  rw [onlyIf_of _ _ hopen]
  simp only [hph]

theorem loadFail_flashError (hp : s.powered = true) (hm : s.mode = .load) (hi : s.load.phase ≠ .idle) (hf : s.load.phase ≠ .failed) :
    Completes (.loadFail true) s fun t => t.load.phase = .idle ∧ t.get F.PB_STATUS_FAIL [] = 13 := by
  have hopen : (s.powered && s.mode == .load) = true := by simp [hp, hm]
  obtain ⟨t, ht, hph, -, hget⟩ : Completes (.loadFail true) s fun t => t.load.phase = .idle ∧ t.load.want = none
      ∧ t.get F.PB_STATUS_FAIL [] = 13 % 256 := by
    refine completes_endFailed (fun _ => rfl) ?_
    rw [onlyIf_of _ _ hopen]
    cases hph : s.load.phase with
    | idle => exact absurd hph hi
    | failed => exact absurd hph hf
    | checked => simp
    | verified => simp
  exact ⟨t, ht, hph, hget⟩

theorem loadTimeout_ends (hp : s.powered = true) (hm : s.mode = .load) (hi : s.load.phase ≠ .idle)
    (hdue : 30000000000 ≤ s.since s.load.startTick) :
    Completes .loadTimeout s fun t => t.load.phase = .idle ∧ t.get F.PB_STATUS_FAIL [] = 15 := by
  have hopen : (s.powered && s.mode == .load && s.load.phase != .idle && decide (30000000000 ≤ s.since s.load.startTick)) = true := by
    simp [hp, hm, hi, hdue]
  obtain ⟨t, ht, hph, -, hget⟩ : Completes .loadTimeout s fun t => t.load.phase = .idle ∧ t.load.want = none
      ∧ t.get F.PB_STATUS_FAIL [] = 15 % 256 := completes_endFailed (fun _ => rfl) (onlyIf_of _ _ hopen)
  exact ⟨t, ht, hph, hget⟩

end State

/-! ## What entering RUN leaves of those registers, beside its own (R102, R151) -/

theorem sameBook_withFab (x : Fabric) : SameBook s { t with fab := x } ↔ SameBook s t := sameBook_of_regs rfl rfl

theorem sameBook_withTally (x : TallyBanks) : SameBook s { t with tally := x } ↔ SameBook s t := sameBook_of_regs rfl rfl

theorem sameBook_showFill (g : Nat) : SameBook s (t.showFill g) ↔ SameBook s t :=
  sameBook_iff_of (by
    unfold State.showFill
    simp (disch := decide) only [sameBook_ite, sameBook_set, sameBook_refl, implies_true, and_self])

theorem sameBook_showSlots (d : Nat) : SameBook s (showSlots d t) ↔ SameBook s t := by
  unfold State.showSlots
  simp (disch := decide) only [sameBook_set]

theorem sameBook_showCells (g : Nat) : SameBook s (t.showCells g) ↔ SameBook s t :=
  sameBook_iff_of (by
    unfold State.showCells
    simp (disch := decide) only [sameBook_ite, sameBook_set, sameBook_refl, implies_true, and_self])

theorem sameBook_setPoolFree (n free : Nat) (down : Bool) : SameBook s (t.setPoolFree n free down) ↔ SameBook s t :=
  sameBook_iff_of (by
    unfold State.setPoolFree
    simp (disch := decide) only [sameBook_ite, sameBook_set, sameBook_raise, sameBook_refl, implies_true, and_self])

theorem sameBook_showFresh : SameBook s t.showFresh ↔ SameBook s t := by
  unfold State.showFresh
  dsimp only
  rw [sameBook_foldl fun n u => by simp only [sameBook_ite, sameBook_setPoolFree, sameBook_refl, implies_true, and_self],
    sameBook_forEach fun g u => (sameBook_showCells g).2 (.refl u),
    sameBook_forEach fun d u => (sameBook_showSlots d).2 (.refl u),
    sameBook_forEach fun g u => by simp only [sameBook_ite, sameBook_showFill, sameBook_refl, implies_true, and_self]]

theorem sameBook_showPending (p : Nat) : SameBook s (t.showPending p) ↔ SameBook s t := sameBook_set (by decide) _ _

theorem sameBook_showGates (p : Nat) : SameBook s (t.showGates p) ↔ SameBook s t :=
  sameBook_iff_of (by
    unfold State.showGates
    simp (disch := decide) only [sameBook_ite, sameBook_set, sameBook_refl, implies_true, and_self])

theorem gaitPairs_offBook : ∀ r ∈ gaitPairs, OffBook r.1 ∧ OffBook r.2 := by decide

/-- The registers of a port's lists change places (R403). -/
theorem sameBook_swapRegs (x : List Nat) {l : List (RegSpec × RegSpec)} (h : ∀ r ∈ l, OffBook r.1 ∧ OffBook r.2) :
    SameBook s (l.foldl (fun t r => (t.wr r.1 x (t.rd r.2 x)).wr r.2 x (t.rd r.1 x)) t) ↔ SameBook s t := by
  induction l generalizing t with
  | nil => rfl
  | cons r l ih =>
    obtain ⟨⟨h1, h2⟩, hl⟩ := List.forall_mem_cons.1 h
    rw [List.foldl_cons, ih hl, sameBook_wr h2, sameBook_wr h1]

theorem sameBook_swapLists (p : Nat) : SameBook s (swapLists p t) ↔ SameBook s t := by
  unfold State.swapLists
  dsimp only
  rw [sameBook_showGates, sameBook_showPending, sameBook_foldl fun i u => by simp only [sameBook_setTab, sameBook_refl]]
  simp (disch := decide) only [sameBook_set]
  exact sameBook_swapRegs _ gaitPairs_offBook

theorem sameBook_startGait : SameBook s t.startGait ↔ SameBook s t :=
  sameBook_iff_of (by
    unfold State.startGait
    split
    · refine (sameBook_forEach (fun d u => ?_) _).2 (.refl t)
      exact (sameBook_forEach (fun p v => (sameBook_swapLists p).2 (.refl v)) _).2 (.refl u)
    · exact .refl t)

theorem sameBook_writePattern (gen : Nat) : SameBook s (t.writePattern gen) ↔ SameBook s t := by
  unfold State.writePattern State.showPattern
  dsimp only
  rw [sameBook_foldl fun e u => by simp (disch := decide) only [sameBook_set, sameBook_refl]]
  simp (disch := decide) only [sameBook_set]

theorem sameBook_writeCalendars : SameBook s t.writeCalendars ↔ SameBook s t :=
  sameBook_forEach (fun _ u => (sameBook_forEach (fun _ v => (sameBook_withFab _).2 (.refl v)) _).2 (.refl u)) _

theorem sameBook_tallySettle : SameBook s t.tallySettle ↔ SameBook s t := by
  unfold State.tallySettle
  dsimp only
  rw [sameBook_set (by decide), sameBook_withTally, sameBook_forEach fun e u => (sameBook_setTab ..).2 (.refl u)]

theorem sameBook_tallyStart : SameBook s t.tallyStart ↔ SameBook s t := by
  unfold State.tallyStart State.tallyCommit State.beginMinute
  dsimp only
  rw [sameBook_retWrite, sameBook_withTally, sameBook_set (by decide), sameBook_wr (by decide), sameBook_wr (by decide),
    sameBook_withTally, sameBook_tallySettle]

theorem sameBook_clearStep (e i : Nat) : SameBook s (t.clearStep e i) ↔ SameBook s t := sameBook_set (by decide) _ _

theorem sameBook_settleThread (e i : Nat) : SameBook s (settleThread e t i) ↔ SameBook s t :=
  sameBook_iff_of (by
    unfold State.settleThread
    simp (disch := decide) only [sameBook_ite, sameBook_set, sameBook_raise, sameBook_clearStep, sameBook_setThr, sameBook_refl,
      implies_true, and_self])

theorem sameBook_showWaiting (e : Nat) : SameBook s (t.showWaiting e) ↔ SameBook s t :=
  sameBook_iff_of (by
    unfold State.showWaiting
    simp (disch := decide) only [sameBook_ite, sameBook_inc, sameBook_raise, sameBook_setEng, sameBook_refl, implies_true, and_self])

theorem sameBook_settle (e : Nat) : SameBook s (t.settle e) ↔ SameBook s t := by
  have hthreads : SameBook s ((List.range 8).foldl (settleThread e) t) ↔ SameBook s t :=
    sameBook_foldl (fun i u => (sameBook_settleThread e i).2 (.refl u)) _
  unfold State.settle
  dsimp only
  rw [sameBook_showWaiting, ← hthreads]
  split
  · rfl
  · split
    · exact sameBook_setEng ..
    · rfl

namespace State

/-! ## Entering RUN (R102, R151) -/

@[simp] theorem changes_showFresh {l : List Part} (hl : [.regs, .ev] ⊆ l) : Changes l s t.showFresh ↔ Changes l s t :=
  changes_iff_of (by unfold showFresh; simp) hl

@[simp] theorem changes_startGait {l : List Part} (hl : [.regs, .tabs] ⊆ l) : Changes l s t.startGait ↔ Changes l s t :=
  changes_iff_of (by
    unfold startGait
    split
    · exact (changes_forEach fun _ u => (changes_forEach fun p v => (changes_swapLists (by decide) p).2 (.refl _ v)).2 (.refl _ u)).2
        (.refl _ t)
    · exact .refl _ t) hl

@[simp] theorem changes_tallyStart {l : List Part} (hl : [.regs, .tack, .tabs, .tally] ⊆ l) :
    Changes l s t.tallyStart ↔ Changes l s t :=
  changes_iff_of (by unfold tallyStart; simp) hl

/-- What entering RUN does once the mode, the loader and the epoch stand. -/
def runShown (s : State) : State :=
  let t := (s.showFresh.startGait.writePattern 0).writeCalendars.tallyStart
  let t := forEach (List.range 32) (fun e u => u.settle e) t
  if t.timeValid then t else t.raise F.TK_EVT_TIME_INVALID []

theorem changes_runShown : Changes [.regs, .ctrs, .tack, .ev, .tabs, .fab, .tally, .st] s s.runShown := by
  unfold runShown
  simp

theorem sameBook_runShown : SameBook s s.runShown := by
  have hshown : SameBook s (forEach (List.range 32) (fun e u => u.settle e)
      (s.showFresh.startGait.writePattern 0).writeCalendars.tallyStart) := by
    rw [sameBook_forEach fun e u => (sameBook_settle e).2 (.refl u), sameBook_tallyStart, sameBook_writeCalendars,
      sameBook_writePattern, sameBook_startGait, sameBook_showFresh]
    exact .refl s
  unfold runShown
  dsimp only
  split
  · exact hshown
  · exact (sameBook_raise (by decide) _).2 hshown

/-- The live dies show a mode and an epoch. -/
def unitsShown (s : State) (m e : Nat) : State :=
  forEach s.liveDies (fun x t => (t.set F.MD_UNIT_MODE_MODE [x] m).set F.MD_UNIT_MODE_EPOCH [x] e) s

section
variable (m e : Nat)

@[simp] theorem unitsShown_variant : (s.unitsShown m e).variant = s.variant :=
  forEach_keeps State.variant _ (fun _ _ => (set_variant ..).trans (set_variant ..)) _ _

@[simp] theorem unitsShown_mode : (s.unitsShown m e).mode = s.mode :=
  forEach_keeps State.mode _ (fun _ _ => (set_mode ..).trans (set_mode ..)) _ _

@[simp] theorem unitsShown_load : (s.unitsShown m e).load = s.load :=
  forEach_keeps State.load _ (fun _ _ => (set_load ..).trans (set_load ..)) _ _

/-- A register above the modes' keeps its value. -/
theorem get_unitsShown {g : Fld} (h : 0x40000 ≤ g.reg.base) (ix : List Nat) : (s.unitsShown m e).get g ix = s.get g ix :=
  forEach_keeps_of_mem (·.get g ix) (fun x hx t => by
    have hne := addr_ne_unitMode h ix (List.mem_range.1 (List.mem_filter.1 hx).1)
    exact (get_set_reg _ _ _ _ _ _ hne).trans (get_set_reg _ _ _ _ _ _ hne)) _

end

theorem enterRun_shows (s : State) :
    s.enterRun.variant = s.variant ∧ s.enterRun.mode = .run ∧ s.enterRun.load.phase = .idle ∧ s.enterRun.epoch = 0
      ∧ s.enterRun.get F.PB_STATUS_LOADING [] = 0 := by
  generalize hE : s.enterRun = E
  unfold enterRun at hE
  extract_lets l fall t1 t2 t3 sl t4 t5 t6 at hE
  have h1 : t1.get F.PB_STATUS_LOADING [] = 0 := get_set _ (by decide) []
  have h2 : t2.get F.PB_STATUS_LOADING [] = 0 := by
    rw [get_wr_reg _ _ _ _ (by decide), get_set_beside _ (by decide), get_set_beside _ (by decide), h1]
  have h3 : t3.variant = s.variant ∧ t3.get F.PB_STATUS_LOADING [] = 0 := by
    unfold t3
    split
    · rw [get_raise, get_set_reg _ _ _ _ _ _ (by decide), h2]
      exact ⟨by simp [t2, t1], rfl⟩
    · exact ⟨by simp [t2, t1], h2⟩
  clear_value t3
  have h4 : t4.variant = s.variant ∧ t4.mode = .run ∧ t4.load.phase = .idle ∧ t4.get F.PB_STATUS_LOADING [] = 0 :=
    ⟨h3.1, rfl, rfl, (get_congr (s := t3) rfl rfl _ _).trans h3.2⟩
  clear_value t4
  obtain ⟨hv, hmode, hphase, hloading⟩ := h4
  have hend : E = ((t4.unitsShown 3 0).set F.MD_EPOCH_CURRENT [] 0).runShown := hE.symm
  have hsame := sameBook_runShown (s := (t4.unitsShown 3 0).set F.MD_EPOCH_CURRENT [] 0)
  have hkeeps := changes_runShown (s := (t4.unitsShown 3 0).set F.MD_EPOCH_CURRENT [] 0)
  rw [← hend] at hsame hkeeps
  refine ⟨?_, ?_, ?_, ?_, ?_⟩
  · rw [hsame.1, set_variant, unitsShown_variant, hv]
  · rw [hkeeps .mode (by decide), set_mode, unitsShown_mode, hmode]
  · rw [hkeeps .load (by decide), set_load, unitsShown_load, hphase]
  · rw [epoch, hsame.get (by decide), get_set _ (by decide)]
  · rw [hsame.get (by decide), get_set_reg _ _ _ _ _ _ (by decide), get_unitsShown _ _ (by decide), hloading]

theorem loadComplete_runs (hp : s.powered = true) (hm : s.mode = .load) (hph : s.load.phase = .verified) (ht : s.load.todo = [])
    (htr : s.training = false) :
    Completes .loadComplete s fun t => t.mode = .run ∧ t.epoch = 0 ∧ t.load.phase = .idle ∧ t.get F.PB_STATUS_LOADING [] = 0 := by
  have hopen : (s.powered && s.mode == .load && s.load.phase == .verified && s.load.todo.isEmpty && !s.training) = true := by
    simp [hp, hm, hph, ht, htr]
  obtain ⟨hv, hmode, hphase, hepoch, hloading⟩ := enterRun_shows s
  refine completes_effect (fun _ => rfl) ?_
  rw [onlyIf_of _ _ hopen, complete_mode, complete_load, epoch, complete_get _ hv, complete_get _ hv]
  exact ⟨hmode, hepoch, hphase, hloading⟩

end State

end Sys2Proof.Machine

/-- Settles O28: each command runs into the branch that its clause names. Taking Patina's records leaves the retention header and the
registers of the Pattern Book as the attempt has set them, and so does what entering RUN shows of the units with those of the epoch
and of the load. -/
theorem loaderCompletes : Obligations.LoaderCompletes :=
  ⟨fun _ _ => loadAttempt_attempts, fun _ => loadVerified_passes, fun _ => loadVerified_fails,
    fun _ _ _ => sectionApply_applies, fun _ => ddrTrainDone_trains, fun _ => ddrTrainDone_fails, fun _ => loadComplete_runs,
    fun _ => loadFail_ends, fun _ => loadFail_flashError, fun _ => loadTimeout_ends⟩

end

/-! PROOFS. Flow control: what PAUSE and PFC frames, the thresholds and the PFC watchdog leave of a port when they complete. -/

section

open Sys2Proof Sys2Proof.Machine Sys2Proof.Machine.State

namespace Sys2Proof.Machine

/-! ## A bit of a field, a register of a port, and an element that a repetition comes to once -/

theorem bit_mod_two_pow (v n i : Nat) : bit (v % 2 ^ n) i = (decide (i < n) && bit v i) := by
  rw [bit_eq_testBit, bit_eq_testBit, Nat.testBit_mod_two_pow]

/-- Two registers with the same dimensions and different bases stand apart under the same indexes. -/
theorem addr_ne_of_base {r q : RegSpec} (h : r.dims = q.dims ∧ r.base ≠ q.base) (ix : List Nat) : r.addr ix ≠ q.addr ix := by
  obtain ⟨hd, hb⟩ := h
  simp only [RegSpec.addr, hd, ne_eq, Nat.add_right_cancel_iff]
  exact hb

/-- The registers of a die's groups lie below those of its ports. -/
theorem addr_grpCfg_ne_portStat (p : Nat) : R.PG_GRP_CFG.addr [p / 64, p / 8 % 8] ≠ R.PG_PORT_STAT.addr (pix p) := by
  simp only [RegSpec.addr, R.PG_GRP_CFG, R.PG_PORT_STAT, pix, List.zip_cons_cons, List.zip_nil_right, List.map_cons, List.map_nil,
    List.sum_cons, List.sum_nil]
  omega

theorem addr_rxPfc_ne {p i j : Nat} (h : i ≠ j) : R.RX_PFC.addr (pix p ++ [i]) ≠ R.RX_PFC.addr (pix p ++ [j]) := by
  simp only [RegSpec.addr, R.RX_PFC, pix, List.cons_append, List.nil_append, List.zip_cons_cons, List.zip_nil_right, List.map_cons,
    List.map_nil, List.sum_cons, List.sum_nil]
  omega

theorem mem_setPositions {v n i : Nat} : i ∈ setPositions v n ↔ i < n ∧ bit v i = true := by simp [setPositions]

theorem nodup_setPositions (v n : Nat) : (setPositions v n).Nodup := List.nodup_range.filter _

/-- A repetition that comes to `a` once: what holds until then, what the step of `a` makes of it, and what the rest leaves. -/
theorem forEach_visits {α : Type} {Before After : State → Prop} {f : α → State → State} {a : α} (l : List α) (hm : a ∈ l)
    (hd : l.Nodup) (hb : ∀ b ≠ a, ∀ t, Before t → Before (f b t)) (hv : ∀ t, Before t → After (f a t))
    (ha : ∀ b ≠ a, ∀ t, After t → After (f b t)) (s : State) (hs : Before s) : After (forEach l f s) := by
  induction l generalizing s with
  | nil => cases hm
  | cons b l ih =>
    obtain ⟨hbl, hdl⟩ := List.nodup_cons.1 hd
    rcases List.mem_cons.1 hm with rfl | hml
    · exact List.foldlRecOn l _ (hv s hs) fun t ht c hc => ha c (ne_of_mem_of_not_mem hc hbl) t ht
    · exact ih hml hdl _ (hb b (fun e => hbl (e ▸ hml)) s hs)

namespace State

variable {s t u : State} {p pri : Nat}

@[simp] theorem complete_port (k : Clock) (s u : State) : (complete k s u).port = u.port := (rfl)

@[simp] theorem complete_ctr (k : Clock) (s u : State) (r : RegSpec) (ix : List Nat) : (complete k s u).ctr r ix = u.ctr r ix := (rfl)

theorem ctr_congr (h : t.ctrs = s.ctrs) (r : RegSpec) (ix : List Nat) : t.ctr r ix = s.ctr r ix := by rw [ctr, h, ctr]

theorem get_inc (s : State) (r : RegSpec) (ix : List Nat) (n : Nat) (f : Fld) (jx : List Nat) :
    (s.inc r ix n).get f jx = s.get f jx := (rfl)

/-! ## A received pause (R173) -/

section
variable (s : State) (p pri q : Nat)

@[simp] theorem setPause_variant : (s.setPause p pri q).variant = s.variant := by unfold setPause; dsimp only; split <;> rfl

@[simp] theorem setPause_clock : (s.setPause p pri q).clock = s.clock := by unfold setPause; dsimp only; split <;> rfl

@[simp] theorem setPause_ctrs : (s.setPause p pri q).ctrs = s.ctrs := by unfold setPause; dsimp only; split <;> rfl

@[simp] theorem setPause_pauseEnd : (s.setPause p pri q).port.pauseEnd
    = s.port.pauseEnd.put 0 (key2 p pri) (if q = 0 then 0 else s.clock.tick + s.quantaTicks p q) := by
  unfold setPause; dsimp only; split <;> rfl

theorem setPause_ended : (s.setPause p pri 0).port.pausedAt = s.port.pausedAt.put 0 (key2 p pri) 0 := by
  unfold setPause; dsimp only; split <;> rfl

/-- A received pause shows in PG_PORT_STAT alone. -/
theorem rd_setPause {r : RegSpec} {ix : List Nat} (h : r.addr ix ≠ R.PG_PORT_STAT.addr (pix p)) :
    (s.setPause p pri q).rd r ix = s.rd r ix := by
  unfold setPause; dsimp only
  split
  · exact rd_set_ne _ _ _ _ _ _ h
  · rfl

theorem get_setPause {f : Fld} {ix : List Nat} (h : f.reg.addr ix ≠ R.PG_PORT_STAT.addr (pix p)) :
    (s.setPause p pri q).get f ix = s.get f ix := by rw [get, rd_setPause _ _ _ _ h, get]

theorem get_setPause_tripped : (s.setPause p pri q).get F.PG_PORT_STAT_PFC_WD_ACTIVE (pix p)
    = s.get F.PG_PORT_STAT_PFC_WD_ACTIVE (pix p) := by
  unfold setPause; dsimp only
  split
  · exact get_set_beside _ (by decide) _ _
  · rfl

theorem fcMode_setPause (j : Nat) : (s.setPause p j q).fcMode p = s.fcMode p :=
  get_setPause _ _ _ _ (addr_ne_of_base (by decide) _)

theorem quantaTicks_setPause (j n : Nat) : (s.setPause p j q).quantaTicks p n = s.quantaTicks p n := by
  have hcfg : (s.setPause p j q).grpCfg p = s.grpCfg p := rd_setPause _ _ _ _ (addr_grpCfg_ne_portStat p)
  simp only [quantaTicks, portSpeed, portRate, hcfg]

end

theorem pauseRx_pauses {q : Nat} (hr : s.macReceives p = true) (hh : s.hears p (isControl 1 (beBytes q 2)) = true)
    (hm : s.fcMode p = 1) (ha : s.get F.PG_PORT_STAT_RX_PAUSE (pix p) = 1) :
    Completes (.pauseRx p q) s fun t => t.ctr R.RX_PAUSE (pix p) = (s.ctr R.RX_PAUSE (pix p) + 1) % 2 ^ 64
      ∧ t.port.pauseEnd.at 0 (key2 p 8) = if q % 65536 = 0 then 0 else s.clock.tick + s.quantaTicks p (q % 65536) := by
  have hacts : (((s.unloop p).inc R.RX_PAUSE (pix p)).fcMode p == 1
      && ((s.unloop p).inc R.RX_PAUSE (pix p)).isOn F.PG_PORT_STAT_RX_PAUSE (pix p)) = true := by
    have hmode : ((s.unloop p).inc R.RX_PAUSE (pix p)).fcMode p = 1 := hm
    have hrx : ((s.unloop p).inc R.RX_PAUSE (pix p)).get F.PG_PORT_STAT_RX_PAUSE (pix p) = 1 := ha
    simp [hmode, isOn, hrx]
  refine completes_effect (fun _ => rfl) ?_
  simp only [onlyIf_of _ _ (Bool.and_eq_true_iff.2 ⟨hr, hh⟩), if_pos hacts]
  refine ⟨?_, ?_⟩
  · rw [complete_ctr, ctr_congr (setPause_ctrs ..), ctr_inc_self]
    rfl
  · rw [complete_port, setPause_pauseEnd, Map.at_put_self]
    rfl

theorem pauseExpiry_ends (h0 : s.port.pauseEnd.at 0 (key2 p pri) ≠ 0) (hp : s.paused p pri = false) :
    Completes (.pauseExpiry p pri) s fun t => t.port.pauseEnd.at 0 (key2 p pri) = 0 ∧ t.port.pausedAt.at 0 (key2 p pri) = 0 := by
  have hopen : (s.port.pauseEnd.at 0 (key2 p pri) != 0 && !s.paused p pri) = true := by simp [h0, hp]
  refine completes_effect (fun _ => rfl) ?_
  rw [onlyIf_of _ _ hopen, complete_port, setPause_pauseEnd, setPause_ended, Map.at_put_self, Map.at_put_self]
  exact ⟨rfl, rfl⟩

theorem macctlOtherRx_counts (hr : s.macReceives p = true) (hl : s.loopback p ≠ 1) :
    Completes (.macctlOtherRx p) s fun t => t = { s with ctrs := t.ctrs }
      ∧ t.ctr R.RX_MACCTL_OTHER (pix p) = (s.ctr R.RX_MACCTL_OTHER (pix p) + 1) % 2 ^ 64 := by
  have hopen : (s.macReceives p && s.loopback p != 1) = true := by simp [hr, hl]
  refine completes_effect (fun _ => rfl) ?_
  rw [onlyIf_of _ _ hopen]
  exact ⟨rfl, ctr_inc_self ..⟩

/-! ## The classes of a PFC frame (R168, R173, R174) -/

/-- What a PFC frame with the quanta `qs` does for the class `pri` that its vector names. -/
def pfcClass (p : Nat) (qs : List Nat) (pri : Nat) (t : State) : State :=
  let t := t.inc R.RX_PFC (pix p ++ [pri])
  if t.fcMode p == 2 && !bit (t.get F.PG_PORT_STAT_PFC_WD_ACTIVE (pix p)) pri then t.setPause p pri (qs.getD pri 0 % 65536) else t

/-- All that a PFC frame reads and changes for class `pri` of port `p` is in `t` as in `s`. -/
structure SameClass (p pri : Nat) (s t : State) : Prop where
  clock : t.clock = s.clock
  mode : t.fcMode p = s.fcMode p
  tripped : t.get F.PG_PORT_STAT_PFC_WD_ACTIVE (pix p) = s.get F.PG_PORT_STAT_PFC_WD_ACTIVE (pix p)
  ticks : ∀ q, t.quantaTicks p q = s.quantaTicks p q
  counted : t.ctr R.RX_PFC (pix p ++ [pri]) = s.ctr R.RX_PFC (pix p ++ [pri])
  pauseEnd : t.port.pauseEnd.at 0 (key2 p pri) = s.port.pauseEnd.at 0 (key2 p pri)

theorem SameClass.trans (h : SameClass p pri s t) (h' : SameClass p pri t u) : SameClass p pri s u where
  clock := h'.clock.trans h.clock
  mode := h'.mode.trans h.mode
  tripped := h'.tripped.trans h.tripped
  ticks q := (h'.ticks q).trans (h.ticks q)
  counted := h'.counted.trans h.counted
  pauseEnd := h'.pauseEnd.trans h.pauseEnd

theorem sameClass_unloop (s : State) (p pri : Nat) : SameClass p pri s (s.unloop p) := ⟨rfl, rfl, rfl, fun _ => rfl, rfl, rfl⟩

section
variable {j : Nat} (h : pri ≠ j)
include h

theorem sameClass_inc : SameClass p pri s (s.inc R.RX_PFC (pix p ++ [j])) :=
  ⟨rfl, rfl, rfl, fun _ => rfl, ctr_inc_ne _ _ _ _ _ _ (addr_rxPfc_ne h), rfl⟩

theorem sameClass_setPause (q : Nat) : SameClass p pri s (s.setPause p j q) where
  clock := setPause_clock ..
  mode := fcMode_setPause ..
  tripped := get_setPause_tripped ..
  ticks := quantaTicks_setPause _ _ _ _
  counted := ctr_congr (setPause_ctrs ..) _ _
  pauseEnd := by rw [setPause_pauseEnd, Map.at_put_ne _ _ _ _ (by simpa [key2] using h)]

/-- A PFC frame treats each class by itself. -/
theorem sameClass_pfcClass (qs : List Nat) : SameClass p pri s (pfcClass p qs j s) := by
  unfold pfcClass
  dsimp only
  split
  · exact (sameClass_inc h).trans (sameClass_setPause h _)
  · exact sameClass_inc h

end

/-- In `t` class `pri` has been counted and, where the watchdog has not tripped, paused for `q` quanta since `s`. -/
def ClassTaken (p pri q : Nat) (s t : State) : Prop :=
  t.ctr R.RX_PFC (pix p ++ [pri]) = (s.ctr R.RX_PFC (pix p ++ [pri]) + 1) % 2 ^ 64
    ∧ (bit (s.get F.PG_PORT_STAT_PFC_WD_ACTIVE (pix p)) pri = false →
        t.port.pauseEnd.at 0 (key2 p pri) = if q = 0 then 0 else s.clock.tick + s.quantaTicks p q)

theorem ClassTaken.of_same {q : Nat} (h : ClassTaken p pri q s t) (h' : SameClass p pri t u) : ClassTaken p pri q s u :=
  have ⟨hcount, hpause⟩ := h
  ⟨h'.counted.trans hcount, fun hb => h'.pauseEnd.trans (hpause hb)⟩

theorem classTaken_pfcClass (hm : s.fcMode p = 2) (h : SameClass p pri s t) (qs : List Nat) :
    ClassTaken p pri (qs.getD pri 0 % 65536) s (pfcClass p qs pri t) := by
  have hmode : (t.inc R.RX_PFC (pix p ++ [pri])).fcMode p = 2 := h.mode.trans hm
  have htrip : (t.inc R.RX_PFC (pix p ++ [pri])).get F.PG_PORT_STAT_PFC_WD_ACTIVE (pix p)
    = s.get F.PG_PORT_STAT_PFC_WD_ACTIVE (pix p) := h.tripped
  have hcount : (t.inc R.RX_PFC (pix p ++ [pri])).ctr R.RX_PFC (pix p ++ [pri])
      = (s.ctr R.RX_PFC (pix p ++ [pri]) + 1) % 2 ^ 64 := by rw [ctr_inc_self, h.counted]
  have hticks : (t.inc R.RX_PFC (pix p ++ [pri])).quantaTicks p (qs.getD pri 0 % 65536)
      = s.quantaTicks p (qs.getD pri 0 % 65536) := h.ticks _
  simp only [pfcClass, hmode, htrip, beq_self_eq_true, Bool.true_and]
  cases hb : bit (s.get F.PG_PORT_STAT_PFC_WD_ACTIVE (pix p)) pri with
  | false =>
    refine ⟨(ctr_congr (setPause_ctrs ..) _ _).trans hcount, fun _ => ?_⟩
    rw [Bool.not_false, if_pos rfl, setPause_pauseEnd, Map.at_put_self, inc_clock, h.clock, hticks]
  | true => exact ⟨hcount, fun h0 => by rw [hb] at h0; cases h0⟩

theorem pfcRx_pauses {vec : Nat} {qs : List Nat} (hr : s.macReceives p = true)
    (hh : s.hears p (isControl 0x101 (beBytes vec 2 ++ (List.range 8).flatMap fun i => beBytes (qs.getD i 0) 2)) = true)
    (hm : s.fcMode p = 2) :
    Completes (.pfcRx p vec qs) s fun t => ∀ pri, pri < 8 → bit vec pri = true →
      ClassTaken p pri (qs.getD pri 0 % 65536) s t := by
  refine completes_effect (fun _ => rfl) ?_
  rw [onlyIf_of _ _ (Bool.and_eq_true_iff.2 ⟨hr, hh⟩)]
  intro pri hlt hbit
  exact forEach_visits (f := pfcClass p qs) (Before := SameClass p pri s) (After := ClassTaken p pri (qs.getD pri 0 % 65536) s)
    (setPositions vec 8) (mem_setPositions.2 ⟨hlt, hbit⟩) (nodup_setPositions _ _)
    (fun _ hj _ ht => ht.trans (sameClass_pfcClass hj.symm qs)) (fun _ ht => classTaken_pfcClass hm ht qs)
    (fun _ hj _ ht => ht.of_same (sameClass_pfcClass hj.symm qs)) _ (sameClass_unloop s p pri)

/-! ## Pauses that a port sends, at its thresholds and at those of its group's FIFO (R171, R172) -/

/-- Sending a pause changes of the ports' state the frames that come back and the time at which it was sent. -/
theorem sendPause_port (s : State) (p pri q : Nat) :
    ∃ back sent, (s.sendPause p pri q).port = { s.port with looped := back, sentAt := sent } := by
  unfold sendPause loopBack
  dsimp only
  split
  · split <;> split <;> exact ⟨_, _, rfl⟩
  · exact ⟨_, _, rfl⟩

@[simp] theorem sendPause_xoff (s : State) (p pri q : Nat) : (s.sendPause p pri q).port.xoff = s.port.xoff := by
  obtain ⟨_, _, h⟩ := sendPause_port s p pri q; rw [h]

@[simp] theorem sendPause_fifoHold (s : State) (p pri q : Nat) : (s.sendPause p pri q).port.fifoHold = s.port.fifoHold := by
  obtain ⟨_, _, h⟩ := sendPause_port s p pri q; rw [h]

@[simp] theorem showHolding_port (s : State) (p : Nat) : (s.showHolding p).port = s.port := (rfl)

/-- A pause that the port may send is put on its line, and the time is kept. -/
theorem sendPause_sends (q : Nat) (h : s.sendsPause p pri = true) :
    (s.sendPause p pri q).port.sentAt = s.port.sentAt.put 0 (key2 p pri) s.clock.tick
      ∧ (s.sendPause p pri q).out.pauses = lineFrame p (s.pauseFrame p pri q) true :: s.out.pauses := by
  unfold sendPause loopBack
  rw [if_pos h]
  dsimp only
  split <;> split <;> exact ⟨rfl, rfl⟩

theorem fcXoff_holds (hp : pri ≤ 8) (hl : s.linkUp p = true) (ha : s.fcActs p pri = true)
    (hx : bit (s.port.xoff.at 0 p) pri = false) (hc : s.get F.PG_FC_THR_XOFF (pix p) * 64 ≤ s.fcCount p pri) :
    Completes (.fcXoff p pri) s fun t => bit (t.port.xoff.at 0 p) pri = true := by
  have hopen : (decide (pri ≤ 8) && s.linkUp p && s.fcActs p pri && !bit (s.port.xoff.at 0 p) pri
      && decide (s.get F.PG_FC_THR_XOFF (pix p) * 64 ≤ s.fcCount p pri)) = true := by simp [hp, hl, ha, hx, hc]
  refine completes_effect (fun _ => rfl) ?_
  simp only [onlyIf_of _ _ hopen, complete_port, showHolding_port, sendPause_xoff, Map.at_put_self, bit_setBit_self]

theorem fcXon_releases (hx : bit (s.port.xoff.at 0 p) pri = true) (hc : s.fcCount p pri ≤ s.get F.PG_FC_THR_XON (pix p) * 64) :
    Completes (.fcXon p pri) s fun t => bit (t.port.xoff.at 0 p) pri = false := by
  have hopen : (bit (s.port.xoff.at 0 p) pri && decide (s.fcCount p pri ≤ s.get F.PG_FC_THR_XON (pix p) * 64)) = true := by
    simp [hx, hc]
  refine completes_effect (fun _ => rfl) ?_
  simp only [onlyIf_of _ _ hopen, complete_port, showHolding_port]
  split
  · rw [Map.at_put_self, bit_setBit_self]
  · rw [sendPause_xoff, Map.at_put_self, bit_setBit_self]

theorem pfcRefresh_sends (hh : bit (s.holding p) pri = true) (hs : s.sendsPause p pri = true)
    (hq : s.quanta p * 256 ≤ s.since (s.port.sentAt.at 0 (key2 p pri)) * max 1 (s.portSpeed p)) :
    Completes (.pfcRefresh p pri) s fun t => t.port.sentAt.at 0 (key2 p pri) = s.clock.tick
      ∧ t.out.pauses = lineFrame p (s.pauseFrame p pri (s.quanta p)) true :: s.out.pauses := by
  have hopen : (bit (s.holding p) pri
      && decide (s.quanta p * 256 ≤ s.since (s.port.sentAt.at 0 (key2 p pri)) * max 1 (s.portSpeed p))) = true := by
    simp only [hh, hq, decide_true, Bool.and_self]
  obtain ⟨hsent, hout⟩ := sendPause_sends (s.quanta p) hs
  refine completes_effect (fun _ => rfl) ?_
  rw [onlyIf_of _ _ hopen, complete_port, complete_out, hsent, Map.at_put_self]
  exact ⟨rfl, hout⟩

theorem fifoXoff_holds {g : Nat} (h0 : s.port.fifoHold.at 0 g = 0) (hl : s.live (g / 8) = true)
    (hf : s.get F.PG_GRP_FIFO_FIFO_XOFF [g / 8, g % 8] * 1024 ≤ s.fifoBytes g) :
    Completes (.fifoXoff g) s fun t => t.port.fifoHold.at 0 g = 1 := by
  have hopen : (s.port.fifoHold.at 0 g == 0 && s.live (g / 8)
      && decide (s.get F.PG_GRP_FIFO_FIFO_XOFF [g / 8, g % 8] * 1024 ≤ s.fifoBytes g)) = true := by simp [h0, hl, hf]
  refine completes_effect (fun _ => rfl) ?_
  rw [onlyIf_of _ _ hopen, complete_port, forEach_keeps (fun t => t.port.fifoHold)]
  · exact Map.at_put_self s.port.fifoHold 0 g 1
  · intro p u
    exact forEach_keeps (fun t => t.port.fifoHold) _ (fun _ _ => sendPause_fifoHold ..) _ u

theorem fifoXon_releases {g : Nat} (h0 : s.port.fifoHold.at 0 g ≠ 0)
    (hf : s.fifoBytes g ≤ s.get F.PG_GRP_FIFO_FIFO_XON [g / 8, g % 8] * 1024) :
    Completes (.fifoXon g) s fun t => t.port.fifoHold.at 0 g = 0 := by
  have hopen : (s.port.fifoHold.at 0 g != 0
      && decide (s.fifoBytes g ≤ s.get F.PG_GRP_FIFO_FIFO_XON [g / 8, g % 8] * 1024)) = true := by simp [h0, hf]
  refine completes_effect (fun _ => rfl) ?_
  rw [onlyIf_of _ _ hopen, complete_port, forEach_keeps (fun t => t.port.fifoHold)]
  · exact Map.at_erase_self ..
  · intro p u
    refine forEach_keeps (fun t => t.port.fifoHold) _ (fun pri w => ?_) _ u
    split
    · rfl
    · exact sendPause_fifoHold ..

/-! ## The PFC watchdog (R174) -/

/-- Each priority has its bit in PFC_WD_ACTIVE. -/
theorem bit_tripped_set (s : State) (ix : List Nat) (hp : pri < 8) (v : Nat) (b : Bool) :
    bit ((s.set F.PG_PORT_STAT_PFC_WD_ACTIVE ix (setBit v pri b)).get F.PG_PORT_STAT_PFC_WD_ACTIVE ix) pri = b := by
  have hwide : (s.set F.PG_PORT_STAT_PFC_WD_ACTIVE ix (setBit v pri b)).get F.PG_PORT_STAT_PFC_WD_ACTIVE ix = setBit v pri b % 2 ^ 8 :=
    get_set_self _ _ _ _ (by decide) (by decide)
  rw [hwide, bit_mod_two_pow, bit_setBit_self, decide_eq_true hp, Bool.true_and]

theorem lt_of_tripped {ix : List Nat} (h : bit (s.get F.PG_PORT_STAT_PFC_WD_ACTIVE ix) pri = true) : pri < 8 := by
  have hwide : s.get F.PG_PORT_STAT_PFC_WD_ACTIVE ix < 2 ^ 8 := bits_lt ..
  rw [← Nat.mod_eq_of_lt hwide, bit_mod_two_pow, Bool.and_eq_true, decide_eq_true_eq] at h
  exact h.1

theorem pfcWdTrip_trips (hp : pri < 8) (hw : s.get F.PG_PFC_WD_WD_MS (pix p) ≠ 0) (ha : s.paused p pri = true)
    (h0 : s.port.pausedAt.at 0 (key2 p pri) ≠ 0)
    (hd : s.get F.PG_PFC_WD_WD_MS (pix p) * 1000000 ≤ s.clock.tick + 1 - s.port.pausedAt.at 0 (key2 p pri)) :
    Completes (.pfcWdTrip p pri) s fun t => t.port.pauseEnd.at 0 (key2 p pri) = 0
      ∧ bit (t.get F.PG_PORT_STAT_PFC_WD_ACTIVE (pix p)) pri = true ∧ t.get F.PG_PORT_EVT_PFC_WD (pix p) = 1
      ∧ t.port.wdEnd.at 0 (key2 p pri) = s.clock.tick + s.get F.PG_PFC_WD_RECOVER_MS (pix p) * 1000000
      ∧ t.ctr R.PFC_WD_TRIPS (pix p) = (s.ctr R.PFC_WD_TRIPS (pix p) + 1) % 2 ^ 64 := by
  have hopen : (s.get F.PG_PFC_WD_WD_MS (pix p) != 0 && decide (pri < 8) && s.paused p pri
      && s.port.pausedAt.at 0 (key2 p pri) != 0
      && decide (s.get F.PG_PFC_WD_WD_MS (pix p) * 1000000 ≤ s.clock.tick + 1 - s.port.pausedAt.at 0 (key2 p pri))) = true := by
    simp [hw, hp, ha, h0, hd]
  have hstat : R.PG_PORT_STAT.addr (pix p) ≠ R.PG_PORT_EVT.addr (pix p) := addr_ne_of_base (by decide) _
  have hend : (s.setPause p pri 0).port.pauseEnd.at 0 (key2 p pri) = 0 := by rw [setPause_pauseEnd, Map.at_put_self, if_pos rfl]
  have hrecover : (s.setPause p pri 0).get F.PG_PFC_WD_RECOVER_MS (pix p) = s.get F.PG_PFC_WD_RECOVER_MS (pix p) :=
    get_setPause _ _ _ _ (addr_ne_of_base (by decide) _)
  have hctr : (s.setPause p pri 0).ctr R.PFC_WD_TRIPS (pix p) = s.ctr R.PFC_WD_TRIPS (pix p) := ctr_congr (setPause_ctrs ..) _ _
  refine completes_effect (fun _ => rfl) ?_
  simp only [onlyIf_of _ _ hopen, hrecover, setPause_clock]
  refine ⟨?_, ?_, ?_, ?_, ?_⟩
  · simp only [complete_port, inc_port, raise_port, set_port, hend]
  · rw [complete_get _ (by simp), get_inc, get_raise, get_set_reg _ _ _ _ _ _ hstat, bit_tripped_set _ _ hp]
  · rw [complete_get _ (by simp), get_inc, get_raise, get_set _ (by decide)]
  · simp only [complete_port, inc_port, raise_port, set_port, Map.at_put_self]
  · rw [complete_ctr, ctr_inc_self, ctr_congr ((raise_ctrs ..).trans (set_ctrs ..)), ← hctr]
    rfl

theorem pfcWdRecover_clears (ha : bit (s.get F.PG_PORT_STAT_PFC_WD_ACTIVE (pix p)) pri = true)
    (hd : s.port.wdEnd.at 0 (key2 p pri) ≤ s.clock.tick) :
    Completes (.pfcWdRecover p pri) s fun t => bit (t.get F.PG_PORT_STAT_PFC_WD_ACTIVE (pix p)) pri = false
      ∧ t.port.wdEnd.at 0 (key2 p pri) = 0 := by
  have hopen : (bit (s.get F.PG_PORT_STAT_PFC_WD_ACTIVE (pix p)) pri && decide (s.port.wdEnd.at 0 (key2 p pri) ≤ s.clock.tick)) = true := by
    simp [ha, hd]
  refine completes_effect (fun _ => rfl) ?_
  rw [onlyIf_of _ _ hopen]
  exact ⟨bit_tripped_set s (pix p) (lt_of_tripped ha) _ false, Map.at_erase_self ..⟩

end State

end Sys2Proof.Machine

/-- Settles O32: each command runs into the branch that its clause names. A PFC frame comes once to each class of its vector, and
what it does for one class leaves the others as they are. -/
theorem flowControlCompletes : Obligations.FlowControlCompletes :=
  ⟨fun _ _ _ => pauseRx_pauses, fun _ _ _ _ => pfcRx_pauses, fun _ _ => macctlOtherRx_counts, fun _ _ _ => pauseExpiry_ends,
    fun _ _ _ => fcXoff_holds, fun _ _ _ => fcXon_releases, fun _ _ _ => pfcRefresh_sends, fun _ _ => fifoXoff_holds,
    fun _ _ => fifoXon_releases, fun _ _ _ _ => pfcWdTrip_trips, fun _ _ _ _ => pfcWdRecover_clears⟩

end

/-! PROOFS. The Brand function: the register of CRC-32C is linear, the updates of R196 follow, and products of polynomials step over
zeros. -/

section

open Sys2Proof Sys2Proof.Machine

namespace Sys2Proof.Machine

/-! ## The register is linear -/

variable {u v : Nat}

theorem crcBit_xor (p a b : Nat) : crcBit p (a ^^^ b) = crcBit p a ^^^ crcBit p b := by
  unfold crcBit
  rw [Nat.xor_div_two]
  by_cases ha : a % 2 = 1 <;> by_cases hb : b % 2 = 1 <;>
    simp only [Nat.xor_mod_two_eq_one, ha, hb, not_true_eq_false, iff_true, iff_false, not_false_eq_true, if_true, if_false]
  · rw [Nat.xor_assoc, Nat.xor_left_comm p, Nat.xor_self, Nat.xor_zero]
  · exact Nat.xor_right_comm ..
  · exact Nat.xor_assoc ..

theorem iterate_crcBit_xor (p n a b : Nat) :
    (crcBit p)^[n] (a ^^^ b) = (crcBit p)^[n] a ^^^ (crcBit p)^[n] b := by
  induction n generalizing a b with
  | zero => rfl
  | succ n ih => simp only [Function.iterate_succ_apply, crcBit_xor, ih]

theorem iterate_crcBit_zero (p n : Nat) : (crcBit p)^[n] 0 = 0 := by
  induction n with
  | zero => rfl
  | succ n ih => rw [Function.iterate_succ_apply]; exact ih

theorem crcByte_eq_iterate (p : Nat) : crcByte p = (crcBit p)^[8] := by
  funext v
  simp only [crcByte, Function.iterate_succ_apply, Function.iterate_zero_apply]

theorem crcBit_lt (h : v < 2 ^ 32) : crcBit polyC v < 2 ^ 32 := by
  have hhalf : v / 2 < 2 ^ 32 := by omega
  unfold crcBit
  split
  · exact Nat.xor_lt_two_pow hhalf (by decide)
  · exact hhalf

theorem iterate_crcBit_lt (n : Nat) (h : v < 2 ^ 32) : (crcBit polyC)^[n] v < 2 ^ 32 := by
  induction n generalizing v with
  | zero => exact h
  | succ n ih => exact ih (crcBit_lt h)

theorem repeat_eq_iterate {α : Type} (f : α → α) (n : Nat) (a : α) : Nat.repeat f n a = f^[n] a := by
  induction n with
  | zero => rfl
  | succ n ih => rw [Function.iterate_succ_apply', ← ih]; rfl

theorem brandShift_eq_iterate (v n : Nat) : brandShift v n = (crcBit polyC)^[8 * n] v := by
  rw [Function.iterate_mul, ← crcByte_eq_iterate]
  induction n generalizing v with
  | zero => rfl
  | succ n ih => exact ih _

theorem brandShift_xor (a b n : Nat) : brandShift (a ^^^ b) n = brandShift a n ^^^ brandShift b n := by
  simp only [brandShift_eq_iterate, iterate_crcBit_xor]

theorem crcRun_append (p v : Nat) (a b : List Byte) : crcRun p v (a ++ b) = crcRun p (crcRun p v a) b :=
  List.foldl_append

theorem crcRun_zeros (v n : Nat) : crcRun polyC v (List.replicate n 0) = brandShift v n := by
  induction n generalizing v with
  | zero => rfl
  | succ n ih =>
    calc crcRun polyC v (0 :: List.replicate n 0) = crcRun polyC (crcByte polyC (v ^^^ 0)) (List.replicate n 0) := rfl
      _ = brandShift (crcByte polyC v) n := by rw [Nat.xor_zero, ih]

/-- What the register held before a run adds itself to the result, shifted by the bytes run through. -/
theorem crcRun_xor (u v : Nat) (bs : List Byte) :
    crcRun polyC (u ^^^ v) bs = brandShift u bs.length ^^^ crcRun polyC v bs := by
  induction bs generalizing u v with
  | nil => rfl
  | cons b bs ih =>
    have hbyte : crcByte polyC (u ^^^ v ^^^ b.toNat) = crcByte polyC u ^^^ crcByte polyC (v ^^^ b.toNat) := by
      rw [Nat.xor_assoc, crcByte_eq_iterate, iterate_crcBit_xor]
    calc crcRun polyC (u ^^^ v) (b :: bs) = crcRun polyC (crcByte polyC (u ^^^ v ^^^ b.toNat)) bs := rfl
      _ = brandShift (crcByte polyC u) bs.length ^^^ crcRun polyC (crcByte polyC (v ^^^ b.toNat)) bs := by rw [hbyte, ih]

theorem crcRun_lt (bs : List Byte) (h : v < 2 ^ 32) : crcRun polyC v bs < 2 ^ 32 := by
  induction bs generalizing v with
  | nil => exact h
  | cons b bs ih =>
    have hb : b.toNat < 2 ^ 32 := b.isLt.trans (by decide)
    exact ih (iterate_crcBit_lt 8 (Nat.xor_lt_two_pow h hb))

theorem crcRun_zipWith_xor {a b : List Byte} (h : a.length = b.length) (u v : Nat) :
    crcRun polyC (u ^^^ v) (List.zipWith (fun x y => x ^^^ y) a b) = crcRun polyC u a ^^^ crcRun polyC v b := by
  induction a generalizing b u v with
  | nil => cases List.length_eq_zero_iff.mp h.symm; rfl
  | cons x a ih =>
    cases b with
    | nil => cases h
    | cons y b =>
      have hbyte : crcByte polyC (u ^^^ v ^^^ (x ^^^ y).toNat) = crcByte polyC (u ^^^ x.toNat) ^^^ crcByte polyC (v ^^^ y.toNat) := by
        rw [crcByte_eq_iterate, ← iterate_crcBit_xor, BitVec.toNat_xor]
        congr 1
        ac_rfl
      calc crcRun polyC (u ^^^ v) (List.zipWith (fun x y => x ^^^ y) (x :: a) (y :: b))
          = crcRun polyC (crcByte polyC (u ^^^ v ^^^ (x ^^^ y).toNat)) (List.zipWith (fun x y => x ^^^ y) a b) := rfl
        _ = crcRun polyC (crcByte polyC (u ^^^ x.toNat)) a ^^^ crcRun polyC (crcByte polyC (v ^^^ y.toNat)) b := by
          rw [hbyte, ih (Nat.succ.inj h)]

theorem brandC0_zipWith_xor {a b : List Byte} (h : a.length = b.length) :
    brandC0 (List.zipWith (fun x y => x ^^^ y) a b) = brandC0 a ^^^ brandC0 b :=
  crcRun_zipWith_xor h 0 0

/-! ## The Brand of frames (R193, R196) -/

theorem crc32c_append (a b : List Byte) : crc32c (a ++ b) = brandShift (crc32c a) b.length ^^^ crc32c b := by
  have hreg : crcRun polyC 0xFFFFFFFF a = crc32c a ^^^ 0xFFFFFFFF := by
    rw [crc32c, Nat.xor_xor_cancel_right]
  rw [crc32c, crcRun_append, hreg, crcRun_xor, Nat.xor_assoc, ← crc32c]

/-- Frames that differ only ahead of `q`: their Brands differ by what the parts ahead of it do, shifted by its length. -/
theorem crc32c_append_xor (a b q : List Byte) :
    crc32c (a ++ q) ^^^ brandShift (crc32c a ^^^ crc32c b) q.length = crc32c (b ++ q) := by
  rw [crc32c_append a, crc32c_append b, brandShift_xor, Nat.xor_right_comm, Nat.xor_xor_cancel_left]

/-- Behind the same bytes `p`, the start value and the final XOR cancel. -/
theorem crc32c_xor_crc32c (p : List Byte) {a b : List Byte} (h : a.length = b.length) :
    crc32c (p ++ a) ^^^ crc32c (p ++ b) = brandC0 (List.zipWith (fun x y => x ^^^ y) a b) := by
  have hrun := crcRun_zipWith_xor h (crcRun polyC 0xFFFFFFFF p) (crcRun polyC 0xFFFFFFFF p)
  rw [Nat.xor_self] at hrun
  rw [brandC0, hrun, crc32c, crc32c, crcRun_append, crcRun_append, Nat.xor_right_comm, ← Nat.xor_assoc, Nat.xor_xor_cancel_right]

/-- A SET: `a` becomes `b` behind `p`, and `q` follows. -/
theorem brandSet_crc32c (p q : List Byte) {a b : List Byte} (h : a.length = b.length) :
    brandSet (crc32c (p ++ a ++ q)) (p ++ a ++ q).length p.length a b = crc32c (p ++ b ++ q) := by
  have hbehind : (p ++ a ++ q).length - p.length - a.length = q.length := by simp
  rw [brandSet, hbehind, ← crc32c_xor_crc32c p h, crc32c_append_xor]

/-- The value t of R196 is what `h` behind `p` changes. -/
theorem brandT_eq (p h : List Byte) : brandT p h = crc32c p ^^^ crc32c (p ++ h) := by
  rw [brandT, crc32c_append, Nat.xor_assoc]

/-- A PUSH: `h` comes between `p` and `q`. -/
theorem brandPush_crc32c (p h q : List Byte) :
    brandPush (crc32c (p ++ q)) (p ++ q).length p h = crc32c (p ++ h ++ q) := by
  have hbehind : (p ++ q).length - p.length = q.length := by simp
  rw [brandPush, hbehind, brandT_eq, crc32c_append_xor]

/-- A POP: `h` between `p` and `q` goes. -/
theorem brandPop_crc32c (p h q : List Byte) :
    brandPop (crc32c (p ++ h ++ q)) (p ++ h ++ q).length p h = crc32c (p ++ q) := by
  have hbehind : (p ++ h ++ q).length - p.length - h.length = q.length := by simp
  rw [brandPop, hbehind, brandT_eq, Nat.xor_comm (crc32c p), crc32c_append_xor]

/-! ## Products of polynomials modulo that of CRC-32C (R193) -/

theorem crcMul_xor (a n b c : Nat) : crcMul a n (b ^^^ c) = crcMul a n b ^^^ crcMul a n c := by
  induction n generalizing b c with
  | zero => simp [crcMul]
  | succ n ih =>
    simp only [crcMul, crcBit_xor, ih]
    split
    · ac_rfl
    · simp only [Nat.zero_xor]

theorem crcMul_crcBit (a n b : Nat) : crcMul a n (crcBit polyC b) = crcBit polyC (crcMul a n b) := by
  induction n generalizing b with
  | zero => exact (iterate_crcBit_zero polyC 1).symm
  | succ n ih =>
    simp only [crcMul, crcBit_xor, ih]
    split <;> rfl

theorem crcMul_iterate_crcBit (a n k b : Nat) : crcMul a n ((crcBit polyC)^[k] b) = (crcBit polyC)^[k] (crcMul a n b) :=
  Function.Semiconj.iterate_right (fun b => crcMul_crcBit a n b) k b

theorem crcMul_zero_right (a n : Nat) : crcMul a n 0 = 0 := by
  simpa using crcMul_xor a n 0 0

theorem crcMul_left_comm (a n b m c : Nat) : crcMul a n (crcMul b m c) = crcMul b m (crcMul a n c) := by
  induction m generalizing c with
  | zero => exact crcMul_zero_right a n
  | succ m ih =>
    simp only [crcMul, crcMul_xor, ih, crcMul_crcBit]
    split
    · rfl
    · rw [crcMul_zero_right]

/-- Multiplication by 1, which the register holds as its top bit, gives the bits of the other factor back. -/
theorem crcMul_top (a n : Nat) : crcMul a (n + 1) (2 ^ n) = a % 2 ^ (n + 1) := by
  induction n with
  | zero => rcases Nat.mod_two_eq_zero_or_one a with h | h <;> simp [crcMul, h]
  | succ n ih =>
    have hhalf : crcBit polyC (2 ^ (n + 1)) = 2 ^ n := by simp [crcBit, pow_succ]
    rw [crcMul, hhalf, ih]
    refine Nat.eq_of_testBit_eq fun i => ?_
    have hbit : a >>> (n + 1) % 2 = 1 ↔ a.testBit (n + 1) = true := by
      rw [Nat.testBit_eq_decide_div_mod_eq, Nat.shiftRight_eq_div_pow, decide_eq_true_iff]
    simp only [hbit, Nat.testBit_xor, Nat.testBit_mod_two_pow]
    by_cases hi : i = n + 1
    · subst hi
      split <;> simp [*]
    · have hlt : i < n + 1 + 1 ↔ i < n + 1 := by omega
      split <;> simp [hlt, Nat.testBit_two_pow_of_ne (Ne.symm hi)]

theorem crcMul_one (h : v < 2 ^ 32) : crcMul v 32 0x80000000 = v :=
  (crcMul_top v 31).trans (Nat.mod_eq_of_lt h)

theorem crcMul_comm (hu : u < 2 ^ 32) (hv : v < 2 ^ 32) : crcMul u 32 v = crcMul v 32 u := by
  calc crcMul u 32 v = crcMul u 32 (crcMul v 32 0x80000000) := by rw [crcMul_one hv]
    _ = crcMul v 32 (crcMul u 32 0x80000000) := crcMul_left_comm ..
    _ = crcMul v 32 u := by rw [crcMul_one hu]

/-- The power x^k in the form of the register. -/
def xPow (k : Nat) : Nat := (crcBit polyC)^[k] 0x80000000

theorem xPow_lt (k : Nat) : xPow k < 2 ^ 32 := iterate_crcBit_lt k (by decide)

theorem crcMul_xPow (k : Nat) (h : v < 2 ^ 32) : crcMul (xPow k) 32 v = (crcBit polyC)^[k] v := by
  rw [crcMul_comm (xPow_lt k) h, xPow, crcMul_iterate_crcBit, crcMul_one h]

theorem crcMul_xPow_xPow (j k : Nat) : crcMul (xPow j) 32 (xPow k) = xPow (j + k) := by
  rw [crcMul_xPow j (xPow_lt k), xPow, xPow, Function.iterate_add_apply]

/-- Powers by squaring: `f` bits suffice for the exponent `k` of the base x^m. -/
theorem crcPow_xPow (f k m : Nat) (h : k < 2 ^ f) : crcPow f k (xPow m) = xPow (m * k) := by
  induction f generalizing k m with
  | zero =>
    have hk : k = 0 := by omega
    subst hk
    rfl
  | succ f ih =>
    have hsquare : crcPow f (k / 2) (crcMul (xPow m) 32 (xPow m)) = xPow (m * (2 * (k / 2))) := by
      rw [crcMul_xPow_xPow, ih _ _ (by omega)]
      congr 1
      ring
    simp only [crcPow, hsquare]
    split
    next hodd =>
      rw [crcMul_xPow_xPow]
      congr 1
      calc m + m * (2 * (k / 2)) = m * (2 * (k / 2) + 1) := by ring
        _ = m * k := by congr 1; omega
    next heven =>
      congr 2
      omega

/-- Stepping over `n` zero bytes by one multiplication (R193, R238). -/
theorem crcSkip_eq_brandShift {n : Nat} (hv : v < 2 ^ 32) (hn : n < 2 ^ 29) : crcSkip v n = brandShift v n := by
  have hpow : crcPow 32 (8 * n) (xPow 1) = xPow (1 * (8 * n)) := crcPow_xPow 32 (8 * n) 1 (by omega)
  have hx : xPow 1 = 0x40000000 := by decide
  rw [crcSkip, ← hx, hpow, one_mul, crcMul_xPow _ hv, brandShift_eq_iterate]

end Sys2Proof.Machine

/-- Settles O8: the parameters and the two values are computed; the rest is the linearity of the register. -/
theorem brandFunctionLaws : Obligations.BrandFunctionLaws := by
  unfold Obligations.BrandFunctionLaws
  exact ⟨by decide, by decide, fun _ => rfl, by decide +kernel, by decide, fun _ => rfl, fun _ _ => brandC0_zipWith_xor,
    fun v n => (crcRun_zeros v n).symm, fun v n => by rw [brandShift_eq_iterate, repeat_eq_iterate], crc32c_append⟩

/-- Settles O9: each update adds the Brands of the frame up to the edit's end, as it was and as it becomes, shifted by the bytes
behind. -/
theorem brandUpdatesGiveTheNewCrc : Obligations.BrandUpdatesGiveTheNewCrc :=
  ⟨fun p _ _ q h => brandSet_crc32c p q h, brandPush_crc32c, brandPop_crc32c⟩

end

/-! PROOFS. The bank digest: a run over the entries of a table that steps over those never written. -/

section

open Sys2Proof Sys2Proof.Machine

namespace Sys2Proof.Machine

/-- What entry `i` of a table holds of which the entries `l` are written. -/
def entryAt (l : List (Nat × Nat)) (i : Nat) : Nat := ((l.find? fun x => x.1 == i).map (·.2)).getD 0

/-- The bytes of the entries from `lo` up to `hi`, in index order. -/
def entryBytes (size : Nat) (l : List (Nat × Nat)) (lo hi : Nat) : List Byte :=
  (List.range' lo (hi - lo)).flatMap fun i => leBytes (entryAt l i) size

variable {size count lo mid hi v : Nat} {l : List (Nat × Nat)}

theorem entryAt_eq_zero {i : Nat} (h : ∀ x ∈ l, i < x.1) : entryAt l i = 0 := by
  have hnone : l.find? (fun x => x.1 == i) = none := List.find?_eq_none.mpr fun x hx => by simpa using (h x hx).ne'
  rw [entryAt, hnone]; rfl

theorem entryAt_cons_self (i e : Nat) (l : List (Nat × Nat)) : entryAt ((i, e) :: l) i = e := by
  simp [entryAt]

theorem entryAt_cons_of_ne {i j : Nat} (h : i ≠ j) (e : Nat) (l : List (Nat × Nat)) : entryAt ((i, e) :: l) j = entryAt l j := by
  simp [entryAt, h]

theorem leBytes_zero (n : Nat) : leBytes 0 n = List.replicate n 0 := by
  induction n with
  | zero => rfl
  | succ n ih => rw [leBytes, Nat.zero_shiftRight, ih, List.replicate_succ]; rfl

theorem entryBytes_append (size : Nat) (l : List (Nat × Nat)) (h : lo ≤ mid) (h' : mid ≤ hi) :
    entryBytes size l lo hi = entryBytes size l lo mid ++ entryBytes size l mid hi := by
  have hsplit : List.range' lo (hi - lo) = List.range' lo (mid - lo) ++ List.range' mid (hi - mid) := by
    have hmid : lo + (mid - lo) = mid := by omega
    have hlen : hi - lo = mid - lo + (hi - mid) := by omega
    rw [hlen, ← List.range'_append_1, hmid]
  rw [entryBytes, hsplit, List.flatMap_append]; rfl

theorem entryBytes_cons (size : Nat) (l : List (Nat × Nat)) (h : lo < hi) :
    entryBytes size l lo hi = leBytes (entryAt l lo) size ++ entryBytes size l (lo + 1) hi := by
  have hlen : hi - lo = hi - (lo + 1) + 1 := by omega
  rw [entryBytes, hlen, List.range'_succ, List.flatMap_cons]; rfl

theorem entryBytes_unwritten (size : Nat) (h : ∀ x ∈ l, hi ≤ x.1) :
    entryBytes size l lo hi = List.replicate ((hi - lo) * size) 0 := by
  refine List.eq_replicate_iff.mpr ⟨by simp [entryBytes, leBytes_length], fun b hb => ?_⟩
  obtain ⟨i, hi', hb⟩ := List.mem_flatMap.mp hb
  have hlt : i < hi := by have := List.mem_range'_1.mp hi'; omega
  rw [entryAt_eq_zero fun x hx => hlt.trans_le (h x hx), leBytes_zero] at hb
  exact List.eq_of_mem_replicate hb

theorem entryBytes_cons_of_lt {i : Nat} (h : i < lo) (e hi : Nat) :
    entryBytes size ((i, e) :: l) lo hi = entryBytes size l lo hi :=
  List.flatMap_congr fun j hj => by
    rw [entryAt_cons_of_ne (h.trans_le (List.left_le_of_mem_range' hj)).ne]

/-- A step over unwritten entries is a run over their zeros. -/
theorem crcSkip_unwritten (hsize : size * count < 2 ^ 29) (hv : v < 2 ^ 32) (hhi : hi ≤ count) (h : ∀ x ∈ l, hi ≤ x.1) :
    crcSkip v ((hi - lo) * size) = crcRun polyC v (entryBytes size l lo hi) := by
  have hn : (hi - lo) * size < 2 ^ 29 :=
    calc (hi - lo) * size ≤ count * size := Nat.mul_le_mul_right size ((Nat.sub_le hi lo).trans hhi)
      _ < 2 ^ 29 := by rwa [Nat.mul_comm]
  rw [entryBytes_unwritten size h, crcRun_zeros, crcSkip_eq_brandShift hv hn]

theorem crcSparse_eq_crcRun (hsize : size * count < 2 ^ 29) (hv : v < 2 ^ 32) (hs : (l.map (·.1)).Pairwise (· < ·))
    (hl : ∀ x ∈ l, lo ≤ x.1 ∧ x.1 < count) : crcSparse size count l lo v = crcRun polyC v (entryBytes size l lo count) := by
  induction l generalizing lo v with
  | nil => exact crcSkip_unwritten hsize hv le_rfl (by simp)
  | cons x l ih =>
    obtain ⟨i, e⟩ := x
    obtain ⟨⟨hlo, hi⟩, hrest⟩ := List.forall_mem_cons.mp hl
    obtain ⟨hfirst, hs⟩ := List.pairwise_cons.mp hs
    have hbehind : ∀ x ∈ l, i < x.1 := fun x hx => hfirst x.1 (List.mem_map_of_mem hx)
    have hskip : crcSkip v ((i - lo) * size) = crcRun polyC v (entryBytes size ((i, e) :: l) lo i) :=
      crcSkip_unwritten hsize hv hi.le (List.forall_mem_cons.mpr ⟨le_rfl, fun x hx => (hbehind x hx).le⟩)
    have hwhole : entryBytes size ((i, e) :: l) lo count
        = entryBytes size ((i, e) :: l) lo i ++ (leBytes e size ++ entryBytes size l (i + 1) count) := by
      rw [entryBytes_append size _ hlo hi.le, entryBytes_cons size _ hi, entryAt_cons_self, entryBytes_cons_of_lt (Nat.lt_succ_self i)]
    rw [crcSparse, hskip, ih (crcRun_lt _ (crcRun_lt _ hv)) hs fun x hx => ⟨hbehind x hx, (hrest x hx).2⟩, hwhole, crcRun_append,
      crcRun_append]

end Sys2Proof.Machine

/-- Settles O11: between two written entries the zeros are stepped over by one multiplication, and behind the last one up to the end. -/
theorem sparseCrcRunsOverAllEntries : Obligations.SparseCrcRunsOverAllEntries := by
  intro size count v l hs hl hsize hv
  rw [List.range_eq_range']
  exact crcSparse_eq_crcRun hsize hv hs fun x hx => ⟨Nat.zero_le _, hl x hx⟩

end

/-! PROOFS. Edits of frames: each keeps the Brand the CRC-32C of the frame. -/

section

open Sys2Proof Sys2Proof.Machine

namespace Sys2Proof.Machine

/-! ## Bytes within a frame -/

variable {bs : List Byte} {st : EditSt}

theorem slice_within {o n : Nat} (h : o + n ≤ bs.length) : slice bs o n = (bs.drop o).take n := by
  have hlen : ((bs.drop o).take n).length = n := by simp; omega
  rw [slice, hlen, Nat.sub_self, List.replicate_zero, List.append_nil]

theorem overwrite_within {o : Nat} {b : List Byte} (h : o + b.length ≤ bs.length) :
    overwrite bs o b = bs.take o ++ b ++ bs.drop (o + b.length) := by
  have hall : b.take (bs.length - o) = b := List.take_of_length_le (by omega)
  rw [overwrite, hall]

theorem overwrite_length {o : Nat} {b : List Byte} (h : o + b.length ≤ bs.length) : (overwrite bs o b).length = bs.length := by
  rw [overwrite_within h]; simp; omega

/-- A byte string as what lies before, in and behind `n` bytes of it. -/
theorem eq_take_slice_drop {o n : Nat} (h : o + n ≤ bs.length) : bs = bs.take o ++ slice bs o n ++ bs.drop (o + n) := by
  rw [slice_within h, List.append_assoc, ← List.drop_drop, List.take_append_drop, List.take_append_drop]

theorem slice_length {o n : Nat} (h : o + n ≤ bs.length) : (slice bs o n).length = n := by
  rw [slice_within h]; simp; omega

theorem beBytes_length (v n : Nat) : (beBytes v n).length = n := by
  rw [beBytes, List.length_reverse, leBytes_length]

/-! ## The updates at their places in a frame (R196) -/

theorem brandSet_overwrite {o : Nat} {b : List Byte} (h : o + b.length ≤ bs.length) :
    brandSet (crc32c bs) bs.length o (slice bs o b.length) b = crc32c (overwrite bs o b) := by
  have ho : (bs.take o).length = o := by simp; omega
  have hset := brandSet_crc32c (bs.take o) (bs.drop (o + b.length)) (slice_length h)
  rwa [← eq_take_slice_drop h, ho, ← overwrite_within h] at hset

theorem brandPop_cut {o n : Nat} (h : o + n ≤ bs.length) :
    brandPop (crc32c bs) bs.length (bs.take o) (slice bs o n) = crc32c (bs.take o ++ bs.drop (o + n)) := by
  have hpop := brandPop_crc32c (bs.take o) (slice bs o n) (bs.drop (o + n))
  rwa [← eq_take_slice_drop h] at hpop

theorem brandPush_insert (bs ins : List Byte) (o : Nat) :
    brandPush (crc32c bs) bs.length (bs.take o) ins = crc32c (bs.take o ++ ins ++ bs.drop o) := by
  simpa only [List.take_append_drop] using brandPush_crc32c (bs.take o) ins (bs.drop o)

namespace EditSt

theorem BrandOk.setBytes (hb : st.BrandOk) {o : Nat} {b : List Byte} (h : o + b.length ≤ st.bytes.length) :
    ({ st with bytes := overwrite st.bytes o b, brand := brandSet st.brand st.bytes.length o (slice st.bytes o b.length) b }).BrandOk := by
  unfold BrandOk at hb ⊢
  rw [hb, brandSet_overwrite h]

end EditSt

/-! ## The edits (R230 to R234) -/

theorem setCsum_brandOk (hb : st.BrandOk) {o : Nat} (h : o + 2 ≤ st.bytes.length) (v : Nat) : (setCsum st o v).BrandOk := by
  have hlen : (beBytes v 2).length = 2 := beBytes_length v 2
  have hset := hb.setBytes (o := o) (b := beBytes v 2) (by rwa [hlen])
  rwa [hlen] at hset

theorem updateL4_brandOk (hb : st.BrandOk) (old : List Byte) (edited : Hdr) : (updateL4 st old edited).BrandOk := by
  unfold updateL4
  extract_lets isL4 target
  clear_value target
  split
  next => exact hb
  next =>
    extract_lets off cs
    split
    next => exact hb
    next hin =>
      split
      next => exact hb
      next => exact setCsum_brandOk hb (by omega) _

theorem mem_of_findHdr {hs : List Hdr} {c inst : Nat} {h : Hdr} (hf : findHdr hs c inst = some h) : h ∈ hs :=
  (List.mem_filter.mp (List.mem_of_getElem? hf)).1

theorem applySet_brandOk (e : Nat) (hf : st.Framed) (hb : st.BrandOk) : (applySet e st).BrandOk := by
  unfold applySet
  extract_lets c imm src w bo before
  split
  next => exact hb
  next =>
    split
    next => exact hb
    next h hh =>
      obtain ⟨hin, hip⟩ := hf h (mem_of_findHdr hh)
      split
      next => exact hb
      next hfit =>
        split
        next => exact hb
        next =>
          -- the bytes that hold the field lie in the header, and so in the frame
          extract_lets o a n old sh cur v new st1 st2
          have hlen : new.length = n := beBytes_length _ _
          have hplace : a + new.length ≤ st.bytes.length := by omega
          have hst1 : st1.BrandOk := by
            have hset := hb.setBytes hplace
            rwa [hlen] at hset
          have hst1len : st1.bytes.length = st.bytes.length := overwrite_length hplace
          have hst2 : st2.BrandOk := by
            unfold st2
            split
            next h4 =>
              have h20 := hip h4
              split
              next => exact hst1
              next => exact setCsum_brandOk hst1 (by omega) _
            next => exact hst1
          split
          next => exact updateL4_brandOk hst2 _ _
          next => exact hst2

theorem applyPush_brandOk (t mkey e : Nat) (hb : st.BrandOk) : (applyPush t mkey e st).BrandOk := by
  unfold applyPush
  extract_lets c
  split
  next =>
    unfold skipPush
    split <;> exact hb
  next h hh =>
    extract_lets
    split
    next => exact hb
    next =>
      unfold EditSt.BrandOk at hb ⊢
      rw [hb, brandPush_insert]

theorem applyPop_brandOk (e : Nat) (hf : st.Framed) (hb : st.BrandOk) : (applyPop e st).BrandOk := by
  unfold applyPop
  extract_lets c last
  split
  next h z hh hz =>
    split
    next => exact hb
    next hlast =>
      extract_lets n
      have hin : z ≤ st.bytes.length ∧ h.off ≤ z := by
        unfold last at hz
        split at hz
        next hto =>
          obtain ⟨t, ht, rfl⟩ := Option.map_eq_some_iff.mp hz
          have hbehind : h.off < t.off := by simpa [hto] using hlast
          exact ⟨(Nat.le_add_right ..).trans (hf t (mem_of_findHdr ht)).1, hbehind.le⟩
        next =>
          rw [hh] at hz
          cases hz
          exact ⟨(hf h (mem_of_findHdr hh)).1, Nat.le_add_right ..⟩
      have hend : h.off + n = z := by omega
      unfold EditSt.BrandOk at hb ⊢
      rw [hb, brandPop_cut (by omega), hend]
  next => exact hb

theorem applyEdit_brandOk (tmpl : Nat → Nat) (mkey e : Nat) (hf : st.Framed) (hb : st.BrandOk) :
    (applyEdit tmpl mkey st e).BrandOk := by
  dsimp only [applyEdit]
  split
  · exact applySet_brandOk e hf hb
  · exact applyPush_brandOk _ mkey e hb
  · exact applyPop_brandOk e hf hb
  · exact hb

end Sys2Proof.Machine

/-- Settles O10: each edit that applies is one of the updates of R196 at a place within the frame, which the headers give, and each
checksum field that it updates is a SET of two bytes. -/
theorem editsKeepTheBrand : Obligations.EditsKeepTheBrand :=
  fun tmpl mkey e _ hf hb => applyEdit_brandOk tmpl mkey e hf hb

end

/-! PROOFS. The frames of the operations on Girth dies, deep pages, flow contexts, Awl sets, sequenced writes and compaction, and of
the commands that use them. -/

section

open Sys2Proof Sys2Proof.Machine

namespace Sys2Proof.Machine

variable {l : List Part} {s t : State}

/-! ## Cells and their links -/

@[simp] theorem changes_takeCell (hl : [.regs, .fab] ⊆ l) (g n) :
    Changes l s (t.takeCell g n) ↔ Changes l s t :=
  changes_iff_of (by unfold State.takeCell; dsimp only; split <;> simp) hl

@[simp] theorem changes_parkCell (hl : [.regs, .fab] ⊆ l) (g id) :
    Changes l s (t.parkCell g id) ↔ Changes l s t :=
  changes_iff_of (by unfold State.parkCell; simp) hl

@[simp] theorem changes_noLink (hl : [.flt] ⊆ l) (g) :
    Changes l s (t.noLink g) ↔ Changes l s t :=
  changes_iff_of (by unfold State.noLink; simp) hl

@[simp] theorem changes_loseLinks (hl : [.regs, .fab, .tally] ⊆ l) (c ls) :
    Changes l s (t.loseLinks c ls) ↔ Changes l s t :=
  changes_iff_of (by unfold State.loseLinks; simp) hl

@[simp] theorem changes_purgeDead (hl : [.regs, .ctrs, .ev, .fab, .tally] ⊆ l) (g q) :
    Changes l s (t.purgeDead g q) ↔ Changes l s t :=
  changes_iff_of (by unfold State.purgeDead; simp) hl

@[simp] theorem changes_commit (hl : [.regs, .ctrs, .ev, .flt, .fab, .tally] ⊆ l) (g c noCell) :
    Changes l s (t.commit g c noCell) ↔ Changes l s t :=
  changes_iff_of (by
    unfold State.commit
    extract_lets ls ls' t₁ t₂ idle lost t₃ t₄ t₅ sess cap taken id _ t₆ t₇ t₈
    have h₅ : Changes [.regs, .ctrs, .ev, .flt, .fab, .tally] t t₅ := by simp [t₅, t₄, t₃, t₂, t₁]
    clear_value t₅ taken cap
    have h₈ : Changes [.regs, .ctrs, .ev, .flt, .fab, .tally] t t₈ := by simp +zetaDelta [h₅]
    clear_value t₈
    refine changes_ite.2 ⟨fun _ => .refl _ t, fun _ => ?_⟩
    split <;> simp [h₈]) hl

@[simp] theorem changes_deliver (hl : [.regs, .ctrs, .ev, .fab] ⊆ l) (g q d k) :
    Changes l s (t.deliver g q d k) ↔ Changes l s t :=
  changes_iff_of (by 
    unfold State.deliver
    split
    · exact .refl _ t
    · extract_lets n bad _ c rk t₁ _ t₂ t₃ t₄
      clear_value c
      have h₃ : Changes [.regs, .ctrs, .ev, .fab] t t₃ := by simp +zetaDelta
      clear_value t₃
      simp [t₄, h₃]) hl

@[simp] theorem changes_servePort (hl : [.regs, .ctrs, .ev, .fab] ⊆ l) (g p) :
    Changes l s (t.servePort g p) ↔ Changes l s t :=
  changes_iff_of (by
    unfold State.servePort
    extract_lets d k r0 order want deepQ blk
    clear_value want deepQ
    refine changes_ite.2 ⟨fun _ => by simp, fun _ => changes_ite.2 ⟨fun _ => by simp, fun _ => ?_⟩⟩
    split <;> simp) hl

@[simp] theorem changes_serveMc (hl : [.regs, .ctrs, .ev, .fab] ⊆ l) (g d cls) :
    Changes l s (t.serveMc g d cls) ↔ Changes l s t :=
  changes_iff_of (by unfold State.serveMc; simp) hl

/-! ## Deep pages -/

@[simp] theorem changes_takePage (hl : [.regs, .ctrs, .ev, .pool] ⊆ l) :
    Changes l s t.takePage.2 ↔ Changes l s t :=
  changes_iff_of (by
    unfold State.takePage
    dsimp only
    split
    · simp
    · split <;> simp) hl

@[simp] theorem changes_writePage (hl : [.ddr] ⊆ l) (h word0 cols) :
    Changes l s (t.writePage h word0 cols) ↔ Changes l s t :=
  changes_iff_of (by unfold State.writePage; simp) hl

@[simp] theorem changes_chainPage (hl : [.ddr] ⊆ l) (old h) :
    Changes l s (t.chainPage old h) ↔ Changes l s t :=
  changes_iff_of (by unfold State.chainPage; simp) hl

@[simp] theorem changes_pageDue (hl : [.ddr] ⊆ l) (p) :
    Changes l s (t.pageDue p) ↔ Changes l s t :=
  changes_iff_of (by unfold State.pageDue; simp) hl

@[simp] theorem changes_ueNoted (hl : [.regs, .ctrs, .ev, .ddr] ⊆ l) (o) :
    Changes l s (t.ueNoted o) ↔ Changes l s t :=
  changes_iff_of (by unfold State.ueNoted; simp) hl

@[simp] theorem changes_ddrUe (hl : [.regs, .ctrs, .ev, .flt, .ddr] ⊆ l) (o) :
    Changes l s (t.ddrUe o) ↔ Changes l s t :=
  changes_iff_of (by unfold State.ddrUe; simp) hl

@[simp] theorem changes_fillPage (hl : [.regs, .ctrs, .ev, .flt, .fab, .pool, .tally, .ddr, .st] ⊆ l) (g q bad hdrBad) :
    Changes l s (t.fillPage g q bad hdrBad) ↔ Changes l s t :=
  changes_iff_of (by
    unfold State.fillPage
    split
    · exact .refl _ t
    · extract_lets cols hit fails back fill r t₁ t₂ t₃
      have hfill : ∀ u i l₀, Changes [.regs, .flt, .fab] u (fill u i l₀).2 := fun u i l₀ => by simp +zetaDelta
      have hr : Changes [.regs, .flt, .fab] t r.2.2 := by
        refine Changes.foldl (fun a : Nat × List Link × State => a.2.2) (fun a k => ?_) _ (0, [], t)
        refine (changes_ite_snd_snd (x := (_, _, _))).2 ⟨fun _ => ?_, fun _ => .refl _ _⟩
        exact hfill _ _ _
      have hr' : Changes [.regs, .ctrs, .ev, .flt, .fab, .pool, .tally, .ddr, .st] t r.2.2 := hr.mono (by simp)
      clear_value r
      simp +zetaDelta [hr']) hl

/-! ## Flow contexts -/

@[simp] theorem changes_flowTouch (hl : [.regs, .ctrs, .ev, .flow] ⊆ l) (key idx who) :
    Changes l s (t.flowTouch key idx who) ↔ Changes l s t :=
  changes_iff_of (by unfold State.flowTouch; dsimp only; split <;> simp) hl

@[simp] theorem changes_flowCached (hl : [.flow] ⊆ l) (key i) :
    Changes l s (t.flowCached key i) ↔ Changes l s t :=
  changes_iff_of (by unfold State.flowCached; simp) hl

@[simp] theorem changes_flowDrop (hl : [.flow] ⊆ l) (i) :
    Changes l s (t.flowDrop i) ↔ Changes l s t :=
  changes_iff_of (by unfold State.flowDrop; simp) hl

@[simp] theorem changes_flowApply (hl : [.flow] ⊆ l) (p i c created) :
    Changes l s (t.flowApply p i c created).2 ↔ Changes l s t :=
  changes_iff_of (by unfold State.flowApply; simp) hl

@[simp] theorem changes_flowLost (hl : [.regs, .ev, .flt, .flow] ⊆ l) (i) :
    Changes l s (t.flowLost i) ↔ Changes l s t :=
  changes_iff_of (by unfold State.flowLost; simp) hl

@[simp] theorem changes_flowOp (hl : [.regs, .ctrs, .ev, .flt, .flow, .tally] ⊆ l) (p) :
    Changes l s (t.flowOp p).2 ↔ Changes l s t :=
  changes_iff_of (by
    unfold State.flowOp
    extract_lets key f t₁
    have h₁ : Changes [.regs, .ctrs, .ev, .flt, .flow, .tally] t t₁ := by simp [t₁]
    clear_value f t₁
    split
    · refine changes_ite_snd.2 ⟨fun _ => by simp [h₁], fun _ => ?_⟩
      split <;> simp [h₁]
    · refine changes_ite_snd.2 ⟨fun _ => by simp [h₁], fun _ => ?_⟩
      split <;> simp +zetaDelta [h₁]) hl

@[simp] theorem changes_flowRead (hl : [.regs, .ctrs, .ev, .flt, .flow] ⊆ l) (key) :
    Changes l s (t.flowRead key).2 ↔ Changes l s t :=
  changes_iff_of (by unfold State.flowRead; dsimp only; split <;> simp) hl

/-! ## Awl sets, buckets, throttles and the scrub -/

@[simp] theorem changes_setFails (hl : [.regs, .ev, .flt, .awl] ⊆ l) (a b) :
    Changes l s (t.setFails a b) ↔ Changes l s t :=
  changes_iff_of (by unfold State.setFails State.setFault; simp) hl

@[simp] theorem changes_countScan (hl : [.regs, .ctrs, .ev] ⊆ l) (a n count who) :
    Changes l s (t.countScan a n count who) ↔ Changes l s t :=
  changes_iff_of (by unfold State.countScan; simp) hl

@[simp] theorem changes_scanPass (hl : [.regs, .ctrs, .ev] ⊆ l) (p) :
    Changes l s (t.scanPass p).2 ↔ Changes l s t :=
  changes_iff_of (by unfold State.scanPass; simp) hl

@[simp] theorem changes_fillBucket (hl : [.sl] ⊆ l) (k) :
    Changes l s (t.fillBucket k) ↔ Changes l s t :=
  changes_iff_of (by unfold State.fillBucket; simp) hl

@[simp] theorem changes_throttleRead (hl : [.osp] ⊆ l) (x) :
    Changes l s (t.throttleRead x) ↔ Changes l s t :=
  changes_iff_of (by unfold State.throttleRead; simp) hl

@[simp] theorem changes_tabFails (hl : [.regs, .ev, .badTabs] ⊆ l) (x t' i) :
    Changes l s (t.tabFails x t' i) ↔ Changes l s t :=
  changes_iff_of (by unfold State.tabFails; simp) hl

/-! ## Sequenced writes -/

@[simp] theorem changes_trimLog (hl : [.regs, .ts] ⊆ l) :
    Changes l s t.trimLog ↔ Changes l s t :=
  changes_iff_of (by unfold State.trimLog; simp) hl

@[simp] theorem changes_copyWrite (hl : [.tabs, .awl] ⊆ l) (w) :
    Changes l s (t.copyWrite w) ↔ Changes l s t :=
  changes_iff_of (by
    unfold State.copyWrite
    refine changes_ite.2 ⟨fun _ => .refl _ t, fun _ => changes_ite.2 ⟨fun _ => by simp, fun _ => ?_⟩⟩
    split <;> simp) hl

@[simp] theorem changes_issue (hl : [.regs, .ev, .tabs, .ts, .awl] ⊆ l) (w) :
    Changes l s (t.issue w) ↔ Changes l s t :=
  changes_iff_of (by unfold State.issue; simp) hl

@[simp] theorem changes_applyOn' (hl : [.ctrs, .tabs, .badTabs, .ts] ⊆ l) (d w) :
    Changes l s (t.applyOn' d w) ↔ Changes l s t :=
  changes_iff_of (by
    unfold State.applyOn'
    refine changes_ite.2 ⟨fun _ => by simp, fun _ => ?_⟩
    split
    next t' _ =>
      refine changes_ite.2 ⟨fun _ => ?_, fun _ => .refl _ t⟩
      cases bankOf t' <;> simp
    · exact .refl _ t) hl

@[simp] theorem changes_applyNext (hl : [.regs, .ctrs, .ev, .tabs, .badTabs, .ts] ⊆ l) (d) :
    Changes l s (t.applyNext d) ↔ Changes l s t :=
  changes_iff_of (by unfold State.applyNext; dsimp only; split <;> simp) hl

@[simp] theorem changes_finishJob (hl : [.regs, .xl, .rc] ⊆ l) (j status r0 r1) :
    Changes l s (t.finishJob j status r0 r1) ↔ Changes l s t :=
  changes_iff_of (by unfold State.finishJob; simp) hl

@[simp] theorem changes_finishSeq (hl : [.regs, .xl, .rc] ⊆ l) :
    Changes l s t.finishSeq ↔ Changes l s t :=
  changes_iff_of (by unfold State.finishSeq; simp) hl

/-! ## Compaction -/

@[simp] theorem changes_osSpace (hl : [.osp] ⊆ l) :
    Changes l s t.osSpace ↔ Changes l s t :=
  changes_iff_of (by unfold State.osSpace; simp) hl

@[simp] theorem changes_osMoveOn (hl : [.tabs, .badTabs] ⊆ l) (x src dst) :
    Changes l s (t.osMoveOn x src dst) ↔ Changes l s t :=
  changes_iff_of (by unfold State.osMoveOn; simp) hl

/-! ## Register writes -/

@[simp] theorem changes_writeGroup (hl : [.regs, .fab] ⊆ l) (g v) :
    Changes l s (t.writeGroup g v) ↔ Changes l s t :=
  changes_iff_of (by unfold State.writeGroup; simp) hl

@[simp] theorem changes_writeCapCfg (hl : [.regs, .fab] ⊆ l) (v) :
    Changes l s (t.writeCapCfg v) ↔ Changes l s t :=
  changes_iff_of (by unfold State.writeCapCfg; simp) hl

@[simp] theorem changes_writePlain (hl : [.regs, .ev] ⊆ l) (r ix v) :
    Changes l s (t.writePlain r ix v).2 ↔ Changes l s t :=
  changes_iff_of (by
    unfold State.writePlain
    extract_lets v₁ blk v₂ old x new₁ new₂ u u'
    have hu : Changes [.regs, .ev] t u := by simp [u]
    clear_value u
    simp only [u']
    split <;> simp [hu]) hl

@[simp] theorem changes_writeLookupPlan (hl : [.regs, .ev] ⊆ l) (d p k v) :
    Changes l s (t.writeLookupPlan d p k v).2 ↔ Changes l s t :=
  changes_iff_of (by
    unfold State.writeLookupPlan
    refine changes_ite_snd.2 ⟨fun _ => by simp, fun _ => ?_⟩
    split <;> simp) hl

/-! ## Commands -/

theorem touches_cellCommit (g how) : Touches [.regs, .ctrs, .ev, .flt, .pace, .fab, .tally] (.cellCommit g how) :=
  touches_done (fun _ => rfl) fun s => by
    split
    extract_lets s₁
    have h₁ : Changes [.regs, .ctrs, .ev, .flt, .pace, .fab, .tally] s s₁ := by simp [s₁]
    clear_value s₁
    refine changes_ite.2 ⟨fun _ => ?_, fun _ => .refl _ s⟩
    split <;> simp [h₁]

theorem touches_deepSpill (g q) : Touches [.regs, .ctrs, .ev, .flt, .fab, .pool, .ddr] (.deepSpill g q) :=
  touches_done (fun _ => rfl) fun s => by
    extract_lets k cand ids n moved _ t last
    have ht : Changes [.regs, .ctrs, .ev, .flt, .fab, .pool, .ddr] s t := by simp [t]
    clear_value t
    have hp : Changes [.regs, .ctrs, .ev, .flt, .fab, .pool, .ddr] s t.takePage.2 := by simp [ht]
    refine changes_ite.2 ⟨fun _ => .refl _ s, fun _ => ?_⟩
    split
    next h u hu =>
      rw [hu] at hp
      clear_value last
      refine changes_ite.2 ⟨fun _ => .refl _ s, fun _ => ?_⟩
      cases last <;> simp [hp]
    next u hu =>
      rw [hu] at hp
      simp [hp]

theorem touches_calendarEntry (g e) : Touches [.regs, .ctrs, .ev, .pace, .fab] (.calendarEntry g e) :=
  touches_done (fun _ => rfl) fun s => by
    split
    extract_lets s₁ k pos _ s₂ cal _ s₃
    have h₂ : Changes [.regs, .ctrs, .ev, .pace, .fab] s s₂ := by
      refine changes_ite.2 ⟨fun _ => ?_, fun _ => by simp [s₁]⟩
      split <;> simp +zetaDelta
    clear_value s₂ cal
    refine changes_ite.2 ⟨fun _ => ?_, fun _ => .refl _ s⟩
    split <;> simp +zetaDelta [h₂]

theorem touches_girthQueueVisit (g q bad) :
    Touches [.regs, .ctrs, .ev, .flt, .fab, .pool, .tally, .ddr, .st] (.girthQueueVisit g q bad) :=
  touches_done (fun _ => rfl) fun s => by
    refine changes_ite.2 ⟨fun _ => ?_, fun _ => .refl _ s⟩
    split <;> simp

theorem touches_releaseNotice (d) : Touches [.regs, .port, .fab] (.releaseNotice d) :=
  touches_done (fun _ => rfl) fun s => by split <;> simp

theorem touches_flowOp (op) : Touches [.regs, .ctrs, .ev, .flt, .pace, .flow, .sl, .tally] (.flowOp op) :=
  touches_done (fun _ => rfl) fun s => by
    split
    extract_lets s₁
    have h₁ : Changes [.regs, .ctrs, .ev, .flt, .pace, .flow, .sl, .tally] s s₁ := by simp [s₁]
    clear_value s₁
    refine changes_ite.2 ⟨fun _ => .refl _ s, fun _ => ?_⟩
    split
    · simp [h₁]
    · split
      · exact h₁
      · split <;> simp [h₁]

theorem touches_flowAgerVisit (k) : Touches [.regs, .ctrs, .ev, .flt, .flow] (.flowAgerVisit k) :=
  touches_done (fun _ => rfl) fun s => by
    split
    · exact .refl _ s
    · split <;> simp

theorem touches_awlScan (sl bad) : Touches [.regs, .ctrs, .ev, .flt, .awl, .sl] (.awlScan sl bad) :=
  touches_done (fun _ => rfl) fun s => by
    extract_lets meet _
    have hmeet : ∀ u a, Changes [.regs, .ctrs, .ev, .flt, .awl, .sl] s (meet u a) ↔
        Changes [.regs, .ctrs, .ev, .flt, .awl, .sl] s u := fun u a => changes_iff_of (by
      dsimp only [meet]
      split <;> simp) (List.Subset.refl _)
    clear_value meet
    refine changes_ite.2 ⟨fun _ => .refl _ s, fun _ => ?_⟩
    split
    · simp [hmeet]
    · split
      · exact .refl _ s
      · split
        · exact .refl _ s
        · simp [hmeet]

theorem touches_scrubBurst (x tbl n fixed bad) : Touches [.regs, .ev, .flt, .badTabs, .awl] (.scrubBurst x tbl n fixed bad) :=
  touches_done (fun _ => rfl) fun s => by
    refine changes_ite.2 ⟨fun _ => .refl _ s, fun _ => changes_ite.2 ⟨fun _ => changes_ite.2 ⟨fun _ => .refl _ s, fun _ => ?_⟩,
      fun _ => ?_⟩⟩
    · extract_lets _ _ t
      have ht : Changes [.regs, .ev, .flt, .badTabs, .awl] s t := by simp +zetaDelta
      clear_value t
      generalize (if bad then t.setOfBlock n else none) = hit
      cases hit <;> simp [ht]
    · split <;> simp

theorem touches_entryReload : Touches [.regs, .tack, .ev, .flt, .tabs, .badTabs] .entryReload :=
  touches_done (fun _ => rfl) fun s => by
    split
    · exact .refl _ s
    · dsimp only
      split
      · simp
      · split <;> simp

theorem touches_compactionMove (d) : Touches [.regs, .ctrs, .pace, .tabs, .badTabs, .osp] (.compactionMove d) :=
  touches_done (fun _ => rfl) fun s => by split <;> simp

end Sys2Proof.Machine

/-- Settles O55, as O54: each command completes with an effect built from operations whose frames are the lemmas above. -/
theorem fabricAndTableFrames : Obligations.FabricAndTableFrames :=
  ⟨fun _ _ _ => touches_done (fun _ => rfl) fun _ => by simp,
    fun _ _ _ => touches_done (fun _ => rfl) fun _ => by simp,
    touches_cellCommit, touches_deepSpill,
    fun _ _ _ _ => touches_done (fun _ => rfl) fun _ => by simp,
    touches_calendarEntry, touches_girthQueueVisit,
    fun _ _ => touches_done (fun _ => rfl) fun _ => by simp,
    fun _ => touches_done (fun _ => rfl) fun _ => by simp,
    touches_releaseNotice,
    fun _ _ _ => touches_done (fun _ => rfl) fun _ => by simp,
    fun _ _ => touches_done (fun _ => rfl) fun _ => by simp,
    fun _ => touches_done (fun _ => rfl) fun _ => by simp,
    fun _ => touches_done (fun _ => rfl) fun _ => by simp,
    touches_flowOp, touches_flowAgerVisit, touches_awlScan,
    fun _ => touches_done (fun _ => rfl) fun _ => by simp,
    fun _ _ => touches_done (fun _ => rfl) fun _ => by simp,
    fun _ _ => touches_done (fun _ => rfl) fun _ => by simp,
    fun _ _ _ _ => touches_done (fun _ => rfl) fun _ => by simp,
    touches_scrubBurst,
    fun _ => touches_done (fun _ => rfl) fun _ => by simp,
    fun _ => touches_done (fun _ => rfl) fun _ => by simp,
    touches_entryReload,
    fun _ _ _ _ => touches_done (fun _ => rfl) fun _ => by simp,
    touches_done (fun _ => rfl) fun _ => by simp,
    touches_compactionMove,
    fun _ _ => touches_done (fun _ => rfl) fun _ => by simp,
    fun _ => touches_done (fun _ => rfl) fun _ => by simp,
    fun _ => touches_done (fun _ => rfl) fun _ => by simp⟩

end

/-! PROOFS. A reload of an Awl set waits while the DDR5 that holds its shadow cannot be reached: the counterexample to the clause on
the end of a reload. -/

section

open Sys2Proof Sys2Proof.Machine

namespace Sys2Proof.Machine

/-- The copy back of a set does not end while its shadow in device memory cannot be reached (R262, R504, R505, R508). -/
theorem awlSetReloaded_waits {s : State} {a : Nat} (bad : Bool)
    (h : s.ddrHeld (s.shadowOff a) (s.awl.image.at [] a).length = true) : exec (.awlSetReloaded a bad) s = .next s := by
  change execAwlSetReloaded a bad s = _
  simp [execAwlSetReloaded, done, onlyIf, h]

/-- Set 0, whose image is one byte, is RELOADING while no channel of the DDR5 has been trained. -/
def reloadUntrained : State := { State.reset.set F.AW_SET_CFG_STATE [0] 4 with awl.image := [(0, [0])] }

theorem reloadUntrained_held :
    reloadUntrained.ddrHeld (reloadUntrained.shadowOff 0) (reloadUntrained.awl.image.at [] 0).length = true := by decide +kernel

end Sys2Proof.Machine

/-- Refutes O34: the clause on AWL_SET_RELOADED does not ask that the shadow in device memory can be reached, which the command
waits for. In `reloadUntrained` the shadow has no bad burst, and set 0 stays in RELOADING (4) where the clause has LOADED (2). -/
theorem not_awlAndFlowComplete : ¬ Obligations.AwlAndFlowComplete := by
  rintro ⟨-, -, -, -, -, -, -, hreload, -⟩
  have hreloading : reloadUntrained.setState 0 = 4 := by decide +kernel
  obtain ⟨t, ht, hloaded, -⟩ := hreload reloadUntrained 0 (by decide) hreloading (by decide +kernel)
  obtain rfl := Host.Outcome.next.inj ((awlSetReloaded_waits false reloadUntrained_held).symm.trans ht)
  exact absurd (hreloading.symm.trans hloaded) (by decide)

end

/-! PROOFS. Entries whose data is here: set writes, receive buffers and injections; and the timers and completions of a queue. -/

section

open Sys2Proof Sys2Proof.Machine Sys2Proof.Machine.State

namespace Sys2Proof.Machine

namespace State

variable {s : State} {q i : Nat} {ur : Bool} {j : Job} {is : Nat → Bool}

/-! ## Entries and their data (R474, R475, R515) -/

theorem is_of_jobOf (h : s.jobOf q i is = some j) : is j.ent = true := by
  unfold jobOf at h
  split at h
  · have hfind := (Option.filter_eq_some_iff.mp h).1
    have hmine := List.find?_some hfind
    simp only [Bool.and_eq_true] at hmine
    exact hmine.2
  · cases h

section
variable {xl : State → Job → State} {k : Job → State → State}

/-- An entry without a fragment table goes on at once. -/
theorem withData_direct (h : entInd j.ent = false) : s.withData j ur xl k = k j s := by simp [withData, h]

/-- An entry goes on once its fragment table and what it reads are here. -/
theorem withData_here {fr : List (Nat × Nat)} (hind : entInd j.ent = true) (hfr : j.frags = some fr)
    (hgot : opReads j.ent = 0 ∨ entLen j.ent ≤ j.got.length) : s.withData j ur xl k = k j (s.setJob j) := by
  simp [withData, hind, hfr, hgot]

end

/-- A receive entry reads nothing but its fragment table (R484). -/
theorem opReads_rxBuf (h : isOp 0x20 j.ent = true) : opReads j.ent = 0 := by
  have hop : entOp j.ent = 0x20 := eq_of_beq h
  rw [opReads, hop]
  rfl

/-! ## SET_WRITE (R261) -/

/-- A set write that holds its slot writes it once its data is here. -/
theorem runSetWrite_here {fr : List (Nat × Nat)} (h : s.jobOf q i (isOp 6) = some j) (hstage : j.stage = 5) (hmode : s.mode ≠ .halt)
    (hind : entInd j.ent = true) (hfr : j.frags = some fr) (hgot : entLen j.ent ≤ j.got.length) {u : State}
    (hu : u = ((s.set F.AW_SET_CFG_STATE [entSub j.ent] 1).setJob j).setJob j) :
    s.runSetWrite q i ur
      = (u.setWrite (entSub j.ent) j.status j.got).2.finishJob j (u.setWrite (entSub j.ent) j.status j.got).1 0 0 := by
  have hmode' : ((s.set F.AW_SET_CFG_STATE [entSub j.ent] 1).setJob j).mode ≠ .halt := by simpa [setJob] using hmode
  simp [runSetWrite, h, hstage, hmode', withData_here hind hfr (.inr hgot), hu]

/-! ## RX_BUF (R484) -/

theorem bufs_showIdle (s : State) (q : Nat) : (s.showIdle q).rc.bufs = s.rc.bufs := by
  have h : Changes [.regs] s (s.showIdle q) := by simp
  exact congrArg RingC.bufs (h .rc (by simp))

/-- The oldest started entry of a receive queue posts its buffer behind the others, once its fragment table is here. -/
theorem bufs_postBuffer (h : s.jobOf q i (isOp 0x20) = some j) (hfirst : (s.rc.jobs.find? fun k => k.q == q) = some j)
    (hfr : entInd j.ent = false ∨ j.frags.isSome = true) :
    (s.postBuffer q i ur).rc.bufs.at [] q = s.rc.bufs.at [] q ++ [{
      idx := j.idx, ent := j.ent, cq := j.cq, fn := j.fn, pas := j.pas, frags := j.frags.getD [], len := entLen j.ent }] := by
  cases hind : entInd j.ent with
  | false => simp [postBuffer, h, hfirst, withData_direct hind, bufs_showIdle]
  | true =>
    obtain ⟨fr, hsome⟩ := Option.isSome_iff_exists.mp (hfr.resolve_left (by simp [hind]))
    have hreads := opReads_rxBuf (is_of_jobOf h)
    simp [postBuffer, h, hfirst, withData_here hind hsome (.inl hreads), bufs_showIdle, setJob]

/-! ## INJECT (R487) -/

/-- An injection of a legal length whose data is here completes when the reinjection queue takes its frame. -/
theorem runInject_taken {fr : List (Nat × Nat)} {v : State} (h : s.jobOf q i (isOp 0x40) = some j)
    (hbar : s.opBarred j.fn j.ent [] = none) (hmin : 60 ≤ entLen j.ent) (hmax : entLen j.ent ≤ 15996) (hind : entInd j.ent = true)
    (hfr : j.frags = some fr) (hgot : entLen j.ent ≤ j.got.length) (hv : (s.setJob j).reinject (injectMeta j.ent) j.got = (0, v)) :
    s.runInject q i ur = v.finishJob j 0 0 0 := by
  have hlen : ¬(entLen j.ent < 60 ∨ 15996 < entLen j.ent) := by omega
  simp [runInject, h, hbar, hlen, withData_here hind hfr (.inr hgot), hv]

/-! ## Completions and fences (R477, R478, R482) -/

/-- The oldest completion of a CQ goes first. -/
theorem writeCompletion_completion {c : Nat} {k : Compl} {r : List Compl}
    (h : takeFirst (fun (k : Compl) => k.cq == c) s.rc.comp = some (k, r)) :
    s.writeCompletion c = ({ s with rc.comp := r }.putCompletion k).showIdle k.sq := by simp [writeCompletion, h]

/-- With no completion waiting, a fence that is due is written as soon as the start rule lets it. -/
theorem writeCompletion_fence {c : Nat} {f : Fence} {r : List Fence} (hnone : takeFirst (fun (k : Compl) => k.cq == c) s.rc.comp = none)
    (h : takeFirst (fun (f : Fence) => f.due && f.c.cq == c) s.rc.fences = some (f, r)) (hstart : s.mayStart c = true) :
    s.writeCompletion c = { s with rc.fences := r }.putCompletion f.c := by simp [writeCompletion, hnone, h, hstart]

end State

/-! ## The commands -/

variable {s : State} {q i c : Nat}

/-- A buffer that holds records is closed when its time is up (R484). -/
theorem rxFlushTimer_closes {b : RxBuf} {l : List RxBuf} (hb : s.rc.bufs.at [] q = b :: l) (hup : s.ringUp = true) (hrecs : 0 < b.recs)
    (htype : s.get F.RC_SQ_CFG_TYPE [q] ≠ 3) (hparked : s.sqParked q = false)
    (hdue : s.get F.RC_RX_FLUSH_US [] * 1000 ≤ s.since b.at_) : Does (.rxFlushTimer q) s (s.closeBuf q 0 0 0) :=
  does_of_effect (fun _ => rfl) (by simp [hb, onlyIf, hup, hrecs, htype, hparked, hdue])

/-- An injection that has waited 100 µs for room ends as FULL (R487). -/
theorem injectFullTimeout_ends {j : Job} (h : s.jobOf q i (isOp 0x40) = some j) (hstage : j.stage = 4)
    (hdue : 100000 ≤ s.since j.at_) : Does (.injectFullTimeout q i) s (s.finishJob j 0x19 0 0) :=
  does_of_effect (fun _ => rfl) (by simp [h, onlyIf, hstage, hdue])

/-- The message of a CQ goes out when its coalescing time is up (R479). -/
theorem cqCoalTimer_sends {t0 : Nat} (h : s.rc.cqFirst.find? c = some t0) (hup : s.ringUp = true)
    (hdue : s.get F.RC_CQ_COAL_US [c] * 1000 ≤ s.since t0) : Does (.cqCoalTimer c) s (s.cqMessage c) :=
  does_of_effect (fun _ => rfl) (by simp [h, onlyIf, hup, hdue])

/-- COMPLETION_WRITE on a ring that is up is the write of a completion (R477). -/
theorem completionWrite_does {u : State} (hup : s.ringUp = true) (hu : s.writeCompletion c = u) : Does (.completionWrite c) s u :=
  does_of_effect (fun _ => rfl) (by simp [onlyIf, hup, hu])

end Sys2Proof.Machine

/-- Settles O43: each command runs into the branch that its clause names. -/
theorem ringDataCompletes : Obligations.RingDataCompletes :=
  ⟨fun _ _ _ _ _ _ _ hj hstage hmode hind hfr hgot hu =>
      does_of_effect (fun _ => rfl) (runSetWrite_here hj hstage hmode hind hfr hgot hu),
    fun _ _ _ _ _ hj hfirst hfr => completes_of_effect (fun _ => rfl) (bufs_postBuffer hj hfirst hfr),
    fun _ _ _ _ => rxFlushTimer_closes,
    fun _ _ _ _ _ _ _ _ hj hbar hmin hmax hind hfr hgot hu hv =>
      does_of_effect (fun _ => rfl) (runInject_taken hj hbar hmin hmax hind hfr hgot (hu ▸ hv)),
    fun _ _ _ _ => injectFullTimeout_ends,
    fun _ _ _ _ hup h => completionWrite_does hup (writeCompletion_completion h),
    fun _ _ _ _ hup hnone h hstart => completionWrite_does hup (writeCompletion_fence hnone h hstart),
    fun _ _ _ => cqCoalTimer_sends⟩

end

/-! PROOFS. What the operations of the ordered rule store, the sequencer and learning leave alone: parts of the state, fields of the
planner and of the sequencer, and the counters that a learn notice does not touch. -/

section

open Sys2Proof Sys2Proof.Machine Sys2Proof.Machine.State

namespace Sys2Proof.Machine

section
variable {l : List Part} {s t : State}

/-! ## Frames of the ordered store's operations and of their answers (R318 to R325) -/

@[simp] theorem changes_osMove (hl : [.regs, .ev, .tabs, .ts, .awl] ⊆ l) (src dst) :
    Changes l s (t.osMove src dst) ↔ Changes l s t :=
  changes_iff_of (by unfold State.osMove State.issueAll; simp) hl

/-- An entry is placed by moves and by its own write. -/
theorem changes_osPlace {e : Nat} (h : s.osPlace e = some t) : Changes [.regs, .ev, .tabs, .ts, .awl] s t := by
  unfold State.osPlace at h
  dsimp only at h
  split at h
  · cases h; simp
  · split at h
    · split at h
      · cases h; simp
      · cases h
    · split at h
      · cases h; simp
      · cases h
    · cases h

/-- An operation that does not wait changes the tables by writes in the sequence. -/
theorem changes_osDo {kind id v st r0 : Nat} (h : s.osDo kind id v = some (st, r0, t)) :
    Changes [.regs, .ev, .tabs, .ts, .awl] s t := by
  unfold State.osDo at h
  dsimp only at h
  split at h
  · split at h
    · cases h; simp
    · obtain ⟨u, hu, he⟩ := Option.map_eq_some_iff.mp h
      cases he
      exact changes_osPlace hu
  · split at h
    · cases h; simp
    · split at h
      · cases h; simp
      · cases h; simp
      · split at h
        · cases h; simp
        · obtain ⟨u, hu, he⟩ := Option.map_eq_some_iff.mp h
          have hplaced := changes_osPlace hu
          split at he
          · cases he; simpa using hplaced
          · cases he; exact hplaced

@[simp] theorem changes_setJob (hl : [.rc] ⊆ l) (j) : Changes l s (t.setJob j) ↔ Changes l s t :=
  changes_iff_of (by unfold State.setJob; simp) hl

@[simp] theorem changes_osAnswer (hl : [.regs, .xl, .rc, .st] ⊆ l) (w st r0) :
    Changes l s (t.osAnswer w st r0) ↔ Changes l s t :=
  changes_iff_of (by
    unfold State.osAnswer
    split
    · split
      · simp [State.jobAns]
      · exact .refl _ t
    · simp
    · exact .refl _ t) hl

@[simp] theorem changes_portLearned (hl : [.regs, .ev] ⊆ l) (p n) : Changes l s (t.portLearned p n) ↔ Changes l s t :=
  changes_iff_of (by unfold State.portLearned State.showLimit; simp) hl

@[simp] theorem changes_tenantLearned (hl : [.regs, .ev, .ts] ⊆ l) (w n) : Changes l s (t.tenantLearned w n) ↔ Changes l s t :=
  changes_iff_of (by unfold State.tenantLearned; simp) hl

@[simp] theorem changes_unlearn (hl : [.regs, .ev, .ts] ⊆ l) (slot) : Changes l s (t.unlearn slot) ↔ Changes l s t :=
  changes_iff_of (by unfold State.unlearn; split <;> simp) hl

@[simp] theorem changes_learnNotice (hl : [.regs, .ctrs, .ev, .host, .fab, .tally, .xl, .rc] ⊆ l) (kind port old seq key) :
    Changes l s (t.learnNotice kind port old seq key) ↔ Changes l s t :=
  changes_iff_of (by unfold State.learnNotice; simp) hl

end

namespace State

variable {s : State}

/-! ## Waiting operations go on (R319, R324) -/

theorem osp_showHeld (s : State) : s.showHeld.osp = s.osp := (show Changes [.regs] s s.showHeld by simp) .osp (by simp)

/-- The operations that go on leave the planner as it is, but for the list of those that wait. -/
theorem osp_osRetry (n : Nat) (s : State) : ∃ w, (osRetry n s).osp = { s.osp with waiting := w } := by
  induction n generalizing s with
  | zero => exact ⟨_, osp_showHeld s⟩
  | succ n ih =>
    unfold osRetry
    split
    · exact ⟨_, osp_showHeld s⟩
    · split
      · exact ⟨_, osp_showHeld s⟩
      next w r _ _ st r0 u hdo =>
        have hu : u.osp = s.osp := changes_osDo hdo .osp (by simp)
        have hanswer : ({ u with osp.waiting := r }.osAnswer w.ref st r0).osp = { u.osp with waiting := r } :=
          (show Changes [.regs, .xl, .rc, .st] { u with osp.waiting := r } _ by simp) .osp (by simp)
        obtain ⟨w', h⟩ := ih ({ u with osp.waiting := r }.osAnswer w.ref st r0)
        exact ⟨w', by rw [h, hanswer, hu]⟩

theorem osp_osRelease (s : State) : ∃ w, s.osRelease.osp = { s.osp with waiting := w } := osp_osRetry ..

/-! ## Moves and ends of a compaction (R320, R323, R325) -/

theorem ctrs_osMoveOn (s : State) (x src dst : Nat) : (s.osMoveOn x src dst).ctrs = s.ctrs := (rfl)

theorem busy_compactionDone (s : State) : s.compactionDone.osp.busy = false := by
  unfold compactionDone
  extract_lets t₀ o t fin
  have hfin : Changes [.regs, .ctrs, .ev, .pace] t (forEach t.liveSkirts fin t) := by simp [fin]
  obtain ⟨w, hw⟩ := (forEach t.liveSkirts fin t).osp_osRelease
  rw [hw, hfin .osp (by simp)]

theorem osp_osStop (again : Bool) (h : s.osp.busy = true) :
    (s.osStop again).osp = { s.osp with busy := false, moves := [], again := again } := by
  unfold osStop
  rw [if_pos h]
  extract_lets l t₁ t₂ t₃ t₄
  have ht : Changes [.regs, .ctrs, .pace, .tabs, .badTabs] s t₄ := by simp [t₁, t₂, t₃, t₄]
  rw [osp_showHeld]
  change ({ t₄.osp with busy := false, moves := [], again := again } : OsPlan) = _
  rw [ht .osp (by simp)]

/-! ## The sequencer and the learn counts (R284, R289) -/

/-- A write takes the next place of the sequence. -/
theorem ts_issue (s : State) (w : SeqWrite) : ∃ l, (s.issue w).ts = { s.ts with issued := s.ts.issued + 1, log := l } := by
  have hcopy : (s.copyWrite w).ts = s.ts := (show Changes [.tabs, .awl] s (s.copyWrite w) by simp) .ts (by simp)
  simp [issue, trimLog, hcopy]

theorem clock_issue (s : State) (w : SeqWrite) : (s.issue w).clock = s.clock :=
  clock_of_changes (l := [.regs, .ev, .tabs, .ts, .awl]) (by simp) (by simp)

theorem visits_tenantLearned (s : State) (w n : Nat) : (s.tenantLearned w n).ts.visits = s.ts.visits := by
  unfold tenantLearned
  dsimp only
  split <;> simp

/-- An entry that leaves the learn counts leaves the ager's visits as they are. -/
theorem visits_unlearn (s : State) (slot : Nat) : (s.unlearn slot).ts.visits = s.ts.visits := by
  unfold unlearn
  split
  · rfl
  next w p _ =>
    have hport (u : State) (n : Nat) : (u.portLearned p n).ts = u.ts :=
      (show Changes [.regs, .ev] u (u.portLearned p n) by simp) .ts (by simp)
    rw [visits_tenantLearned, hport]

/-! ## Learn notices: the counters they touch (R290, R484) -/

/-- The counters of translation, of lost records and of Tally records: those that a record on its way to a receive queue may touch. -/
def receiveCtrs : List Nat :=
  [R.TR_TLB_HIT, R.TR_TLB_MISS, R.TR_PRI_REQ, R.TR_XLATE_ERR, R.RC_RX_DROP, R.TL_RECORDS].map (·.base)

section
variable {s t u : State}

theorem ctrsBut_iff_of (h : CtrsBut receiveCtrs t u) : CtrsBut receiveCtrs s u ↔ CtrsBut receiveCtrs s t :=
  ⟨fun hs a ha => (h a ha).symm.trans (hs a ha), fun hs a ha => (h a ha).trans (hs a ha)⟩

theorem ctrsBut_of_ctrs (h : u.ctrs = t.ctrs) : CtrsBut receiveCtrs s u ↔ CtrsBut receiveCtrs s t := by simp only [CtrsBut, h]

theorem ctrsBut_of_changes {l : List Part} (h : Changes l t u) (hl : .ctrs ∉ l) :
    CtrsBut receiveCtrs s u ↔ CtrsBut receiveCtrs s t := ctrsBut_of_ctrs (h .ctrs hl)

@[simp] theorem ctrsBut_refl : CtrsBut receiveCtrs s s := .refl _ s

@[simp] theorem ctrsBut_mk
    {pe : List Instr} {v : Variant} {cl : Clock} {md : Mode} {rg : Map Word} {sg la : Map Word} {fr : Nat} {tk : Tack}
    {ms : Modes} {ev : Events} {ft : Faults} {ou : Outputs} {pa : Pace} {lo : Loader} {fd : FlashDev} {fu : Fuse} {ho : Map Byte}
    {tb : Map Nat} {bt : List Nat} {sq : Sequencer} {op : OsPlan} {aw : AwlStore} {fl : Flows} {po : Ports} {si : Slices}
    {fa : Fabric} {sh : Shaping} {pl : Pools} {ta : TallyBanks} {xl : Xlate} {rc : RingC} {dd : Ddr} {sc : Stitch} :
    CtrsBut receiveCtrs s ⟨pe, v, cl, md, rg, t.ctrs, sg, la, fr, tk, ms, ev, ft, ou, pa, lo, fd, fu, ho, tb, bt, sq, op, aw, fl,
      po, si, fa, sh, pl, ta, xl, rc, dd, sc⟩ ↔ CtrsBut receiveCtrs s t := Iff.rfl

@[simp] theorem ctrsBut_ite {c : Prop} [Decidable c] :
    CtrsBut receiveCtrs s (if c then t else u) ↔ (c → CtrsBut receiveCtrs s t) ∧ (¬c → CtrsBut receiveCtrs s u) := by
  split <;> simp [*]

@[simp] theorem ctrsBut_ite_snd {α : Type} {c : Prop} [Decidable c] {x y : α × State} :
    CtrsBut receiveCtrs s (if c then x else y).2 ↔ (c → CtrsBut receiveCtrs s x.2) ∧ (¬c → CtrsBut receiveCtrs s y.2) := by
  split <;> simp [*]

@[simp] theorem ctrsBut_ite_snd_snd {α β : Type} {c : Prop} [Decidable c] {x y : α × β × State} :
    CtrsBut receiveCtrs s (if c then x else y).2.2 ↔ (c → CtrsBut receiveCtrs s x.2.2) ∧ (¬c → CtrsBut receiveCtrs s y.2.2) := by
  split <;> simp [*]

theorem ctrsBut_inc {r : RegSpec} (h : r.addr [] ∈ receiveCtrs) :
    CtrsBut receiveCtrs s (t.inc r []) ↔ CtrsBut receiveCtrs s t := ctrsBut_iff_of ((CtrsBut.refl _ t).inc r [] 1 h)

@[simp] theorem ctrsBut_raise (f : Fld) (ix : List Nat) : CtrsBut receiveCtrs s (t.raise f ix) ↔ CtrsBut receiveCtrs s t :=
  ctrsBut_of_ctrs (by simp)

@[simp] theorem ctrsBut_countKind (b i k : Nat) (who : Option Nat) :
    CtrsBut receiveCtrs s (t.countKind b i k who) ↔ CtrsBut receiveCtrs s t := ctrsBut_of_ctrs (by simp)

@[simp] theorem ctrsBut_showPark (w : Who) : CtrsBut receiveCtrs s (t.showPark w) ↔ CtrsBut receiveCtrs s t :=
  ctrsBut_of_changes (l := [.regs]) (by simp) (by simp)

@[simp] theorem ctrsBut_hostPut (fn pas : Nat) (ps : List (Nat × Nat)) (bs : List Byte) :
    CtrsBut receiveCtrs s (hostPut fn pas ps bs t) ↔ CtrsBut receiveCtrs s t :=
  ctrsBut_of_changes (l := [.host]) (by simp) (by simp)

@[simp] theorem ctrsBut_closeBuf (q status hi r1 : Nat) :
    CtrsBut receiveCtrs s (t.closeBuf q status hi r1) ↔ CtrsBut receiveCtrs s t :=
  ctrsBut_of_changes (l := [.regs, .rc]) (by simp) (by simp)

@[simp] theorem ctrsBut_rxFull (q typ n : Nat) : CtrsBut receiveCtrs s (t.rxFull q typ n) ↔ CtrsBut receiveCtrs s t :=
  ctrsBut_of_changes (l := [.regs, .rc]) (by simp) (by simp)

@[simp] theorem ctrsBut_tallyDrop (x cat : Nat) (m : Meta) :
    CtrsBut receiveCtrs s (t.tallyDrop x cat m) ↔ CtrsBut receiveCtrs s t :=
  ctrsBut_of_changes (l := [.tally]) (by simp) (by simp)

@[simp] theorem ctrsBut_reach (fn pas : Nat) (write : Bool) (f va n : Nat) :
    CtrsBut receiveCtrs s (reach fn pas write f va n t).2.2 ↔ CtrsBut receiveCtrs s t := by
  refine ctrsBut_iff_of ?_
  induction f generalizing va n t with
  | zero => simp [reach]
  | succ f ih =>
    have ih' := fun va n u => ctrsBut_iff_of (s := t) (ih (t := u) va n)
    unfold reach
    split
    · simp
    · split <;> simp [ih', ctrsBut_inc (r := R.TR_TLB_HIT) (by decide)]

@[simp] theorem ctrsBut_askTlb (w : Wait) : CtrsBut receiveCtrs s (t.askTlb w) ↔ CtrsBut receiveCtrs s t :=
  ctrsBut_iff_of (by unfold askTlb; simp [ctrsBut_inc (r := R.TR_TLB_MISS) (by decide)])

@[simp] theorem ctrsBut_sendPrq (w : Wait) : CtrsBut receiveCtrs s (t.sendPrq w) ↔ CtrsBut receiveCtrs s t :=
  ctrsBut_iff_of (by unfold sendPrq; simp [ctrsBut_inc (r := R.TR_PRI_REQ) (by decide)])

@[simp] theorem ctrsBut_pageFault (w : Wait) : CtrsBut receiveCtrs s (t.pageFault w).2 ↔ CtrsBut receiveCtrs s t :=
  ctrsBut_iff_of (by unfold pageFault; simp [ctrsBut_inc (r := R.TR_XLATE_ERR) (by decide)])

@[simp] theorem ctrsBut_dmaSpan (who : Who) (fn pas : Nat) (write ur : Bool) (va n : Nat) :
    CtrsBut receiveCtrs s (dmaSpan who fn pas write ur va n t).2.2 ↔ CtrsBut receiveCtrs s t :=
  ctrsBut_iff_of (by
    unfold dmaSpan
    split
    · simp [ctrsBut_inc (r := R.TR_XLATE_ERR) (by decide)]
    · dsimp only
      split <;> simp)

@[simp] theorem ctrsBut_dmaPieces (who : Who) (fn pas : Nat) (write ur : Bool) (frags : List (Nat × Nat)) :
    CtrsBut receiveCtrs s (dmaPieces who fn pas write ur frags t).2.2 ↔ CtrsBut receiveCtrs s t := by
  refine ctrsBut_iff_of ?_
  induction frags generalizing t with
  | nil => simp [dmaPieces]
  | cons x r ih =>
    have ih' := fun u => ctrsBut_iff_of (s := t) (ih (t := u))
    simp [dmaPieces, ih']

@[simp] theorem ctrsBut_dmaPut (who : Who) (fn pas : Nat) (frags : List (Nat × Nat)) (o : Nat) (bs : List Byte) :
    CtrsBut receiveCtrs s (t.dmaPut who fn pas frags o bs).2.2 ↔ CtrsBut receiveCtrs s t := by simp [dmaPut]

@[simp] theorem ctrsBut_rxLost (q : Nat) (r : RxRec) : CtrsBut receiveCtrs s (t.rxLost q r) ↔ CtrsBut receiveCtrs s t :=
  ctrsBut_iff_of (by
    unfold rxLost
    split
    · simp
    · cases r.frame <;> simp [ctrsBut_inc (r := R.RC_RX_DROP) (by decide)])

@[simp] theorem ctrsBut_tallyWrote (trailer : Bool) : CtrsBut receiveCtrs s (t.tallyWrote trailer) ↔ CtrsBut receiveCtrs s t :=
  ctrsBut_iff_of (by unfold tallyWrote; simp [ctrsBut_inc (r := R.TL_RECORDS) (by decide)])

@[simp] theorem ctrsBut_rxRun (q n : Nat) : CtrsBut receiveCtrs s (rxRun q n t) ↔ CtrsBut receiveCtrs s t := by
  refine ctrsBut_iff_of ?_
  induction n generalizing t with
  | zero => simp [rxRun]
  | succ n ih =>
    have ih' := fun u => ctrsBut_iff_of (s := t) (ih (t := u))
    unfold rxRun
    split <;> simp [ih']

theorem ctrsBut_learnNotice (s : State) (kind port old seq key : Nat) :
    CtrsBut receiveCtrs s (s.learnNotice kind port old seq key) := by
  simp [learnNotice, rxGive, rxGo, ctrsBut_inc (r := R.RC_RX_DROP) (by decide)]

end

end State

end Sys2Proof.Machine

end

/-! PROOFS. Learning, hits and ageing, sequenced writes and reloads, lookup plans and the pending Gait list, and compaction of the
ordered rule store: what each command shows when it completes. -/

section

open Sys2Proof Sys2Proof.Machine Sys2Proof.Machine.State

namespace Sys2Proof.Machine

namespace State

variable {s : State}

/-! ## The state in which a command completes -/

@[simp] theorem complete_tabs (k : Clock) (s u : State) : (complete k s u).tabs = u.tabs := (rfl)

@[simp] theorem complete_osp (k : Clock) (s u : State) : (complete k s u).osp = u.osp := (rfl)

/-! ## What the sequencer's own state does not bear on -/

theorem tab_withTs (q : Sequencer) (x : Nat) (t : Tbl) (i : Nat) : ({ s with ts := q } : State).tab x t i = s.tab x t i := rfl

theorem running_withTs (q : Sequencer) : ({ s with ts := q } : State).running = s.running := rfl

theorem live_withTs (q : Sequencer) (x : Nat) : ({ s with ts := q } : State).live x = s.live x := rfl

/-! ## An entry is aged out (R293) -/

/-- The entry at `slot`, whose key is `key`, leaves the learn counts, and its delete enters the sequence, is counted and told. -/
def ageOut (s : State) (slot key : Nat) : State :=
  let t := (s.unlearn slot).issue { tbl := Tbl.exact.num, idx := slot, val := 0 }
  ((t.inc R.TS_AGED []).countKind 174 3 1).learnNotice 2 (((s.ts.owner.find? slot).map (·.2)).getD 0) 0 (t.ts.issued % 2 ^ 32) key

theorem visits_learnNotice (s : State) (kind port old seq key : Nat) :
    (s.learnNotice kind port old seq key).ts.visits = s.ts.visits :=
  congrArg Sequencer.visits
    ((show Changes [.regs, .ctrs, .ev, .host, .fab, .tally, .xl, .rc] s (s.learnNotice kind port old seq key) by simp) .ts (by simp))

theorem visits_ageOut (s : State) (slot key : Nat) : (s.ageOut slot key).ts.visits = s.ts.visits := by
  obtain ⟨l, hts⟩ := (s.unlearn slot).ts_issue { tbl := Tbl.exact.num, idx := slot, val := 0 }
  simp [ageOut, visits_learnNotice, hts, visits_unlearn]

/-- The delete counts once in TS_AGED, which no learn notice touches. -/
theorem ctr_ageOut (s : State) (slot key : Nat) : (s.ageOut slot key).ctr R.TS_AGED [] = (s.ctr R.TS_AGED [] + 1) % 2 ^ 64 := by
  have hissued : ((s.unlearn slot).issue { tbl := Tbl.exact.num, idx := slot, val := 0 }).ctrs = s.ctrs :=
    (show Changes [.regs, .ev, .ts, .tabs, .awl] s _ by simp) .ctrs (by simp)
  calc (s.ageOut slot key).ctr R.TS_AGED []
    _ = (((s.unlearn slot).issue { tbl := Tbl.exact.num, idx := slot, val := 0 }).inc R.TS_AGED []).ctr R.TS_AGED [] :=
      (ctrsBut_learnNotice _ _ _ _ _ _ _ (by decide)).trans (ctr_congr (countKind_ctrs ..) R.TS_AGED [])
    _ = (s.ctr R.TS_AGED [] + 1) % 2 ^ 64 := by rw [ctr_inc_self, ctr_congr hissued]

/-! ## The keys of table entries (R294) -/

theorem tkey_div (x : Nat) (t : Tbl) {i : Nat} (hi : i < 2 ^ 200) : tkey x t i / 2 ^ 200 = x * 64 + t.num := by
  unfold tkey; omega

theorem tkey_mod (x : Nat) (t : Tbl) {i : Nat} (hi : i < 2 ^ 200) : tkey x t i % 2 ^ 200 = i := by
  unfold tkey; omega

/-! ## A plan register of the ordered store (R330) -/

theorem clampWord_osPlanB (ix : List Nat) (v : Nat) : clampWord R.OS_PLAN_B ix v = v := rfl

theorem ignoreFields_osPlanB (s : State) (ix : List Nat) (v : Nat) : s.ignoreFields R.OS_PLAN_B ix v = (false, v) := by
  have hbases : ∀ c ∈ ignoredFields s.variant ix, c.1.reg.base ≠ R.OS_PLAN_B.base := by
    simp only [ignoredFields, List.cons_append, List.nil_append, List.forall_mem_cons]
    decide
  exact List.foldlRecOn (motive := (· = (false, v))) _ _ rfl fun x hx c hc => (if_neg fun h => hbases c hc h.1).trans hx

theorem and_osPlanB_rw (v : Nat) : v &&& R.OS_PLAN_B.rw = v % 2 ^ 30 := Nat.and_two_pow_sub_one_eq_mod v 30

/-- The register meets no clamp and no ignored field, and takes no bit beyond its fields. -/
theorem writePlain_osPlanB (s : State) (ix : List Nat) (v : Nat) : (s.writePlain R.OS_PLAN_B ix v).2
    = s.wr R.OS_PLAN_B ix (s.rd R.OS_PLAN_B ix - s.rd R.OS_PLAN_B ix % 2 ^ 30 + v % 2 ^ 32 % 2 ^ 30) := by
  have hbase : ¬R.OS_PLAN_B.base = R.PC_OVF.base := by decide
  have hw1c : R.OS_PLAN_B.w1c = 0 := rfl
  have hw1s : R.OS_PLAN_B.w1s = 0 := rfl
  unfold writePlain
  simp only [hbase, if_false, clampWord_osPlanB, ignoreFields_osPlanB, and_osPlanB_rw, hw1c, hw1s, Nat.and_zero, Nat.sub_zero,
    Nat.or_zero, bne_self_eq_false, Bool.false_and, Bool.false_eq_true]
  split <;> rfl

/-! ## The throttle of the ordered store (R326) -/

/-- The evaluation is noted, and the next step and the run of cool evaluations are shown with the temperature. -/
def showThermal (s : State) (d : Nat) (temp : Int) (n : Nat × Nat) : State :=
  ({ s.throttleRead d with osp.cool := s.osp.cool.put 0 d n.2 }.set F.OS_THERM_TEMP [d] (unsigned 16 temp)).set
    F.OS_THERM_STEP [d] n.1

theorem get_throttleRead (s : State) (x : Nat) (f : Fld) (ix : List Nat) : (s.throttleRead x).get f ix = s.get f ix := rfl

theorem cool_throttleRead (s : State) (x : Nat) : (s.throttleRead x).osp.cool = s.osp.cool := rfl

/-- A change of the step fills the buckets of die `d` anew. -/
def throttleChanged (s : State) (d : Nat) : State :=
  (forEach (List.range 4) (fun i u => u.fillBucket (bktOs (4 * d + i))) s).raise F.OS_EVT_THROTTLE_CHANGE [d]

theorem fillBuckets_frame (s : State) (f : Nat → Nat) (l : List Nat) :
    ∃ b, forEach l (fun i u => u.fillBucket (f i)) s = { s with sl := b } := by
  refine forEach_induct (fun t => ∃ b, t = { s with sl := b }) _ ?_ l s ⟨s.sl, rfl⟩
  rintro i _ ⟨b, rfl⟩
  exact ⟨_, rfl⟩

theorem osp_throttleChanged (s : State) (d : Nat) : (s.throttleChanged d).osp = s.osp := by
  obtain ⟨b, h⟩ := s.fillBuckets_frame (fun i => bktOs (4 * d + i)) (List.range 4)
  rw [throttleChanged, h, raise_osp]

theorem variant_throttleChanged (s : State) (d : Nat) : (s.throttleChanged d).variant = s.variant := by
  obtain ⟨b, h⟩ := s.fillBuckets_frame (fun i => bktOs (4 * d + i)) (List.range 4)
  rw [throttleChanged, h, raise_variant]

theorem get_temp_throttleChanged (s : State) (d : Nat) :
    (s.throttleChanged d).get F.OS_THERM_TEMP [d] = s.get F.OS_THERM_TEMP [d] := by
  obtain ⟨b, h⟩ := s.fillBuckets_frame (fun i => bktOs (4 * d + i)) (List.range 4)
  rw [throttleChanged, h, get_raise, get_set_reg _ _ _ _ _ _ (addr_ne_of_base (by decide) [d])]
  rfl

theorem get_temp_showThermal (s : State) (d : Nat) (temp : Int) (n : Nat × Nat) :
    (s.showThermal d temp n).get F.OS_THERM_TEMP [d] = unsigned 16 temp := by
  rw [showThermal, get_set_beside _ (by decide), get_set (f := F.OS_THERM_TEMP) _ ⟨by decide, by decide, unsigned_lt 16 temp⟩]

theorem variant_showThermal (s : State) (d : Nat) (temp : Int) (n : Nat × Nat) : (s.showThermal d temp n).variant = s.variant := by
  simp [showThermal, throttleRead]

theorem cool_showThermal (s : State) (d : Nat) (temp : Int) (n : Nat × Nat) : (s.showThermal d temp n).osp.cool.at 0 d = n.2 := by
  simp [showThermal]

end State

/-! ## Learning, hits and ageing -/

variable {s : State} {slot d : Nat}

/-- A learn request of a live die reaches the Tree die while the device runs (R288). -/
theorem learnRequest_learns {key tenant port : Nat} {r : List (Nat × Nat × Nat × Nat)}
    (h : s.ts.learn = (key, tenant, port, d) :: r) (hr : s.running = true) (hl : s.live d = true) :
    Does .learnRequest s ({ s with ts.learn := r, ts.asked := removeOne (d, key) s.ts.asked }.learnOne key tenant port) :=
  does_of_effect (fun _ => rfl) (by simp [h, running_withTs, live_withTs, hr, hl])

section
variable {key port tenant n : Nat} {r : List (Nat × Nat × Nat × Nat × Nat)} (h : s.ts.hits = (slot, key, port, tenant, n) :: r)
include h

/-- A notice for an entry that is still there counts in the present period unless that period is closed (R292). -/
theorem hitNotice_counts (hv : s.tab 12 .exact slot ≠ 0) (hk : s.tab 12 .exact slot / 2 ^ 32 = key)
    (hopen : (s.ts.visits.any fun a => a.slot == slot && decide (n < a.m)) = false) :
    Completes .hitNotice s fun t => t.ts.hits = r ∧ t.ts.periodHit.at 0 slot = 1 ∧ t.tabs = s.tabs :=
  completes_of_effect (fun _ => rfl) (by simp [-Nat.reducePow, h, tab_withTs, hv, hk, hopen])

/-- A notice for an entry that is gone becomes a learn request (R293). -/
theorem hitNotice_relearns (hgone : s.tab 12 .exact slot = 0 ∨ s.tab 12 .exact slot / 2 ^ 32 ≠ key) (hr : s.running = true) :
    Does .hitNotice s (({ s with ts.hits := r }.inc R.TS_RELEARN []).learnOne key tenant port) := by
  have hgone' : ¬(s.tab 12 .exact slot ≠ 0 ∧ s.tab 12 .exact slot / 2 ^ 32 = key) := by tauto
  exact does_of_effect (fun _ => rfl) (by simp only [h, tab_withTs, running_withTs, if_neg hgone', hr, if_true])

end

/-- A visit that is due closes the hit period of its entry and waits for the filter clear (R292). -/
theorem agerVisit_closes (hr : s.running = true) (hen : s.get F.TS_CTRL_AGE_EN [] = 1) (hv : s.tab 12 .exact slot ≠ 0)
    (hage : bit (s.tab 12 .exact slot) 29 = true) (hnone : (s.ts.visits.any fun a => a.slot == slot) = false)
    (hdue : s.ts.visitAt.at 0 slot = 0 ∨ s.get F.TS_AGE_AGE_S [] * 1000000000 ≤ s.since (s.ts.visitAt.at 0 slot - 1)) :
    Completes (.agerVisit slot) s fun t => t.ts.visitAt.at 0 slot = s.clock.tick + 1 ∧ t.ts.periodHit.at 0 slot = 0
      ∧ t.ts.visits = s.ts.visits ++ [{
          slot := slot, key := s.tab 12 .exact slot / 2 ^ 32, m := s.ts.issued + 1, hit := s.ts.periodHit.at 0 slot == 1 }] := by
  have hopen : (s.running && s.isOn F.TS_CTRL_AGE_EN [] && s.tab 12 .exact slot != 0 && bit (s.tab 12 .exact slot) 29
      && !s.ts.visits.any (fun a => a.slot == slot)
      && (s.ts.visitAt.at 0 slot == 0
        || decide (s.get F.TS_AGE_AGE_S [] * 1000000000 ≤ s.since (s.ts.visitAt.at 0 slot - 1)))) = true := by
    simpa [hr, hv, hage, hnone, isOn, hen] using hdue
  obtain ⟨l, hts⟩ := s.ts_issue { tbl := tblFilter, idx := slot, val := 0 }
  refine completes_of_effect (fun _ => rfl) ?_
  simp [onlyIf_of _ _ hopen, hts, clock_issue]

section
variable {a : AgeVisit} {r : List AgeVisit}
  (h : takeFirst (fun (a : AgeVisit) => a.slot == slot && decide (a.m ≤ s.appliedAll)) s.ts.visits = some (a, r))
include h

/-- An entry that was not hit in its period is deleted and counted (R293). -/
theorem ageDecide_deletes (hv : s.tab 12 .exact slot ≠ 0) (hk : s.tab 12 .exact slot / 2 ^ 32 = a.key)
    (hage : bit (s.tab 12 .exact slot) 29 = true) (hhit : a.hit = false) (hnew : a.hitNew = false) (hr : s.running = true) :
    Completes (.ageDecide slot) s fun t => t.ts.visits = r ∧ t.ctr R.TS_AGED [] = (s.ctr R.TS_AGED [] + 1) % 2 ^ 64 := by
  have hdoes : Does (.ageDecide slot) s ({ s with ts.visits := r }.ageOut slot a.key) :=
    does_of_effect (fun _ => rfl) (by simp [-Nat.reducePow, h, hv, hk, hage, hhit, hnew, hr, ageOut])
  exact ⟨_, hdoes, visits_ageOut .., ctr_ageOut ..⟩

/-- An entry that was hit in its period stays (R292). -/
theorem ageDecide_keeps (hhit : a.hit = true) : exec (.ageDecide slot) s = .next { s with ts.visits := r } := by
  have hdoes : Does (.ageDecide slot) s { s with ts.visits := r } := does_of_effect (fun _ => rfl) (by simp [h, hhit])
  exact hdoes

end

/-! ## Sequenced writes, reloads and plans -/

theorem seqWriteApply_applies (hp : s.powered = true) (hl : s.live d = true) (hd : d < 8) :
    Does (.seqWriteApply d) s ((s.applyNext d).finishSeq) :=
  does_of_effect (fun _ => rfl) (onlyIf_of _ _ (by simp [hp, hl, hd]))

section
variable {x i y : Nat} {tb : Tbl} {r : List Nat} (htb : Tbl.all[tb.num]? = some tb) (hmc : tb ≠ .mcast)
  (hsrc : (if tb = Tbl.os then some x else s.liveSkirts.find? fun y => y != x) = some y)
  (hrep : (s.flt.reports.any fun f => f.die == x && f.cause == 2) = false)
include htb hmc hsrc hrep

/-- The oldest bad entry, its fault reported, is written with the entry of its source (R294, R328). -/
theorem entryReload_of_key {k : Nat} (h : s.badTabs = k :: r) (hx : k / 2 ^ 200 / 64 = x) (hn : k / 2 ^ 200 % 64 = tb.num)
    (hi : k % 2 ^ 200 = i) :
    Does .entryReload s (({ s with badTabs := r }.setTab x tb i (s.tab y tb i)).recovered x (if tb = Tbl.os then 6 else 5) 2) :=
  does_of_effect (fun _ => rfl) (by simp only [h, hx, hn, hi, htb, hsrc, hrep, hmc, Bool.false_eq_true, if_false])

theorem entryReload_reloads (h : s.badTabs = tkey x tb i :: r) (hn : tb.num < 64) (hi : i < 2 ^ 200) :
    Does .entryReload s (({ s with badTabs := r }.setTab x tb i (s.tab y tb i)).recovered x (if tb = Tbl.os then 6 else 5) 2) :=
  entryReload_of_key htb hmc hsrc hrep h (by rw [tkey_div x tb hi]; omega) (by rw [tkey_div x tb hi]; omega) (tkey_mod x tb hi)

end

section
variable {p v : Nat} (hp : s.ringPowered = true) (hd : d < 8) (hl : s.live d = true) (hplan : p < 16)
include hp hd hl hplan

theorem planWrite_writes (k : Nat) (hk : k < 6) : Does (.planWrite d p k v) s (s.writeLookupPlan d p k v).2 :=
  does_of_effect (fun _ => rfl) (onlyIf_of _ _ (by simp [hp, hd, hl, hplan, hk]))

/-- A plan register of the ordered store takes its fields (R330). -/
theorem planWrite_osPlanB :
    Completes (.planWrite d p 4 v) s fun t => t.rd R.OS_PLAN_B [d, p] &&& R.OS_PLAN_B.rw = v &&& R.OS_PLAN_B.rw := by
  have hwritten : (s.writeLookupPlan d p 4 v).2 = (s.writePlain R.OS_PLAN_B [d, p] v).2 := by
    unfold writeLookupPlan
    dsimp only
    rw [if_neg fun h => absurd h.1 (by decide)]
    rfl
  have hnew (old : Nat) : (old - old % 2 ^ 30 + v % 2 ^ 32 % 2 ^ 30) % 2 ^ 32 % 2 ^ 30 = v % 2 ^ 30 := by omega
  refine ⟨complete s.clock s _, planWrite_writes hp hd hl hplan 4 (by decide), ?_⟩
  beta_reduce
  rw [hwritten, writePlain_osPlanB, complete_rd _ (wr_variant ..), rd_wr_self, and_osPlanB_rw, and_osPlanB_rw, hnew]

end

/-! ## The pending Gait list (R403) -/

/-- While nothing locks them, a write of GA_CTRL sets ARM and the pending fields. -/
theorem gaitArmWrite_sets {p v : Nat} (hp : s.ringPowered = true) (hport : p < 512) (hl : s.live (p / 64) = true)
    (hv : s.variant ≠ .e) (hcommit : s.gaitCommit = false) (harm : s.get F.GA_CTRL_ARM (pix p) = 0) :
    Completes (.gaitArmWrite p v) s fun t => t.get F.GA_CTRL_ARM (pix p) = bits v 30 30
      ∧ t.get F.GA_CTRL_PEND_EN (pix p) = bits v 29 29 ∧ t.get F.GA_CTRL_PEND_LEN (pix p) = bits v 10 0 := by
  have hopen : (s.ringPowered && decide (p < 512) && s.live (p / 64) && s.variant != .e) = true := by simp [hp, hport, hl, hv]
  have hwrite : (s.writeGaitCtrl p v).2 = (((s.set F.GA_CTRL_ARM (pix p) (bits v 30 30)).set F.GA_CTRL_PEND_EN (pix p)
      (bits v 29 29)).set F.GA_CTRL_PEND_LEN (pix p) (bits v 10 0)).showPending p := by
    simp [writeGaitCtrl, isOn, harm, hcommit]
  have hbit (b : Nat) : bits v b b < 2 := (bits_lt v b b).trans_eq (by simp)
  have hlen : bits v 10 0 < 2 ^ 11 := bits_lt ..
  refine completes_effect (fun _ => rfl) ?_
  have hstat (t : State) (g : Fld) (hg : g.reg = R.GA_CTRL) : (t.showPending p).get g (pix p) = t.get g (pix p) :=
    get_set_reg _ _ _ _ _ _ (hg ▸ addr_ne_of_base (by decide) (pix p))
  simp only [onlyIf_of _ _ hopen, hwrite]
  refine ⟨?_, ?_, ?_⟩ <;> rw [complete_get _ (by simp [showPending]), hstat _ _ rfl]
  · rw [get_set_beside _ (by decide), get_set_beside _ (by decide), get_set _ ⟨by decide, by decide, hbit 30⟩]
  · rw [get_set_beside _ (by decide), get_set _ ⟨by decide, by decide, hbit 29⟩]
  · rw [get_set _ ⟨by decide, by decide, hlen⟩]

/-! ## Compaction of the ordered store (R322 to R325) -/

/-- A compaction that a driver asks for starts with the move list of the Tree die's copy (R322). -/
theorem compactionStart_starts (hr : s.running = true) (hb : s.osp.busy = false)
    (hsettled : (s.ts.log.all fun e => e.2.tbl != Tbl.os.num) = true) (hen : s.get F.PT_CTRL_CLAIMS_EN [] = 1)
    (hasked : (s.liveSkirts.any fun d => s.isOn F.OS_CTRL_COMPACT [d]) = true) :
    Completes .compactionStart s fun t => t.osp.busy = true ∧ t.osp.again = false ∧ t.osp.moves.at [] 12 = s.osSpace.osMoveList
      ∧ t.tabs = s.tabs := by
  have hopen : (s.running && !s.osp.busy && (s.ts.log.all fun e => e.2.tbl != Tbl.os.num) && s.isOn F.PT_CTRL_CLAIMS_EN []
      && ((s.liveSkirts.any fun d => s.isOn F.OS_CTRL_COMPACT [d])
        || decide (s.get F.OS_CFG_LOW_PCT [s.seedDie] * s.osSegs < 100 * s.osHoleless 12) || s.osp.again
        || !s.osp.waiting.isEmpty)) = true := by
    rw [hr, hb, hsettled, hasked, isOn, hen]; rfl
  refine completes_of_effect (fun _ => rfl) ?_
  simp only [onlyIf_of _ _ hopen, osp_showHeld, Map.at_put_self, true_and]
  exact (show Changes [.regs, .pace, .osp] s _ by simp) .tabs (by simp)

theorem compactionMove_moves {src dst : Nat} {r : List (Nat × Nat)} (h : s.osp.moves.at [] d = (src, dst) :: r)
    (hb : s.osp.busy = true) (hd : d < 8) (hl : s.live d = true) (hw : s.mayWork 4 d = true) (hslots : 4 ≤ s.pace.slots.at 0 d) :
    Completes (.compactionMove d) s fun t => t.osp.moves.at [] d = r ∧ t.tabs = (s.osMoveOn d src dst).tabs
      ∧ t.ctr R.OS_MOVES [d] = (s.ctr R.OS_MOVES [d] + 1) % 2 ^ 64 := by
  have hopen : (s.osp.busy && decide (d < 8) && s.live d && s.mayWork 4 d && decide (4 ≤ s.pace.slots.at 0 d)) = true := by
    simp [hb, hd, hl, hw, hslots]
  have hend (u : State) : Changes [.regs, .pace] u
      (if r.isEmpty then (u.releaseClaim 4 d).set F.OS_STAT_COMPACTING [d] 0 else u) := by simp
  refine completes_effect (fun _ => rfl) ?_
  simp only [h, onlyIf_of _ _ hopen]
  refine ⟨?_, ?_, ?_⟩
  · rw [complete_osp, hend _ .osp (by simp), inc_osp, Map.at_put_self]
  · rw [complete_tabs, hend _ .tabs (by simp), inc_tabs]
  · rw [complete_ctr, ctr_congr (hend _ .ctrs (by simp)), ctr_inc_self]
    simp only [ctr, ctrs_osMoveOn]

/-- With every move made, the compaction is over, whichever operations go on then (R323). -/
theorem compactionDone_ends (hb : s.osp.busy = true) (hdone : (s.liveSkirts.all fun d => (s.osp.moves.at [] d).isEmpty) = true) :
    Completes .compactionDone s fun t => t.osp.busy = false :=
  completes_of_effect (fun _ => rfl) (by
    rw [onlyIf_of _ _ (by rw [hb, hdone]; rfl)]
    exact busy_compactionDone s)

/-- A compaction that may not go on stops, to start again (R325). -/
theorem compactionStop_stops (hb : s.osp.busy = true) (hstop : s.mode ≠ .run ∨ s.get F.PT_CTRL_CLAIMS_EN [] = 0) :
    Completes .compactionStop s fun t => t.osp.busy = false ∧ t.osp.again = true := by
  have hopen : (s.osp.busy && (s.mode != .run || !s.isOn F.PT_CTRL_CLAIMS_EN [])) = true := by simpa [hb, isOn] using hstop
  obtain ⟨w, hw⟩ := (s.osStop true).osp_osRelease
  refine completes_of_effect (fun _ => rfl) ?_
  rw [onlyIf_of _ _ hopen, hw, osp_osStop true hb]
  exact ⟨rfl, rfl⟩

/-- The oldest operation that waits ends as NO_HOLE after 50 ms (R324). -/
theorem osWriteWaitTimeout_ends {w : OsWait} {r : List OsWait} (h : s.osp.waiting = w :: r) (hdue : 50000000 ≤ s.since w.at_) :
    Does .osWriteWaitTimeout s (if ({ s with osp.waiting := r }.osAnswer w.ref 0x12 0).osp.busy
      then ({ s with osp.waiting := r }.osAnswer w.ref 0x12 0).showHeld
      else ({ s with osp.waiting := r }.osAnswer w.ref 0x12 0).osRelease) :=
  does_of_effect (fun _ => rfl) (by simp [h, onlyIf, hdue])

/-! ## The throttle of the ordered store (R326) -/

theorem osThrottleEval_reads {temp : Int} (hp : s.powered = true) (hl : s.live d = true) (hd : d < 8)
    (hdue : s.throttleDue d = true) :
    Completes (.osThrottleEval d temp) s fun t => t.get F.OS_THERM_TEMP [d] = unsigned 16 temp
      ∧ t.osp.cool.at 0 d = (thermNext (s.get F.OS_THERM_STEP [d]) (s.osp.cool.at 0 d) temp).2 := by
  have hopen : (s.powered && s.live d && decide (d < 8) && s.throttleDue d) = true := by simp [hp, hl, hd, hdue]
  generalize hn : thermNext (s.get F.OS_THERM_STEP [d]) (s.osp.cool.at 0 d) temp = n
  have hdoes : Does (.osThrottleEval d temp) s (if n.1 = s.get F.OS_THERM_STEP [d] then s.showThermal d temp n
      else (s.showThermal d temp n).throttleChanged d) := by
    refine does_of_effect (fun _ => rfl) ?_
    rw [onlyIf_of _ _ hopen]
    simp only [get_throttleRead, cool_throttleRead, hn]
    rfl
  refine ⟨complete s.clock s _, hdoes, ?_⟩
  split
  · rw [complete_get _ (variant_showThermal s d temp n), complete_osp]
    exact ⟨get_temp_showThermal .., cool_showThermal ..⟩
  · rw [complete_get _ ((variant_throttleChanged ..).trans (variant_showThermal s d temp n)), complete_osp,
      get_temp_throttleChanged, osp_throttleChanged]
    exact ⟨get_temp_showThermal .., cool_showThermal ..⟩

end Sys2Proof.Machine

/-- Settles O38: each command runs into the branch that its clause names. -/
theorem tablesComplete : Obligations.TablesComplete :=
  ⟨fun _ _ _ _ _ _ => learnRequest_learns,
    fun _ _ _ _ _ _ _ => hitNotice_counts,
    fun _ _ _ _ _ _ _ => hitNotice_relearns,
    fun _ _ => agerVisit_closes,
    fun _ _ _ _ => ageDecide_deletes,
    fun _ _ _ _ => ageDecide_keeps,
    fun _ _ => seqWriteApply_applies,
    fun _ _ _ _ _ _ h htb hn hi hmc hsrc hrep => entryReload_reloads htb hmc hsrc hrep h hn hi,
    fun _ _ _ k _ hp hd hl hplan hk => planWrite_writes hp hd hl hplan k hk,
    fun _ _ _ _ hp hd hl hplan _ => planWrite_osPlanB hp hd hl hplan,
    fun _ _ _ => gaitArmWrite_sets,
    fun _ => compactionStart_starts,
    fun _ _ _ _ _ => compactionMove_moves,
    fun _ => compactionDone_ends,
    fun _ => compactionStop_stops,
    fun _ _ _ => osWriteWaitTimeout_ends,
    fun _ _ _ => osThrottleEval_reads⟩

end

/-! PROOFS. Girth dies: spans, time marks, commits, calendars, queues and the deep buffer: what each command shows when it completes. -/

section

open Sys2Proof Sys2Proof.Machine Sys2Proof.Machine.State

namespace Sys2Proof.Machine

/-! ## Keys, and values that a repetition rewrites -/

/-- The keys of one second index keep the first ones apart. -/
theorem key2_left_ne {a b : Nat} (h : a ≠ b) (c : Nat) : key2 a c ≠ key2 b c := by simpa [key2] using h

section
variable {α : Type} [DecidableEq α] {d : α} {key : Nat → Nat} {a : Nat} (val : Nat → α → α)

/-- Rewriting the values under other keys leaves a key as it is. -/
theorem Map.at_foldl_put_ne {l : List Nat} (h : ∀ q ∈ l, key a ≠ key q) (m : Map α) :
    (l.foldl (fun m q => m.put d (key q) (val q (m.at d (key q)))) m).at d (key a) = m.at d (key a) :=
  List.foldlRecOn (motive := fun m' => Map.at m' d (key a) = m.at d (key a)) l _ rfl
    fun _ hm q hq => (Map.at_put_ne _ _ _ _ (h q hq)).trans hm

/-- Rewriting the values under a list of keys once rewrites each. -/
theorem Map.at_foldl_put {l : List Nat} (hm : a ∈ l) (hd : l.Nodup) (hk : key.Injective) (m : Map α) :
    (l.foldl (fun m q => m.put d (key q) (val q (m.at d (key q)))) m).at d (key a) = val a (m.at d (key a)) := by
  induction l generalizing m with
  | nil => cases hm
  | cons b l ih =>
    obtain ⟨hb, hl⟩ := List.nodup_cons.1 hd
    rw [List.foldl_cons]
    rcases List.mem_cons.1 hm with rfl | hml
    · rw [Map.at_foldl_put_ne val fun q hq => hk.ne (ne_of_mem_of_not_mem hq hb).symm, Map.at_put_self]
    · rw [ih hml hl, Map.at_put_ne _ _ _ _ (hk.ne (ne_of_mem_of_not_mem hml hb))]

end

namespace State

variable {s u v : State} {d g q : Nat}

@[simp] theorem complete_fab (k : Clock) (s u : State) : (complete k s u).fab = u.fab := (rfl)

theorem complete_gq (k : Clock) (s u : State) (g q : Nat) : (complete k s u).gq g q = u.gq g q := (rfl)

/-! ## Spans, time marks and commits (R338, R339, R341) -/

theorem spanHoldExpiry_sends {kind sl x : Nat} {st : Stream} (hst : st = s.fab.streams.at {} (streamKey kind sl x))
    (hf : s.forwarding = true) (hl : s.live (sl / 4) = true) (hr : s.fab.repatAt = none) (ho : st.cur.isSome = true ∨ st.done ≠ [])
    (hh : s.get F.LC_CFG_HOLD_NS [sl / 4] ≤ s.since st.since) :
    Does (.spanHoldExpiry kind sl x) s ((s.sendSpan (streamKey kind sl x)).inc R.LC_HOLD_CLOSED [sl / 4]) := by
  subst hst
  exact does_of_effect (fun _ => rfl) (onlyIf_of _ _ (by simpa [hf, hl, hr, hh] using ho))

theorem timeMark_stamps {k : Nat} (hf : s.forwarding = true) (hd : s.live d = true) (hg : s.live (8 + g) = true) (hlt : d < 8)
    (hk : k < s.strapsPer) :
    Completes (.timeMark d g k) s fun t => t.fab.stamp.at 0 (key3 d g k) = max (s.fab.stamp.at 0 (key3 d g k)) (s.clock.tick + 1) := by
  refine completes_effect (fun _ => rfl) ?_
  rw [onlyIf_of _ _ (by simp [hf, hd, hg, hlt, hk]), complete_fab, countKind_fab]
  exact Map.at_put_self ..

section
variable {nm k : Nat} {noCell : Bool} {c : Cell} (hf : s.forwarding = true) (hl : s.live (8 + g) = true) (hr : s.fab.repatAt = none)
include hf hl hr

theorem cellCommit_commits (hu : u = s.checkLatches (8 + g) nm) (hc : u.nextCommit g = some (k, c))
    (hn : (linksOf c).length ≤ u.linksFree g) :
    Does (.cellCommit g (noCell, nm)) s
      ({ u with fab.strap := u.fab.strap.put [] k ((u.fab.strap.at [] k).drop 1), fab.stamp := u.fab.stamp.put 0 k (u.delivered k) }.commit
        g c noCell) := by
  subst hu
  refine does_of_effect (fun _ => rfl) ?_
  simp only [hf, hl, hr, Option.isNone_none, Bool.and_self, if_true, hc, if_neg hn.not_gt]

end

/-! ## Calendars (R342, R343) -/

theorem fab_checkLatches (s : State) (x nm : Nat) : (s.checkLatches x nm).fab = s.fab :=
  (show Changes [.regs, .pace] s (s.checkLatches x nm) by simp) .fab (by simp)

section
variable {nm e : Nat} (hf : s.forwarding = true) (hg : s.live (8 + g) = true) (hd : s.live d = true) (hlt : d < 8)
  (hr : s.fab.repatAt = none)
include hf hg hd hlt hr

/-- The entry within the list in force is served. -/
theorem calendarEntry_within (hp : s.fab.calPos.at 0 (key2 g d) ≠ 0)
    (he : (s.fab.cal.at [] (key2 g d))[s.fab.calPos.at 0 (key2 g d)]? = some e)
    (hu : u = { s.checkLatches (8 + g) nm with
      fab.calPos := s.fab.calPos.put 0 (key2 g d) (if s.fab.calPos.at 0 (key2 g d) + 1 < (s.fab.cal.at [] (key2 g d)).length
        then s.fab.calPos.at 0 (key2 g d) + 1 else 0) }) :
    Does (.calendarEntry g (d, nm)) s (if e < 64 then u.servePort g (64 * d + e) else u.serveMc g d (e - 64)) := by
  subst hu
  refine does_of_effect (fun _ => rfl) ?_
  simp only [hf, hg, hd, hlt, hr, Option.isNone_none, decide_true, Bool.and_self, if_true, fab_checkLatches, if_neg hp, he]

/-- At the start of the list a rebuilt calendar takes effect, and its first entry is served. -/
theorem calendarEntry_anew {l : List Nat} (hp : s.fab.calPos.at 0 (key2 g d) = 0) (hn : s.fab.calNew.find? (key2 g d) = some (e :: l))
    (hu : u = { s.checkLatches (8 + g) nm with
      fab.cal := s.fab.cal.put [] (key2 g d) (e :: l), fab.calNew := s.fab.calNew.erase (key2 g d),
      fab.calPos := s.fab.calPos.put 0 (key2 g d) (if l = [] then 0 else 1) }) :
    Does (.calendarEntry g (d, nm)) s (if e < 64 then u.servePort g (64 * d + e) else u.serveMc g d (e - 64)) := by
  have hnext : (if 0 + 1 < (e :: l).length then 0 + 1 else 0) = if l = [] then 0 else 1 := by cases l <;> simp
  subst hu
  refine does_of_effect (fun _ => rfl) ?_
  simp only [hf, hg, hd, hlt, hr, Option.isNone_none, decide_true, Bool.and_self, if_true, fab_checkLatches, hp, hn,
    Map.at_put_self, List.getElem?_cons_zero, hnext]

end

/-- The Tree die writes a rebuilt calendar to every live Girth die. -/
theorem calendarRebuild_writes (h : s.fab.calDue.contains d = true) :
    Completes (.calendarRebuild d) s fun t => t.fab.calDue = removeOne d s.fab.calDue
      ∧ ∀ g, s.live (8 + g) = true → g < 4 → t.fab.calNew.at [] (key2 g d) = s.buildCal d := by
  refine completes_effect (fun _ => rfl) ?_
  rw [onlyIf_of _ _ h, complete_fab]
  refine ⟨forEach_keeps (fun t => t.fab.calDue) _ (fun _ _ => by rfl) _ _, fun g hl hg => ?_⟩
  exact forEach_visits (Before := fun _ => True) (After := fun t => t.fab.calNew.at [] (key2 g d) = s.buildCal d) (a := g) _
    (List.mem_filter.2 ⟨List.mem_range.2 hg, hl⟩) (List.nodup_range.filter _) (fun _ _ _ _ => trivial) (fun _ _ => Map.at_put_self ..)
    (fun b hb t ht => (Map.at_put_ne _ _ _ _ (key2_left_ne hb.symm d)).trans ht) _ trivial

/-! ## Queues (R364, R365, R376) -/

/-- A column that has outlived its residence is delivered where a credit allows it. -/
theorem girthQueueVisit_expedites {bad : Nat} {l : Link} {r : List Link} (hf : s.forwarding = true) (hg : s.live (8 + g) = true)
    (hr : s.fab.repatAt = none) (hq : q < 0x1000) (hl : s.gq g q = l :: r) (hp : l.page = none)
    (hold : l.at_ + s.get F.MD_RESID_LIMIT_US [] * 1000 < s.clock.tick) (hc : s.hasCredit g (q / 512) (q / 8 % 64) = true) :
    Does (.girthQueueVisit g q bad) s ((((s.deliver g q (q / 512) (q / 8 % 64)).inc R.QM_EXPEDITED [g]).raise
      F.QM_EVT_EXPEDITE [g]).countKind (128 + 8 * g + 6) 1 1) := by
  refine does_of_effect (fun _ => rfl) ?_
  have hlow : ¬(0x1000 ≤ q ∧ q < 0x4000) := by omega
  have hdie : (if q < 0x4000 then qDie q else l.cell.port / 64) = q / 512 := by rw [if_pos (by omega), qDie, if_pos hq]
  simp only [hf, hg, hr, Option.isNone_none, Bool.and_self, if_true, hl, hp, Option.isSome_none, Bool.false_and, Bool.not_false,
    and_true, hold, Bool.false_eq_true, if_false, hdie, if_neg hlow, if_pos hq, hc]

theorem queueReport_reports (hp : s.powered = true) (hg : s.live (8 + g) = true) :
    Completes (.queueReport g q) s fun t => t.fab.repDepth.at 0 (key2 g q) = (s.gq g q).length
      ∧ t.fab.repAvg.at 0 (key2 g q) = s.fab.avg.at 0 (key2 g q)
      ∧ t.fab.repUsed.at 0 g = s.fab.used.at 0 g + s.fab.retired.at 0 g ∧ t.fab.queue = s.fab.queue := by
  refine completes_effect (fun _ => rfl) ?_
  rw [onlyIf_of _ _ (by simp [hp, hg]), complete_fab, countKind_fab]
  exact ⟨Map.at_put_self .., Map.at_put_self .., Map.at_put_self .., rfl⟩

/-- The average `a` of queue `q` of Girth die `g`, moved towards its depth by the weight of its class (R365). -/
def averageStep (s : State) (g q a : Nat) : Nat :=
  (Int.ofNat a + Int.fdiv (Int.ofNat (256 * (s.gq g q).length) - Int.ofNat a)
    (2 ^ bits (s.rd R.QM_WEIGHT [g]) (4 * (q % 8) + 3) (4 * (q % 8)))).toNat

/-- The state with the averages of the queues `qs` of Girth die `g` moved (R365). Its lemmas are for any list of queues: a proof that
evaluates the list of all 4,160 is too deep for the kernel. -/
def averaged (g : Nat) (qs : List Nat) (s : State) : State :=
  { s with
    fab.avg := qs.foldl (fun m q => m.put 0 (key2 g q) (s.averageStep g q (m.at 0 (key2 g q)))) s.fab.avg
    fab.avgAt := s.fab.avgAt.put 0 g s.clock.tick }

theorem avg_averaged {qs : List Nat} (hq : q ∈ qs) (hqs : qs.Nodup) :
    (s.averaged g qs).fab.avg.at 0 (key2 g q) = s.averageStep g q (s.fab.avg.at 0 (key2 g q)) :=
  Map.at_foldl_put (key := key2 g) (s.averageStep g) hq hqs (fun _ _ => Nat.add_left_cancel) _

theorem avgAt_averaged (qs : List Nat) : (s.averaged g qs).fab.avgAt.at 0 g = s.clock.tick := Map.at_put_self ..

theorem queue_averaged (qs : List Nat) : (s.averaged g qs).fab.queue = s.fab.queue := rfl

/-- QUEUE_AVG_UPDATE moves the averages of the VOQs and the multicast queues of its Girth die. -/
theorem exec_queueAvgUpdate (g : Nat) (s : State) : exec (.queueAvgUpdate g) s
    = done (fun s => onlyIf (s.powered && s.live (8 + g) && decide (1000 ≤ s.since (s.fab.avgAt.at 0 g)))
        (averaged g (List.range 0x1000 ++ (List.range 64).map (0x1000 + ·))) s) s := rfl

theorem queueAvgUpdate_updates (hp : s.powered = true) (hg : s.live (8 + g) = true) (hd : 1000 ≤ s.since (s.fab.avgAt.at 0 g)) :
    Completes (.queueAvgUpdate g) s fun t => t.fab.avgAt.at 0 g = s.clock.tick ∧ t.fab.queue = s.fab.queue
      ∧ t.fab.avg.at 0 (key2 g 0) = (Int.ofNat (s.fab.avg.at 0 (key2 g 0))
          + Int.fdiv (Int.ofNat (256 * (s.gq g 0).length) - Int.ofNat (s.fab.avg.at 0 (key2 g 0)))
              (2 ^ bits (s.rd R.QM_WEIGHT [g]) 3 0)).toNat := by
  have hqs : (List.range 0x1000 ++ (List.range 64).map (0x1000 + ·)).Nodup := List.range_add (n := 0x1000) (m := 64) ▸ List.nodup_range
  refine completes_effect (exec_queueAvgUpdate g) ?_
  rw [onlyIf_of _ _ (by simp [hp, hg, hd]), complete_fab]
  exact ⟨avgAt_averaged _, queue_averaged _, avg_averaged (by simp) hqs⟩

/-! ## Notices and straps (R19, R171, R350) -/

theorem releaseNotice_releases {n : Nat × Nat × Nat} {r : List (Nat × Nat × Nat)}
    (h : takeFirst (fun (n : Nat × Nat × Nat) => n.1 / 64 == d) s.fab.notices = some (n, r)) :
    Completes (.releaseNotice d) s fun t => t.fab.notices = r
      ∧ t.port.fcBytes.at 0 (key2 n.1 n.2.1) = s.fcHeld n.1 n.2.1 - n.2.2 := by
  refine completes_effect (fun _ => rfl) ?_
  simp only [h, complete_fab, complete_port, setHeld, set_fab, set_port, Map.at_put_self, true_and]

section
variable {b o : Nat} (hp : s.powered = true) (hb : [2, 3, 7, 8].contains (blockKind b) = true)
  (ho : [2, 3, 7, 8].contains (blockKind o) = true)
include hp hb ho

theorem strapCrcError_replayed :
    Completes (.strapCrcError b o true) s fun t => t.flt.reports = s.flt.reports ++ [{ die := blockDie b, unit := 4, cause := 1 }] := by
  refine completes_effect (fun _ => rfl) ?_
  rw [onlyIf_of _ _ (by rw [hp, hb, ho]; rfl), if_pos rfl, complete_flt, report, countKind_flt, countKind_flt]

theorem strapCrcError_faults :
    Completes (.strapCrcError b o false) s fun t => t.flt.reports = s.flt.reports ++ [{
      die := if max (blockDie b) (blockDie o) = 12 then min (blockDie b) (blockDie o) else max (blockDie b) (blockDie o),
      unit := 4, cause := 4, dieWide := true, d0 := min (blockDie b) (blockDie o), d1 := max (blockDie b) (blockDie o) }] := by
  refine completes_effect (fun _ => rfl) ?_
  rw [onlyIf_of _ _ (by rw [hp, hb, ho]; rfl), if_neg Bool.false_ne_true, complete_flt, report, countKind_flt]

end

/-! ## The deep buffer (R341, R352) -/

theorem deepFill_fills {bad : Nat} {hdrBad : Bool} (hf : s.forwarding = true) (hg : s.live (8 + g) = true)
    (hn : ((s.gq g (deepId q)).filter fun l => l.page.isNone).length < s.get F.BM_DEEP_HEAD_COLS [g] - 37)
    (hh : s.frontHeld g (deepId q) = false) : Does (.deepFill g q bad hdrBad) s (s.fillPage g (deepId q) bad hdrBad) :=
  does_of_effect (fun _ => rfl) (onlyIf_of _ _ (by simp [hf, hg, hn, hh]))

theorem gq_setGq (s : State) (g q : Nat) (l : List Link) : (s.setGq g q l).gq g q = l := Map.at_put_self ..

theorem gq_of_fab (h : u.fab = s.fab) (g q : Nat) : u.gq g q = s.gq g q := by rw [gq, h, gq]

section
variable {h : Nat} {cand : List (Link × Nat)} (hf : s.forwarding = true) (hg : s.live (8 + g) = true) (hddr : s.variant.hasDdr = true)
  (hcand : cand = s.spillColumns g q) (hne : cand ≠ [])
  (hu : u = cand.foldl (fun t e => if e.1.cell.typ = 1 then t else t.parkCell g e.1.id)
    { s with fab.nextId := s.fab.nextId + (s.gq g (deepId q)).length })
include hf hg hddr hcand hne hu

/-- The columns that a spill takes stand in the page that it has taken. -/
theorem deepSpill_spills (hp : u.takePage = (some h, v)) (hw : v.ddrHeld (v.pageAt h) 16384 = false)
    (hlast : (((s.gq g (deepId q)).filterMap (·.page)).getLast?.all fun old => !v.ddrHeld (v.pageAt old) 12) = true) :
    Completes (.deepSpill g q) s fun t =>
      t.ctr R.BM_SPILLED [g] = (v.ctr R.BM_SPILLED [g] + cand.length) % 2 ^ 64
      ∧ t.gq g (deepId q) = (s.gq g (deepId q)).zipIdx.map fun e =>
          if (cand.map (·.2)).contains e.2 then { s.spilled g e.1 with id := s.bareId + e.2, page := some h } else e.1 := by
  have hlast' : (((s.gq g (deepId q)).filterMap (·.page)).getLast?.any fun old => v.ddrHeld (v.pageAt old) 12) = false := by
    cases hl : ((s.gq g (deepId q)).filterMap (·.page)).getLast? with
    | none => rfl
    | some old => simpa [hl] using hlast
  refine completes_effect (fun _ => rfl) ?_
  subst hcand hu
  simp only [hf, hg, hddr, List.isEmpty_eq_false_iff.2 hne, hp, hw, hlast', Bool.and_self, Bool.not_true, Bool.or_self,
    Bool.false_eq_true, if_false]
  generalize hx : State.writePage _ h _ _ = x
  have hx : Changes [.ddr] v x := by
    subst hx
    cases ((s.gq g (deepId q)).filterMap (·.page)).getLast? <;> simp
  constructor
  · rw [complete_ctr, ctr_congr (countKind_ctrs ..), ctr_congr (countKind_ctrs ..), ctr_inc_self]
    exact congrArg (fun n => (n + (s.spillColumns g q).length) % 2 ^ 64) (ctr_congr (hx .ctrs (by simp)) _ _)
  · rw [complete_gq, gq_of_fab (countKind_fab ..), gq_of_fab (countKind_fab ..), gq_of_fab (inc_fab ..), gq_setGq]

/-- With no page to be had the columns are lost. -/
theorem deepSpill_loses (hp : u.takePage = (none, v)) :
    Completes (.deepSpill g q) s fun t => t.gq g (deepId q) = (s.gq g (deepId q)).zipIdx.map fun e =>
      if (cand.map (·.2)).contains e.2 then { s.spilled g e.1 with id := s.bareId + e.2, lost := true } else e.1 := by
  refine completes_effect (fun _ => rfl) ?_
  subst hcand hu
  simp only [hf, hg, hddr, List.isEmpty_eq_false_iff.2 hne, hp, complete_gq, gq_of_fab (report_fab ..), gq_setGq,
    Bool.and_self, Bool.not_true, Bool.or_self, Bool.false_eq_true, if_false]

end

end State

end Sys2Proof.Machine

/-- Settles O35: each command runs into the branch that its clause names. -/
theorem fabricCompletes : Obligations.FabricCompletes :=
  ⟨fun _ _ _ _ _ => spanHoldExpiry_sends,
    fun _ _ _ _ => timeMark_stamps,
    fun _ _ _ _ _ _ _ => cellCommit_commits,
    fun _ _ _ _ _ => deepFill_fills,
    fun _ _ _ _ _ hf hg hd hlt hr hp he _ => calendarEntry_within hf hg hd hlt hr hp he,
    fun _ _ _ _ _ _ hf hg hd hlt hr hp hn _ => calendarEntry_anew hf hg hd hlt hr hp hn,
    fun _ _ => calendarRebuild_writes,
    fun _ _ _ _ _ _ => girthQueueVisit_expedites,
    fun _ _ _ => queueReport_reports,
    fun _ _ => queueAvgUpdate_updates,
    fun _ _ _ _ => releaseNotice_releases,
    fun _ _ _ => strapCrcError_replayed,
    fun _ _ _ => strapCrcError_faults,
    fun _ _ _ _ _ _ _ => deepSpill_spills,
    fun _ _ _ _ _ _ => deepSpill_loses⟩

end

/-! PROOFS. A page of the deep buffer's reserve is freed to the reserve, not to its pool: the counterexample to the clause on a
buffer that is freed. -/

section

open Sys2Proof Sys2Proof.Machine Sys2Proof.Machine.State

namespace Sys2Proof.Machine.State

/-- Showing a pool's free count leaves the buffers of the pools as they are. -/
theorem pool_setPoolFree (s : State) (n free : Nat) (down : Bool) : (s.setPoolFree n free down).pool = s.pool :=
  (show Changes [.regs, .ev] s (s.setPoolFree n free down) by simp) .pool (by simp)

/-- A page of the deep reserve goes back to the reserve's own list (R355, R357). -/
theorem stack_freeBuffer_page {s : State} {h : Nat} (hpool : h / 2 ^ 28 = 7) (hpage : s.poolSize 7 ≤ h % 2 ^ 24) :
    (s.freeBuffer h).2.pool.stack = s.pool.stack := by
  unfold freeBuffer
  dsimp only
  split
  · split <;> simp
  · split
    · split <;> simp
    · simp only [hpool, hpage, and_self, if_true]
      split
      · rfl
      · rw [pool_setPoolFree]

/-- Pool 7 holds one buffer, which is a page of the deep reserve and in use. -/
def reservedPageUsed : State :=
  { (State.reset.set F.SB_POOL_CFG_COUNT [7] 1).set F.SB_DEEP_RESV_PAGES [] 1 with
    mode := .run, pool.used := [(handle 7 0, 1)], pool.deep := [0] }

theorem poolSize_reservedPageUsed : reservedPageUsed.poolSize 7 = 0 := by decide +kernel

end Sys2Proof.Machine.State

/-- Refutes O36: the clause on BUFFER_FREE of a buffer in use does not shut out the pages of the deep buffer's reserve, which belong
to pool 7 and go back to the reserve. In `State.reservedPageUsed` page 0 is freed, and the list of pool 7 stays empty. -/
theorem not_lacingAndBuffersComplete : ¬ Obligations.LacingAndBuffersComplete := by
  rintro ⟨-, -, -, -, -, -, -, -, -, -, -, -, hfree, -⟩
  obtain ⟨t, ht, -, hstack⟩ := hfree State.reservedPageUsed 7 0 (by decide) (by decide) (by decide) (by decide +kernel) (by decide)
    (by decide +kernel) (by decide +kernel)
  have hdone : exec (.bufferFree (State.handle 7 0)) State.reservedPageUsed
    = done (fun s => onlyIf s.powered (fun s => (s.freeBuffer (State.handle 7 0)).2) s) State.reservedPageUsed := rfl
  have hkept : (onlyIf State.reservedPageUsed.powered (fun s => (s.freeBuffer (State.handle 7 0)).2)
      State.reservedPageUsed).pool.stack = [] := by
    rw [onlyIf_of _ _ (by decide +kernel),
      State.stack_freeBuffer_page (by decide) (State.poolSize_reservedPageUsed.trans_le (Nat.zero_le _))]
    rfl
  obtain rfl := Host.Outcome.next.inj (hdone.symm.trans ht)
  have hlisted : ([] : List Nat) = 0 :: State.reservedPageUsed.pool.stack.at [] 7 := (congrArg (Map.at · [] 7) hkept).symm.trans hstack
  cases hlisted

end

/-! PROOFS. The queue of commands, the cells and the age of a frame, and device memory. -/

section

open Sys2Proof Sys2Proof.Machine

namespace Sys2Proof.Machine

/-! ## The queue of commands -/

theorem core_run_succ {s t : State} (h : step s = .next t) (k : Nat) :
    Sys2Proof.core.run (k + 1) s = Sys2Proof.core.run k t := by
  have h : Sys2Proof.core.step s = .next t := h
  simp only [Host.Core.run, h]

/-- Every command completes and leaves those behind it waiting, so the next step takes the next one. -/
theorem core_run_eq_runAll (l : List Instr) (s : State) : Sys2Proof.core.run l.length { s with pending := l } = runAll l s := by
  induction l generalizing s with
  | nil => rfl
  | cons c r ih =>
    obtain ⟨t, ht, hq, -⟩ := exec_keeps_queue_and_variant c { s with pending := r }
    have hr : { t with pending := r } = t := by cases t; cases hq; rfl
    have hstep : step { s with pending := c :: r } = .next t := ht
    rw [List.length_cons, core_run_succ hstep, runAll, ht]
    exact hr ▸ ih t

/-! ## The cells of a frame (R366) -/

/-- `ceilDiv n b` is the least number of pieces of `b` that hold `n`. -/
theorem ceilDiv_le_iff {b : Nat} (hb : 0 < b) (n k : Nat) : ceilDiv n b ≤ k ↔ n ≤ b * k := by
  rw [ceilDiv, ← Nat.lt_succ_iff, Nat.div_lt_iff_lt_mul hb, Nat.succ_mul, Nat.mul_comm k b]
  omega

/-! ## The age of a frame (R374) -/

theorem Clock.tai_shift (c : Clock) (d : Int) : (c.shift d).tai = (((c.tai : Int) + d) % (taiSpan : Int)).toNat := by
  rw [Clock.shift]
  exact Nat.div_add_mod' _ _

theorem Clock.tai_shift_of_range {c : Clock} {d : Int} (h0 : 0 ≤ (c.tai : Int) + d) (h1 : (c.tai : Int) + d < taiSpan) :
    ((c.shift d).tai : Int) = c.tai + d := by
  rw [Clock.tai_shift, Int.emod_eq_of_lt h0 h1, Int.toNat_of_nonneg h0]

theorem State.aged_iff (s : State) (m : Meta) :
    s.aged m = true ↔ (s.get F.MD_RESID_LIMIT_US [] : Int) * 65536000 < (s.clock.tai : Int) * 65536 - m.t16 := by
  rw [State.aged, decide_eq_true_eq]
  omega

/-! ## Device memory (R503) -/

namespace State

variable (s : State) (o : Nat) (bs : List Byte)

theorem ddrGet_ddrPut_self : (s.ddrPut o bs).ddrGet o bs.length = bs := Map.run_putAll 0 bs s.ddr.data o

theorem ddrGet_ddrPut_outside {a : Nat} (h : a < o ∨ o + bs.length ≤ a) : (s.ddrPut o bs).ddrGet a 1 = s.ddrGet a 1 :=
  congrArg (fun b => [b]) (Map.at_putAll_outside 0 0 bs s.ddr.data a o h)

theorem wf_ddrPut (h : s.ddr.data.wf 0 = true) : (s.ddrPut o bs).ddr.data.wf 0 = true := Map.wf_putAll 0 bs s.ddr.data o h

end State

end Sys2Proof.Machine

/-- Settles O3, by induction over the queue: a command leaves those behind it in place. -/
theorem queueRunsInOrder : Obligations.QueueRunsInOrder := core_run_eq_runAll

/-- Settles O14: both quotients are least multiples. -/
theorem cellsOfAFrame : Obligations.CellsOfAFrame := by
  intro s n
  refine ⟨⟨ceilDiv n 256, rfl, (ceilDiv_le_iff (by decide) n _).1 le_rfl, fun k => (ceilDiv_le_iff (by decide) n k).2⟩,
    fun hc => ⟨ceilDiv n (256 * s.cols), rfl, ?_, fun k => ?_⟩⟩
  all_goals have hspan : 0 < 256 * s.cols := Nat.mul_pos (by decide) hc
  · exact (ceilDiv_le_iff hspan n _).1 le_rfl
  · exact (ceilDiv_le_iff hspan n k).2

/-- Settles O15: within the span of TAI a step moves it by its size. -/
theorem ageOfAFrame : Obligations.AgeOfAFrame := by
  refine ⟨State.aged_iff, fun s d c hc h0 h1 => hc ▸ Clock.tai_shift_of_range h0 h1, fun s m d h0 h1 => ?_⟩
  have hlimit : State.get { s with clock := s.clock.shift d } F.MD_RESID_LIMIT_US [] = s.get F.MD_RESID_LIMIT_US [] := rfl
  rw [State.aged_iff, hlimit, Clock.tai_shift_of_range h0 h1]
  constructor <;> intro h <;> linarith

/-- Settles O16. -/
theorem deviceMemoryWrites : Obligations.DeviceMemoryWrites := fun s o bs =>
  ⟨s.ddrGet_ddrPut_self o bs, fun _ => s.ddrGet_ddrPut_outside o bs, s.wf_ddrPut o bs⟩

end

/-! PROOFS. The lands of the SerDes lanes: the bands' coordinates and their inverse, and what stands outside the bands. -/

section

open Sys2Proof Sys2Proof.Machine

namespace Sys2Proof.Machine

/-! ## The bands of the Skirt dies (R553, R554) -/

theorem bandOf_bandLand {d u v : Nat} (hd : d < 8) (hu : u < 36) (hv : v < 12) :
    bandOf (bandLand d u v).1 (bandLand d u v).2 = some (d, u, v) := by
  interval_cases d <;> simp only [bandLand, bandOf] <;> grind

theorem bandLand_of_bandOf {r c d u v : Nat} (hr : r < 96) (hc : 1 ≤ c) (hc' : c ≤ 96) (h : bandOf r c = some (d, u, v)) :
    d < 8 ∧ u < 36 ∧ v < 12 ∧ bandLand d u v = (r, c) := by
  unfold bandOf at h
  split_ifs at h
  all_goals
    obtain ⟨rfl, rfl, rfl⟩ := by simpa only [Option.some.injEq, Prod.mk.injEq] using h
    refine ⟨by decide, by omega, by omega, Prod.ext ?_ ?_⟩ <;> simp only [bandLand] <;> omega

/-! ## The lanes within a band (R554) -/

theorem laneRow_lt (l : Nat) : laneRow l < 6 := by
  unfold laneRow
  rw [List.getD_eq_getElem?_getD]
  cases h : [0, 1, 3, 4][l / 2]? with
  | none => decide
  | some w =>
    have hsmall : ∀ w ∈ [0, 1, 3, 4], w < 6 := by decide
    exact hsmall w (List.mem_of_getElem? h)

theorem findIdx_laneRow {l : Nat} (hl : l < 8) : [0, 1, 3, 4].findIdx? (· == laneRow l) = some (l / 2) := by
  decide +revert

theorem laneRow_of_findIdx {w k : Nat} (hw : w < 6) (h : [0, 1, 3, 4].findIdx? (· == w) = some k) :
    k < 4 ∧ [0, 1, 3, 4].getD k 0 = w := by
  interval_cases w <;> cases h <;> decide

theorem bandSignal_laneCoord {g l : Nat} (hl : l < 8) (tx p : Bool) :
    bandSignal (g / 8) (laneCoord g l tx p).1 (laneCoord g l tx p).2 = .serdes (g / 8) g l tx p := by
  have hrow := laneRow_lt l
  have hmod : (laneCoord g l tx p).2 % 6 = laneRow l := by
    simp only [laneCoord]
    split <;> omega
  have hdir : decide (6 ≤ (laneCoord g l tx p).2) = tx := by
    cases tx <;> simp only [laneCoord, Bool.false_eq_true, if_true, if_false, decide_eq_true_eq, decide_eq_false_iff_not] <;> omega
  have hu : (laneCoord g l tx p).1 - 2 = 4 * (g % 8) + 2 * (l % 2) + if p then 0 else 1 := by
    simp only [laneCoord]
    omega
  have hrange : 2 ≤ (laneCoord g l tx p).1 ∧ (laneCoord g l tx p).1 ≤ 33 := by
    simp only [laneCoord]
    split <;> omega
  have hhalf : (((laneCoord g l tx p).1 - 2) % 2 == 0) = p := by
    rw [hu]
    cases p <;> simp <;> omega
  have hgroup : 8 * (g / 8) + ((laneCoord g l tx p).1 - 2) / 4 = g := by
    rw [hu]
    split <;> omega
  have hlane : 2 * (l / 2) + ((laneCoord g l tx p).1 - 2) % 4 / 2 = l := by
    rw [hu]
    split <;> omega
  rw [bandSignal, if_neg (by omega), if_neg (by omega), hmod, findIdx_laneRow hl]
  simp only [hdir, hhalf, hgroup, hlane]

theorem laneCoord_of_bandSignal {d u v d' g l : Nat} {tx p : Bool} (hu : u < 36) (hv : v < 12)
    (h : bandSignal d u v = .serdes d' g l tx p) : d' = d ∧ g / 8 = d ∧ l < 8 ∧ laneCoord g l tx p = (u, v) := by
  unfold bandSignal at h
  split_ifs at h with hclock hedge
  split at h
  next => cases h
  next k hk =>
    obtain ⟨hk4, hrow⟩ := laneRow_of_findIdx (Nat.mod_lt v (by decide)) hk
    obtain ⟨rfl, rfl, rfl, rfl, rfl⟩ := by simpa only [Land.serdes.injEq] using h
    have hlane : laneRow (2 * k + (u - 2) % 4 / 2) = v % 6 := by
      rw [laneRow, show (2 * k + (u - 2) % 4 / 2) / 2 = k by omega, hrow]
    refine ⟨rfl, by omega, by omega, Prod.ext ?_ ?_⟩
    · simp only [laneCoord, beq_iff_eq]
      split <;> omega
    · simp only [laneCoord, hlane, decide_eq_true_eq]
      split <;> omega

/-! ## Outside the bands (R556 to R559) -/

/-- The land carries a SerDes lane. -/
def Land.isLane : Land → Bool
  | .serdes .. => true
  | _ => false

theorem isLane_cornerNw (r c : Nat) : (cornerNw r c).isLane = false := by
  unfold cornerNw
  split_ifs <;> rfl

theorem isLane_cornerNe (r c : Nat) : (cornerNe r c).isLane = false := by
  have hpins : ∀ e ∈ cornerNePins, e.2.2.isLane = false := by decide
  unfold cornerNe
  cases h : cornerNePins.find? fun e => e.1 == r && e.2.1 == c with
  | none => rfl
  | some e => exact hpins e (List.mem_of_find?_eq_some h)

theorem isLane_tileSignal (ch t w : Nat) : (tileSignal ch t w).isLane = false := by
  unfold tileSignal
  dsimp only
  split
  · rfl
  · split <;> rfl

theorem isLane_interiorLand (r c : Nat) : (interiorLand r c).isLane = false := by
  unfold interiorLand
  split
  · exact isLane_tileSignal ..
  · split <;> rfl

/-- A land that carries a lane lies in a band. -/
theorem bandOf_of_lane {r c d g l : Nat} {tx p : Bool} (h : landAt r c = .serdes d g l tx p) :
    ∃ e u v, bandOf r c = some (e, u, v) ∧ bandSignal e u v = .serdes d g l tx p := by
  unfold landAt at h
  split at h
  next e u v hb => exact ⟨e, u, v, hb, h⟩
  next =>
    have hlane := congrArg Land.isLane h
    split_ifs at hlane
    · exact nomatch (isLane_cornerNw r c).symm.trans hlane
    · exact nomatch (isLane_cornerNe r c).symm.trans hlane
    · cases hlane
    · exact nomatch (isLane_interiorLand r c).symm.trans hlane

theorem landAt_laneLand {g l : Nat} (hg : g < 64) (hl : l < 8) (tx p : Bool) :
    landAt (laneLand g l tx p).1 (laneLand g l tx p).2 = .serdes (g / 8) g l tx p := by
  have hrow := laneRow_lt l
  have hu : (laneCoord g l tx p).1 < 36 := by
    simp only [laneCoord]
    split <;> omega
  have hv : (laneCoord g l tx p).2 < 12 := by
    simp only [laneCoord]
    split <;> omega
  rw [landAt, laneLand, bandOf_bandLand (by omega) hu hv]
  exact bandSignal_laneCoord hl tx p

theorem laneLand_of_landAt {r c d g l : Nat} {tx p : Bool} (hr : r < 96) (hc : 1 ≤ c) (hc' : c ≤ 96)
    (h : landAt r c = .serdes d g l tx p) : d = g / 8 ∧ g < 64 ∧ l < 8 ∧ (r, c) = laneLand g l tx p := by
  obtain ⟨e, u, v, hb, hs⟩ := bandOf_of_lane h
  obtain ⟨he, hu, hv, hland⟩ := bandLand_of_bandOf hr hc hc' hb
  obtain ⟨rfl, rfl, hl, hcoord⟩ := laneCoord_of_bandSignal hu hv hs
  exact ⟨rfl, by omega, hl, by rw [laneLand, hcoord, hland]⟩

end Sys2Proof.Machine

/-- Settles O17: a band's coordinates and its lands correspond, and so do a lane and its coordinates; no lane lies elsewhere. -/
theorem landsOfTheLanes : Obligations.LandsOfTheLanes :=
  ⟨fun _ _ tx p hg hl => landAt_laneLand hg hl tx p, fun _ _ _ _ _ _ _ hr hc hc' => laneLand_of_landAt hr hc hc'⟩

end

/-! PROOFS. The fourteen operations of the Stitchers and what they leave in FLAGS. -/

section

open Sys2Proof Sys2Proof.Machine

namespace Sys2Proof.Machine

/-! ## The results (R437) -/

theorem bit_eq_getLsbD (a : BitVec 64) (i : Nat) : bit a.toNat i = a.getLsbD i := by
  rw [bit_eq_testBit, BitVec.testBit_toNat]

theorem bit_63_eq_msb (a : BitVec 64) : bit a.toNat 63 = a.msb := by
  rw [bit_eq_getLsbD, BitVec.msb_eq_getLsbD_last]

theorem shiftRightSigned_toNat (a : BitVec 64) {n : Nat} (hn : n < 64) : shiftRightSigned a.toNat n = (a.sshiftRight n).toNat := by
  rw [shiftRightSigned, bit_63_eq_msb, BitVec.toNat_sshiftRight]
  split
  · have hpow : (2 : Nat) ^ 64 = 2 ^ n * 2 ^ (64 - n) := by rw [← pow_add, Nat.add_sub_cancel' hn.le]
    have hlt : a.toNat < 2 ^ n * 2 ^ (64 - n) := hpow ▸ a.isLt
    have hneg : (2 ^ 64 - 1 - a.toNat) / 2 ^ n = 2 ^ (64 - n) - (a.toNat / 2 ^ n + 1) := by
      rw [Nat.sub_sub, Nat.add_comm 1, hpow]
      exact Nat.mul_sub_div a.toNat (2 ^ n) (2 ^ (64 - n)) hlt
    have hshift : a.toNat / 2 ^ n < 2 ^ (64 - n) := Nat.div_lt_of_lt_mul hlt
    have hle : 2 ^ (64 - n) ≤ 2 ^ 64 := Nat.pow_le_pow_right (by decide) (Nat.sub_le 64 n)
    rw [Nat.shiftRight_eq_div_pow, Nat.shiftRight_eq_div_pow, hneg]
    generalize a.toNat / 2 ^ n = d, 2 ^ (64 - n) = q at hshift hle ⊢
    omega
  · rfl

theorem getElem_leBytes {i n : Nat} (v : Nat) (h : i < (leBytes v n).length) :
    (leBytes v n)[i] = BitVec.ofNat 8 (v >>> (8 * i)) := by
  induction n generalizing i v with
  | zero => cases h
  | succ n ih =>
    cases i with
    | zero => rfl
    | succ i =>
      simp only [leBytes, List.getElem_cons_succ]
      rw [ih, Nat.mul_succ, Nat.add_comm, Nat.shiftRight_add]

/-- The bytes of a little-endian number are its fields of eight bits. -/
theorem bits_ofLe {bs : List Byte} {i : Nat} (h : i < bs.length) : bits (ofLe bs) (8 * i + 7) (8 * i) = (bs[i]).toNat := by
  rw [bits, show 8 * i + 7 + 1 - 8 * i = 8 by omega]
  induction bs generalizing i with
  | nil => cases h
  | cons b r ih =>
    have hb := b.isLt
    cases i with
    | zero => simp only [ofLe, List.getElem_cons_zero, Nat.mul_zero, Nat.shiftRight_zero]; omega
    | succ i =>
      rw [Nat.mul_succ, Nat.add_comm, Nat.shiftRight_add, ofLe, List.getElem_cons_succ, ← ih (Nat.lt_of_succ_lt_succ h)]
      congr 2
      rw [Nat.shiftRight_eq_div_pow]
      omega

theorem bits_byteSwap (v : Nat) {i : Nat} (hi : i < 8) :
    bits (byteSwap v) (8 * i + 7) (8 * i) = bits v (8 * (7 - i) + 7) (8 * (7 - i)) := by
  have hlen : i < (leBytes v 8).reverse.length := by simpa [leBytes_length] using hi
  rw [byteSwap, bits_ofLe hlen, List.getElem_reverse, getElem_leBytes, BitVec.toNat_ofNat, bits]
  simp only [leBytes_length]
  congr 2
  omega

theorem leadingZeros_of_ne_zero {a : BitVec 64} (h : a ≠ 0) :
    leadingZeros a.toNat < 64 ∧ bit a.toNat (63 - leadingZeros a.toNat) = true ∧ a.toNat < 2 ^ (64 - leadingZeros a.toNat) := by
  have h0 : a.toNat ≠ 0 := fun he => h (BitVec.eq_of_toNat_eq he)
  have hlog : a.toNat.log2 < 64 := (Nat.log2_lt h0).2 a.isLt
  rw [leadingZeros, if_neg h0, show 63 - (63 - a.toNat.log2) = a.toNat.log2 by omega,
    show 64 - (63 - a.toNat.log2) = a.toNat.log2 + 1 by omega]
  exact ⟨by omega, by rw [bit_eq_testBit, Nat.testBit_log2 h0], Nat.lt_log2_self⟩

theorem popcount_eq_length_filter (v n : Nat) : popcount v n = ((List.range n).filter fun i => bit v i).length := by
  induction n generalizing v with
  | zero => rfl
  | succ n ih =>
    have hstep : (fun i => bit v i) ∘ Nat.succ = fun i => bit (v / 2) i := by
      funext i
      rw [Function.comp, bit_eq_testBit, bit_eq_testBit, Nat.testBit_succ]
    rw [List.range_succ_eq_map, List.filter_cons, List.filter_map, hstep, popcount, ih]
    have h0 : bit v 0 = (v % 2 == 1) := rfl
    rcases Nat.mod_two_eq_zero_or_one v with h | h <;> simp [h0, h, Nat.add_comm]

/-! ## FLAGS (R429, R437) -/

section
variable (f op a b : Nat)

theorem bit_aluFlags_Z : bit (aluFlags f op a b) flagZ = (aluResult op a b == 0) := by
  simp [aluFlags, flagZ, flagN, flagC, flagV, bit_setBit_other, bit_setBit_self]

theorem bit_aluFlags_N : bit (aluFlags f op a b) flagN = bit (aluResult op a b) 63 := by
  simp [aluFlags, flagZ, flagN, flagC, flagV, bit_setBit_other, bit_setBit_self]

theorem bit_aluFlags_C : bit (aluFlags f op a b) flagC = aluCarry op a b := by
  simp [aluFlags, flagZ, flagN, flagC, flagV, bit_setBit_other, bit_setBit_self]

theorem bit_aluFlags_V : bit (aluFlags f op a b) flagV = aluOverflow op a b := by
  simp [aluFlags, bit_setBit_self]

theorem bit_aluFlags_other {k : Nat} (hk : 4 ≤ k) : bit (aluFlags f op a b) k = bit f k := by
  have h : k ≠ flagZ ∧ k ≠ flagN ∧ k ≠ flagC ∧ k ≠ flagV := by simp only [flagZ, flagN, flagC, flagV]; omega
  obtain ⟨hz, hn, hc, hv⟩ := h
  simp only [aluFlags, bit_setBit_other _ _ _ _ hv, bit_setBit_other _ _ _ _ hc, bit_setBit_other _ _ _ _ hn,
    bit_setBit_other _ _ _ _ hz]

variable {op}

/-- Only ADD and SUB can leave C and V set. -/
theorem aluCarry_aluOverflow_of_two_lt (h : 2 < op) : aluCarry op a b = false ∧ aluOverflow op a b = false := by
  obtain ⟨n, rfl⟩ := Nat.exists_eq_add_of_lt h
  rw [show 2 + n + 1 = n + 3 by omega]
  exact ⟨rfl, rfl⟩

end

theorem aluResult_add (a b : BitVec 64) : aluResult 1 a.toNat b.toNat = (a + b).toNat := (BitVec.toNat_add a b).symm

/-- The equation of SUB, by the cases of its opcode: reducing the opcode itself counts to 2^64. -/
theorem aluResult_of_eq_two {op : Nat} (h : op = 2) (a b : Nat) : aluResult op a b = w64 (a + 2 ^ 64 - b) := by
  unfold aluResult
  split
  case h_2 => rfl
  all_goals grind

theorem aluResult_sub (a b : BitVec 64) : aluResult 2 a.toNat b.toNat = (a - b).toNat := by
  have hb := b.isLt
  rw [BitVec.toNat_sub, aluResult_of_eq_two rfl, w64]
  congr 1
  omega

theorem aluOverflow_add (a b : BitVec 64) :
    aluOverflow 1 a.toNat b.toNat = decide ((a + b).toInt ≠ a.toInt + b.toInt) := by
  have ha := a.isLt
  have hb := b.isLt
  have hr : aluOverflow 1 a.toNat b.toNat = (a.msb == b.msb && (a + b).msb != a.msb) := by
    simp only [aluOverflow, aluResult_add, bit_63_eq_msb]
  rw [hr, BitVec.msb_eq_decide, BitVec.msb_eq_decide, BitVec.msb_eq_decide, BitVec.toInt_eq_toNat_cond, BitVec.toInt_eq_toNat_cond a,
    BitVec.toInt_eq_toNat_cond b, BitVec.toNat_add]
  grind

theorem aluOverflow_sub (a b : BitVec 64) :
    aluOverflow 2 a.toNat b.toNat = decide ((a - b).toInt ≠ a.toInt - b.toInt) := by
  have ha := a.isLt
  have hb := b.isLt
  have hr : aluOverflow 2 a.toNat b.toNat = (a.msb != b.msb && (a - b).msb != a.msb) := by
    simp only [aluOverflow, aluResult_sub, bit_63_eq_msb]
  rw [hr, BitVec.msb_eq_decide, BitVec.msb_eq_decide, BitVec.msb_eq_decide, BitVec.toInt_eq_toNat_cond, BitVec.toInt_eq_toNat_cond a,
    BitVec.toInt_eq_toNat_cond b, BitVec.toNat_sub]
  grind

end Sys2Proof.Machine

/-- Settles O12: the operations are those of 64-bit words, and the two overflows those of their signed values. -/
theorem arithmeticResults : Obligations.ArithmeticResults := fun a b f =>
  ⟨aluResult_add a b, aluResult_sub a b, (BitVec.toNat_and a b).symm, (BitVec.toNat_or a b).symm, (BitVec.toNat_xor a b).symm,
    BitVec.toNat_shiftLeft.symm, (BitVec.toNat_ushiftRight a _).symm, shiftRightSigned_toNat a (Nat.mod_lt _ (by decide)),
    (BitVec.toNat_mul a b).symm, rfl, rfl, fun _ => bits_byteSwap a.toNat, fun h => by rw [h]; rfl, leadingZeros_of_ne_zero,
    popcount_eq_length_filter a.toNat 64,
    fun op _ _ => ⟨bit_aluFlags_Z .., bit_aluFlags_N .., fun _ => bit_aluFlags_other f op _ _, fun h => by
      rw [bit_aluFlags_C, bit_aluFlags_V]
      exact aluCarry_aluOverflow_of_two_lt _ _ h⟩,
    bit_aluFlags_C .., (bit_aluFlags_V ..).trans (aluOverflow_add a b), (bit_aluFlags_V ..).trans (aluOverflow_sub a b)⟩

end

/-! PROOFS. The frames of the operations on tables and of the entries that run them: which parts of the state each can change. -/

section

open Sys2Proof Sys2Proof.Machine Sys2Proof.Machine.State

namespace Sys2Proof.Machine

variable {l : List Part} {s t : State}

/-! ## Writes in the sequence -/

@[simp] theorem changes_issueAll (hl : [.regs, .ev, .tabs, .ts, .awl] ⊆ l) (ws) :
    Changes l s (t.issueAll ws) ↔ Changes l s t :=
  changes_iff_of (by unfold State.issueAll; simp) hl

@[simp] theorem changes_seqOne (hl : [.regs, .ev, .tabs, .ts, .awl] ⊆ l) (tb i v) :
    Changes l s (t.seqOne tb i v).2 ↔ Changes l s t :=
  changes_iff_of (by unfold State.seqOne; simp) hl

/-! ## Tables of the longest match (R272 to R278) -/

@[simp] theorem changes_lpmPut (hl : [.regs, .ev, .tabs, .ts, .awl] ⊆ l) (fam node k w) :
    Changes l s (t.lpmPut fam node k w) ↔ Changes l s t :=
  changes_iff_of (by unfold State.lpmPut; simp) hl

@[simp] theorem changes_lpmRelease (hl : [.ts] ⊆ l) (fam node) : Changes l s (t.lpmRelease fam node) ↔ Changes l s t :=
  changes_iff_of (by unfold State.lpmRelease; simp) hl

@[simp] theorem changes_lpmDone (hl : [.ts] ⊆ l) (fam gone) : Changes l s (t.lpmDone fam gone) ↔ Changes l s t :=
  changes_iff_of (by unfold State.lpmDone; split <;> simp) hl

@[simp] theorem changes_lpmNode (hl : [.regs, .ev, .tabs, .ts, .awl] ⊆ l) (fam node st df slots) :
    Changes l s (t.lpmNode fam node st df slots) ↔ Changes l s t :=
  changes_iff_of (by unfold State.lpmNode; simp) hl

@[simp] theorem changes_lpmTake (hl : [.regs, .ev, .tabs, .ts, .awl] ⊆ l) (fam len ao w) :
    Changes l s (t.lpmTake fam len ao w).2 ↔ Changes l s t :=
  changes_iff_of (by unfold State.lpmTake; simp) hl

@[simp] theorem changes_lpmLose (hl : [.regs, .ev, .tabs, .ts, .awl] ⊆ l) (fam len w by_) :
    Changes l s (t.lpmLose fam len w by_).2 ↔ Changes l s t :=
  changes_iff_of (by unfold State.lpmLose; simp) hl

theorem changes_rootPut {k w : Nat} (h : s.rootPut k w = some t) : Changes [.regs, .ev, .tabs, .ts, .awl] s t := by
  unfold State.rootPut at h
  dsimp only at h
  split at h
  · cases h; simp
  · split at h
    · cases h; simp
    · obtain ⟨i, -, rfl⟩ := Option.map_eq_some_iff.mp h
      simp

@[simp] theorem changes_rootPut_getD (hl : [.regs, .ev, .tabs, .ts, .awl] ⊆ l) (k w) :
    Changes l s ((t.rootPut k w).getD t) ↔ Changes l s t :=
  changes_iff_of (by
    cases h : t.rootPut k w with
    | none => exact .refl _ t
    | some u => exact changes_rootPut h) hl

theorem changes_lpmChain (fam len addr ao : Nat) (levels : List (Nat × Nat)) (ns : List Nat) (df : Nat) (s : State) :
    Changes [.regs, .ev, .tabs, .ts, .awl] s (State.lpmChain fam len addr ao levels ns df s) := by
  induction levels generalizing ns df with
  | nil => simp [State.lpmChain]
  | cons x r ih =>
    cases ns with
    | nil => simp [State.lpmChain]
    | cons n ns => unfold State.lpmChain; simp [ih]

theorem changes_lpmGrow {fam len addr ao w : Nat} {levels : List (Nat × Nat)} {x : Nat × State}
    (h : s.lpmGrow fam len addr ao w levels = some x) : Changes [.regs, .ev, .tabs, .ts, .awl] s x.2 := by
  obtain ⟨ns, -, rfl⟩ := Option.map_eq_some_iff.mp h
  exact changes_lpmChain fam len addr ao levels ns _ s

theorem changes_lpmFill {fam len addr ao : Nat} {levels : List (Nat × Nat)} {node : Nat}
    (h : State.lpmFill fam len addr ao levels node s = some t) : Changes [.regs, .ev, .tabs, .ts, .awl] s t := by
  induction levels generalizing node s with
  | nil => cases h; exact .refl _ _
  | cons x r ih =>
    unfold State.lpmFill at h
    dsimp only at h
    split at h
    · cases h; simp
    · split at h
      · exact ih h
      · obtain ⟨y, hy, rfl⟩ := Option.map_eq_some_iff.mp h
        simpa using changes_lpmGrow hy

/-- A fold that stops where a step has no result changes what its steps change. -/
theorem Changes.foldl_bind {α : Type} {f : State → α → Option State} (hf : ∀ a s t, f s a = some t → Changes l s t) (xs : List α)
    {s t : State} (h : xs.foldl (fun o a => o.bind fun u => f u a) (some s) = some t) : Changes l s t := by
  induction xs generalizing s with
  | nil => cases h; exact .refl _ _
  | cons a xs ih =>
    rw [List.foldl_cons, Option.bind_some] at h
    cases hu : f s a with
    | some u => exact (hf a s u hu).trans (ih (hu ▸ h))
    | none =>
      have hnone : xs.foldl (fun o a => o.bind fun u => f u a) none = none := by
        clear h ih
        induction xs with
        | nil => rfl
        | cons b xs ih => exact ih
      rw [hu, hnone] at h
      cases h

theorem changes_lpmWrites {fam vrf len addr ao : Nat} (h : s.lpmWrites fam vrf len addr ao = some t) :
    Changes [.regs, .ev, .tabs, .ts, .awl] s t := by
  unfold State.lpmWrites at h
  dsimp only at h
  split at h
  · cases h; simp
  · split at h
    · refine Changes.foldl_bind (fun a u v hv => ?_) _ h
      exact ((changes_lpmTake (List.Subset.refl _) ..).2 (.refl _ u)).trans (changes_rootPut hv)
    · split at h
      · exact changes_lpmFill h
      · obtain ⟨x, hx, hput⟩ := Option.bind_eq_some_iff.mp h
        exact (changes_lpmGrow hx).trans (changes_rootPut hput)

theorem changes_lpmPlace {i ao : Nat} (h : s.lpmPlace i ao = some t) : Changes [.regs, .ev, .tabs, .ts, .awl] s t := by
  unfold State.lpmPlace at h
  dsimp only at h
  split at h
  · cases h
  · obtain ⟨u, hu, rfl⟩ := Option.map_eq_some_iff.mp h
    simpa using changes_lpmWrites hu

@[simp] theorem changes_lpmInsert (hl : [.regs, .ev, .tabs, .ts, .awl] ⊆ l) (i ao) :
    Changes l s (t.lpmInsert i ao).2 ↔ Changes l s t :=
  changes_iff_of (by
    unfold State.lpmInsert
    split
    · exact changes_lpmPlace ‹_›
    · exact .refl _ t) hl

@[simp] theorem changes_lpmDrain (hl : [.regs, .ev, .tabs, .ts, .awl] ⊆ l) (fam vrf len addr levels node) :
    Changes l s (State.lpmDrain fam vrf len addr levels node t) ↔ Changes l s t := by
  refine changes_iff_of ?_ hl
  induction levels generalizing node t with
  | nil => exact .refl _ t
  | cons x r ih =>
    have ih' := fun node u => changes_iff_of (s := t) (ih (node := node) (t := u)) (List.Subset.refl _)
    unfold State.lpmDrain
    dsimp only
    split
    · simp
    · split <;> simp [ih']

@[simp] theorem changes_lpmClears (hl : [.regs, .ev, .tabs, .ts, .awl] ⊆ l) (fam vrf len addr) :
    Changes l s (t.lpmClears fam vrf len addr) ↔ Changes l s t :=
  changes_iff_of (by unfold State.lpmClears; simp) hl

@[simp] theorem changes_lpmRemove (hl : [.regs, .ev, .tabs, .ts, .awl] ⊆ l) (i) :
    Changes l s (t.lpmRemove i) ↔ Changes l s t :=
  changes_iff_of (by unfold State.lpmRemove; simp) hl

@[simp] theorem changes_lpmDelete (hl : [.regs, .ev, .tabs, .ts, .awl] ⊆ l) (i) :
    Changes l s (t.lpmDelete i).2 ↔ Changes l s t :=
  changes_iff_of (by unfold State.lpmDelete; simp) hl

/-! ## The operations on tables (R237, R261 to R265) -/

@[simp] theorem changes_bankWrite (hl : [.regs, .ev, .tabs, .ts, .awl] ⊆ l) (o) :
    Changes l s (t.bankWrite o).2 ↔ Changes l s t :=
  changes_iff_of (by
    unfold State.bankWrite
    split
    · simp
    · split <;> simp) hl

@[simp] theorem changes_flowProfileWrite (hl : [.regs, .ev, .tabs, .ts, .awl] ⊆ l) (v) :
    Changes l s (t.flowProfileWrite v).2 ↔ Changes l s t :=
  changes_iff_of (by unfold State.flowProfileWrite; simp) hl

@[simp] theorem changes_writeShaper (hl : [.regs, .ctrs, .ev, .tabs, .shp] ⊆ l) (d i v) :
    Changes l s (t.writeShaper d i v) ↔ Changes l s t :=
  changes_iff_of (by unfold State.writeShaper; simp) hl

@[simp] theorem changes_resetPolicer (hl : [.shp] ⊆ l) (d i e) :
    Changes l s (t.resetPolicer d i e) ↔ Changes l s t :=
  changes_iff_of (by unfold State.resetPolicer; simp) hl

@[simp] theorem changes_flowWrite (hl : [.flow] ⊆ l) (key g) :
    Changes l s (t.flowWrite key g) ↔ Changes l s t :=
  changes_iff_of (by
    unfold State.flowWrite
    split
    · split <;> simp
    · simp) hl

@[simp] theorem changes_onDies {f : Nat → State → State} (die : Nat) (hf : ∀ d u, Changes l u (f d u)) :
    Changes l s (t.onDies die f).2 ↔ Changes l s t :=
  changes_iff_of (by unfold State.onDies; split <;> simp [hf]) (List.Subset.refl l)

@[simp] theorem changes_osWait (hl : [.regs, .ev, .osp] ⊆ l) (w chain) :
    Changes l s (t.osWait w chain) ↔ Changes l s t :=
  changes_iff_of (by unfold State.osWait; simp) hl

@[simp] theorem changes_osAsk (hl : [.regs, .ev, .tabs, .ts, .osp, .awl] ⊆ l) (who kind id v) :
    Changes l s (t.osAsk who kind id v).2 ↔ Changes l s t :=
  changes_iff_of (by
    unfold State.osAsk
    dsimp only
    split
    · simp
    · split
      · simp
      · exact (changes_osDo ‹_›).mono (by simp)
      · exact (changes_osDo ‹_›).mono (by simp)) hl

@[simp] theorem changes_retire (hl : [.regs, .ev, .tabs, .ts, .awl] ⊆ l) (a) :
    Changes l s (t.retire a).2 ↔ Changes l s t :=
  changes_iff_of (by unfold State.retire; split <;> simp) hl

@[simp] theorem changes_exactInsert (hl : [.regs, .ev, .tabs, .ts, .awl] ⊆ l) (v) :
    Changes l s (t.exactInsert v).2 ↔ Changes l s t :=
  changes_iff_of (by
    unfold State.exactInsert
    dsimp only
    split
    · simp
    · split <;> simp) hl

@[simp] theorem changes_mapInsert (hl : [.regs, .ev, .tabs, .ts, .awl] ⊆ l) (key sp) :
    Changes l s (t.mapInsert key sp).2 ↔ Changes l s t :=
  changes_iff_of (by
    unfold State.mapInsert
    split
    · simp
    · split <;> simp) hl

theorem changes_of_flowRead {key : Nat} {c : Option Flow} (h : s.flowRead key = (c, t)) :
    Changes [.regs, .ctrs, .ev, .flt, .flow] s t := by
  have hread := (changes_flowRead (List.Subset.refl [Part.regs, .ctrs, .ev, .flt, .flow]) key).2 (.refl _ s)
  rwa [h] at hread

@[simp] theorem changes_tableRead (hl : [.regs, .ctrs, .ev, .flt, .flow] ⊆ l) (o) :
    Changes l s (t.tableRead o).2.2 ↔ Changes l s t :=
  changes_iff_of (by
    unfold State.tableRead
    dsimp only
    split
    · simp
    · split
      case h_14 => split <;> exact changes_of_flowRead ‹_›
      all_goals repeat' split
      all_goals simp) hl

@[simp] theorem changes_tableWrite (hl : [.regs, .ctrs, .ev, .flt, .tabs, .ts, .osp, .awl, .flow, .shp, .tally, .st] ⊆ l) (o) :
    Changes l s (t.tableWrite o).2 ↔ Changes l s t :=
  changes_iff_of (by
    unfold State.tableWrite
    dsimp only
    split
    · simp
    · split
      case h_10 =>
        split
        · simp
        · split
          next h => exact (changes_of_flowRead h).mono (by decide)
          next h =>
            generalize o.data % 2 ^ 384 = key at h ⊢
            simpa using (changes_of_flowRead h).mono
              (l := [.regs, .ctrs, .ev, .flt, .tabs, .ts, .osp, .awl, .flow, .shp, .tally, .st]) (by decide)
      case h_17 =>
        split
        · simp
        · split <;> simp
      case h_8 => split <;> simp
      all_goals simp) hl

@[simp] theorem changes_tableWriteAs (hl : [.regs, .ctrs, .ev, .flt, .tabs, .ts, .osp, .awl, .flow, .shp, .tally, .st] ⊆ l) (who o) :
    Changes l s (t.tableWriteAs who o).2 ↔ Changes l s t :=
  changes_iff_of (by unfold State.tableWriteAs; simp) hl

@[simp] theorem changes_tableInsert (hl : [.regs, .ctrs, .ev, .flt, .tabs, .ts, .osp, .awl, .flow, .shp, .tally, .st] ⊆ l) (who o) :
    Changes l s (t.tableInsert who o).2 ↔ Changes l s t :=
  changes_iff_of (by
    unfold State.tableInsert
    split
    case h_3 =>
      split
      · simp
      · split <;> simp
    all_goals simp) hl

@[simp] theorem changes_tableDelete (hl : [.regs, .ctrs, .ev, .flt, .tabs, .ts, .osp, .awl, .flow, .shp, .tally, .st] ⊆ l) (who o) :
    Changes l s (t.tableDelete who o).2 ↔ Changes l s t :=
  changes_iff_of (by
    unfold State.tableDelete
    split
    case h_6 =>
      split
      next h => exact (changes_of_flowRead h).mono (by decide)
      next h =>
        have hread := (changes_of_flowRead h).mono
          (l := [.regs, .ctrs, .ev, .flt, .tabs, .ts, .osp, .awl, .flow, .shp, .tally, .st]) (by decide)
        split <;> simpa using hread
    case h_4 | h_5 => simp
    all_goals split <;> simp) hl

@[simp] theorem changes_tableOp (hl : [.regs, .ctrs, .ev, .flt, .tabs, .ts, .osp, .awl, .flow, .shp, .tally, .st] ⊆ l) (who o) :
    Changes l s (t.tableOp who o).2 ↔ Changes l s t :=
  changes_iff_of (by unfold State.tableOp; simp) hl

@[simp] theorem changes_bankCopy (hl : [.regs, .ev, .tabs, .ts, .awl] ⊆ l) : Changes l s t.bankCopy.2 ↔ Changes l s t :=
  changes_iff_of (by unfold State.bankCopy; simp) hl

/-! ## The operations on Awl sets and on the flash (R261, R262, R486) -/

@[simp] theorem changes_putSet (hl : [.regs, .awl] ⊆ l) (a bs h st) : Changes l s (t.putSet a bs h st) ↔ Changes l s t :=
  changes_iff_of (by unfold State.putSet; simp) hl

@[simp] theorem changes_setWrite (hl : [.regs, .awl] ⊆ l) (a old data) : Changes l s (t.setWrite a old data).2 ↔ Changes l s t :=
  changes_iff_of (by
    unfold State.setWrite
    dsimp only
    split <;> simp) hl

@[simp] theorem changes_setValidate (hl : [.regs, .ddr] ⊆ l) (a) : Changes l s (t.setValidate a).2 ↔ Changes l s t :=
  changes_iff_of (by unfold State.setValidate State.shadowSet; simp) hl

@[simp] theorem changes_scanData (hl : [.regs, .ctrs, .ev, .awl] ⊆ l) (a data) :
    Changes l s (t.scanData a data).2 ↔ Changes l s t :=
  changes_iff_of (by unfold State.scanData; simp) hl

@[simp] theorem changes_flashBulk (hl : [.regs, .tack, .flash] ⊆ l) (op p n data) :
    Changes l s (t.flashBulk op p n data).2 ↔ Changes l s t :=
  changes_iff_of (by unfold State.flashBulk; simp) hl

/-! ## An entry runs its operation and is answered (R474 to R480) -/

@[simp] theorem changes_opRun (hl : [.regs, .ctrs, .tack, .ev, .flt, .flash, .tabs, .ts, .osp, .awl, .flow, .shp, .tally, .ddr, .st] ⊆ l) (who e data old) :
    Changes l s (t.opRun who e data old).2 ↔ Changes l s t :=
  changes_iff_of (by
    unfold State.opRun
    dsimp only
    split
    · split
      · simp
      · simp
    case h_2 | h_3 | h_4 =>
      split
      · simp
      · split <;> simp
    all_goals simp) hl

@[simp] theorem changes_dmaGet (hl : [.regs, .ctrs, .ev, .xl] ⊆ l) (who fn pas frags o n ur) :
    Changes l s (t.dmaGet who fn pas frags o n ur).2.2 ↔ Changes l s t :=
  changes_iff_of (by unfold State.dmaGet; simp) hl

@[simp] theorem changes_msix (hl : [.regs, .ev, .out] ⊆ l) (fn vec) : Changes l s (t.msix fn vec) ↔ Changes l s t :=
  changes_iff_of (by unfold State.msix; simp) hl

@[simp] theorem changes_dropRingParks (hl : [.regs, .xl] ⊆ l) : Changes l s t.dropRingParks ↔ Changes l s t :=
  changes_iff_of (by unfold State.dropRingParks; simp) hl

@[simp] theorem changes_ringHalt (hl : [.regs, .ev, .flt, .out, .xl, .rc] ⊆ l) (reason fn q idx ent) :
    Changes l s (t.ringHalt reason fn q idx ent) ↔ Changes l s t :=
  changes_iff_of (by unfold State.ringHalt; simp) hl

@[simp] theorem changes_failXlate (hl : [.regs, .xl, .rc] ⊆ l) (j) : Changes l s (t.failXlate j) ↔ Changes l s t :=
  changes_finishJob hl ..

@[simp] theorem changes_giveOut (hl : [.regs, .ctrs, .ev, .host, .xl, .rc] ⊆ l) (j) : Changes l s (t.giveOut j) ↔ Changes l s t :=
  changes_iff_of (by unfold State.giveOut; simp) hl

@[simp] theorem changes_jobAns (hl : [.regs, .ctrs, .ev, .host, .xl, .rc] ⊆ l) (j a) :
    Changes l s (t.jobAns j a) ↔ Changes l s t :=
  changes_iff_of (by unfold State.jobAns; split <;> simp) hl

@[simp] theorem changes_layFence (hl : [.rc] ⊆ l) (j a) : Changes l s (t.layFence j a) ↔ Changes l s t :=
  changes_iff_of (by unfold State.layFence; split <;> simp) hl

@[simp] theorem changes_withData {xl : State → Job → State} {k : Job → State → State}
    (hl : [.regs, .ctrs, .ev, .flt, .out, .xl, .rc] ⊆ l) (j ur) (hxl : ∀ u j, Changes l u (xl u j)) (hk : ∀ j u, Changes l u (k j u)) :
    Changes l s (t.withData j ur xl k) ↔ Changes l s t := by
  have hxl' := fun u j => changes_iff_of (s := s) (hxl u j) (List.Subset.refl l)
  have hget : [.regs, .ctrs, .ev, .xl] ⊆ l := List.Subset.trans (by decide) hl
  have hset : [.rc] ⊆ l := List.Subset.trans (by decide) hl
  have hhalt : [.regs, .ev, .flt, .out, .xl, .rc] ⊆ l := List.Subset.trans (by decide) hl
  unfold State.withData
  extract_lets who data n x fs
  have hdata (u j fr) : Changes l s (data u j fr) ↔ Changes l s u := by
    have hk' := fun j u => changes_iff_of (s := s) (hk j u) (List.Subset.refl l)
    simp only [data]
    split
    · rw [hk', changes_setJob hset]
    · split
      · rw [hk', changes_setJob hset, changes_dmaGet hget]
      · split
        · rw [changes_setJob hset, changes_dmaGet hget]
        · rw [hxl', changes_dmaGet hget]
  clear_value data
  have hx : Changes l s x.2.2 ↔ Changes l s t := changes_dmaGet hget ..
  split
  · exact changes_iff_of (hk j t) (List.Subset.refl l)
  · split
    · exact hdata ..
    · split
      · exact hx
      · split
        · rw [hxl', hx]
        · split
          · rw [changes_ringHalt hhalt, hx]
          · rw [hdata, hx]

@[simp] theorem changes_runJob
    (hl : [.regs, .ctrs, .tack, .ev, .flt, .out, .flash, .host, .tabs, .ts, .osp, .awl, .flow, .shp, .tally, .xl, .rc, .ddr, .st] ⊆ l)
    (q i ur is) : Changes l s (State.runJob q i ur is t) ↔ Changes l s t :=
  changes_iff_of (by
    unfold State.runJob
    split
    · exact .refl _ t
    next j _ =>
      split
      · simp
      · split
        · simp
        · split
          · simp
          · split
            · simp
            · refine (changes_withData (by simp) j ur (fun u j => by simp) fun j u => ?_).2 (.refl _ t)
              split <;> simp) hl

/-! ## Queues, functions and the host plane (R464 to R473, R489 to R493) -/

@[simp] theorem changes_enableQueue (hl : [.regs] ⊆ l) (kind fn q v) :
    Changes l s (t.enableQueue kind fn q v) ↔ Changes l s t :=
  changes_iff_of (by
    unfold State.enableQueue State.enableSq State.enableCq State.enableEr
    split <;> simp) hl

@[simp] theorem changes_disableCq (hl : [.regs, .ctrs, .xl, .rc] ⊆ l) (c) : Changes l s (t.disableCq c) ↔ Changes l s t :=
  changes_iff_of (by unfold State.disableCq; simp) hl

@[simp] theorem changes_cqMessage (hl : [.regs, .ev, .out, .rc] ⊆ l) (c) : Changes l s (t.cqMessage c) ↔ Changes l s t :=
  changes_iff_of (by unfold State.cqMessage; simp) hl

@[simp] theorem changes_level (hl : [.regs, .ev] ⊆ l) (f ix n b) : Changes l s (t.level f ix n b) ↔ Changes l s t :=
  changes_iff_of (by unfold State.level; simp) hl

@[simp] theorem changes_orphan (hl : [.osp, .rc] ⊆ l) (j) : Changes l s (State.orphan j t) ↔ Changes l s t :=
  changes_iff_of (by unfold State.orphan; simp) hl

@[simp] theorem changes_osOrphan (hl : [.osp] ⊆ l) (mine) : Changes l s (t.osOrphan mine) ↔ Changes l s t :=
  changes_iff_of (by unfold State.osOrphan; simp) hl

@[simp] theorem changes_flrJob
    (hl : [.regs, .ctrs, .tack, .ev, .flt, .out, .flash, .host, .tabs, .ts, .osp, .awl, .flow, .shp, .tally, .xl, .rc, .ddr, .st] ⊆ l)
    (j) : Changes l s (State.flrJob j t) ↔ Changes l s t :=
  changes_iff_of (by
    unfold State.flrJob
    dsimp only
    split
    · simp
    · split
      · simp
      · split
        · simp
        · split <;> simp) hl

@[simp] theorem changes_flrJobs
    (hl : [.regs, .ctrs, .tack, .ev, .flt, .out, .flash, .host, .tabs, .ts, .osp, .awl, .flow, .shp, .tally, .xl, .rc, .ddr, .st] ⊆ l)
    (f) : Changes l s (t.flrJobs f) ↔ Changes l s t :=
  changes_iff_of (by unfold State.flrJobs; simp) hl

@[simp] theorem changes_vfReset (hl : [.regs, .osp, .xl, .rc] ⊆ l) (f) : Changes l s (t.vfReset f) ↔ Changes l s t :=
  changes_iff_of (by unfold State.vfReset; simp) hl

@[simp] theorem changes_ringReset (hl : [.regs, .ctrs, .ev, .osp, .xl, .rc] ⊆ l) : Changes l s t.ringReset ↔ Changes l s t :=
  changes_iff_of (by unfold State.ringReset; simp) hl

@[simp] theorem changes_hostPlaneReset (hl : [.regs, .ctrs, .tack, .ev, .osp, .xl, .rc] ⊆ l) :
    Changes l s t.hostPlaneReset ↔ Changes l s t :=
  changes_iff_of (by unfold State.hostPlaneReset; simp) hl

/-! ## Translations that end without a page (R512 to R514) -/

@[simp] theorem changes_atEnd (hl : [.regs, .ev, .st] ⊆ l) (e t' whole) : Changes l s (t.atEnd e t' whole) ↔ Changes l s t :=
  changes_iff_of (by unfold State.atEnd; simp) hl

@[simp] theorem changes_threadFault (hl : [.regs, .ctrs, .ev, .st] ⊆ l) (e t' cause ea) :
    Changes l s (t.threadFault e t' cause ea) ↔ Changes l s t :=
  changes_iff_of (by unfold State.threadFault; simp) hl

@[simp] theorem changes_dmaEnd (hl : [.st] ⊆ l) (e t' j bad) : Changes l s (t.dmaEnd e t' j bad) ↔ Changes l s t :=
  changes_iff_of (by unfold State.dmaEnd; simp) hl

@[simp] theorem changes_entryFail (hl : [.regs, .xl, .rc] ⊆ l) (q i) : Changes l s (t.entryFail q i) ↔ Changes l s t :=
  changes_iff_of (by unfold State.entryFail; split <;> simp) hl

@[simp] theorem changes_rxFail (hl : [.regs, .ctrs, .ev, .host, .fab, .tally, .xl, .rc] ⊆ l) (q) :
    Changes l s (t.rxFail q) ↔ Changes l s t :=
  changes_iff_of (by unfold State.rxFail; split <;> simp) hl

@[simp] theorem changes_erFail (hl : [.regs, .ev] ⊆ l) (r) : Changes l s (t.erFail r) ↔ Changes l s t :=
  changes_iff_of (by unfold State.erFail State.erLost; split <;> simp) hl

@[simp] theorem changes_endXlate (hl : [.regs, .ctrs, .ev, .host, .fab, .tally, .xl, .rc, .st] ⊆ l) (w) :
    Changes l s (t.endXlate w) ↔ Changes l s t :=
  changes_iff_of (by
    unfold State.endXlate
    split
    case h_7 => split <;> simp
    all_goals simp) hl

@[simp] theorem changes_waitXlate (hl : [.regs, .ctrs, .ev, .host, .fab, .tally, .xl, .rc, .st] ⊆ l) (w) :
    Changes l s (t.waitXlate w) ↔ Changes l s t :=
  changes_iff_of (by
    unfold State.waitXlate
    dsimp only
    split <;> simp) hl

@[simp] theorem changes_priRefill (hl : [.regs, .ctrs, .ev, .host, .fab, .tally, .xl, .rc, .st] ⊆ l) (ws) :
    Changes l s (State.priRefill ws t) ↔ Changes l s t := by
  refine changes_iff_of ?_ hl
  induction ws generalizing t with
  | nil => exact .refl _ t
  | cons w r ih =>
    have ih' := fun u => changes_iff_of (s := t) (ih (t := u)) (List.Subset.refl _)
    unfold State.priRefill
    simp [ih']

/-! ## Device memory (R505 to R508) -/

@[simp] theorem changes_scrubPast (hl : [.regs, .ev, .ddr] ⊆ l) (o) : Changes l s (t.scrubPast o) ↔ Changes l s t :=
  changes_iff_of (by unfold State.scrubPast; simp) hl

@[simp] theorem changes_ddrCe (hl : [.regs, .ctrs, .ev, .flt, .ddr] ⊆ l) (o) : Changes l s (t.ddrCe o) ↔ Changes l s t :=
  changes_iff_of (by unfold State.ddrCe State.ceNoted; simp) hl

@[simp] theorem changes_withdraw (hl : [.regs, .ctrs, .ev, .pool] ⊆ l) (h) : Changes l s (State.withdraw h t) ↔ Changes l s t :=
  changes_iff_of (by unfold State.withdraw; simp) hl

/-! ## Events and counters (R524 to R535) -/

@[simp] theorem changes_writeRoute (hl : [.regs, .ev] ⊆ l) (src v) : Changes l s (t.writeRoute src v) ↔ Changes l s t :=
  changes_iff_of (by unfold State.writeRoute; simp) hl

@[simp] theorem changes_setMask (hl : [.ev] ⊆ l) (fn vec isOpen) : Changes l s (t.setMask fn vec isOpen) ↔ Changes l s t :=
  changes_iff_of (by unfold State.setMask; split <;> simp) hl

@[simp] theorem changes_sendUnmasked (hl : [.regs, .ev, .out] ⊆ l) (fn) : Changes l s (t.sendUnmasked fn) ↔ Changes l s t :=
  changes_iff_of (by unfold State.sendUnmasked; simp) hl

@[simp] theorem changes_readCounter (hl : [.ev, .out] ⊆ l) (fn user b n) :
    Changes l s (t.readCounter fn user b n) ↔ Changes l s t :=
  changes_iff_of (by unfold State.readCounter; simp) hl

@[simp] theorem changes_selectCounter (hl : [.regs, .ev] ⊆ l) (b n v) : Changes l s (t.selectCounter b n v) ↔ Changes l s t :=
  changes_iff_of (by unfold State.selectCounter; simp) hl

@[simp] theorem changes_settleAll (hl : [.ev] ⊆ l) : Changes l s t.settleAll ↔ Changes l s t :=
  changes_iff_of (by unfold State.settleAll State.settleBlock; simp) hl

@[simp] theorem changes_freeze (hl : [.regs, .ev] ⊆ l) (v) : Changes l s (t.freeze v) ↔ Changes l s t :=
  changes_iff_of (by unfold State.freeze; simp) hl

@[simp] theorem changes_bandwidth (hl : [.regs] ⊆ l) (win p) : Changes l s (State.bandwidth win p t) ↔ Changes l s t :=
  changes_iff_of (by unfold State.bandwidth; simp) hl

@[simp] theorem changes_writeWindow (hl : [.regs, .ev] ⊆ l) (v) : Changes l s (t.writeWindow v) ↔ Changes l s t :=
  changes_iff_of (by unfold State.writeWindow; simp) hl

/-! ## Commands -/

theorem touches_driverOk (fn) : Touches [.regs, .rc] (.driverOk fn) :=
  touches_done (fun _ => rfl) fun s => by
    rw [changes_onlyIf]
    refine ⟨fun _ => ?_, fun _ => .refl _ s⟩
    dsimp only
    split <;> split <;> simp

theorem touches_cqCoalTimer (c) : Touches [.regs, .ev, .out, .rc] (.cqCoalTimer c) :=
  touches_done (fun _ => rfl) fun s => by split <;> simp

theorem touches_rxFlushTimer (q) : Touches [.regs, .rc] (.rxFlushTimer q) :=
  touches_done (fun _ => rfl) fun s => by split <;> simp

theorem touches_injectFullTimeout (q n) : Touches [.regs, .xl, .rc] (.injectFullTimeout q n) :=
  touches_done (fun _ => rfl) fun s => by split <;> simp

theorem touches_retrainDone (fail) : Touches [.regs, .ctrs, .ev, .pace, .ddr] (.retrainDone fail) :=
  touches_done (fun _ => rfl) fun s => by split <;> simp

theorem touches_pageRetire : Touches [.regs, .ctrs, .tack, .ev, .flt, .pool, .ddr] .pageRetire :=
  touches_done (fun _ => rfl) fun s => by
    split
    · exact .refl _ s
    · dsimp only
      split <;> simp

end Sys2Proof.Machine

/-- Settles O57, as O54: each command completes with an effect built from operations whose frames are the lemmas above. -/
theorem hostAndCounterFrames : Obligations.HostAndCounterFrames :=
  ⟨touches_driverOk,
    fun _ _ _ _ => touches_done (fun _ => rfl) fun _ => by simp,
    fun _ => touches_done (fun _ => rfl) fun _ => by simp,
    fun _ => touches_done (fun _ => rfl) fun _ => by simp,
    fun _ _ => touches_done (fun _ => rfl) fun _ => by simp,
    touches_cqCoalTimer, touches_rxFlushTimer, touches_injectFullTimeout,
    fun _ _ _ _ => touches_done (fun _ => rfl) fun _ => by simp,
    touches_done (fun _ => rfl) fun _ => by simp,
    fun _ _ => touches_done (fun _ => rfl) fun _ => by simp,
    fun _ => touches_done (fun _ => rfl) fun _ => by simp,
    fun _ => touches_done (fun _ => rfl) fun _ => by simp,
    touches_done (fun _ => rfl) fun _ => by simp,
    fun _ _ => touches_done (fun _ => rfl) fun _ => by simp,
    touches_retrainDone,
    fun _ _ _ => touches_done (fun _ => rfl) fun _ => by simp,
    touches_pageRetire,
    touches_done (fun _ => rfl) fun _ => by simp,
    fun _ _ => touches_done (fun _ => rfl) fun _ => by simp,
    fun _ _ _ => touches_done (fun _ => rfl) fun _ => by simp,
    fun _ _ _ _ => touches_done (fun _ => rfl) fun _ => by simp,
    fun _ _ _ => touches_done (fun _ => rfl) fun _ => by simp,
    fun _ => touches_done (fun _ => rfl) fun _ => by simp,
    touches_done (fun _ => rfl) fun _ => by simp,
    fun _ => touches_done (fun _ => rfl) fun _ => by simp⟩

end

/-! PROOFS. What an instruction of the running thread does once it stands at its word (Specs.Completion).
-/

section
open Sys2Proof Sys2Proof.Machine
namespace Sys2Proof.Machine

/-- An instruction whose command runs `g` has the effect `f` wherever `p` makes the two agree. -/
theorem runsOp_of {c : Nat → Instr} {op : Nat} {p : Nat → Nat → Nat → State → Prop}
    {f g : Nat → Nat → Nat → State → State}
    (h : ∀ e s, exec (c e) s = done (fun s => s.runOp e op fun t i s => g e t i s) s)
    (hg : ∀ e t i u, p e t i u → g e t i u = f e t i u) : RunsOp c op p f :=
  fun e _ _ s _ hr ho hp => does_of (h e s) ((State.runOp_of hr ho _).trans (by rw [hg _ _ _ _ hp]))

/-- An instruction whose effect on the state brought up to now is `v` leaves `v`, brought up to now again. -/
theorem does_runOp {c : Instr} {e t i op : Nat} {s u v : State} {g : Nat → Nat → State → State}
    (h : ∀ s, exec c s = done (fun s => s.runOp e op g) s) (hr : Running e t i s u) (ho : insOp i = op)
    (hg : g t i u = v) : Does c s (v.settle e) :=
  does_of (h s) ((State.runOp_of hr ho _).trans (by rw [hg]))

/-- An operation on two registers runs in its well-formed words. -/
theorem State.aluReg_of {op e t i : Nat} {s : State} (h : regForm i = true ∧ codeWritable (insD i) = true) :
    s.aluReg op e t i = s.alu e t i op (s.opRead e t (insB i)) :=
  State.formed_of (by rw [h.1, h.2]; rfl)

/-- An operation on a register and a constant runs in its well-formed words. -/
theorem State.aluImm_of {op e t i : Nat} {s : State} (h : immForm i = true ∧ codeWritable (insD i) = true) :
    s.aluImm op e t i = s.alu e t i op (insImm i) :=
  State.formed_of (by rw [h.1, h.2]; rfl)

end Sys2Proof.Machine

/-- Settles O44: each command runs `aluReg` or `aluImm` of its operation number. -/
theorem arithmeticCompletes : Obligations.ArithmeticCompletes :=
  ⟨runsOp_of (fun _ _ => rfl) fun _ _ _ _ => State.aluReg_of,
    runsOp_of (fun _ _ => rfl) fun _ _ _ _ => State.aluReg_of,
    runsOp_of (fun _ _ => rfl) fun _ _ _ _ => State.aluReg_of,
    runsOp_of (fun _ _ => rfl) fun _ _ _ _ => State.aluReg_of,
    runsOp_of (fun _ _ => rfl) fun _ _ _ _ => State.aluReg_of,
    runsOp_of (fun _ _ => rfl) fun _ _ _ _ => State.aluReg_of,
    runsOp_of (fun _ _ => rfl) fun _ _ _ _ => State.aluReg_of,
    runsOp_of (fun _ _ => rfl) fun _ _ _ _ => State.aluReg_of,
    runsOp_of (fun _ _ => rfl) fun _ _ _ _ => State.aluReg_of,
    runsOp_of (fun _ _ => rfl) fun _ _ _ _ => State.aluReg_of,
    runsOp_of (fun _ _ => rfl) fun _ _ _ _ => State.aluReg_of,
    runsOp_of (fun _ _ => rfl) fun _ _ _ _ => State.aluReg_of,
    runsOp_of (fun _ _ => rfl) fun _ _ _ _ => State.aluReg_of,
    runsOp_of (fun _ _ => rfl) fun _ _ _ _ => State.aluReg_of,
    runsOp_of (fun _ _ => rfl) fun _ _ _ _ => State.aluImm_of,
    runsOp_of (fun _ _ => rfl) fun _ _ _ _ => State.aluImm_of,
    runsOp_of (fun _ _ => rfl) fun _ _ _ _ => State.aluImm_of,
    runsOp_of (fun _ _ => rfl) fun _ _ _ _ => State.aluImm_of,
    runsOp_of (fun _ _ => rfl) fun _ _ _ _ => State.aluImm_of,
    runsOp_of (fun _ _ => rfl) fun _ _ _ _ => State.aluImm_of,
    runsOp_of (fun _ _ => rfl) fun _ _ _ _ => State.aluImm_of,
    runsOp_of (fun _ _ => rfl) fun _ _ _ _ => State.aluImm_of,
    runsOp_of (fun _ _ => rfl) fun _ _ _ _ => State.aluImm_of,
    runsOp_of (fun _ _ => rfl) fun _ _ _ _ => State.aluImm_of,
    runsOp_of (fun _ _ => rfl) fun _ _ _ _ => State.aluImm_of,
    runsOp_of (fun _ _ => rfl) fun _ _ _ _ => State.aluImm_of,
    runsOp_of (fun _ _ => rfl) fun _ _ _ _ => State.aluImm_of,
    runsOp_of (fun _ _ => rfl) fun _ _ _ _ => State.aluImm_of⟩

end

/-! PROOFS. Moves, loads, stores and branches of a running thread (O45).
-/

section
open Sys2Proof Sys2Proof.Machine
namespace Sys2Proof.Machine

/-- An access that is done hands its bytes on. -/
@[simp] theorem State.accEnd_ok (e t : Nat) (bs : List Byte) (s : State) (k : List Byte → State → State) :
    State.accEnd e t (.ok bs s) k = k bs s := rfl

/-- A compare and branch of a well-formed word jumps or steps on. -/
theorem State.cmpBranch_of {f : Nat → Nat → Bool} {e t i : Nat} {s : State} (h : cmpForm i = true) :
    s.cmpBranch f e t i = s.branch e t i (f (s.opRead e t (insD i)) (s.opRead e t (insA i))) :=
  State.formed_of h

/-- A branch retires to the target where its condition holds, and to the next word otherwise. -/
theorem State.branch_eq {e t i : Nat} {s : State} {b : Bool} {p : Prop} [Decidable p] (h : b = true ↔ p) :
    s.branch e t i b = s.retireTo e t (if p then (s.thr e t).pc + insImm i else (s.thr e t).pc + 1) := by
  unfold State.branch
  exact congrArg (s.retireTo e t) (if_congr h rfl rfl)

theorem runs_li : RunsOp .li 0x20 (fun _ _ i _ => codeWritable (insD i) = true)
    (fun e t i u => u.result e t i (sext 17 (bits i 16 0))) :=
  runsOp_of (fun _ _ => rfl) fun _ _ _ _ => State.formed_of

theorem runs_lui : RunsOp .lui 0x21 (fun _ _ i _ => codeWritable (insD i) = true ∧ bit i 16 = false)
    (fun e t i u => u.result e t i (w64 (u.opRead e t (insD i) <<< 16) ||| bits i 15 0)) :=
  runsOp_of (fun _ _ => rfl) fun _ _ _ _ h => State.formed_of (by rw [h.1, h.2]; rfl)

theorem does_ld {e t i : Nat} {s u v : State} {bs : List Byte} (hr : Running e t i s u) (ho : insOp i = 0x28)
    (hf : immForm i = true) (hd : codeWritable (insD i) = true)
    (ha : u.readAligned e t (u.thr e t).answered (insSize i) (u.memAddr e t i) (insSize i) = .ok bs v) :
    Does (.ld e) s ((v.result e t i (ofLe bs)).settle e) := by
  refine does_runOp (fun _ => rfl) hr ho ?_
  unfold State.insLd
  rw [State.formed_of (by rw [hf, hd]; rfl), ha, State.accEnd_ok]

theorem does_st {e t i : Nat} {s u v : State} {bs : List Byte} (hr : Running e t i s u) (ho : insOp i = 0x29)
    (hf : immForm i = true) (hal : u.memAddr e t i % insSize i = 0)
    (ha : u.memWrite e t (u.thr e t).answered (u.memAddr e t i) (leBytes (u.opRead e t (insD i)) (insSize i)) = .ok bs v) :
    Does (.st e) s ((v.retireIns e t).settle e) := by
  refine does_runOp (fun _ => rfl) hr ho ?_
  unfold State.insSt
  rw [State.formed_of hf]
  dsimp only
  rw [if_neg (not_not.mpr hal), ha, State.accEnd_ok]

theorem runs_bf : RunsOp .bf 0x34 (fun _ _ i _ => bits (insD i) 5 3 = 0 ∧ insA i = 0x6D) (fun e t i u => u.retireTo e t
    (if u.flag e t (bits (insD i) 2 0) = bit (insD i) 6 then (u.thr e t).pc + insImm i else (u.thr e t).pc + 1)) :=
  runsOp_of (fun _ _ => rfl) fun _ _ _ _ h =>
    (State.formed_of (by rw [h.1, h.2]; rfl)).trans (State.branch_eq beq_iff_eq)

end Sys2Proof.Machine

/-- Settles O45: each instruction in its well-formed words, the four compare and branch instructions by their one meaning. -/
theorem movesAndBranchesComplete : Obligations.MovesAndBranchesComplete :=
  ⟨runsOp_of (fun _ _ => rfl) fun _ _ _ _ => State.formed_of,
    runs_li, runs_lui,
    fun _ _ _ _ _ _ _ => does_ld, fun _ _ _ _ _ _ _ => does_st,
    runsOp_of (fun _ _ => rfl) fun _ _ _ _ h => (State.cmpBranch_of h).trans (State.branch_eq beq_iff_eq),
    runsOp_of (fun _ _ => rfl) fun _ _ _ _ h => (State.cmpBranch_of h).trans (State.branch_eq bne_iff_ne),
    runsOp_of (fun _ _ => rfl) fun _ _ _ _ h => (State.cmpBranch_of h).trans (State.branch_eq decide_eq_true_iff),
    runsOp_of (fun _ _ => rfl) fun _ _ _ _ h => (State.cmpBranch_of h).trans (State.branch_eq decide_eq_true_iff),
    runs_bf,
    runsOp_of (fun _ _ => rfl) fun _ _ _ _ _ => rfl,
    runsOp_of (fun _ _ => rfl) fun _ _ _ _ _ => rfl,
    runsOp_of (fun _ _ => rfl) fun _ _ _ _ => State.formed_of⟩

end

/-! PROOFS. Waits, signals, channels and the elements of long instructions (O46, O48).
-/

section
open Sys2Proof Sys2Proof.Machine
namespace Sys2Proof.Machine

/-- A WAIT of a well-formed word whose mask is known looks for an event once its deadline is set. -/
theorem State.insWait_of {e t i : Nat} {u : State} (hf : regForm i = true) (hd : codeWritable (insD i) = true)
    (hm : u.waitMask e t i < 2 ^ 19) :
    u.insWait e t i = match (u.setDeadline e t (u.opRead e t (insB i))).waitFound e t i with
      | some ev => (u.setDeadline e t (u.opRead e t (insB i))).waitEvent e t i (u.waitMask e t i) ev
      | none =>
        if u.opRead e t (insB i) = 0 ∧ u.waitMask e t i = 0 then
          let w := ((u.setDeadline e t (u.opRead e t (insB i))).switchOut e t).waitTimeout e t i
          w.setEng e fun g => { g with cur := w.firstReady e (t + 1) <|> some t }
        else if u.opRead e t (insB i) = 0
            ∨ ((u.setDeadline e t (u.opRead e t (insB i))).thr e t).dl
              ≤ (u.setDeadline e t (u.opRead e t (insB i))).clock.tick then
          (u.setDeadline e t (u.opRead e t (insB i))).waitTimeout e t i
        else ((u.setDeadline e t (u.opRead e t (insB i))).longStall e t .wait).setThr e t fun h =>
          { h with mask := u.waitMask e t i } :=
  (State.formed_of (by rw [hf, hd, decide_eq_true hm]; rfl)).trans rfl

theorem does_wait_event {e t i b : Nat} {s u v : State} (hr : Running e t i s u) (ho : insOp i = 0x40)
    (hf : regForm i = true) (hd : codeWritable (insD i) = true) (hm : u.waitMask e t i < 2 ^ 19)
    (hv : v = u.setDeadline e t (u.opRead e t (insB i))) (hb : v.waitFound e t i = some b) :
    Does (.wait e) s ((v.waitEvent e t i (u.waitMask e t i) b).settle e) := by
  refine does_runOp (fun _ => rfl) hr ho ?_
  rw [State.insWait_of hf hd hm, ← hv, hb]

theorem does_wait_timeout {e t i : Nat} {s u v : State} (hr : Running e t i s u) (ho : insOp i = 0x40)
    (hf : regForm i = true) (hd : codeWritable (insD i) = true) (hm : u.waitMask e t i < 2 ^ 19)
    (hv : v = u.setDeadline e t (u.opRead e t (insB i))) (hn : v.waitFound e t i = none)
    (h0 : u.opRead e t (insB i) ≠ 0) (hdl : (v.thr e t).dl ≤ v.clock.tick) :
    Does (.wait e) s ((v.waitTimeout e t i).settle e) := by
  refine does_runOp (fun _ => rfl) hr ho ?_
  rw [State.insWait_of hf hd hm, ← hv, hn]
  dsimp only
  rw [if_neg fun h => h0 h.1, if_pos (Or.inr hdl)]

theorem runs_chopen : RunsOp .chopen 0x48 (fun e _ i u => immForm i = true ∧ u.chState e (bits i 3 0) = 0) (fun e t i u =>
    ((List.range 8).foldl (fun w k => w.setThr e k fun h => { h with lost := setBit h.lost (bits i 3 0) false })
      ((u.chEmpty e (bits i 3 0)).setEng e fun g => { g with
        chan := g.chan.put 0 (bits i 3 0) 1, owner := g.owner.put 0 (bits i 3 0) t })).unitDone e t true) :=
  runsOp_of (fun _ _ => rfl) fun _ _ _ _ h => (State.formed_of h.1).trans (if_neg (not_not.mpr h.2))

theorem runs_chw : RunsOp .chw 0x49 (fun e t i u => immForm i = true ∧ u.chMine e t (u.chOf e t i) = true) (fun e t i u =>
    (u.setEng e fun g => { g with
      words := g.words.put 0 (8 * u.chOf e t i + bits i 2 0) (u.opRead e t (insD i)) }).unitDone e t true) :=
  runsOp_of (fun _ _ => rfl) fun _ _ _ _ h => (State.formed_of h.1).trans (if_pos h.2)

theorem runs_chpost : RunsOp .chpost 0x4A (fun e t i u => immForm i = true ∧ u.chMine e t (u.chOf e t i) = true)
    (fun e t i u =>
      (u.setEng e fun g => { g with chan := g.chan.put 0 (u.chOf e t i) 2, owner := g.owner.erase (u.chOf e t i) }).unitDone
        e t true) :=
  runsOp_of (fun _ _ => rfl) fun _ _ _ _ h => (State.formed_of h.1).trans (if_pos h.2)

theorem runs_chr : RunsOp .chr 0x4B
    (fun e t i u => immForm i = true ∧ codeWritable (insD i) = true ∧ u.chState e (u.chOf e t i) = 2)
    (fun e t i u => u.unitResult e t i ((u.eng e).words.at 0 (8 * u.chOf e t i + bits i 2 0)) true) :=
  runsOp_of (fun _ _ => rfl) fun _ _ _ _ ⟨hf, hd, h2⟩ => (State.formed_of (by rw [hf, hd]; rfl)).trans (if_pos h2)

theorem runs_chfree : RunsOp .chfree 0x4C (fun e t i u => immForm i = true ∧ u.chState e (u.chOf e t i) = 2)
    (fun e t i u => (u.chEmpty e (u.chOf e t i)).unitDone e t true) :=
  runsOp_of (fun _ _ => rfl) fun _ _ _ _ h => (State.formed_of h.1).trans (if_pos h.2)

end Sys2Proof.Machine

/-- Settles O46: each instruction in the state of its event or of its channel. -/
theorem waitsAndChannelsComplete : Obligations.WaitsAndChannelsComplete :=
  ⟨fun _ _ _ _ _ _ _ => does_wait_event, fun _ _ _ _ _ _ => does_wait_timeout,
    runsOp_of (fun _ _ => rfl) fun _ _ _ _ => State.formed_of,
    runs_chopen, runs_chw, runs_chpost, runs_chr, runs_chfree⟩

namespace Sys2Proof.Machine

/-- The three writable operands of a long instruction's word. -/
theorem longForm_of {i : Nat} (hf : regForm i = true) (hd : codeWritable (insD i) = true)
    (ha : codeWritable (insA i) = true) (hb : codeWritable (insB i) = true) :
    (regForm i && codeWritable (insD i) && codeWritable (insA i) && codeWritable (insB i)) = true := by
  rw [hf, hd, ha, hb]; rfl

theorem does_crc {e t i b n a : Nat} {bs : List Byte} {s u v w : State} (hr : Running e t i s u) (ho : insOp i = 0x68)
    (hf : regForm i = true) (hd : codeWritable (insD i) = true) (ha : codeWritable (insA i) = true)
    (hb : codeWritable (insB i) = true) (eb : b = u.opRead e t (insB i)) (b0 : b ≠ 0) (en : n = min 64 b)
    (ea : a = u.opRead e t (insA i)) (hm : u.memRead e t (u.thr e t).answered a n = .ok bs v)
    (ew : w = ((v.opWrite e t (insD i) (crcRun polyC (v.opRead e t (insD i) % 2 ^ 32) bs)).opWrite e t (insA i)
      (a + n)).opWrite e t (insB i) (b - n)) :
    Does (.crc e) s ((if b = n then w.unitDone e t true else w.elementEnd e t).settle e) := by
  refine does_runOp (fun _ => rfl) hr ho ?_
  unfold State.insCrc
  rw [State.formed_of (longForm_of hf hd ha hb)]
  dsimp only
  rw [← eb, if_neg b0, ← en, ← ea, hm, State.accEnd_ok, ← ew]

theorem runs_crc_of_none : RunsOp .crc 0x68 (fun e t i u => regForm i = true ∧ codeWritable (insD i) = true
    ∧ codeWritable (insA i) = true ∧ codeWritable (insB i) = true ∧ u.opRead e t (insB i) = 0)
    (fun e t _ u => u.retireIns e t) :=
  runsOp_of (fun _ _ => rfl) fun _ _ _ _ ⟨hf, hd, ha, hb, h0⟩ =>
    (State.formed_of (longForm_of hf hd ha hb)).trans (if_pos h0)

theorem does_bcopy {e t i b n a d : Nat} {bs x : List Byte} {s u v y w : State} (hr : Running e t i s u)
    (ho : insOp i = 0x69) (hf : regForm i = true) (hd : codeWritable (insD i) = true) (ha : codeWritable (insA i) = true)
    (hb : codeWritable (insB i) = true) (eb : b = u.opRead e t (insB i)) (b0 : b ≠ 0) (en : n = min 64 b)
    (ea : a = u.opRead e t (insA i)) (ed : d = u.opRead e t (insD i))
    (hm : u.memRead e t (u.thr e t).answered a n = .ok bs v)
    (hw : v.memWrite e t (u.thr e t).answered d bs = .ok x y)
    (ew : w = ((y.opWrite e t (insA i) (a + n)).opWrite e t (insD i) (d + n)).opWrite e t (insB i) (b - n)) :
    Does (.bcopy e) s ((if b = n then w.retireIns e t else w.elementEnd e t).settle e) := by
  refine does_runOp (fun _ => rfl) hr ho ?_
  unfold State.insBcopy
  rw [State.formed_of (longForm_of hf hd ha hb)]
  dsimp only
  rw [← eb, if_neg b0, ← en, ← ea, ← ed, hm]
  dsimp only [Acc.bind]
  rw [hw, State.accEnd_ok, ← ew]

/-- An LWALK of a well-formed word reads the element at its pointer and looks at its key. -/
theorem State.insLwalk_of {e t i d : Nat} {ans : Bool} {bs : List Byte} {u v : State} (hf : regForm i = true)
    (hd : codeWritable (insD i) = true) (hb : codeWritable (insB i) = true) (ed : d = u.opRead e t (insD i)) (d0 : d ≠ 0)
    (hm : u.readAligned e t ans 8 d 16 = .ok bs v) :
    u.insLwalk e t i ans = if bits (ofLe bs) 127 64 = v.opRead e t (insA i) then v.unitDone e t true
      else if v.opRead e t (insB i) = 0 then (v.setFlag e t flagTo true).unitDone e t false
      else ((v.opWrite e t (insD i) (bits (ofLe bs) 63 0)).opWrite e t (insB i) (v.opRead e t (insB i) - 1)).elementEnd
        e t := by
  unfold State.insLwalk
  rw [State.formed_of (by rw [hf, hd, hb]; rfl)]
  dsimp only
  rw [← ed, if_neg d0, hm, State.accEnd_ok]

theorem does_lwalk_found {e t i d k : Nat} {bs : List Byte} {s u v : State} (hr : Running e t i s u)
    (ho : insOp i = 0x6A) (hf : regForm i = true) (hd : codeWritable (insD i) = true) (hb : codeWritable (insB i) = true)
    (ed : d = u.opRead e t (insD i)) (d0 : d ≠ 0) (hm : u.readAligned e t (u.thr e t).answered 8 d 16 = .ok bs v)
    (ek : k = ofLe bs) (hk : bits k 127 64 = v.opRead e t (insA i)) :
    Does (.lwalk e) s ((v.unitDone e t true).settle e) := by
  refine does_runOp (fun _ => rfl) hr ho ?_
  rw [State.insLwalk_of hf hd hb ed d0 hm, ← ek, if_pos hk]

theorem does_lwalk_next {e t i d k b : Nat} {bs : List Byte} {s u v : State} (hr : Running e t i s u)
    (ho : insOp i = 0x6A) (hf : regForm i = true) (hd : codeWritable (insD i) = true) (hb : codeWritable (insB i) = true)
    (ed : d = u.opRead e t (insD i)) (d0 : d ≠ 0) (hm : u.readAligned e t (u.thr e t).answered 8 d 16 = .ok bs v)
    (ek : k = ofLe bs) (hk : bits k 127 64 ≠ v.opRead e t (insA i)) (eb : b = v.opRead e t (insB i)) (b0 : b ≠ 0) :
    Does (.lwalk e) s
      ((((v.opWrite e t (insD i) (bits k 63 0)).opWrite e t (insB i) (b - 1)).elementEnd e t).settle e) := by
  refine does_runOp (fun _ => rfl) hr ho ?_
  rw [State.insLwalk_of hf hd hb ed d0 hm, ← ek, if_neg hk, ← eb, if_neg b0]

theorem does_hins {e t i h k j c : Nat} {hd b0 x : List Byte} {s u v y z : State} (hr : Running e t i s u)
    (ho : insOp i = 0x6B) (hf : regForm i = true) (hD : insD i < 30) (hB : codeWritable (insB i) = true)
    (hm : u.readAligned e t (u.thr e t).answered 8 (u.opRead e t (insA i)) 32 = .ok hd v) (eh : h = ofLe hd)
    (h1 : bits h 127 70 = 0) (h2 : bits h 255 192 = 0) (ek : k = v.opRead e t (insD i))
    (h3 : v.opRead e t (insD i + 2) = 2 ^ 64 - 1)
    (ec : c = (State.hashPair (bits h 159 128) (bits h 191 160) (leBytes k 8) (bits h 69 64)).1)
    (hk : v.bucketRead e t (u.thr e t).answered (bits h 63 0) c = .ok b0 y) (hj : State.freeSlot b0 = some j)
    (hw : y.memWrite e t (u.thr e t).answered (w64 (bits h 63 0 + 64 * c + 16 * j))
      (leBytes (k + v.opRead e t (insD i + 1) * 2 ^ 64) 16) = .ok x z) :
    Does (.hins e) s ((z.unitDone e t true).settle e) := by
  refine does_runOp (fun _ => rfl) hr ho ?_
  unfold State.insHins
  rw [State.formed_of (by rw [hf, decide_eq_true hD, hB]; rfl), hm, State.accEnd_ok]
  dsimp only
  rw [← eh, if_neg (by rw [h1, h2]; decide), ← ek, if_pos h3, List.headD_cons, ← ec, hk, State.accEnd_ok, hj]
  dsimp only
  rw [hw, State.accEnd_ok]

end Sys2Proof.Machine

/-- Settles O48: each long instruction performs its element, continuing or ending as its count or its key says. -/
theorem longInstructionsComplete : Obligations.LongInstructionsComplete :=
  ⟨fun _ _ _ _ _ _ _ _ _ _ _ => does_crc, runs_crc_of_none, fun _ _ _ _ _ _ _ _ _ _ _ _ _ _ => does_bcopy,
    fun _ _ _ _ _ _ _ _ _ => does_lwalk_found, fun _ _ _ _ _ _ _ _ _ _ => does_lwalk_next,
    fun _ _ _ _ _ _ _ _ _ _ _ _ _ _ _ => does_hins⟩

end

/-! PROOFS. Exceptions, microcode and the ends of stalls and DMAs (O49).
-/

section
open Sys2Proof Sys2Proof.Machine
namespace Sys2Proof.Machine

/-- The running thread of an engine does the effect, whatever its dispatch entry holds (R430, R450). -/
theorem State.runIns_of_ready {e t : Nat} {s u : State} (he : e < 32) (hup : s.enginesUp = true) (hu : u = s.settle e)
    (hc : (u.eng e).cur = some t) (hr : u.threadReady e t = true) (is : Nat → Bool) (f : Nat → Nat → State → State)
    (hi : is (insOp (u.instrAt e t)) = true) : s.runIns e is f = (f t (u.instrAt e t) u).settle e := by
  have hf : (u.eng e).cur.filter (u.threadReady e) = some t := by rw [hc]; exact if_pos hr
  unfold State.runIns
  rw [if_neg (by simp [he, hup])]
  dsimp only
  rw [← hu, hf]
  exact if_pos hi

theorem does_illegalOpcode {e t i : Nat} {s u : State} (he : e < 32) (hup : s.enginesUp = true) (hu : u = s.settle e)
    (hc : (u.eng e).cur = some t) (hr : u.threadReady e t = true) (hi : u.instrAt e t = i)
    (ho : opcodeListed (insOp i) = false ∨ s.dispatched (insOp i) = false) :
    Does (.illegalOpcode e) s ((u.illegal e t).settle e) := by
  refine does_of_effect (fun _ => rfl) ?_
  refine State.runIns_of_ready he hup hu hc hr _ (fun t _ s => s.illegal e t) ?_
  rw [hi, Bool.or_eq_true, Bool.not_eq_true', Bool.not_eq_true']
  exact ho

theorem does_customerOpcode {e t i : Nat} {s u : State} (hr : Running e t i s u) (ho : 0xC0 ≤ insOp i) :
    Does (.customerOpcode e) s ((u.microStep e t (u.thr e t).answered).settle e) := by
  obtain ⟨_, _, _, _, _, _, hd⟩ := id hr
  refine does_of_effect (fun _ => rfl) ?_
  refine State.runIns_of hr _ (fun t _ s => s.microStep e t (s.thr e t).answered) ?_
  rw [hd, decide_eq_true ho]; rfl

theorem does_machineCheck {e t a : Nat} {tree : Bool} {s u : State} (he : e < 32) (hup : s.enginesUp = true)
    (hu : u = s.settle e) (hc : (u.eng e).cur = some t) (hr : u.threadReady e t = true) (ha : a < 65536) :
    Does (.machineCheck e a tree) s ((u.machineCheck e t a tree).settle e) := by
  refine does_of_effect (fun _ => rfl) ?_
  refine (onlyIf_of _ _ (decide_eq_true ha)).trans ?_
  exact State.runIns_of_ready he hup hu hc hr _ (fun t _ s => s.machineCheck e t a tree) rfl

theorem does_waitDeadline {e t : Nat} {s : State} (hup : s.enginesUp = true) (he : e < 32) (ht : t < 8)
    (hw : (s.thr e t).stall = .wait ∨ (s.thr e t).stall = .dmaw) (hdl : (s.thr e t).dl ≤ s.clock.tick) :
    Does (.waitDeadline e t) s (s.endStall e t) := by
  refine does_of_effect (fun _ => rfl) ?_
  exact onlyIf_of _ _ (by simp [hup, he, ht, hw, hdl])

theorem does_stallEnd {e t : Nat} {s : State} (hup : s.enginesUp = true) (he : e < 32) (ht : t < 8)
    (hw : (s.thr e t).stall = .wait ∨ (s.thr e t).stall = .dmaw ∨ (s.thr e t).stall = .unit)
    (hf : s.waiting (.thread e t) = false) : Does (.stallEnd e t) s (s.endStall e t) := by
  refine does_of_effect (fun _ => rfl) ?_
  exact onlyIf_of _ _ (by simp [hup, he, ht, hf, hw, or_assoc])

theorem does_dmaDone {e t tag : Nat} {s : State} (hup : s.enginesUp = true) (he : e < 32) (ht : t < 8)
    (hf : s.waiting (.tag e (16 * t + tag)) = false) : Does (.dmaDone e t tag) s ((s.dmaRun e t tag).settle e) := by
  refine does_of_effect (fun _ => rfl) ?_
  exact onlyIf_of _ _ (by simp [hup, he, ht, hf])

/-! ### The microcode words of the engines (R454) -/

/-- The microcode store and the addresses of its bad words. -/
def State.microWords (s : State) : Map Nat × List Nat := (s.st.ucode, s.st.badWord)

theorem State.microWords_congr {s t : State} (h : t.st = s.st) : t.microWords = s.microWords := by
  unfold State.microWords; rw [h]

theorem State.microWords_setThr (s : State) (e t : Nat) (f : Thread → Thread) :
    (s.setThr e t f).microWords = s.microWords := rfl

theorem State.microWords_setEng (s : State) (e : Nat) (f : Engine → Engine) :
    (s.setEng e f).microWords = s.microWords := rfl

theorem State.microWords_settleThread (e : Nat) (s : State) (t : Nat) :
    (settleThread e s t).microWords = s.microWords := by
  unfold State.settleThread
  dsimp only
  split_ifs <;> simp [State.microWords, State.setThr, State.clearStep]

theorem State.microWords_showWaiting (s : State) (e : Nat) : (s.showWaiting e).microWords = s.microWords := by
  unfold State.showWaiting
  dsimp only
  split_ifs <;> simp [State.microWords, State.setEng]

/-- Bringing an engine up to now leaves the microcode as it is. -/
theorem State.microWords_settle (s : State) (e : Nat) : (s.settle e).microWords = s.microWords := by
  have hthreads : ((List.range 8).foldl (settleThread e) s).microWords = s.microWords := by
    generalize List.range 8 = l
    induction l generalizing s with
    | nil => rfl
    | cons t l ih => rw [List.foldl_cons, ih, State.microWords_settleThread]
  unfold State.settle
  dsimp only
  rw [State.microWords_showWaiting, ← hthreads]
  split
  · rfl
  · split
    · exact State.microWords_setEng ..
    · rfl

theorem State.microWords_recovered (s : State) (die unit cause : Nat) :
    (s.recovered die unit cause).microWords = s.microWords := by
  unfold State.recovered
  split
  · rfl
  · exact State.microWords_congr (by simp)

/-- A word found good is bad no longer, and no word changes. -/
theorem State.microWords_wordGood (a : Nat) (s : State) :
    (s.wordGood a).microWords = (s.st.ucode, s.st.badWord.filter (· != a)) := by
  unfold State.wordGood
  dsimp only
  refine (forEach_keeps State.microWords _ (fun n u => ?_) _ _).trans (State.microWords_recovered ..)
  split_ifs
  · exact State.microWords_setThr ..
  · rfl

theorem microwordRewrite_effect {a : Nat} {s : State} (hp : s.powered = true) (hb : s.st.badWord.contains a = true) :
    Completes (.microwordRewrite a) s fun t =>
      t.st.ucode.at 0 a = s.st.copy.at 0 (key2 23 a) ∧ t.st.badWord.contains a = false := by
  refine State.completes_of_effect (fun _ => rfl) ?_
  rw [onlyIf_of _ _ (by rw [hp, hb]; rfl)]
  dsimp only
  generalize hu : forEach _ _ _ = u
  have hw : u.microWords = (s.st.ucode.put 0 a (s.st.copy.at 0 (key2 23 a)), s.st.badWord.filter (· != a)) := by
    rw [← hu, forEach_keeps State.microWords, State.microWords_wordGood]
    intro e u
    split_ifs
    · exact State.microWords_settle u e
    · rfl
  obtain ⟨hucode, hbad⟩ := Prod.mk.inj hw
  rw [hucode, hbad]
  exact ⟨Map.at_put_self .., by simp⟩

end Sys2Proof.Machine

/-- Settles O49: exceptions and ends by the running thread or the condition of their command, the rewrite by the microcode words
that bringing the engines up to now leaves alone. -/
theorem exceptionsAndMicrocodeComplete : Obligations.ExceptionsAndMicrocodeComplete :=
  ⟨runsOp_of (fun _ _ => rfl) fun _ _ _ _ => State.formed_of, runsOp_of (fun _ _ => rfl) fun _ _ _ _ => State.formed_of,
    fun _ _ _ _ _ => does_illegalOpcode, fun _ _ _ _ _ => does_customerOpcode, fun _ _ _ _ _ _ => does_machineCheck,
    fun _ _ => microwordRewrite_effect, fun _ _ _ => does_waitDeadline, fun _ _ _ => does_stallEnd,
    fun _ _ _ _ => does_dmaDone⟩

end

/-! PROOFS. Entries that change tables keep their order on a queue, whatever the premises of a run say of an entry: the
counterexample to the runs of the ring operations.
-/

section
open Sys2Proof Sys2Proof.Machine Sys2Proof.Machine.State
namespace Sys2Proof.Machine.State

/-- A started TABLE_DELETE of SQ 0, at entry `i`. -/
def deleteJob (i : Nat) : Job := { q := 0, idx := i, ent := 4, cq := 0, fn := 0, pas := 0, at_ := 0 }

/-- Two TABLE_DELETEs of one queue are started and neither has run. -/
def deletesInOrder : State :=
  { (State.reset.wr R.FEAT_ACCEPT [0] 0xFFFFFFFF).set F.FEAT_CTRL_DRIVER_OK [] 1 with
    mode := .run, rc.jobs := [deleteJob 0, deleteJob 1] }

/-- The second of the two waits for the first (R474). -/
theorem jobs_runJob_deletesInOrder :
    (deletesInOrder.runJob 0 1 false (isOp 4)).rc.jobs.length = 2 := by decide +kernel

end Sys2Proof.Machine.State

/-- Refutes O42: the premises of a run do not shut out an entry that stands behind one of its queue that still has to change
tables, and such an entry does nothing. In `State.deletesInOrder` the second TABLE_DELETE stays, where the clause has it answered. -/
theorem not_ringOperationsRun : ¬ Obligations.RingOperationsRun := by
  rintro ⟨-, -, -, hdelete, -⟩
  have hrun := hdelete.1 State.deletesInOrder 0 1 false (State.deleteJob 1) rfl (by decide +kernel) rfl
    (fun _ => by decide +kernel) (by decide +kernel) (by decide +kernel) _ rfl
  have hdone : exec (.tableDelete 0 1 false) State.deletesInOrder
    = done (fun s => s.runJob 0 1 false (State.isOp 4)) State.deletesInOrder := rfl
  have hjobs := congrArg (fun t => t.rc.jobs.length) (Host.Outcome.next.inj (hdone.symm.trans hrun))
  have hanswered : 2 = 1 := State.jobs_runJob_deletesInOrder.symm.trans (hjobs.trans (by decide +kernel))
  cases hanswered

end

/-! PROOFS. A report of the memory controller goes by the wrong bits it names, not by its cause: the counterexample to the reports
of faults.
-/

section
open Sys2Proof Sys2Proof.Machine Sys2Proof.Machine.State
namespace Sys2Proof.Machine.State

/-- What a report of unit 10 on die 8 does that gives cause 1 and names wrong bits in two devices of a burst. -/
def twoDevicesWrong (s : State) : State :=
  let x := s.unitFound { die := 8, unit := 10, cause := 1, dieWide := false, d0 := 0, d1 := 0x11 }
  (x.2.countEcc x.1).takeReport x.1 (x.2.faultUs x.1)

/-- The device after power-on, in RUN. -/
def runningReset : State := { State.reset with mode := .run }

/-- Two wrong devices cannot be corrected, so the report counts as no corrected fault (R505). -/
theorem ctr_corrected_twoDevicesWrong : runningReset.twoDevicesWrong.ctr R.FT_CORRECTED [] = 0 := by decide +kernel

end Sys2Proof.Machine.State

/-- Refutes O29: a report of the memory controllers (unit 10) of cause 1 whose data name wrong bits in two devices of a burst is an
uncorrectable one, and FT_CORRECTED does not count it. -/
theorem not_faultsComplete : ¬ Obligations.FaultsComplete := by
  rintro ⟨hcorrected, -⟩
  obtain ⟨t, ht, hcount⟩ := hcorrected State.runningReset 8 10 false 0 0x11 (by decide +kernel) (by decide +kernel) (by decide)
    (by decide +kernel) (by decide)
  have hdone : exec (.faultReport true 8 10 1 false 0 0x11) State.runningReset
      = .next { State.runningReset.twoDevicesWrong with
          clock := State.runningReset.clock, variant := State.runningReset.variant,
          pending := State.runningReset.pending } := rfl
  obtain rfl := Host.Outcome.next.inj (hdone.symm.trans ht)
  have hnone : 0 = 1 := State.ctr_corrected_twoDevicesWrong.symm.trans (hcount.trans (by decide +kernel))
  cases hnone

end

/-! PROOFS. Event sources, vectors, counters and bandwidth windows (O30).
-/

section
open Sys2Proof Sys2Proof.Machine Sys2Proof.Machine.State
namespace Sys2Proof.Machine.State

/-- Making an event source due leaves the registers. -/
theorem regs_due (s : State) (n : Nat) : (s.due n).regs = s.regs :=
  (show Changes [.ev] s (s.due n) by simp) .regs (by simp)

theorem variant_due (s : State) (n : Nat) : (s.due n).variant = s.variant := by unfold due; split <;> rfl

theorem rd_due (s : State) (n : Nat) (r : RegSpec) (ix : List Nat) : (s.due n).rd r ix = s.rd r ix :=
  rd_congr (regs_due s n) (variant_due s n) r ix

theorem variant_writeRoute (s : State) (src v : Nat) : (s.writeRoute src v).variant = s.variant := by
  unfold writeRoute
  dsimp only
  split_ifs <;> simp

/-- A route that is not refused stands in its register (R524). -/
theorem rd_writeRoute {s : State} {src v : Nat} (h : s.routeRefused src v = false) :
    (s.writeRoute src v).rd R.EV_SRC [src] = v &&& R.EV_SRC.rw := by
  have hlt : v &&& R.EV_SRC.rw < 2 ^ 32 := Nat.and_le_right.trans_lt (by decide)
  unfold writeRoute
  rw [h, if_neg Bool.false_ne_true]
  dsimp only
  split
  · rw [rd_due, rd_wr_self, Nat.mod_eq_of_lt hlt]
  · rw [rd_wr_self, Nat.mod_eq_of_lt hlt]

theorem eventSourceWrite_routes {s : State} {src v : Nat} (hp : s.ringPowered = true) (hs : src < 0x1000)
    (hr : s.routeRefused src v = false) :
    Completes (.eventSourceWrite src v) s fun t => t.rd R.EV_SRC [src] = v &&& R.EV_SRC.rw := by
  refine completes_effect (fun _ => rfl) ?_
  rw [onlyIf_of _ _ (by simp [hp, hs]), complete_rd (h := variant_writeRoute ..)]
  exact rd_writeRoute hr

theorem does_eventDeliver {s : State} {src : Nat} (hp : s.ringPowered = true) (hd : s.ev.due.contains src = true)
    (hx : (s.deliverEvent src).1 = true) :
    Does (.eventDeliver src) s { (s.deliverEvent src).2 with ev.due := removeOne src (s.deliverEvent src).2.ev.due } := by
  refine does_of_effect (fun _ => rfl) ?_
  rw [onlyIf_of _ _ (by rw [hp, hd]; rfl)]
  exact if_pos hx

/-! ### Masks of vectors (R527) -/

section
variable {s : State} {fn : Nat} (hp : s.ringPowered = true) (hf : fn = 0 ∨ fn ≤ s.rc.vfs)
include hp hf

/-- The mask of a vector that the function has, or of the whole function, is written and what it uncovers is sent. -/
theorem msixUnmask_effect {vec : Option Nat} (hv : (vec.all fun v => decide (v < vectors fn)) = true) (isOpen : Bool) :
    Does (.msixUnmask fn vec isOpen) s
      (if isOpen && (s.setMask fn vec isOpen).ev.fnOpen.at 0 fn == 1 then (s.setMask fn vec isOpen).sendUnmasked fn
        else s.setMask fn vec isOpen) := by
  refine does_of_effect (fun _ => rfl) ?_
  exact onlyIf_of _ _ (by simp [hp, hf, hv])

theorem msixUnmask_masks {v : Nat} (hv : v < vectors fn) :
    exec (.msixUnmask fn (some v) false) s = .next { s with ev.vecOpen := s.ev.vecOpen.put 0 (key2 fn v) 0 } :=
  msixUnmask_effect hp hf (vec := some v) (decide_eq_true hv) false

theorem msixUnmask_masks_all :
    exec (.msixUnmask fn none false) s = .next { s with ev.fnOpen := s.ev.fnOpen.put 0 fn 0 } :=
  msixUnmask_effect hp hf (vec := none) rfl false

theorem msixUnmask_opens {v : Nat} (hv : v < vectors fn) (ho : s.ev.fnOpen.at 0 fn = 1) :
    Does (.msixUnmask fn (some v) true) s ({ s with ev.vecOpen := s.ev.vecOpen.put 0 (key2 fn v) 1 }.sendUnmasked fn) := by
  have hdoes := msixUnmask_effect hp hf (vec := some v) (decide_eq_true hv) true
  rwa [if_pos (by rw [Bool.true_and]; exact beq_iff_eq.mpr ho)] at hdoes

theorem msixUnmask_opens_all :
    Does (.msixUnmask fn none true) s ({ s with ev.fnOpen := s.ev.fnOpen.put 0 fn 1 }.sendUnmasked fn) := by
  have hdoes := msixUnmask_effect hp hf (vec := none) rfl true
  rwa [if_pos (by simp [setMask, b2n])] at hdoes

end

/-! ### Counters (R529, R532, R533) -/

/-- Latching what a counter shows changes no count. -/
theorem cnt_latched (s : State) (v : Nat) (hi snap : Map Nat) (cleared : List Nat) :
    (State.answer { s with ev := { s.ev with cntHi := hi, snap := snap, cleared := cleared } } v).ev.cnt = s.ev.cnt := rfl

/-- Reading a counter changes no count. -/
theorem cnt_readCounter (s : State) (fn : Nat) (user : Bool) (b n : Nat) : (s.readCounter fn user b n).ev.cnt = s.ev.cnt := by
  unfold readCounter
  split
  · rfl
  · exact cnt_latched ..

theorem counterRead_reads {s : State} {fn b n : Nat} {user : Bool} (hp : s.ringPowered = true) (hf : fn = 0 ∨ fn ≤ s.rc.vfs)
    (hb : b < 176) (hn : n < 8) (hsee : s.seesCounter fn user b n = true) :
    Completes (.counterRead fn user b n) s fun t => t.out.readData = (s.sampleOf b n).1 % 2 ^ 32
      ∧ t.ev.cntHi.at 0 (latchKey fn user b * 8 + n) = (s.sampleOf b n).1 / 2 ^ 32 + s.clock.tick % 2 ^ 16 * 2 ^ 16
      ∧ t.ev.cnt = s.ev.cnt := by
  refine completes_effect (fun _ => rfl) ?_
  rw [onlyIf_of _ _ (by simp [hp, hf, hb, hn])]
  refine ⟨?_, ?_, cnt_readCounter ..⟩ <;> unfold readCounter <;> rw [hsee, if_neg (by decide)]
  · rfl
  · exact Map.at_put_self ..

/-- The log of a tick stands at that tick. -/
theorem nowLog_at (s : State) : s.nowLog.at_ = s.clock.tick + 1 := by
  unfold nowLog
  split
  · assumption
  · rfl

theorem nowLog_wr (s : State) (r : RegSpec) (ix : List Nat) (v : Nat) : (s.wr r ix v).nowLog = s.nowLog := by
  rw [nowLog, nowLog, wr_ev, wr_clock]

/-- A sample that the log of the tick holds is the counter's. -/
theorem sampleOf_of_log {t : State} {b n x : Nat} {o : Bool} (hat : t.ev.now.at_ = t.clock.tick + 1)
    (h : t.ev.now.pre.find? (key2 b n) = some (x, o)) : (t.sampleOf b n).1 = x := by
  rw [sampleOf, nowLog, if_pos hat, h, Option.getD_some]

/-- What a PC_SEL register is given to hold (R533). -/
def selWord (b v : Nat) : Nat :=
  b2n (bit v 31) * 2 ^ 31 + b2n (!eventDefined (blockKind b) (bits v 11 0)) * 2 ^ 30 + bits v 11 0

theorem b2n_le_one (x : Bool) : b2n x ≤ 1 := by cases x <;> decide

theorem evnum_lt (v : Nat) : bits v 11 0 < 2 ^ 12 := Nat.mod_lt _ (by decide)

/-- The selected event, its filter and whether it is defined stand beside each other. -/
theorem selWord_fields (b v : Nat) : selWord b v < 2 ^ 32 ∧ bits (selWord b v) 11 0 = bits v 11 0
    ∧ bits (selWord b v) 31 31 = b2n (bit v 31)
    ∧ bits (selWord b v) 30 30 = b2n (!eventDefined (blockKind b) (bits v 11 0)) := by
  have hf := b2n_le_one (bit v 31)
  have hu := b2n_le_one (!eventDefined (blockKind b) (bits v 11 0))
  have hev := evnum_lt v
  unfold selWord
  generalize b2n (bit v 31) = f at *
  generalize b2n (!_) = u at *
  generalize bits v 11 0 = ev at *
  simp only [bits, Nat.shiftRight_eq_div_pow]
  omega

/-- A state with another event state. -/
def withEv (t : State) (e : Events) : State := { t with ev := e }

theorem withEv_ev (t : State) (e : Events) : (t.withEv e).ev = e := rfl

theorem variant_withEv (t : State) (e : Events) : (t.withEv e).variant = t.variant := rfl

/-- The event state holds no register. -/
theorem get_withEv (t : State) (e : Events) (f : Fld) (ix : List Nat) : (t.withEv e).get f ix = t.get f ix :=
  get_congr (s := t) rfl rfl f ix

/-- What a select leaves in the event state. -/
def selectEv (t : State) (b n : Nat) (cleared : List Nat) (onTick : List (Nat × Nat)) : Events :=
  { t.ev with
    cnt := t.ev.cnt.put 0 (key2 b n) (t.countsOfTick b n)
    now := { t.nowLog with pre := t.nowLog.pre.insert (key2 b n) (0, (t.sampleOf b n).2) }
    cleared := cleared, onTick := onTick }

/-- A select writes PC_SEL and starts the counter anew. -/
theorem selectCounter_eq (s : State) (b n v : Nat) : ∃ cleared onTick,
    s.selectCounter b n v =
      (s.wr R.PC_SEL [b, n] (selWord b v)).withEv (selectEv (s.wr R.PC_SEL [b, n] (selWord b v)) b n cleared onTick) :=
  ⟨_, _, rfl⟩

section
variable (s t : State) (b n v : Nat)

/-- A counter just selected reads 0 until the tick is over (R533). -/
theorem sampleOf_selectEv (t : State) (b n : Nat) (cleared : List Nat) (onTick : List (Nat × Nat)) (k : Clock)
    (hk : k = t.clock) (y : Variant) (p : List Instr) :
    (State.sampleOf { t.withEv (selectEv t b n cleared onTick) with clock := k, variant := y, pending := p } b n).1 = 0 := by
  subst hk
  exact sampleOf_of_log (nowLog_at t) (Map.find?_insert_self ..)

/-- A field of PC_SEL once it is written. -/
theorem get_selWord {f : Fld} (hf : f.reg = R.PC_SEL) :
    (s.wr R.PC_SEL [b, n] (selWord b v)).get f [b, n] = bits (selWord b v) f.hi f.lo := by
  rw [get, hf, rd_wr_self, Nat.mod_eq_of_lt (selWord_fields b v).1]

/-- A field of PC_SEL once the counter is selected. -/
theorem get_selectCounter {f : Fld} (hf : f.reg = R.PC_SEL) :
    (s.selectCounter b n v).get f [b, n] = bits (selWord b v) f.hi f.lo := by
  obtain ⟨cleared, onTick, h⟩ := selectCounter_eq s b n v
  rw [h, get_withEv, get_selWord s b n v hf]

/-- Nothing that the tick has counted so far counts for the event now selected, unless it is the tick itself. -/
theorem countsOfTick_of_none (he : t.nowLog.events = []) (h1 : t.get F.PC_SEL_EVNUM [b, n] ≠ 1) :
    t.countsOfTick b n = 0 := by
  unfold countsOfTick
  dsimp only
  rw [if_neg h1, he]
  rfl

end

theorem counterSelect_selects {s : State} {b n v : Nat} (hp : s.ringPowered = true) (hb : s.blockLive b = true) (hn : n < 8) :
    Completes (.counterSelect b n v) s fun t => (t.sampleOf b n).1 = 0
      ∧ (s.nowLog.events = [] → bits v 11 0 ≠ 1 → t.ev.cnt.at 0 (key2 b n) = 0) ∧ t.get F.PC_SEL_EVNUM [b, n] = bits v 11 0
      ∧ t.get F.PC_SEL_TFILT [b, n] = b2n (bit v 31)
      ∧ t.get F.PC_SEL_UNDEF [b, n] = b2n (!eventDefined (blockKind b) (bits v 11 0)) := by
  obtain ⟨_, hevnum, htfilt, hundef⟩ := selWord_fields b v
  refine completes_effect (fun _ => rfl) ?_
  rw [onlyIf_of _ _ (by simp [hp, hb, hn])]
  have hvar : (s.selectCounter b n v).variant = s.variant := by
    obtain ⟨cleared, onTick, h⟩ := selectCounter_eq s b n v
    rw [h, variant_withEv, wr_variant]
  refine ⟨?_, fun he h1 => ?_, ?_, ?_, ?_⟩
  · obtain ⟨cleared, onTick, h⟩ := selectCounter_eq s b n v
    rw [h]
    exact sampleOf_selectEv (s.wr R.PC_SEL [b, n] (selWord b v)) b n cleared onTick s.clock (wr_clock ..).symm s.variant s.pending
  · obtain ⟨cleared, onTick, h⟩ := selectCounter_eq s b n v
    rw [h]
    refine (Map.at_put_self ..).trans (countsOfTick_of_none _ b n ((congrArg _ (nowLog_wr ..)).trans he) ?_)
    rw [get_selWord s b n v rfl]
    exact ne_of_eq_of_ne hevnum h1
  · rw [complete_get (h := hvar), get_selectCounter s b n v rfl]; exact hevnum
  · rw [complete_get (h := hvar), get_selectCounter s b n v rfl]; exact htfilt
  · rw [complete_get (h := hvar), get_selectCounter s b n v rfl]; exact hundef

theorem complete_ev (k : Clock) (s u : State) : (complete k s u).ev = u.ev := rfl

/-! ### Freezing the counters (R529) -/

/-- Bringing the blocks up to now counts nothing. -/
theorem cnt_settleAll (s : State) : s.settleAll.ev.cnt = s.ev.cnt := by
  unfold settleAll
  exact forEach_keeps (fun t => t.ev.cnt) _ (fun b t => by split <;> rfl) _ s

theorem variant_settleAll (s : State) : s.settleAll.variant = s.variant := by
  unfold settleAll
  exact forEach_keeps (fun t => t.variant) _ (fun b t => by split <;> rfl) _ s

theorem cnt_freeze (s : State) (v : Nat) : (s.freeze v).ev.cnt = s.ev.cnt := by
  rw [freeze, set_ev, set_ev, cnt_settleAll]

theorem counterFreeze_freezes {s : State} {v : Nat} (hp : s.ringPowered = true) :
    Completes (.counterFreeze v) s fun t => t.get F.PC_FREEZE_DIES [] = bits v 12 0
      ∧ t.get F.PC_FREEZE_APPLIED [] = b2n (bits v 12 0 != 0) ∧ t.ev.cnt = s.ev.cnt := by
  have hdies : bits v 12 0 < 2 ^ 13 := Nat.mod_lt _ (by decide)
  have happ := b2n_le_one (bits v 12 0 != 0)
  have hvar : (s.freeze v).variant = s.variant := by rw [freeze, set_variant, set_variant, variant_settleAll]
  refine completes_effect (fun _ => rfl) ?_
  rw [onlyIf_of _ _ hp]
  refine ⟨?_, ?_, ?_⟩
  · rw [complete_get (h := hvar), freeze, get_set_beside _ (by decide), get_set _ ⟨by decide, by decide, hdies⟩]
  · rw [complete_get (h := hvar), freeze, get_set _ ⟨by decide, by decide, Nat.lt_succ_of_le happ⟩]
  · rw [complete_ev, cnt_freeze]

/-! ### Windows of bandwidth (R535) -/

theorem clock_bandwidth (w p : Nat) (s : State) : (State.bandwidth w p s).clock = s.clock := by
  unfold State.bandwidth
  dsimp only
  simp only [set_clock]

theorem bwWindow_ends {s : State} (hp : s.ringPowered = true)
    (ht : s.clock.tick % (s.get F.PC_BW_WIN_WIN_US [] * 1000) = 0) (hn : s.ev.bwAt ≠ s.clock.tick + 1) :
    Completes .bwWindow s fun t => t.ev.bwRx = [] ∧ t.ev.bwTx = [] ∧ t.ev.bwFull = true ∧ t.ev.bwAt = s.clock.tick + 1 := by
  refine completes_effect (fun _ => rfl) ?_
  dsimp only
  rw [onlyIf_of _ _ (by simp [hp, ht, hn])]
  refine ⟨rfl, rfl, rfl, ?_⟩
  have hclock : ∀ l w, (forEach l (State.bandwidth w) s).clock = s.clock := fun l w =>
    forEach_keeps (fun t => t.clock) _ (fun p t => clock_bandwidth w p t) l s
  dsimp only [complete]
  split
  · rw [hclock]
  · rfl

/-- Port `p` shows no bandwidth as valid. -/
def NoBandwidth (p : Nat) (t : State) : Prop := t.get F.PC_BW_RX_VALID [p] = 0 ∧ t.get F.PC_BW_TX_VALID [p] = 0

theorem addr_bwRx_ne_bwTx (p q : Nat) : R.PC_BW_RX.addr [p] ≠ R.PC_BW_TX.addr [q] := addr_ne_of_stride rfl rfl (by decide) p q

/-- Port `q` made invalid: so it is, and the others stay as they are. -/
theorem noBandwidth_clear {p q : Nat} {t : State} (h : q = p ∨ NoBandwidth p t) :
    NoBandwidth p ((t.set F.PC_BW_RX_VALID [q] 0).set F.PC_BW_TX_VALID [q] 0) := by
  rcases eq_or_ne p q with rfl | hne
  · constructor
    · rw [get_set_reg _ _ _ _ _ _ (addr_bwRx_ne_bwTx p p), get_set _ (by decide)]
    · rw [get_set _ (by decide)]
  · obtain ⟨hrx, htx⟩ := h.resolve_left hne.symm
    have hr : R.PC_BW_RX.addr [p] ≠ R.PC_BW_RX.addr [q] := by simp [RegSpec.addr, R.PC_BW_RX, hne]
    have ht : R.PC_BW_TX.addr [p] ≠ R.PC_BW_TX.addr [q] := by simp [RegSpec.addr, R.PC_BW_TX, hne]
    constructor
    · rw [get_set_reg _ _ _ _ _ _ (addr_bwRx_ne_bwTx p q), get_set_reg _ _ _ _ _ _ hr, hrx]
    · rw [get_set_reg _ _ _ _ _ _ ht, get_set_reg _ _ _ _ _ _ (addr_bwRx_ne_bwTx q p).symm, htx]

/-- No port of a list shows a bandwidth as valid. -/
def clearBandwidth (l : List Nat) (s : State) : State :=
  forEach l (fun p u => (u.set F.PC_BW_RX_VALID [p] 0).set F.PC_BW_TX_VALID [p] 0) s

theorem variant_clearBandwidth (l : List Nat) (s : State) : (clearBandwidth l s).variant = s.variant :=
  forEach_keeps (fun t => t.variant) _ (fun p t => by rw [set_variant, set_variant]) l s

/-- Clearing the ports leaves the length of the window. -/
theorem get_window_clearBandwidth (l : List Nat) (s : State) :
    (clearBandwidth l s).get F.PC_BW_WIN_WIN_US [] = s.get F.PC_BW_WIN_WIN_US [] :=
  forEach_keeps (fun t => t.get F.PC_BW_WIN_WIN_US []) _ (fun p t => by
    rw [get_set_reg _ _ _ _ _ _ (addr_ne_of_base_lt rfl (by decide) _ _),
      get_set_reg _ _ _ _ _ _ (addr_ne_of_base_lt rfl (by decide) _ _)]) l s

theorem noBandwidth_clearBandwidth (s : State) {l : List Nat} {p : Nat} (hp : p ∈ l) : NoBandwidth p (clearBandwidth l s) := by
  unfold clearBandwidth
  refine forEach_establishes (P := NoBandwidth p) hp (fun t => ?_) (fun q t h => ?_) s
  · exact noBandwidth_clear (q := p) (Or.inl rfl)
  · exact noBandwidth_clear (q := q) (Or.inr h)

theorem writeWindow_eq (s : State) (v : Nat) : ∃ e,
    s.writeWindow v = (clearBandwidth (List.range 512) (s.set F.PC_BW_WIN_WIN_US [] (clamp 1 1000000 (bits v 19 0)))).withEv e
      ∧ e.bwFull = false := ⟨_, rfl, rfl⟩

theorem bwWindowWrite_starts {s : State} {v : Nat} (hp : s.ringPowered = true) :
    Completes (.bwWindowWrite v) s fun t => t.get F.PC_BW_WIN_WIN_US [] = clamp 1 1000000 (bits v 19 0) ∧ t.ev.bwFull = false
      ∧ ∀ p, p < 512 → t.get F.PC_BW_RX_VALID [p] = 0 ∧ t.get F.PC_BW_TX_VALID [p] = 0 := by
  have hwin : clamp 1 1000000 (bits v 19 0) < 2 ^ 20 := by unfold clamp; omega
  obtain ⟨e, he, hfull⟩ := writeWindow_eq s v
  have hvar : (s.writeWindow v).variant = s.variant := by
    rw [he, variant_withEv, variant_clearBandwidth, set_variant]
  refine completes_effect (fun _ => rfl) ?_
  rw [onlyIf_of _ _ hp]
  simp only [complete_get _ hvar, complete_ev]
  simp only [he, get_withEv, withEv_ev]
  refine ⟨?_, hfull, fun p hlt => noBandwidth_clearBandwidth _ (List.mem_range.2 hlt)⟩
  rw [get_window_clearBandwidth, get_set _ ⟨by decide, by decide, hwin⟩]

end Sys2Proof.Machine.State

/-- Settles O30: sources, masks, counters and windows by the registers and the event state that each command writes. -/
theorem eventsAndCountersComplete : Obligations.EventsAndCountersComplete :=
  ⟨fun _ _ _ => State.eventSourceWrite_routes, fun _ _ => State.does_eventDeliver,
    fun _ _ _ hp hf => State.msixUnmask_masks hp hf, fun _ _ hp hf => State.msixUnmask_masks_all hp hf,
    fun _ _ _ hp hf => State.msixUnmask_opens hp hf, fun _ _ hp hf => State.msixUnmask_opens_all hp hf,
    fun _ _ _ _ _ => State.counterRead_reads, fun _ _ _ _ => State.counterSelect_selects,
    fun _ _ => State.counterFreeze_freezes, fun _ => State.bwWindow_ends, fun _ _ => State.bwWindowWrite_starts⟩

end

/-! PROOFS. A completion queue that is disabled loses the fences that are not yet due as well: the counterexample to the disabling
of a completion queue.
-/

section
open Sys2Proof Sys2Proof.Machine Sys2Proof.Machine.State
namespace Sys2Proof.Machine.State

/-- The fences of a state that a command leaves are those of its effect. -/
theorem fences_of_done {c : Instr} {s t : State} {f : State → State} (h : exec c s = done f s) (ht : exec c s = .next t) :
    t.rc.fences = (f s).rc.fences := by
  obtain rfl := Host.Outcome.next.inj (h.symm.trans ht)
  rfl

/-- A fence of completion queue 1 whose deletion has not yet taken effect. -/
def undueFence : Fence := { ao := 0, c := { cq := 1, sq := 0, slot := 0 } }

/-- Completion queue 1 is enabled, no submission queue names it, and one fence waits for it. -/
def fencePending : State :=
  { State.reset.set F.RC_CQ_CFG_EN [1] 1 with mode := .run, rc.fences := [undueFence] }

/-- No submission queue names completion queue 1. -/
theorem unnamed_fencePending : ((List.range 2048).all fun q => fencePending.get F.RC_SQ_CFG_CQ [q] != 1 ||
    (!fencePending.isOn F.RC_SQ_CFG_EN [q] && fencePending.isOn F.RC_SQ_STAT_IDLE [q])) = true := by decide +kernel

/-- The fence is lost with its queue. -/
theorem fences_disableCq_fencePending : (fencePending.disableCq 1).rc.fences = [] := by decide +kernel

end Sys2Proof.Machine.State

/-- Refutes O41: the clause on CQ_DISABLE keeps the fences of the queue that are not due, and disabling drops every fence of the
queue. In `State.fencePending` the one fence, not due, is gone. -/
theorem not_queuesComplete : ¬ Obligations.QueuesComplete := by
  rintro ⟨-, -, -, -, -, -, hdisable, -⟩
  obtain ⟨t, ht, -, hkept⟩ := hdisable State.fencePending 1 (by decide +kernel) (by decide) (by decide +kernel)
    State.unnamed_fencePending
  have hfences := State.fences_of_done (f := fun s => onlyIf (s.ringPowered && decide (1 < 2048)) (fun s => s.disableCq 1) s)
    rfl ht
  rw [onlyIf_of _ _ (by decide +kernel), State.fences_disableCq_fencePending] at hfences
  have hone : [] = [State.undueFence] := hfences.symm.trans (hkept.trans (by decide +kernel))
  cases hone

end

/-! PROOFS. A cut-through frame whose edits cannot be read is not sent, and a device without its auxiliary supply takes no SMBus
write: the counterexamples to the completion of egress and of the engines' control.
-/

section
open Sys2Proof Sys2Proof.Machine Sys2Proof.Machine.State
namespace Sys2Proof.Machine.State

/-- A cut-through frame on port 0 whose object's edit list lies in a table word that cannot be read. -/
def uneditableFrame : EFrame :=
  { m := { t16 := 65536 * 10 ^ 12, resolved := true }, bytes := List.replicate 64 0, brand := 0, whole := false, ct := true }

/-- Port 0 is up and that frame waits alone in its queue 0. -/
def uneditableWaits : State :=
  { ((State.reset.wr R.PG_GRP_CFG [0, 0] 1).set F.PG_PORT_CTRL_ADMIN_UP [0, 0] 1).set F.PG_PORT_STAT_LINK_UP [0, 0] 1 with
    mode := .run, clock := { sec := 1000, tick := 10 ^ 15 }
    badTabs := [tkey 0 .ao 0], fab.egq := [(key2 0 0, [uneditableFrame])] }

/-- What the Rein leaves of the state when it has chosen that frame. -/
def uneditableChosen : State := ((uneditableWaits.checkLatches 0 0).offerPort 0).2

theorem offerPort_uneditableWaits : (uneditableWaits.checkLatches 0 0).offerPort 0 = (some 0, uneditableChosen) :=
  Prod.ext (by decide +kernel) rfl

theorem eq_uneditableChosen : uneditableChosen.eq 0 0 = [uneditableFrame] := by decide +kernel

/-- Its edits cannot be read, so the frame is dropped and the port sends nothing (R228). -/
theorem tx_uneditableChosen :
    (((uneditableChosen.handOver 0 0 uneditableFrame []).showSlots 0).port.tx.find? 0).isNone = true := by decide +kernel

/-- A device in RUN whose auxiliary supply has gone, so that the Tack Room has lost its state. -/
def supplyLost : State := { State.reset with mode := .run, tack.vauxLowAt := some 0, tack.vauxCycled := true }

end Sys2Proof.Machine.State

/-- Refutes O37: the clause on a cut-through frame that the Rein selects does not shut out one whose edits cannot be read; such a
frame is dropped. In `State.uneditableWaits` port 0 sends nothing after REIN_SELECT. -/
theorem not_egressCompletes : ¬ Obligations.EgressCompletes := by
  rintro ⟨-, -, hselect, hcut, -⟩
  have hdoes := hselect State.uneditableWaits State.uneditableChosen 0 0 0 State.uneditableFrame [] (by decide +kernel)
    (by decide +kernel) (by decide +kernel) (by decide +kernel) State.offerPort_uneditableWaits State.eq_uneditableChosen
  obtain ⟨t, ht, hsent, -⟩ := hcut State.uneditableWaits State.uneditableChosen 0 0 0 State.uneditableFrame [] (by decide +kernel)
    (by decide +kernel) (by decide +kernel) (by decide +kernel) State.offerPort_uneditableWaits State.eq_uneditableChosen rfl
  have hport := congrArg (fun t => (t.port.tx.find? 0).isNone) (Host.Outcome.next.inj (hdoes.symm.trans ht))
  have hnone : (t.port.tx.find? 0).isNone = true := hport.symm.trans State.tx_uneditableChosen
  rw [hsent] at hnone
  cases hnone

/-- Refutes O50: the clause on an SMBus write asks only that the mode is not OFF, and the Tack Room, which takes the write, runs only
with its supply. In `State.supplyLost` TK_RET_ADDR keeps its value. -/
theorem not_engineControlCompletes : ¬ Obligations.EngineControlCompletes := by
  rintro ⟨-, -, -, -, -, -, -, -, -, -, -, hwrite⟩
  have hdone : exec (.registerWrite true 0 (R.TK_RET_ADDR.addr []) 4) State.supplyLost
    = done (fun s => onlyIf s.tackRuns (fun s => s.writeSmbus (R.TK_RET_ADDR.addr []) 4) s) State.supplyLost := rfl
  have hregs := congrArg (fun t => t.rd R.TK_RET_ADDR [])
    (Host.Outcome.next.inj (hdone.symm.trans (hwrite State.supplyLost 0 (R.TK_RET_ADDR.addr []) 4 (by decide))))
  have hkept : 0 = 4 := by
    calc 0 = _ := by decide +kernel
      _ = _ := hregs
      _ = 4 := by decide +kernel
  cases hkept

end

/-! PROOFS. Device memory: retraining, patrol scrub and the retirement of pages (O40).
-/

section
open Sys2Proof Sys2Proof.Machine Sys2Proof.Machine.State
namespace Sys2Proof.Machine.State

/-- A register without an index never meets one of a stride in which it stands differently. -/
theorem addr_ne_of_phase {r q : RegSpec} {d m : Nat} (hr : r.dims = []) (hq : q.dims = [⟨d, m, 0⟩]) (h : r.base % d ≠ q.base % d)
    (ix jx : List Nat) : r.addr ix ≠ q.addr jx := by
  intro he
  simp only [RegSpec.addr, hr, hq, List.zip_nil_left, List.map_nil, List.sum_nil, Nat.add_zero] at he
  cases jx with
  | nil => exact h (congrArg (· % d) (by simpa using he))
  | cons y jx => exact h (by simpa using congrArg (· % d) he)

/-! ### What a completed command shows -/

theorem get_complete (k : Clock) (s u : State) (f : Fld) (ix : List Nat) :
    (complete k s u).get f ix = getR u.regs s.variant f ix := rfl

theorem ctr_complete (k : Clock) (s u : State) (r : RegSpec) (ix : List Nat) : (complete k s u).ctr r ix = u.ctr r ix := rfl

/-- A command with a known effect completes with what that effect shows. -/
theorem completes_of_does {c : Instr} {s u : State} {P : State → Prop} (h : Does c s u) (hp : P (complete s.clock s u)) :
    Completes c s P := ⟨_, h, hp⟩

theorem complete_ddr (k : Clock) (s u : State) : (complete k s u).ddr = u.ddr := rfl

section
variable {s : State} {a x : Nat} {v : Variant} {g : Fld} {jx : List Nat} (hclaim : g.reg.addr jx ≠ R.PT_CLAIM.addr [x])
include hclaim

/-- A request for the claim of one die leaves the registers that are not that die's claim registers. -/
theorem getR_requestClaim (hcnt : g.reg.addr jx ≠ R.PT_CLAIMCNT.addr [x]) :
    getR (s.requestClaim a x).regs v g jx = getR s.regs v g jx := by
  have hqueue : ∀ q, getR (s.setQueue x q).regs v g jx = getR s.regs v g jx := fun q => getR_setR_reg _ _ _ _ _ _ _ _ hclaim
  unfold requestClaim
  dsimp only
  split
  · split
    · rw [regs_addSat, getR_setR_reg _ _ _ _ _ _ _ _ hcnt, hqueue]
    · exact hqueue _
  · rfl

/-- Giving the claim of one die back leaves the registers that are not that die's claim register. -/
theorem getR_releaseClaim : getR (s.releaseClaim a x).regs v g jx = getR s.regs v g jx := by
  have hhold : ∀ t : State, getR (if t.holder x = a then t.unhold x else t).regs v g jx = getR t.regs v g jx := fun t => by
    split
    · exact getR_setR_reg _ _ _ _ _ _ _ _ hclaim
    · rfl
  have hpark : ∀ t : State,
      getR (if t.get F.PT_CLAIM_PARKED [x] = a then t.set F.PT_CLAIM_PARKED [x] 0 else t).regs v g jx = getR t.regs v g jx :=
    fun t => by
      split
      · exact getR_setR_reg _ _ _ _ _ _ _ _ hclaim
      · rfl
  unfold releaseClaim
  dsimp only
  exact ((getR_setR_reg _ _ _ _ _ _ _ _ hclaim).trans (hpark _)).trans (hhold s)

end

/-! ### Retraining (R505) -/

/-- A channel's status lies above the claim registers of the Tack Room's die. -/
theorem addr_chStat_ne_claim (c : Nat) :
    R.DM_CH_STAT.addr [c] ≠ R.PT_CLAIM.addr [12] ∧ R.DM_CH_STAT.addr [c] ≠ R.PT_CLAIMCNT.addr [12] := by
  simp only [RegSpec.addr, R.DM_CH_STAT, R.PT_CLAIM, R.PT_CLAIMCNT, List.zip_cons_cons, List.zip_nil_left, List.map_cons,
    List.map_nil, List.sum_cons, List.sum_nil]
  omega

theorem channels_le (v : Variant) : v.channels ≤ 8 := by cases v <;> decide

/-- A request for a claim leaves device memory. -/
theorem ddr_requestClaim (s : State) (a x : Nat) : (s.requestClaim a x).ddr = s.ddr :=
  (show Changes [.regs, .pace] s (s.requestClaim a x) by simp) .ddr (by simp)

theorem retrainDue_falls {s : State} {c : Nat} {temp : Int} (hr : s.running = true) (hc : c < s.variant.channels)
    (ht : s.get F.DM_CH_STAT_TRAINED [c] = 1)
    (hd : s.get F.DM_RETRAIN_INTERVAL_S [] * 1000000000 ≤ s.since (s.ddr.trainAt.at 0 c - 1)) :
    Completes (.retrainDue c temp) s fun t => t.get F.DM_CH_STAT_TEMP [c] = unsigned 8 temp ∧ t.ddr.due.contains c = true := by
  obtain ⟨hclaim, hcnt⟩ := addr_chStat_ne_claim c
  have hc8 : c < 8 := hc.trans_le (channels_le _)
  have htemp : getR (s.set F.DM_CH_STAT_TEMP [c] (unsigned 8 temp)).regs s.variant F.DM_CH_STAT_TEMP [c] = unsigned 8 temp := by
    rw [regs_set, getR_setR_self _ _ _ _ _ (by decide)]
    exact Nat.mod_eq_of_lt (unsigned_lt 8 temp)
  have hint : (s.set F.DM_CH_STAT_TEMP [c] (unsigned 8 temp)).get F.DM_RETRAIN_INTERVAL_S []
      = s.get F.DM_RETRAIN_INTERVAL_S [] := get_set_reg _ _ _ _ _ _ (addr_ne_of_base_lt rfl (by decide) _ _)
  refine completes_effect (fun _ => rfl) ?_
  rw [onlyIf_of _ _ (by simp [hr, hc, isOn, ht])]
  dsimp only
  rw [hint]
  split
  next hdue =>
    rw [get_complete, complete_ddr, ddr_requestClaim, getR_requestClaim hclaim hcnt]
    exact ⟨htemp, by simp [hc8]⟩
  next hdue =>
    rw [get_complete, complete_ddr]
    refine ⟨htemp, ?_⟩
    by_contra hnot
    exact hdue ⟨Or.inl hd, by simpa using hnot⟩

/-- What ends a retraining (R505): the claim goes back, and the next channel due asks for it. -/
def endRetrain (t : State) : State :=
  if (t.releaseClaim 3 12).ddr.due.isEmpty then t.releaseClaim 3 12 else (t.releaseClaim 3 12).requestClaim 3 12

theorem changes_endRetrain (t : State) : Changes [.regs, .pace] t t.endRetrain := by
  unfold endRetrain
  split <;> simp

theorem ddr_endRetrain (t : State) : t.endRetrain.ddr = t.ddr := changes_endRetrain t .ddr (by simp)

theorem ctr_endRetrain (t : State) (r : RegSpec) (ix : List Nat) : t.endRetrain.ctr r ix = t.ctr r ix :=
  ctr_congr (changes_endRetrain t .ctrs (by simp)) r ix

theorem getR_endRetrain (t : State) (v : Variant) {g : Fld} {jx : List Nat} (hclaim : g.reg.addr jx ≠ R.PT_CLAIM.addr [12])
    (hcnt : g.reg.addr jx ≠ R.PT_CLAIMCNT.addr [12]) : getR t.endRetrain.regs v g jx = getR t.regs v g jx := by
  unfold endRetrain
  split
  · exact getR_releaseClaim hclaim
  · rw [getR_requestClaim hclaim hcnt, getR_releaseClaim hclaim]

/-- A channel that has been retrained, at the temperature it shows (R505). -/
def retrained (s : State) (c : Nat) : State :=
  { s with
    ddr.due := s.ddr.due.filter (· != c), ddr.trainAt := s.ddr.trainAt.put 0 c (s.clock.tick + 1)
    ddr.trainFailed := s.ddr.trainFailed.filter (· != c)
    ddr.trainTemp := s.ddr.trainTemp.put 0 c (signed 8 (s.get F.DM_CH_STAT_TEMP [c])) }

theorem does_retrainDone {s : State} {c : Nat} (hc : s.retraining = some c) :
    Does (.retrainDone false) s (s.retrained c).endRetrain := by
  refine does_of_effect (fun _ => rfl) ?_
  dsimp only
  rw [hc]
  rfl

theorem retrainDone_ends {s : State} {c : Nat} (hc : s.retraining = some c) :
    Completes (.retrainDone false) s fun t => t.ddr.due = s.ddr.due.filter (· != c)
      ∧ t.ddr.trainAt.at 0 c = s.clock.tick + 1 ∧ t.ddr.trainTemp.at 0 c = signed 8 (s.get F.DM_CH_STAT_TEMP [c]) := by
  refine ⟨_, does_retrainDone hc, ?_⟩
  dsimp only
  rw [ddr_endRetrain]
  have hat : (s.retrained c).ddr.trainAt = s.ddr.trainAt.put 0 c (s.clock.tick + 1) := rfl
  have htemp : (s.retrained c).ddr.trainTemp = s.ddr.trainTemp.put 0 c (signed 8 (s.get F.DM_CH_STAT_TEMP [c])) := rfl
  rw [hat, htemp, Map.at_put_self, Map.at_put_self]
  exact ⟨rfl, rfl, rfl⟩

/-- A channel whose retraining fails falls due again by its time alone (R505). -/
def retrainFailed (s : State) (c : Nat) : State :=
  { s with
    ddr.due := s.ddr.due.filter (· != c), ddr.trainAt := s.ddr.trainAt.put 0 c (s.clock.tick + 1)
    ddr.trainFailed := addOnce c s.ddr.trainFailed }

theorem does_retrainDone_fail {s : State} {c : Nat} (hc : s.retraining = some c) :
    Does (.retrainDone true) s
      (((s.retrainFailed c).inc R.DM_RETRAIN_FAIL [c]).raise F.DM_EVT_RETRAIN_FAIL []).endRetrain := by
  refine does_of_effect (fun _ => rfl) ?_
  dsimp only
  rw [hc]
  rfl

theorem retrainDone_fails {s : State} {c : Nat} (hc : s.retraining = some c) :
    Completes (.retrainDone true) s fun t => t.ddr.due = s.ddr.due.filter (· != c) ∧ t.ddr.trainTemp = s.ddr.trainTemp
      ∧ t.ctr R.DM_RETRAIN_FAIL [c] = (s.ctr R.DM_RETRAIN_FAIL [c] + 1) % 2 ^ 64 ∧ t.get F.DM_EVT_RETRAIN_FAIL [] = 1 := by
  refine ⟨_, does_retrainDone_fail hc, ?_⟩
  have hevt : ∀ u : State, u.variant = s.variant →
      getR (u.raise F.DM_EVT_RETRAIN_FAIL []).endRetrain.regs s.variant F.DM_EVT_RETRAIN_FAIL [] = 1 := fun u hu => by
    rw [getR_endRetrain _ _ (by decide) (by decide), regs_raise', hu, getR_setR_self _ _ _ _ _ (by decide)]
    rfl
  refine ⟨?_, ?_, ?_, ?_⟩
  · dsimp only; rw [ddr_endRetrain, raise_ddr, inc_ddr]; rfl
  · dsimp only; rw [ddr_endRetrain, raise_ddr, inc_ddr]; rfl
  · refine (ctr_endRetrain _ R.DM_RETRAIN_FAIL [c]).trans ?_
    rw [ctr_congr (raise_ctrs ..), ctr_inc_self]
    rfl
  · exact hevt _ (inc_variant ..)

/-! ### Patrol scrub and uncorrectable reads (R506, R507) -/

/-- The burst at an offset is known to be bad. -/
def foundBad (s : State) (o : Nat) : State := { s with ddr.bad := addOnce (o / 64) s.ddr.bad }

theorem bad_foundBad (s : State) (o : Nat) : (s.foundBad o).ddr.bad = addOnce (o / 64) s.ddr.bad := rfl

theorem variant_foundBad (s : State) (o : Nat) : (s.foundBad o).variant = s.variant := rfl

theorem ctr_foundBad (s : State) (o : Nat) (r : RegSpec) (ix : List Nat) : (s.foundBad o).ctr r ix = s.ctr r ix := rfl

section
variable {s : State} {o : Nat} {fixed : Bool} (hp : s.powered = true) (hb : s.mayBorrow 2 12 = true)
  (hd : s.scrubDue (o / 64) = true) (ho : o < s.ddrSize) (hw : s.ddrWaits o = false)
include hp hb hd ho hw

/-- A patrol read that is due and may run passes its burst, whatever it finds. -/
theorem does_ddrPatrolScrub {bad found : Bool} (hf : (bad || s.ddr.bad.contains (o / 64)) = found) :
    Does (.ddrPatrolScrub o fixed bad) s
      (if found then (((s.scrubPast o).foundBad o).ddrUe o).inc R.DM_UE_DROP []
        else if fixed then (s.scrubPast o).ddrCe o else s.scrubPast o) := by
  refine does_of_effect (fun _ => rfl) ?_
  subst hf
  exact onlyIf_of _ _ (by simp [hp, hb, hd, ho, hw])

theorem ddrPatrolScrub_passes (hg : s.ddr.bad.contains (o / 64) = false) :
    Does (.ddrPatrolScrub o fixed false) s (if fixed then (s.scrubPast o).ddrCe o else s.scrubPast o) :=
  does_ddrPatrolScrub hp hb hd ho hw (bad := false) (found := false) hg

end

theorem mem_addOnce {α : Type} [DecidableEq α] (x : α) (l : List α) : x ∈ addOnce x l := by
  unfold addOnce
  split
  next h => exact List.contains_iff_mem.mp h
  next => simp

/-- Noting an uncorrectable burst leaves the list of bad bursts. -/
theorem bad_ddrUe (s : State) (o : Nat) : (s.ddrUe o).ddr.bad = s.ddr.bad := by
  have hpage : ∀ (t : State) p, (t.pageDue p).ddr.bad = t.ddr.bad := fun t p => by unfold pageDue; split <;> rfl
  unfold ddrUe ueNoted
  extract_lets c t u p first
  have hu : u.ddr = s.ddr := by
    have ht : Changes [.regs, .ctrs, .ev, .flt] s t := by simp [t]
    have hu : Changes [.regs, .ctrs, .ev, .flt] s u := by unfold u; split <;> simp [ht]
    exact hu .ddr (by simp)
  split
  · rw [hpage, hu]
  · change u.ddr.bad = s.ddr.bad
    rw [hu]

theorem ddrChannel_lt (s : State) (o : Nat) : s.ddrChannel o < 8 := by
  have hc := channels_le s.variant
  exact (Nat.mod_lt _ (by omega)).trans_le (by omega)

/-- Noting an uncorrectable burst counts it for its channel and raises DM_EVT.UE; of the rest it changes the capture registers, the
counting blocks and the pages that are due alone. -/
theorem ddrUe_frame (s : State) (o : Nat) : (s.ddrUe o).ctrs = ((s.report { die := 12, unit := 10, cause := 2, d0 := o }).inc
      R.DM_UE [s.ddrChannel o]).ctrs ∧ getR (s.ddrUe o).regs s.variant F.DM_EVT_UE [] = 1 := by
  unfold ddrUe
  have hchan : (s.report { die := 12, unit := 10, cause := 2, d0 := o }).ddrChannel o = s.ddrChannel o := rfl
  generalize hr : s.report { die := 12, unit := 10, cause := 2, d0 := o } = r at hchan ⊢
  have hvar : r.variant = s.variant := by rw [← hr]; rfl
  rw [← hchan, ← hvar]
  unfold ueNoted
  extract_lets c t u p first
  have hpage : (u.pageDue p).ctrs = u.ctrs ∧ (u.pageDue p).regs = u.regs := by
    have h : Changes [.ddr] u (u.pageDue p) := by simp
    exact ⟨h .ctrs (by simp), h .regs (by simp)⟩
  have hctrs : u.ctrs = (r.inc R.DM_UE [c]).ctrs := by
    have h : Changes [.regs, .ev] (r.inc R.DM_UE [c]) u := by
      unfold u t
      split <;> simp
    exact h .ctrs (by simp)
  have htvt : getR t.regs r.variant F.DM_EVT_UE [] = 1 := by
    unfold t
    rw [getR_countKind _ _ _ _ _ _ _ _ (addr_ne_of_phase rfl rfl (by decide) [] [_]), regs_raise', inc_variant,
      getR_setR_self _ _ _ _ _ (by decide)]
    rfl
  have hevt : getR u.regs r.variant F.DM_EVT_UE [] = 1 := by
    unfold u
    split
    · exact htvt
    · rw [regs_set, getR_setR_reg _ _ _ _ _ _ _ _ (by decide), regs_set, getR_setR_reg _ _ _ _ _ _ _ _ (by decide), regs_wr,
        getR_wrR_reg _ _ _ _ _ _ _ _ (by decide)]
      exact htvt
  split
  · rw [hpage.1, hpage.2]
    exact ⟨hctrs, hevt⟩
  · exact ⟨hctrs, hevt⟩

/-- Only a channel's own count of uncorrectable bursts counts one. -/
theorem ctr_drop_ddrUe (s : State) (o : Nat) : (s.ddrUe o).ctr R.DM_UE_DROP [] = s.ctr R.DM_UE_DROP [] := by
  have hlt := ddrChannel_lt s o
  rw [ctr_congr (ddrUe_frame s o).1, ctr_inc_ne]
  · rfl
  · simp only [RegSpec.addr, R.DM_UE_DROP, R.DM_UE, List.zip_cons_cons, List.zip_nil_left, List.map_cons, List.map_nil, List.sum_cons,
      List.sum_nil]
    omega

theorem variant_scrubPast (s : State) (o : Nat) : (s.scrubPast o).variant = s.variant := by
  unfold scrubPast
  simp

theorem ddrPatrolScrub_finds {s : State} {o : Nat} {fixed : Bool} (hp : s.powered = true) (hb : s.mayBorrow 2 12 = true)
    (hd : s.scrubDue (o / 64) = true) (ho : o < s.ddrSize) (hw : s.ddrWaits o = false) :
    Completes (.ddrPatrolScrub o fixed true) s fun t => t.ddr.bad.contains (o / 64) = true
      ∧ t.ctr R.DM_UE_DROP [] = (s.ctr R.DM_UE_DROP [] + 1) % 2 ^ 64 ∧ t.get F.DM_EVT_UE [] = 1 := by
  refine completes_of_does (does_ddrPatrolScrub hp hb hd ho hw (bad := true) (found := true) rfl) ?_
  have hpast : Changes [.regs, .ev, .ddr] s (s.scrubPast o) := by simp
  rw [if_pos rfl]
  have hctr : ((s.scrubPast o).foundBad o).ctr R.DM_UE_DROP [] = s.ctr R.DM_UE_DROP [] := by
    rw [ctr_foundBad, ctr_congr (hpast .ctrs (by simp))]
  have hvar : ((s.scrubPast o).foundBad o).variant = s.variant := by
    rw [variant_foundBad, variant_scrubPast]
  refine ⟨?_, ?_, ?_⟩
  · rw [complete_ddr, inc_ddr, bad_ddrUe, bad_foundBad]
    exact List.contains_iff_mem.mpr (mem_addOnce ..)
  · rw [ctr_complete, ctr_inc_self, ctr_drop_ddrUe, hctr]
  · rw [get_complete, inc_regs, ← hvar]
    exact (ddrUe_frame _ o).2

theorem does_ddrUncorrectable {s : State} {o req a b c : Nat} (hp : s.powered = true) (ht : s.ddrTrained = true)
    (ho : o < s.ddrSize) : Does (.ddrUncorrectable o req a b c) s
      (({ s with ddr.bad := addOnce (o / 64) s.ddr.bad }.ddrUe o).ueOutcome o req a b c) := by
  refine does_of_effect (fun _ => rfl) ?_
  rw [onlyIf_of _ _ (by simp [hp, ht, ho])]

/-! ### Pages that are retired (R508) -/

theorem ddr_withdraw (h : Nat) (s : State) : (withdraw h s).ddr = s.ddr :=
  (show Changes [.regs, .ctrs, .ev, .pool] s (withdraw h s) by simp) .ddr (by simp)

/-- Withdrawing a buffer changes the registers of the buffer pools alone. -/
theorem getR_withdraw (h : Nat) (s : State) {v : Variant} {g : Fld} (hd : g.reg.dims = []) (hb : g.reg.base < R.SB_EVT.base) :
    getR (withdraw h s).regs v g [] = getR s.regs v g [] := by
  have hevt : g.reg.addr [] ≠ R.SB_EVT.addr [] := addr_ne_of_base_lt hd hb _ _
  have hfree : ∀ ix, g.reg.addr [] ≠ R.SB_POOL_FREE.addr ix := fun ix =>
    addr_ne_of_base_lt hd (hb.trans (by decide)) _ _
  have hpool : ∀ (t : State) n free down, getR (t.setPoolFree n free down).regs v g [] = getR t.regs v g [] := fun t n free down => by
    unfold setPoolFree
    dsimp only
    split
    · rw [regs_raise', getR_setR_reg _ _ _ _ _ _ _ _ hevt, regs_set, getR_setR_reg _ _ _ _ _ _ _ _ (hfree _)]
    · rw [regs_set, getR_setR_reg _ _ _ _ _ _ _ _ (hfree _)]
  unfold withdraw
  split
  · rfl
  · dsimp only
    split
    · rfl
    · rw [hpool]
      rfl

/-- Page `p` is moved to the spare page `k`, and `r` are the pages still due. -/
def pageMoved (s : State) (p k : Nat) (r : List Nat) : State :=
  { s with
    ddr.retire := r, ddr.remap := s.ddr.remap.put 0 p (k + 1), ddr.spares := k :: s.ddr.spares
    ddr.copying := s.ddr.copying ++ [p], ddr.ueAt := s.ddr.ueAt.erase p, ddr.ceAt := s.ddr.ceAt.erase p }

/-- A page retired is shown in the registers of device memory. -/
def showRetired (s : State) : State :=
  ((s.set F.DM_SPARE_FREE [] (s.get F.DM_SPARE_FREE [] - 1)).inc R.DM_RETIRED []).raise F.DM_EVT_RETIRED []

theorem ddr_showRetired (s : State) : s.showRetired.ddr = s.ddr := by
  unfold showRetired
  rw [raise_ddr, inc_ddr, set_ddr]

theorem ctr_showRetired (s : State) : s.showRetired.ctr R.DM_RETIRED [] = (s.ctr R.DM_RETIRED [] + 1) % 2 ^ 64 := by
  unfold showRetired
  rw [ctr_congr (raise_ctrs ..), ctr_inc_self, ctr_congr (set_ctrs ..)]

theorem getR_showRetired (s : State) : getR s.showRetired.regs s.variant F.DM_EVT_RETIRED [] = 1 := by
  unfold showRetired
  rw [regs_raise', inc_variant, set_variant, getR_setR_self _ _ _ _ _ (by decide)]
  rfl

section
variable {s : State} {p k : Nat} {r : List Nat} (hp : s.ddr.retire = p :: r)
include hp

theorem does_pageRetire (hk : ((List.range (s.get F.DM_SPARE_PAGES [])).find? fun k => !s.ddr.spares.contains k) = some k) :
    ∃ e, Does .pageRetire s ((s.pageMoved p k r).showRetired.journal e) := by
  refine ⟨(s.pageMoved p k r).showRetired.entryNow 2 12 10 2 9 (p * 4096) k, does_of_effect (fun _ => rfl) ?_⟩
  dsimp only
  rw [hp]
  dsimp only
  rw [get_withDdr, hk]
  rfl

theorem pageRetire_moves
    (hk : ((List.range (s.get F.DM_SPARE_PAGES [])).find? fun k => !s.ddr.spares.contains k) = some k) :
    Completes .pageRetire s fun t => t.ddr.retire = r ∧ t.ddr.remap.at 0 p = k + 1 ∧ t.ddr.spares = k :: s.ddr.spares
      ∧ t.ddr.copying = s.ddr.copying ++ [p] ∧ t.ctr R.DM_RETIRED [] = (s.ctr R.DM_RETIRED [] + 1) % 2 ^ 64
      ∧ t.get F.DM_EVT_RETIRED [] = 1 := by
  obtain ⟨e, hdoes⟩ := does_pageRetire hp hk
  have hremap : (s.pageMoved p k r).ddr.remap = s.ddr.remap.put 0 p (k + 1) := rfl
  refine completes_of_does hdoes ?_
  rw [complete_ddr, ctr_complete, get_complete, journal_ddr, ctr_congr (journal_ctrs ..), ddr_showRetired, ctr_showRetired,
    getR_journal _ _ _ _ _ (by decide), hremap, Map.at_put_self]
  exact ⟨rfl, rfl, rfl, rfl, rfl, getR_showRetired (s.pageMoved p k r)⟩

/-- What a page that finds no spare leaves before its buffers are withdrawn. -/
def pageSpareless (s : State) (p : Nat) (r : List Nat) : State :=
  { s with ddr.retire := r, ddr.spareless := p :: s.ddr.spareless }

theorem does_pageRetire_spareless
    (hk : ((List.range (s.get F.DM_SPARE_PAGES [])).find? fun k => !s.ddr.spares.contains k) = none) :
    ∃ l, Does .pageRetire s (forEach l withdraw ((s.pageSpareless p r).raise F.DM_EVT_SPARE_EMPTY [])) := by
  refine ⟨((s.pageSpareless p r).raise F.DM_EVT_SPARE_EMPTY []).buffersIn p, does_of_effect (fun _ => rfl) ?_⟩
  dsimp only
  rw [hp]
  dsimp only
  rw [get_withDdr, hk]
  rfl

theorem pageRetire_withdraws
    (hk : ((List.range (s.get F.DM_SPARE_PAGES [])).find? fun k => !s.ddr.spares.contains k) = none) :
    Completes .pageRetire s fun t => t.ddr.retire = r ∧ t.ddr.spareless = p :: s.ddr.spareless
      ∧ t.get F.DM_EVT_SPARE_EMPTY [] = 1 := by
  obtain ⟨l, hdoes⟩ := does_pageRetire_spareless hp hk
  refine completes_of_does hdoes ?_
  rw [complete_ddr, get_complete, forEach_keeps (·.ddr) withdraw ddr_withdraw,
    forEach_keeps (fun t => getR t.regs s.variant F.DM_EVT_SPARE_EMPTY []) withdraw fun h t => getR_withdraw h t (by decide) (by decide),
    raise_ddr, regs_raise']
  refine ⟨rfl, rfl, ?_⟩
  exact (getR_setR_self _ _ _ _ _ (by decide)).trans rfl

end

theorem does_retireCopyDone (s : State) :
    exec .retireCopyDone s = .next { s with ddr.copying := s.ddr.copying.tail } := rfl

end Sys2Proof.Machine.State
end

/-! PROOFS. Page requests, translations and invalidations (O40). A page request that times out ends the entries, threads and rings
that wait for it; none of that reaches TR_EVT.PRI_TIMEOUT, which is followed here through all of them.
-/

section
open Sys2Proof Sys2Proof.Machine Sys2Proof.Machine.State
namespace Sys2Proof.Machine.State

/-! ### Where TR_EVT.PRI_TIMEOUT stands -/

/-- The register lies at no index where TR_EVT does. -/
def apartFromTrEvt (r : RegSpec) : Bool :=
  match r.dims with
  | [] => r.base != R.TR_EVT.base
  | [d] => r.base % d.stride != R.TR_EVT.base % d.stride
  | _ => false

theorem addr_trEvt_ne {r : RegSpec} (h : apartFromTrEvt r = true) (ix : List Nat) : R.TR_EVT.addr [] ≠ r.addr ix := by
  intro he
  unfold apartFromTrEvt at h
  unfold RegSpec.addr at he
  split at h
  next hd => simp [R.TR_EVT, hd] at he h; exact h he.symm
  next d hd =>
    have hphase : r.base % d.stride ≠ R.TR_EVT.base % d.stride := by simpa using h
    cases ix with
    | nil => simp [R.TR_EVT, hd] at he hphase; exact hphase (congrArg (· % d.stride) he.symm)
    | cons x ix => exact hphase (by simpa [R.TR_EVT, hd] using (congrArg (· % d.stride) he).symm)
  next => cases h

/-- TR_EVT.PRI_TIMEOUT of a register file. -/
def timeoutBit (m : Map Word) : Nat := getR m .x F.TR_EVT_PRI_TIMEOUT []

theorem timeoutBit_eq (m : Map Word) (v : Variant) : getR m v F.TR_EVT_PRI_TIMEOUT [] = timeoutBit m := by cases v <;> rfl

section
variable (s : State)

@[simp] theorem timeoutBit_wr {r : RegSpec} (h : apartFromTrEvt r = true) (ix : List Nat) (n : Nat) :
    timeoutBit (s.wr r ix n).regs = timeoutBit s.regs := getR_wrR_reg _ _ _ _ _ _ _ _ (addr_trEvt_ne h ix)

@[simp] theorem timeoutBit_set {f : Fld} (h : apartFromTrEvt f.reg = true) (ix : List Nat) (n : Nat) :
    timeoutBit (s.set f ix n).regs = timeoutBit s.regs := getR_setR_reg _ _ _ _ _ _ _ _ (addr_trEvt_ne h ix)

@[simp] theorem timeoutBit_raise {f : Fld} (h : apartFromTrEvt f.reg = true) (ix : List Nat) :
    timeoutBit (s.raise f ix).regs = timeoutBit s.regs := by rw [regs_raise, timeoutBit_set s h]

/-- The other event of translation stands beside it. -/
@[simp] theorem timeoutBit_raise_xlate : timeoutBit (s.raise F.TR_EVT_XLATE []).regs = timeoutBit s.regs := by
  rw [regs_raise', ← timeoutBit_eq _ s.variant, ← timeoutBit_eq _ s.variant]
  exact getR_setR_field _ _ _ _ _ _ (by decide)

@[simp] theorem timeoutBit_countKind (b i k : Nat) (who : Option Nat) :
    timeoutBit (s.countKind b i k who).regs = timeoutBit s.regs :=
  getR_countKind _ _ _ _ _ _ _ _ (addr_ne_of_phase rfl rfl (by decide) [] [_])

theorem timeoutBit_raise_self : timeoutBit (s.raise F.TR_EVT_PRI_TIMEOUT []).regs = 1 := by
  rw [regs_raise', ← timeoutBit_eq _ s.variant, getR_setR_self _ _ _ _ _ (by decide)]
  rfl

/-! ### Rings -/

@[simp] theorem timeoutBit_showPark (w : Who) : timeoutBit (s.showPark w).regs = timeoutBit s.regs := by
  unfold showPark
  split <;> simp (disch := decide)

@[simp] theorem timeoutBit_showIdle (q : Nat) : timeoutBit (s.showIdle q).regs = timeoutBit s.regs := by
  unfold showIdle
  dsimp only
  split <;> simp (disch := decide)

@[simp] theorem regs_emit (q idx ent cq status r0 r1 : Nat) : (s.emit q idx ent cq status r0 r1).regs = s.regs :=
  (show Changes [.rc] s (s.emit q idx ent cq status r0 r1) by simp) .regs (by simp)

@[simp] theorem regs_tallyDrop (x cat : Nat) (m : Meta) : (s.tallyDrop x cat m).regs = s.regs :=
  (show Changes [.tally] s (s.tallyDrop x cat m) by simp) .regs (by simp)

@[simp] theorem regs_hostPut (fn pas : Nat) (l : List (Nat × Nat)) (bs : List Byte) : (hostPut fn pas l bs s).regs = s.regs :=
  (show Changes [.host] s (hostPut fn pas l bs s) by simp) .regs (by simp)

@[simp] theorem timeoutBit_finishJob (j : Job) (status r0 r1 : Nat) :
    timeoutBit (s.finishJob j status r0 r1).regs = timeoutBit s.regs := by
  simp [finishJob, dropWaits]

@[simp] theorem timeoutBit_closeBuf (q status hi r1 : Nat) :
    timeoutBit (s.closeBuf q status hi r1).regs = timeoutBit s.regs := by
  unfold closeBuf
  split <;> simp

@[simp] theorem timeoutBit_rxLost (q : Nat) (r : RxRec) : timeoutBit (s.rxLost q r).regs = timeoutBit s.regs := by
  unfold rxLost
  split
  · rfl
  · dsimp only
    split <;> split <;> simp (disch := decide)

@[simp] theorem timeoutBit_askTlb (w : Wait) : timeoutBit (s.askTlb w).regs = timeoutBit s.regs := by
  unfold askTlb
  dsimp only
  split <;> simp

@[simp] theorem timeoutBit_sendPrq (w : Wait) : timeoutBit (s.sendPrq w).regs = timeoutBit s.regs := by
  unfold sendPrq
  split
  · rfl
  · split <;> simp

@[simp] theorem timeoutBit_pageFault (w : Wait) : timeoutBit (s.pageFault w).2.regs = timeoutBit s.regs := by
  unfold pageFault
  split <;> simp

end

@[simp] theorem timeoutBit_reach (fn pas : Nat) (write : Bool) (f va n : Nat) (s : State) :
    timeoutBit (reach fn pas write f va n s).2.2.regs = timeoutBit s.regs := by
  induction f generalizing va n s with
  | zero => rfl
  | succ f ih =>
    unfold reach
    split
    · rfl
    · split
      · rfl
      · dsimp only
        split_ifs <;> simp [ih]

@[simp] theorem timeoutBit_dmaSpan (who : Who) (fn pas : Nat) (write ur : Bool) (va n : Nat) (s : State) :
    timeoutBit (dmaSpan who fn pas write ur va n s).2.2.regs = timeoutBit s.regs := by
  unfold dmaSpan
  split
  · split <;> simp
  · dsimp only
    split <;> simp

@[simp] theorem timeoutBit_dmaPieces (who : Who) (fn pas : Nat) (write ur : Bool) (l : List (Nat × Nat)) (s : State) :
    timeoutBit (dmaPieces who fn pas write ur l s).2.2.regs = timeoutBit s.regs := by
  induction l generalizing s with
  | nil => rfl
  | cons x r ih =>
    unfold dmaPieces
    dsimp only
    split <;> simp [ih]

section
variable (s : State)

@[simp] theorem timeoutBit_dmaPut (who : Who) (fn pas : Nat) (l : List (Nat × Nat)) (o : Nat) (bs : List Byte) :
    timeoutBit (s.dmaPut who fn pas l o bs).2.2.regs = timeoutBit s.regs := by
  simp [dmaPut]

@[simp] theorem timeoutBit_tallyWrote (trailer : Bool) : timeoutBit (s.tallyWrote trailer).regs = timeoutBit s.regs := by
  unfold tallyWrote
  dsimp only
  split <;> simp (disch := decide)

@[simp] theorem timeoutBit_ite {c : Prop} [Decidable c] (a b : State) :
    timeoutBit (if c then a else b).regs = if c then timeoutBit a.regs else timeoutBit b.regs := by split <;> rfl

@[simp] theorem timeoutBit_rxRun (q f : Nat) : timeoutBit (rxRun q f s).regs = timeoutBit s.regs := by
  induction f generalizing s with
  | zero => rfl
  | succ f ih =>
    unfold rxRun
    split
    · rfl
    · simp [ih]
    · split
      · rfl
      · dsimp only
        split
        · simp [ih]
        · split
          · simp [ih]
          · split <;> simp [ih]

@[simp] theorem timeoutBit_entryFail (q i : Nat) : timeoutBit (s.entryFail q i).regs = timeoutBit s.regs := by
  unfold entryFail failXlate
  split
  · simp (disch := decide)
  · rfl

@[simp] theorem timeoutBit_rxFail (q : Nat) : timeoutBit (s.rxFail q).regs = timeoutBit s.regs := by
  unfold rxFail rxGo
  split <;> simp

@[simp] theorem timeoutBit_erFail (r : Nat) : timeoutBit (s.erFail r).regs = timeoutBit s.regs := by
  unfold erFail erLost
  split
  · simp (disch := decide)
  · rfl

/-! ### Threads -/

@[simp] theorem timeoutBit_settleThread (e t : Nat) : timeoutBit (settleThread e s t).regs = timeoutBit s.regs := by
  unfold settleThread clearStep
  dsimp only
  split_ifs <;> simp (disch := decide) [setThr]

@[simp] theorem timeoutBit_showWaiting (e : Nat) : timeoutBit (s.showWaiting e).regs = timeoutBit s.regs := by
  unfold showWaiting
  dsimp only
  split_ifs <;> simp (disch := decide) [setEng]

@[simp] theorem timeoutBit_settle (e : Nat) : timeoutBit (s.settle e).regs = timeoutBit s.regs := by
  have hthreads : timeoutBit ((List.range 8).foldl (settleThread e) s).regs = timeoutBit s.regs := by
    generalize List.range 8 = l
    induction l generalizing s with
    | nil => rfl
    | cons t l ih => rw [List.foldl_cons, ih, timeoutBit_settleThread]
  unfold settle
  dsimp only
  rw [timeoutBit_showWaiting, ← hthreads]
  split
  · rfl
  · split
    · simp [setEng]
    · rfl

@[simp] theorem timeoutBit_atEnd (e t : Nat) (whole : Bool) : timeoutBit (s.atEnd e t whole).regs = timeoutBit s.regs := by
  unfold atEnd clearStep
  dsimp only
  split_ifs <;> simp (disch := decide) [setThr]

@[simp] theorem timeoutBit_threadFault (e t cause ea : Nat) :
    timeoutBit (s.threadFault e t cause ea).regs = timeoutBit s.regs := by
  unfold threadFault
  dsimp only [setThr]
  rw [timeoutBit_atEnd]
  split_ifs <;> simp (disch := decide)

/-! ### What waits for a translation -/

@[simp] theorem timeoutBit_endXlate (w : Wait) : timeoutBit (s.endXlate w).regs = timeoutBit s.regs := by
  unfold endXlate
  split
  case h_7 => split <;> simp [dmaEnd, setThr]
  all_goals simp

@[simp] theorem timeoutBit_waitXlate (w : Wait) : timeoutBit (s.waitXlate w).regs = timeoutBit s.regs := by
  unfold waitXlate
  dsimp only
  split <;> simp

end

@[simp] theorem timeoutBit_priRefill (l : List Wait) (s : State) : timeoutBit (priRefill l s).regs = timeoutBit s.regs := by
  induction l generalizing s with
  | nil => rfl
  | cons w l ih =>
    unfold priRefill
    dsimp only
    split_ifs <;> simp [ih]

/-! ### Page requests (R514) -/

theorem timeoutBit_priTimeout {s : State} {g : Nat} {r : PageReq} (h : (s.xl.prq.find? fun r => r.grp == g) = some r) :
    timeoutBit (s.priTimeout g).regs = 1 := by
  unfold priTimeout takePrq
  rw [h]
  dsimp only [Option.map_some]
  rw [timeoutBit_priRefill, forEach_keeps (fun t => timeoutBit t.regs) _ fun w u => timeoutBit_waitXlate u w,
    timeoutBit_raise_self]

theorem priTimeout_shows {s : State} {g : Nat} {r : PageReq} (h : (s.xl.prq.find? fun r => r.grp == g) = some r)
    (hp : s.powered = true) (ht : s.get F.TR_PRI_TMO_MS [] * 1000000 ≤ s.since r.at_) :
    Completes (.priTimeout g) s fun t => t.get F.TR_EVT_PRI_TIMEOUT [] = 1 := by
  refine completes_effect (fun _ => rfl) ?_
  rw [h]
  dsimp only
  rw [onlyIf_of _ _ (by simp [hp, ht]), get_complete, timeoutBit_eq, timeoutBit_priTimeout h]

theorem does_pageResponse {s : State} {g code : Nat} (hp : s.powered = true) :
    Does (.pageResponse g code) s (s.pageResponse g code) := by
  refine does_of_effect (fun _ => rfl) ?_
  rw [onlyIf_of _ _ hp]

/-! ### Translations and invalidations (R512, R513) -/

theorem does_translationDone {s : State} {k first n fn pas page : Nat} {r w : Bool} (hp : s.powered = true)
    (hh : s.rcHalted = false) (hk : s.askedPages[k]? = some (fn, pas, page)) (h1 : first ≤ page) (h2 : page < first + n) :
    Does (.translationDone k first n r w) s (forEach
      (s.xl.asked.filter fun x => x.fn == fn && x.pas == pas && x.va / 4096 == page) (State.translated r w)
      ({ s with
          xl.asked := s.xl.asked.filter fun x => !(x.fn == fn && x.pas == pas && x.va / 4096 == page) }.tlbFill fn pas page first n
        r w)) := by
  refine does_of_effect (fun _ => rfl) ?_
  rw [onlyIf_of _ _ (by rw [hp, hh]; rfl)]
  unfold translationDone
  rw [hk]
  exact if_neg (by omega)

theorem atsInvalidate_drops {s : State} (fn pas first n : Nat) (hp : s.powered = true) :
    exec (.atsInvalidate fn pas first n) s = .next { s with
      xl.tlb := s.xl.tlb.filter (fun e =>
        !(e.fn == fn && e.pas == pas && decide (e.base < first + n) && decide (first < e.base + e.pages))),
      xl.invals := s.xl.invals + 1 } := by
  have hdoes : Does (.atsInvalidate fn pas first n) s { s with
      xl.tlb := s.xl.tlb.filter (fun e =>
        !(e.fn == fn && e.pas == pas && decide (e.base < first + n) && decide (first < e.base + e.pages))),
      xl.invals := s.xl.invals + 1 } := by
    refine does_of_effect (fun _ => rfl) ?_
    rw [onlyIf_of _ _ hp]
  exact hdoes

theorem invalidateComplete_counts {s : State} (hp : s.powered = true) (hi : 0 < s.xl.invals) :
    Completes .invalidateComplete s fun t => t.xl.invals = s.xl.invals - 1
      ∧ t.ctr R.TR_INVAL [] = (s.ctr R.TR_INVAL [] + 1) % 2 ^ 64 ∧ t = { s with xl.invals := t.xl.invals, ctrs := t.ctrs } := by
  refine completes_effect (fun _ => rfl) ?_
  rw [onlyIf_of _ _ (by simp [hp, hi])]
  refine ⟨rfl, ?_, rfl⟩
  rw [ctr_complete, ctr_inc_self]
  rfl

theorem does_priEnableToggle {s : State} {fn alloc : Nat} (hp : s.powered = true) (hf : fn ≤ s.rc.vfs) :
    Does (.priEnableToggle fn alloc) s (State.priRefill s.xl.priWait { s with
      xl.blocked := setBit s.xl.blocked fn false, xl.alloc := s.xl.alloc.put 256 fn alloc }) := by
  refine does_of_effect (fun _ => rfl) ?_
  rw [onlyIf_of _ _ (by simp [hp, hf])]

end Sys2Proof.Machine.State

/-- Settles O40: device memory by what the claims, the capture registers and the journal leave of it, translation by what the entries,
threads and rings that wait for it leave of TR_EVT. -/
theorem memoryAndTranslationComplete : Obligations.MemoryAndTranslationComplete :=
  ⟨fun _ _ _ => State.retrainDue_falls, fun _ _ => State.retrainDone_ends, fun _ _ => State.retrainDone_fails,
    fun _ _ _ => State.ddrPatrolScrub_passes, fun _ _ _ => State.ddrPatrolScrub_finds, fun _ _ _ _ _ _ => State.does_ddrUncorrectable,
    fun _ _ _ _ => State.pageRetire_moves, fun _ _ _ => State.pageRetire_withdraws, State.does_retireCopyDone,
    fun _ _ _ hp _ => State.does_pageResponse hp, fun _ _ _ => State.priTimeout_shows,
    fun _ _ _ _ _ _ _ _ _ => State.does_translationDone, fun _ fn pas first n => State.atsInvalidate_drops fn pas first n,
    fun _ => State.invalidateComplete_counts, fun _ _ _ => State.does_priEnableToggle⟩

end
